-- ==== Sys2Proof/Word.lean ====
section
/-! DEFINITION. The word types of the model: 32-bit words (02 R66, 00 R12), bytes, and the sparse tables every keyed part
of the state is held in. -/
namespace Sys2Proof

/-- A register word, a bead word's data bits. -/
abbrev Word := BitVec 32

/-- A byte of memory. -/
abbrev Byte := BitVec 8

/-- A sparse table: pairs of a key and a value, keys strictly rising (see `Rising` in Machine/Maps.lean). -/
abbrev SMap (α : Type) := List (Nat × α)

end Sys2Proof
end

