-- ==== Sys2Proof/Machine/Types.lean ====
section
/-! DEFINITION. The types of the commands' operands. -/
namespace Sys2Proof.Machine

/-- The engines that take descriptor rings (01 R35), and URT, whose jobs its own chapter describes (04 R179). -/
inductive Engine where
  | spool | hallmark | dedup | pleat | cipher | quilt | mapper | pattern | stitch | urt
  deriving DecidableEq, Repr

/-- What the check of 05 R193 finds wrong with a line as it is read, beside what the line itself holds. -/
inductive Upset where
  /-- nothing in error -/
  | clean
  /-- one symbol in error, in the check field only -/
  | checkSym
  /-- one symbol in error elsewhere -/
  | oneSym
  /-- two or more symbols in error -/
  | twoSym
  /-- the integrity tag fails -/
  | badTag
  deriving DecidableEq, Repr

/-- What the other port of a flash module has had executed there (11 R435, R465 to R468). -/
inductive PeerOp where
  /-- W_CAS: slot, expected epoch and holder, new epoch and holder -/
  | cas (slot ee eh ne nh : Nat)
  | setEpoch (role epoch : Nat)
  /-- a write that has moved a block's write pointer: die, block, the pointer after -/
  | pointer (die block ptr : Nat)
  deriving DecidableEq, Repr

/-- What a flash module answers to a command, where its own state does not decide it (11 R446): the status the flash gives,
the die's temperature, codewords failing hard decode, most bit errors, data for addr and addr2, and what the other port has had
executed before this command. -/
structure ModAns where
  mstatus : Nat := 0
  temp : Nat := 0x80
  failed : Nat := 0
  maxBits : Nat := 0
  data : List Byte := []
  data2 : List Byte := []
  peer : List PeerOp := []
  deriving DecidableEq, Repr

/-- A RoCEv2 packet as far as 04 R156 to R159 tell of it; PSNs count modulo 2^24. -/
inductive RocePkt where
  | send (psn : Nat) (first last : Bool) (imm : Option Nat) (data : List Byte)
  | write (psn : Nat) (first last : Bool) (imm : Option Nat) (raddr rkey len : Nat) (data : List Byte)
  | readReq (psn raddr rkey len : Nat)
  | readResp (psn : Nat) (last : Bool) (data : List Byte)
  | ack (psn : Nat)
  /-- NAK: PSN sequence error -/
  | nakSeq (psn : Nat)
  | nakInvalid (psn : Nat)
  /-- receiver not ready -/
  | rnr (psn : Nat)
  /-- Communication Management: a request, its acceptance, its rejection -/
  | cmReq (psn mtu : Nat)
  | cmRep (psn mtu : Nat)
  | cmRej
  | cnp
  deriving DecidableEq, Repr

/-- A chunk as the read strand got it: its verdict under 01 R44, R45 and 08 R335 (0 verified, 1 stored data was damaged and rebuilt,
2 the stored crc was damaged, 3 lost) and its original bytes. -/
structure Got where
  chunk : Nat
  verdict : Nat
  data : List Byte
  deriving DecidableEq, Repr

end Sys2Proof.Machine
end

