-- ==== Sys2Proof/Machine/Parts.lean ====
section
/-! DEFINITION. The parts of the state: one structure per block, its fields at their reset values. -/
namespace Sys2Proof.Machine

/-- Calendar time (01 R55 to R57) and the joining step and slew of GTS (01 R50, 14 R573). -/
structure Calendar where
  seconds : Nat := 0
  ns : Nat := 0
  unsync : Bool := true
  deriving DecidableEq, Repr

/-- Pins (18): straps and inputs as the board drives them, outputs as the head drives them. -/
structure Pins where
  /-- HEAD_SEL: false is head A (13 R508) -/
  headSel : Bool := false
  /-- RECOVERY_N, high when no recovery is asked for (16 R635) -/
  recoveryN : Bool := true
  /-- HEAD_YIELD_N: none is high-impedance (18 R689) -/
  headYieldN : Option Bool := none
  peerYieldN : Bool := true
  pwrFailN : Bool := true
  wakeN : Bool := true
  /-- THERMTRIP_N, open-drain: false once tripped (18 R682) -/
  thermtripN : Bool := true
  sysRstN : Bool := true
  /-- MOD_PWREN and MOD_PERST_N (11 R471) -/
  modPwren : Nat := 0
  modPerstN : Nat := 0
  modPrsntN : Nat := 0xFFFFFFFF
  modAlertN : Nat := 0xFFFFFFFF
  /-- PWR_EN[7:0] and the power-good of each domain (15 R591) -/
  pwrEn : Nat := 1
  pwrGood : Nat := 0
  gpioIn : Nat := 0
  /-- GiB of DDR5 fitted on each channel (05 R216) -/
  ddrGiB : List Nat := [128, 128, 128, 128, 128, 128, 128, 128]
  deriving DecidableEq, Repr

/-- What the head sends outside, newest first: the model's own record (log 5). -/
inductive Out where
  /-- a read of memory or of a register answered -/
  | readData (master addr : Nat) (data : List Byte) (fault : Bool)
  /-- a completion to a host: controller, queue, command identifier, submission queue head, status code type and code, result -/
  | hostCpl (ctrl qid cid sqhd sct sc : Nat) (result : List Byte)
  /-- a URT or RoCEv2 packet on an Ethernet port (flow or queue pair number, bytes) -/
  | packet (flow : Nat) (bytes : List Byte)
  /-- a message to the partner on a Seam flow -/
  | seam (flow : Nat) (kind : Nat) (fields : List Nat)
  /-- a command to a flash module -/
  | module (n opcode : Nat) (fields : List Nat)
  /-- a read of the partner's registers, or a write -/
  | remote (id master addr : Nat) (write : Bool) (value : Word)
  /-- a wake-bus answer: acknowledged or not -/
  | bus (ack : Bool)
  /-- a URT job's completion: its tag, status and counts -/
  | jobDone (tag status counts : Nat)
  /-- a replication message on a URT flow: its 16-byte header and its body (10 R420) -/
  | repl (flow : Nat) (bytes : List Byte)
  /-- a RoCEv2 packet of a queue pair -/
  | roce (qp : Nat) (p : RocePkt)
  deriving DecidableEq, Repr

/-- Refusals of one page in the present 1 ms window (17 R648). -/
structure LockWin where
  count : Nat := 0
  off : Nat := 0
  master : Nat := 0
  cause : Nat := 0
  gts : Nat := 0
  deriving DecidableEq, Repr

/-- A Locket record (14 R560); `valid` is 0xA5 in every record held. -/
structure LkRec where
  seq : Nat
  gts : Nat
  cal : Nat
  calNs : Nat
  unsync : Bool
  head : Bool
  source : Nat
  code : Nat
  payload : List Byte
  deriving DecidableEq, Repr

/-- Locket (14 R560 to R572). -/
structure Locket where
  /-- records held in SRAM, oldest first -/
  recs : List LkRec := []
  next : Nat := 0
  /-- the present start is a cold start (14 R565) -/
  cold : Bool := true
  /-- the base has been applied, or need not be: spill and ring copying may run -/
  based : Bool := false
  /-- seq of the first record not yet spilled -/
  spilled : Nat := 0
  /-- the Locket area of the vault, oldest first -/
  vault : List LkRec := []
  /-- drops not yet reported by a record (14 R564) -/
  dropPend : Nat := 0
  /-- first and last seq overwritten before they were spilled (14 R567) -/
  gap : Option (Nat × Nat) := none
  /-- records kept in MP SRAM before the page is released (16 R614), oldest first; seq is not yet given -/
  boot : List LkRec := []
  bootDropped : Nat := 0
  chal : Nat := 0
  /-- GTS of the last refused clear -/
  refusedAt : Option Nat := none
  deriving DecidableEq, Repr

/-- The side band of a line (05 R188): the poison mark, the owner, the page generation, and which integrity-tag key its
tag was made under. -/
structure LineMeta where
  poison : Bool := false
  owner : Nat := 0xFFF
  gen : Nat := 0
  key : Nat := 0
  deriving DecidableEq, Repr

/-- A Spool page's entry of the page-state table (05 R199); retirement is that of its pseudo-channel (05 R205). -/
structure SpoolPage where
  owner : Nat := 0
  last : Nat := 0
  gen : Nat := 0
  zero : Bool := false
  written : Nat := 0
  deriving DecidableEq, Repr

/-- The system cache, beside its registers (05 R212 to R214): corrected errors per slice and way in the 24-hour window. -/
structure Memory where
  /-- bytes of DDR5, HBM and MP SRAM that differ from 0, addresses rising -/
  cells : List Host.Cell := []
  /-- side bands that differ from the unlisted line's -/
  lines : SMap LineMeta := []
  /-- which integrity-tag key is in force (05 R190) -/
  key : Nat := 0
  /-- the key under which each controller initialised its lines: 0, 1 HBM stacks, 2 to 9 DDR5 channels -/
  initKey : SMap Nat := []
  /-- channels the interleave was built over at the last cold start (05 R219); empty: every usable one -/
  ddrLost : Nat := 0
  pages : SMap SpoolPage := []
  firstAlloc : Bool := false
  /-- GTS of the uncorrectable errors of the last hour: pseudo-channels 0 to 63, DDR5 channels 64 to 71 -/
  uncorr : SMap (List Nat) := []
  wayErrs : SMap Nat := []
  deriving DecidableEq, Repr

/-- How an engine job ended: status, detail bits and counts (01 R29). -/
structure JobRes where
  status : Nat
  detail : Nat := 0
  counts : Nat := 0
  deriving DecidableEq, Repr

/-- A job fetched and not completed (01 R27, R31). -/
structure Job where
  engine : Engine
  inst : Nat
  ring : Nat
  cring : Nat
  tag : Nat
  owner : Nat
  opcode : Nat
  irq : Bool
  fence : Bool
  desc : List Byte
  res : Option JobRes := none
  deriving DecidableEq, Repr

/-- A completion record held for a full ring (01 R33). -/
structure Held where
  engine : Engine
  inst : Nat
  cring : Nat
  tag : Nat
  source : Nat
  irq : Bool
  res : JobRes
  deriving DecidableEq, Repr

/-- The engines' common state: jobs by number, held records oldest first, and the ring each engine page served last. -/
structure Engines where
  jobs : SMap Job := []
  held : List Held := []
  /-- ring served last, by page (01 R31) -/
  lastServed : SMap Nat := []
  deriving DecidableEq, Repr

/-- A register access to the partner not yet answered (17 R656). -/
structure RemoteRead where
  master : Nat
  addr : Nat
  write : Bool
  deriving DecidableEq, Repr

/-- A power domain (15 R595): 0 OFF, 1 QUEUED, 2 RAMP, 3 RELEASE, 4 ON, 5 QUIESCE, 6 CLAMP, 7 DISCHARGE. -/
structure Domain where
  st : Nat := 0
  /-- the latched request: on or off (15 R596) -/
  latch : Option Bool := none
  failed : Bool := false
  retention : Bool := false
  rampUs : Nat := 0
  deriving DecidableEq, Repr

/-- A brownout under way (15 R597): monitors below warning, when it began, the lowest sample and its monitor. -/
structure Brownout where
  below : Nat := 0
  since : Nat := 0
  mon : Nat := 0
  lowest : Nat := 0
  deriving DecidableEq, Repr

/-- A journal record (13 R527) with its data. -/
structure JRec where
  jseq : Nat
  kind : Nat
  ns : Nat := 0
  domain : Nat := 0
  count : Nat := 0
  loc : Nat := 0
  keyHi : Nat := 0
  keyLen : Nat := 0
  admGts : Nat := 0
  epoch : Nat := 0
  data : List Byte := []
  /-- grains of it that the Mapper has recorded, and whether all of it is -/
  done : List Nat := []
  recorded : Bool := false
  deriving DecidableEq, Repr

/-- A change of one reference count (06 R263): domain, journal sequence number, index within the stream, chunk, +1 or -1. -/
structure Delta where
  dom : Nat
  seq : Nat
  idx : Nat
  chunk : Nat
  up : Bool
  deriving DecidableEq, Repr

/-- A power-fail dump (15 R601 to R605). It outlives a reset and a loss of power. -/
structure Dump where
  dumping : Bool := false
  committed : Bool := false
  superseded : Bool := false
  started : Nat := 0
  bytes : Nat := 0
  firstJ : Nat := 0
  lastJ : Nat := 0
  /-- what it carries: journal records with their data, dirty maps, unspilled Locket records, deltas not yet committed -/
  journal : List JRec := []
  dirty : SMap Nat := []
  recs : List LkRec := []
  deltas : List Delta := []
  deriving DecidableEq, Repr

/-- Power (15). Head state, dump and monitor readings are in the PWRSEQ registers, Thimble's state in the THIMBLE registers. -/
structure Power where
  /-- VDD_AON is in tolerance -/
  aon : Bool := false
  doms : SMap Domain := []
  /-- standby entry: 0 not under way, 1 domains powering down, 2 committed, 3 rails removed -/
  standby : Nat := 0
  brown : Option Brownout := none
  /-- when PWR_FAIL_N last changed, and whether the present low has been declared a power failure -/
  dump : Dump := {}
  /-- strands to load and start again on leaving P3 (15 R579): number, owner, image -/
  p3Strands : List (Nat × Nat × List Byte) := []
  /-- Selvedge: held pads and their held levels, by group (15 R588) -/
  held : List Nat := [0, 0, 0, 0]
  level : List Nat := [0, 0, 0, 0]
  /-- events of a P4 stay, written after the wake (15 R611) -/
  wakeCauses : Nat := 0
  /-- a wake of P1 to P3 is due: an interrupt or a Clasp wake to the MP (15 R581) -/
  wakePend : Bool := false
  /-- CAL_SECONDS at the commit of standby entry -/
  p4Start : Nat := 0
  deriving DecidableEq, Repr

/-- A copy of boot control (16 R617). -/
structure BootCtl where
  valid : Bool := false
  seq : Nat := 0
  active : Nat := 0
  trial : Nat := 0xFF
  attempts : Nat := 0
  deriving DecidableEq, Repr

/-- A firmware slot of the NOR (16 R616): its stage-1 and package bytes, and what STAGE found. -/
structure Slot where
  stage1 : List Byte := []
  package : List Byte := []
  verified : Bool := false
  staged : Bool := false
  deriving DecidableEq, Repr

/-- A SHA-256 digest entry of the OTP (16 R620). -/
structure OtpEntry where
  digest : List Byte := []
  valid : Bool := false
  revoked : Bool := false
  deriving DecidableEq, Repr

/-- A record of the firmware settings area (16 R634). -/
structure Settings where
  format : Nat
  data : List Byte := []
  deriving DecidableEq, Repr

/-- Boot (16). The NOR, the OTP and the settings outlive every reset. -/
structure Boot where
  /-- reset has been released -/
  up : Bool := false
  /-- pages released (16 R613), bit p for page p -/
  ready : Nat := 0
  upSince : Nat := 0
  ctl : List BootCtl := [{ valid := true, seq := 1 }, {}]
  slots : List Slot := [{}, {}]
  otp : List OtpEntry := List.replicate 16 {}
  /-- the unary svn floor of the OTP, 0 to 64 -/
  svnFloor : Nat := 0
  loader : Settings := { format := 1 }
  firmware : List Settings := []
  /-- slots this boot has tried and found bad -/
  tried : List Nat := []
  /-- the running stage-1's OTP entry and svn -/
  runEntry : Nat := 0
  runSvn : Nat := 0
  /-- recovery mode is entered at the next reset release by BOOT_CMD.RECOVER (16 R635) -/
  recoverNext : Bool := false
  /-- no control copy verified: the loader that boots writes both afresh (16 R618) -/
  rewrite : Bool := false
  /-- why recovery mode was entered: 0 both slots failed, 1 RECOVERY_N, 2 the command (16 R635) -/
  recCause : Nat := 0
  deriving DecidableEq, Repr

/-- A word register or vector lane: 32 data bits and the poison bit (02 R66). -/
structure PW where
  v : Word := 0
  p : Bool := false
  deriving DecidableEq, Repr

/-- A local-memory word: data and tag nibble (02, Local memory): [3] poison, [2] written, [1:0] parity. -/
structure LW where
  d : Word := 0
  tag : Nat := 0
  deriving DecidableEq, Repr

/-- A bead timer (02 R75, R76). While it runs it holds the GTS at which it expires. -/
structure Timer where
  running : Bool := false
  deadline : Nat := 0
  /-- count loaded, in ticks of 10 ns -/
  count : Nat := 0
  periodic : Bool := false
  overrun : Nat := 0
  /-- remaining ticks while the bead is in retention (15 R578) -/
  kept : Option Nat := none
  deriving DecidableEq, Repr

/-- A bead edge detector (02 R77). Mode 1 rising, 2 falling, 3 both, 0 disarmed. -/
structure Edge where
  line : Nat := 0
  mode : Nat := 0
  last : Bool := false
  overrun : Nat := 0
  deriving DecidableEq, Repr

/-- What a running bead waits for. -/
inductive Wait where
  | none
  | rcv (q vd ws : Nat)
  | qwait (mask wd : Nat)
  /-- a stalled snd: logical target, queue, words, since when, and whether the 1 ms record has been written (02 R74) -/
  | snd (target q : Nat) (words : List PW) (since : Nat) (told : Bool)
  | jsub (ring : Nat) (desc : List Byte)
  | fnc
  deriving DecidableEq, Repr

/-- A bead (02). Sparse tables: word registers by number, vector lanes by 8 × register + lane, local memory by word address,
queues 0 to 6 by number; unlisted entries are 0, unpoisoned, empty. -/
structure Bead where
  w : SMap PW := []
  vec : SMap PW := []
  mem : SMap LW := []
  queues : SMap (List (List PW)) := []
  /-- queue 7: event words, oldest first -/
  events : List Word := []
  timers : SMap Timer := []
  edges : SMap Edge := []
  pc : Nat := 0
  /-- 0 halted, 1 running, 2 parked, 3 faulted (02 R105) -/
  run : Nat := 0
  wait : Wait := .none
  /-- fld operations whose data has not returned: destination and address -/
  flds : List (Nat × Nat) := []
  /-- fst and jsub operations not yet accepted -/
  stores : Nat := 0
  strand : Option Nat := none
  logical : Nat := 0
  codeLen : Nat := 0
  /-- timer_decl, edge_decl and edge_cfg of the bead's descriptor (02 R90) -/
  timerDecl : Nat := 0
  edgeDecl : Nat := 0
  edgeCfg : List Byte := [0, 0, 0, 0]
  deriving DecidableEq, Repr

/-- A ring binding of a strand (02 R89): the engine page and the descriptor ring. -/
structure Binding where
  page : Nat
  ring : Nat
  deriving DecidableEq, Repr

/-- A strand (02): state 0 EMPTY, 1 LOADED, 2 RUNNING, 3 DRAINING, 4 EXCHANGING, 5 FAULTED. -/
structure Strand where
  st : Nat := 0
  intakeClosed : Bool := true
  /-- physical bead of each logical bead -/
  beads : List Nat := []
  owner : Nat := 0
  epoch : Nat := 0
  family : Nat := 0
  version : Nat := 0
  rings : List (Option Binding) := []
  /-- the image loaded, for the restart of 15 R579 -/
  image : List Byte := []
  /-- the image a LOAD or EXCHANGE in progress has read -/
  next : List Byte := []
  /-- timers carried, cancelled; edges carried, re-armed by the last exchange -/
  counts : List Nat := [0, 0, 0, 0]
  deriving DecidableEq, Repr

/-- Beads and strands by number. -/
structure Beads where
  beads : SMap Bead := []
  strands : SMap Strand := []
  deriving DecidableEq, Repr

/-- The arbitration of one controller (03 R123, R124): what is left of the present turn. -/
structure Arb where
  /-- class of the present turn: 1 High, 2 Medium, 3 Low; a round begins with High -/
  cls : Nat := 3
  /-- commands the class may still admit in this round -/
  left : Nat := 0
  /-- queue served last, by class (0 Urgent; with round robin every queue is of class 0) -/
  turn : SMap Nat := []
  /-- commands the present queue may still admit in this turn: of the weighted classes, and of class 0 -/
  burst : Nat := 0
  burst0 : Nat := 0
  deriving DecidableEq, Repr

/-- An NVMe controller (03). -/
structure Ctrl where
  discovery : Bool := false
  host : Nat := 0
  enabled : Bool := false
  ready : Bool := false
  cfs : Bool := false
  wrr : Bool := false
  /-- Arbitration feature: burst exponent and the 0's-based Low, Medium and High weights (03 R119) -/
  ab : Nat := 0
  low : Nat := 0
  medium : Nat := 0
  high : Nat := 0
  ps : Nat := 0
  /-- Keep Alive timeout in ms, and when the timer was last restarted -/
  kato : Nat := 0
  kaSince : Nat := 0
  anaNotice : Bool := false
  /-- Queue Attributes set for the next connection, by qid: qclass + 4 × compat (03 R120) -/
  attrs : SMap Nat := []
  arb : Arb := {}
  deriving DecidableEq, Repr

/-- A command capsule: the 64-byte submission entry and in-capsule data. -/
structure Capsule where
  sqe : List Byte
  data : List Byte := []
  deriving DecidableEq, Repr

/-- A submission queue (03 R113): class 0 Urgent, 1 High, 2 Medium, 3 Low. -/
structure Queue where
  size : Nat := 0
  cls : Nat := 2
  compat : Bool := false
  /-- the transport connection that carries it -/
  conn : Nat := 0
  staged : List Capsule := []
  sqhd : Nat := 0
  deriving DecidableEq, Repr

/-- A host command in execution (03 R114). Phase 0 admitted, 1 waiting for the mirror acknowledgement or for the engines,
2 done and owed a completion. -/
structure Cmd where
  ctrl : Nat
  qid : Nat
  sqe : List Byte
  data : List Byte := []
  compat : Bool := false
  phase : Nat := 0
  /-- its journal sequence number, once assigned -/
  jseq : Option Nat := none
  /-- from the partner over the Seam (03 R139), under the partner's number -/
  fwd : Bool := false
  fid : Nat := 0
  /-- it has been sent to the partner, and waits for its answer -/
  away : Bool := false
  /-- a Disconnect of its queue: it ends after every other command of the queue (03 R136) -/
  last : Bool := false
  sct : Nat := 0
  sc : Nat := 0
  result : List Byte := []
  admGts : Nat := 0
  deriving DecidableEq, Repr

/-- A namespace's reservation (03 R107): registrants with their keys, the holder and the type. -/
structure Resv where
  regs : List (Nat × Nat) := []
  holder : Option Nat := none
  rtype : Nat := 0
  gen : Nat := 0
  deriving DecidableEq, Repr

/-- HOSTQ (03). Controllers by ID; queues by 256 × controller + qid; commands by number. -/
structure Hostq where
  ctrls : SMap Ctrl := []
  queues : SMap Queue := []
  cmds : SMap Cmd := []
  nextCmd : Nat := 0
  /-- controller served last and what is left of its burst (03 R125) -/
  turn : Nat := 0
  burst : Nat := 0
  /-- when each backpressure began: in-flight, dirty -/
  bpSince : List Nat := [0, 0]
  /-- the next journal sequence number (03 R126) -/
  jseq : Nat := 1
  resv : SMap Resv := []
  deriving DecidableEq, Repr

/-- A Seam link beside its registers (13 R512 to R519). -/
structure Link where
  /-- fseq of the last frame delivered -/
  lastSeq : Option Nat := none
  /-- offset resumption: bytes of the packet stream are discarded until a frame's first (13 R515) -/
  resync : Bool := false
  /-- frames delivered since the RX counter last fell, and the partner's count for TX -/
  rx1024 : Nat := 0
  tx1024 : Nat := 0
  /-- frames lost and delivered since the last heartbeat sent -/
  lost : Nat := 0
  good : Nat := 0
  /-- tx_gts of the last heartbeat delivered, and when -/
  echo : Nat := 0
  echoAt : Nat := 0
  /-- fseq of the next frame sent -/
  txSeq : Nat := 0
  deriving DecidableEq, Repr

/-- HEADPAIR beside its registers (13). -/
structure Pair where
  links : List Link := [{}, {}]
  /-- the last 16 offsets, newest first (13 R522) -/
  offsets : List Int := []
  lastHb : Option Nat := none
  /-- heard_age of the last heartbeat, and tx_gts of the last whose link counts have been taken (13 R517, R520) -/
  heard : Nat := 0
  counted : Nat := 0
  peerState : Nat := 0
  peerPortsUp : Bool := false
  /-- own records retained for the partner, rising (13 R526, R530) -/
  journal : List JRec := []
  /-- partner's records held, rising (13 R528, R529) -/
  shadow : List JRec := []
  /-- every partner record at or below it is no longer needed (13 R528, R530) -/
  base : Nat := 0
  /-- arbitration: rounds run, trigger (0 YIELD, 1 pin, 2 silence, 3 none) -/
  arbRounds : Nat := 0
  trigger : Nat := 3
  takeSince : Nat := 0
  /-- roles fenced whose SET_EPOCH is outstanding, by module -/
  fencing : List Nat := []
  joinSince : Nat := 0
  shipped : Nat := 0
  /-- CATCHUP_DONE has been sent or has arrived -/
  inStep : Bool := false
  /-- partner epoch whose records are never acknowledged again (13 R533) -/
  barred : Option Nat := none
  /-- the array's membership record: serials of its modules (11 R477) -/
  members : List Nat := []
  /-- a yield has disabled the Ethernet ports (13 R539) -/
  portsOff : Bool := false
  /-- reference time of each service-core cluster's last report (17 R658) -/
  reports : List Nat := [0, 0, 0, 0, 0, 0]
  deriving DecidableEq, Repr

/-- A manifest (06 R249 to R251): entries of fingerprint, chunk and length in commit order, and when its first came. -/
structure Man where
  entries : List (List Byte × Nat × Nat) := []
  since : Nat := 0
  deriving DecidableEq, Repr

/-- A LOOKUP job that waits for a COMMIT (06 R257): the entry it stands at, its champions, its counts so far. -/
structure Look where
  at' : Nat := 0
  champs : List Nat := []
  hits : Nat := 0
  misses : Nat := 0
  loaded : Nat := 0
  waits : Nat := 0
  deriving DecidableEq, Repr

/-- The dedup engine beside its registers and the hook table, which lies in DDR5 (06 R246 to R267). -/
structure Dedup where
  /-- deltas not yet committed, oldest first -/
  deltas : List Delta := []
  /-- committed deltas (06 R263, R266): domain, sequence number, index, up -/
  log : List (Nat × Nat × Nat × Bool) := []
  /-- fingerprints missed and not yet committed, with their domains -/
  pending : List (Nat × List Byte) := []
  /-- sealed manifests by ID, open ones by domain, the next serial of each domain, and the manifest cache, newest use first -/
  mans : SMap Man := []
  opens : SMap Man := []
  nextMan : SMap Nat := []
  cache : List Nat := []
  looks : SMap Look := []
  deriving DecidableEq, Repr

/-- A forward-map entry (09 R367): 0 UNMAPPED, 1 CHUNK, 2 ZERO, 3 RUN, 4 GRAINS. -/
structure MEntry where
  kind : Nat := 0
  target : Nat := 0
  seq : Nat := 0
  deriving DecidableEq, Repr

/-- The content of a map page (09, The forward map, R372, R373). -/
inductive MBody where
  | dir (kids : SMap Nat)
  | run (slots : SMap MEntry)
  /-- the groups in use, for slots of run page `run` of the namespace -/
  | grain (run : Nat) (groups : SMap (SMap MEntry))
  /-- chunk page: the records lie in the table of chunk records -/
  | chunks (page : Nat)
  /-- the value record of a key -/
  | value (key : Nat)
  deriving DecidableEq, Repr

/-- A map page: whose it is, its content, and the lowest sequence number of a change not yet written to flash (09 R380, R381). -/
structure MPage where
  ns : Nat := 0
  body : MBody
  dirty : Option Nat := none
  /-- neither flash nor Quilt gives it back (09 R379) -/
  lost : Bool := false
  deriving DecidableEq, Repr

/-- An MPT entry (09, Map pages and the map cache). -/
structure MptE where
  hi : Nat := 0
  bolt : Nat := 0
  stripe : Nat := 0
  slot : Nat := 0
  crc : Nat := 0
  deriving DecidableEq, Repr

/-- A chunk record (09 R373): state 0 NEW, 1 LIVE, 2 DEAD, 3 RECLAIMED; `place` is bytes 8 to 11. -/
structure Chunk where
  bolt : Nat := 0
  stripe : Nat := 0
  place : Nat := 0
  refs : Nat := 0
  fpLo : Nat := 0
  origLen : Nat := 0
  st : Nat := 0
  hasFp : Bool := false
  lost : Bool := false
  raw : Bool := false
  /-- GTS of its CHUNK_NEW (09 R374) -/
  since : Nat := 0
  deriving DecidableEq, Repr

/-- A value record (09 R372), and the map page that holds it. -/
structure Value where
  len : Nat := 0
  seq : Nat := 0
  chunks : List Nat := []
  page : Nat := 0
  deriving DecidableEq, Repr

/-- An entry of a snapshot's dead list (10 R412, R413). -/
inductive Dead where
  | chunk (id seq : Nat)
  | page (n : Nat)
  deriving DecidableEq, Repr

/-- A snapshot of a namespace (10 R408 to R417). -/
structure Snap where
  epoch : Nat
  point : Nat
  floor : Nat := 0
  /-- the frozen map; `frozen` is false until the applied horizon has passed the point -/
  frozen : Bool := false
  top : Option Nat := none
  levels : Nat := 1
  values : SMap Value := []
  dead : List Dead := []
  deleting : Bool := false
  released : Nat := 0
  moved : Nat := 0
  /-- the namespace that exposes it to hosts -/
  attached : Option Nat := none
  /-- when it was asked for -/
  since : Nat := 0
  deriving DecidableEq, Repr

/-- A namespace or key space (03 R108, R138, 06 R247, 09 R366, R372): its ANA group, dedup domain, size in 4 KiB blocks,
protection type and metadata, its tree, its snapshots oldest first. -/
structure Ns where
  group : Nat := 1
  domain : Nat := 0
  kv : Bool := false
  blocks : Nat := 0
  /-- end-to-end protection type, 0 none; 8 bytes of metadata -/
  pi : Nat := 0
  meta8 : Bool := false
  levels : Nat := 1
  top : Option Nat := none
  values : SMap Value := []
  nextEpoch : Nat := 1
  snaps : List Snap := []
  /-- an attached snapshot: its source and epoch (10 R417) -/
  snapOf : Option (Nat × Nat) := none
  deriving DecidableEq, Repr

/-- A member of a bolt (09 R376). -/
structure Member where
  module : Nat := 0
  die : Nat := 0
  block : Nat := 0
  temp : Nat := 0
  subst : Bool := false
  retired : Bool := false
  /-- it has been programmed, and `temp` stamped -/
  stamped : Bool := false
  deriving DecidableEq, Repr

/-- A bolt record (09 R376, R377): state 0 FREE, 1 OPEN, 2 CLOSED, 3 GC, 4 ERASING. -/
structure Bolt where
  layout : Nat := 0
  st : Nat := 1
  stream : Nat := 0
  failed : Bool := false
  frozen : Bool := false
  progFail : Bool := false
  opener : Nat := 0
  minute : Nat := 0
  valid : Nat := 0
  stripes : Nat := 0
  family : Nat := 0
  unsync : Nat := 0
  /-- minutes from `minute` to the first program of each region -/
  regions : SMap Nat := []
  members : List Member := []
  /-- members whose erase has not completed; members with a failed program (09 R392) -/
  erasing : List Nat := []
  bad : List Nat := []
  deriving DecidableEq, Repr

/-- An update that waits in the ordering table (09 R363). -/
structure Waiting where
  job : Nat
  ns : Nat
  grain : Nat
  entry : MEntry
  idx : Nat
  deriving DecidableEq, Repr

/-- A RECORD, DEALLOC or ZERO job under way: entries done and already applied, cache misses. -/
structure RecJob where
  done : Nat := 0
  already : Nat := 0
  misses : Nat := 0
  status : Nat := 0
  deriving DecidableEq, Repr

/-- An entry of a log map (09 R386). -/
structure LogE where
  grain : Nat
  seq : Nat
  stripe : Nat
  place : Nat
  chunk : Nat
  deriving DecidableEq, Repr

/-- The Mapper (09 R360 to R400). -/
structure Mapper where
  nss : SMap Ns := []
  pages : SMap MPage := []
  mpt : SMap MptE := []
  /-- map pages in the cache, last used first -/
  lru : List Nat := []
  round : Nat := 0
  lastIdx : Option Nat := none
  chunks : SMap Chunk := []
  /-- the map page of each chunk page of each domain: by chunk ID ÷ 128 -/
  chunkPages : SMap Nat := []
  bolts : SMap Bolt := []
  nextBolt : Nat := 1
  order : List Waiting := []
  recs : SMap RecJob := []
  /-- an MPT entry has changed since the last checkpoint; the checkpoint's MAPPER_SEQ_PERSIST and read counters (09 R382) -/
  changed : List Nat := []
  ckpt : Nat := 0
  ckptReads : SMap Nat := []
  /-- family threshold tables (09 R397) -/
  thr : SMap (List Byte) := []
  /-- reads of each member block (09 R398) -/
  reads : SMap Nat := []
  /-- priority GC (09 R389): class 1 to 4, bolt, stripe or none for the whole bolt -/
  gc : List (Nat × Nat × Option Nat) := []
  /-- log bolts of each namespace, newest first, with their log maps (09 R386) -/
  logs : SMap (List (Nat × List LogE)) := []
  /-- chunks of values under way, by sequence number and place in the value (09 R372) -/
  parts : SMap (SMap Nat) := []
  deriving DecidableEq, Repr

/-- What a checkpoint of the partner gives a head that takes over (09 R383). -/
structure Loaded where
  nss : SMap Ns := []
  pages : SMap MPage := []
  chunkPages : SMap Nat := []
  chunks : SMap Chunk := []
  bolts : SMap Bolt := []
  deriving DecidableEq, Repr

/-- Pattern beside its registers (12 R489, R490): blocks not free (1 in a bolt, 2 retired) and erase counts, by
(module × 256 + die) × 2^19 + block, and dies retired. -/
structure Pattern where
  used : SMap Nat := []
  erases : SMap Nat := []
  deadDies : List Nat := []
  /-- weights of host, GC and rebuild in the shares of die time, each a numerator over one denominator (12 R498) -/
  weights : List Nat := [100, 0, 0]
  weightDen : Nat := 1
  deriving DecidableEq, Repr

/-- A rebuild of a failed module (08 R341 to R346): when it began, stripes it had to rebuild, bolts emptied instead. -/
structure Rebuild where
  since : Nat := 0
  stripes : Nat := 0
  emptied : Nat := 0
  deriving DecidableEq, Repr

/-- Quilt beside its registers (08): dirty maps of this head's open bolts and the mirror of the partner's, DIRTY_SET jobs that
wait for the partner, frozen stripes and bolts, stripes never used for reconstruction, regions that await resynchronisation. -/
structure Quilt where
  dirty : SMap Nat := []
  mirror : SMap Nat := []
  acks : SMap (Nat × Nat) := []
  frozen : List (Nat × Nat) := []
  frozenBolts : List Nat := []
  unprot : List (Nat × Nat) := []
  resync : SMap Nat := []
  resyncSince : Nat := 0
  settled : Nat := 0
  unsettled : Nat := 0
  rebuilds : SMap Rebuild := []
  /-- reshape: kind, target layout, modules added since the last rebalance, when it began, bolts emptied -/
  kind : Nat := 0
  layout : Nat := 0
  added : List Nat := []
  since : Nat := 0
  emptied : Nat := 0
  /-- the checkpoint in the vault (08 R350): kind, target layout, boundary, target -/
  vault : Option (Nat × Nat × Nat × Nat) := none
  deriving DecidableEq, Repr

/-- A replication session (10 R418 to R428): which end it is, its base and new epochs, and what is under way. -/
structure Sess where
  /-- this array holds the replica -/
  target : Bool := false
  base : Option Nat := none
  epoch : Nat := 0
  full : Bool := false
  /-- source: OPEN has been answered; the next grain to compare; grains sent since the last CKPT; bytes sent -/
  opened : Bool := false
  pos : Nat := 0
  sent : Nat := 0
  wire : Nat := 0
  /-- fingerprints of grains under way: at the source those of the last batch, at the target those it needs (10 R421, R422) -/
  fps : SMap (List Byte) := []
  deriving DecidableEq, Repr

/-- SNAPREP beside its registers: sessions by pair; cursors in the vault (10 R424). -/
structure Repl where
  sess : SMap Sess := []
  vault : SMap Nat := []
  deriving DecidableEq, Repr

/-- Clasp beside its registers: partner messages that wait for a full inbox, by channel: sender and words (14 R552, R554). -/
structure Clasp where
  waiting : SMap (Nat × List Nat) := []
  deriving DecidableEq, Repr

/-- A Cipher key slot (07 R299, R300): empty where `key` is none. Usage bits: [0] gcm, [1] xts, [2] ctr, [3] hmac, [4] kek. -/
structure KeySlot where
  key : Option (List Byte) := none
  usage : Nat := 0
  exportable : Bool := false
  deriving DecidableEq, Repr

/-- An AES engine's nonce blocks (07 R305 to R307): the current block with its next counter, and the pending one. -/
structure NonceEng where
  cur : Option (Nat × Nat) := none
  pend : Option Nat := none
  /-- a refusal has been recorded since the engine was last fed -/
  starved : Bool := false
  deriving DecidableEq, Repr

/-- Cipher beside its registers (07). Slots and engines by number. -/
structure Cipher where
  slots : SMap KeySlot := []
  engines : SMap NonceEng := []
  /-- a nonce floor has been written (07 R306) -/
  floored : Bool := false
  deriving DecidableEq, Repr

/-- What a Hallmark context reads a stream from (06 R233): the producer's block code, its stream ID, and the BIND job. -/
structure HBind where
  producer : Nat
  stream : Nat
  job : Nat
  deriving DecidableEq, Repr

/-- A Hallmark context (06): the digest in progress as the bytes it has taken in, and the chunk list. -/
structure HCtx where
  alg : Nat := 0
  /-- HMAC key read at INIT (06 R231, 07 R301) -/
  key : Option (List Byte) := none
  sealed : Bool := false
  /-- 0 whole, 1 grain, 2 gear -/
  mode : Nat := 0
  unit : Nat := 0
  /-- the whole message in whole mode; the current chunk's bytes in the others -/
  msg : List Byte := []
  /-- bytes taken in, and the offset at which the current chunk starts -/
  total : Nat := 0
  start : Nat := 0
  gear : Nat := 0
  phase : Nat := 0
  /-- the chunk list: address, capacity, entries written, and under whom it is written -/
  list : Nat := 0
  cap : Nat := 0
  entries : Nat := 0
  full : Bool := false
  owner : Nat := 0
  master : Nat := 0
  /-- the current chunk has touched a poisoned beat; some chunk has -/
  poison : Bool := false
  anyPoison : Bool := false
  finished : Bool := false
  bound : Option HBind := none
  /-- beats that have landed ahead of a missing one: stream offset, Spool address, length, poisoned (06 R234) -/
  ahead : List (Nat × Nat × Nat × Bool) := []
  catchups : Nat := 0
  /-- bytes and entries at the start of the job that runs -/
  jobStart : Nat := 0
  jobEntries : Nat := 0
  deriving DecidableEq, Repr

/-- Hallmark beside its registers: contexts in use, expected values of the seal units (06 R232, R240). -/
structure Hallmark where
  ctxs : SMap HCtx := []
  seals : SMap (List Byte) := []
  deriving DecidableEq, Repr

/-- A Pleat context left in use (07 R276, R277, R286, R289): the first job's opcode, flags and format; what is still to be
written and the job's end once it is; and the chain of jobs so far. -/
structure PleatCtx where
  op : Nat
  flags : Nat
  fmt : Nat
  zparams : Nat := 0
  /-- output known and not yet written -/
  pending : List Byte := []
  /-- status the job ends with when nothing is pending, and the check values it reports -/
  final : Nat := 0
  check : Nat := 0
  stored : Nat := 0
  /-- a job that ended with OUT_FULL has left it, and may be resumed -/
  stopped : Bool := false
  /-- input and output of the chain's jobs, in order -/
  chainIn : List Byte := []
  chainOut : List Byte := []
  /-- where earlier output of the chain lies: areas and bytes (07 R290) -/
  history : List (Nat × List Byte) := []
  /-- bytes consumed and produced by the job that left it -/
  consumed : Nat := 0
  produced : Nat := 0
  deriving DecidableEq, Repr

/-- A flash module as this head's port sees it (11). What both ports share: witness slots, role epochs, and those blocks' write
pointers that are known, by die × 2^19 + block. -/
structure Module where
  slots : List (Nat × Nat) := [(0, 0), (0, 0), (0, 0), (0, 0)]
  roles : List Nat := [0, 0, 0, 0]
  wptr : SMap Nat := []
  /-- BAR0 registers that differ from 0, by offset (11 R439) -/
  slm : SMap Word := []
  /-- I/O queue pairs created (11 R440), and the next entry of each submission queue -/
  qps : List Nat := []
  tails : SMap Nat := []
  serial : List Byte := List.replicate 16 0
  /-- family and blocks of each die (11 R445, IDENTIFY) -/
  dies : List (Nat × Nat) := []
  /-- code profiles in force, by family (11 R452, R453) -/
  profiles : SMap (List Byte) := []
  /-- the host's copy of each die's defect map (11 R457), and corrections seen: die, position, plane, GTS of each -/
  defects : SMap (List Nat) := []
  fixes : List (Nat × Nat × Nat × Nat) := []
  /-- the last TELEMETRY: each die's temperature -/
  temps : List Nat := []
  detaching : Bool := false
  /-- a queue whose DELETE_QP is outstanding (11 R471) -/
  deleting : Option Nat := none
  /-- it has been FAILED since it was last a member's module (11 R477) -/
  failedOnce : Bool := false
  deriving DecidableEq, Repr

/-- A command outstanding at a module (11 R444), of a job or of the Stitchline host itself. -/
structure ModCmd where
  job : Option Nat := none
  module : Nat
  queue : Nat
  entry : Nat
  opcode : Nat
  role : Nat := 0
  epoch : Nat := 0
  /-- bytes 16 to 63 of the command -/
  args : List Byte := []
  list : Bool := false
  owner : Nat := 0xFFF
  /-- codewords whose hard decode failed and that the deep decoder has not ended with, and those it gave up on -/
  soft : List Nat := []
  lost : Nat := 0
  softReads : Nat := 0
  maxBits : Nat := 0
  /-- the worst status of the module's own accesses to head memory so far (01 R65, 05 R193) -/
  access : Nat := 0
  deriving DecidableEq, Repr

/-- The Stitchline host beside its registers: modules and outstanding commands by number. -/
structure Stitch where
  mods : SMap Module := []
  cmds : SMap ModCmd := []
  /-- GTS of each module's last TELEMETRY -/
  tempAt : SMap Nat := []
  /-- when the present hold began (11 R462) -/
  holdSince : Nat := 0
  deriving DecidableEq, Repr

/-- A fraction in lowest terms: congestion control's values are exact (04 R176). -/
structure Frac where
  num : Nat := 0
  den : Nat := 1
  deriving DecidableEq, Repr

/-- A URT packet's content, at its sender or held at its receiver (04 R162). -/
structure UPkt where
  psn : Nat := 0
  ty : Nat
  msg : Nat := 0
  first : Bool := true
  last : Bool := true
  ackReq : Bool := false
  urgent : Bool := false
  ext : List Byte := []
  data : List Byte := []
  deriving DecidableEq, Repr

/-- A packet sent and not yet passed by cum_psn (04 R174, R175): which transmission it was last sent as, how often resent,
and whether a sack bit has shown it received. -/
structure USent where
  pkt : UPkt
  txNo : Nat := 0
  resends : Nat := 0
  got : Bool := false
  deriving DecidableEq, Repr

/-- A message outstanding at its sender: the job, its bytes, packets resent; for a READ what has arrived. -/
structure UMsg where
  job : Nat
  len : Nat := 0
  retx : Nat := 0
  read : Bool := false
  got : List Byte := []
  deriving DecidableEq, Repr

/-- A URT flow (04): 0 closed, 1 connecting, 2 open, 3 error. -/
structure UFlow where
  st : Nat := 0
  peer : Nat := 0
  epoch : Nat := 0
  payload : Nat := 4096
  enc : Bool := false
  slot : Nat := 0
  eq : Nat := 0
  /-- owner its OPEN job names; none while only the other end has opened it -/
  owner : Option Nat := none
  /-- the OPEN job, until the flow is open -/
  job : Option Nat := none
  /-- sender: next PSN, highest PSN acknowledged with all before it, transmissions -/
  txNext : Nat := 0
  txCum : Nat := 0
  txNo : Nat := 0
  sent : List USent := []
  queue : List UPkt := []
  msgs : SMap UMsg := []
  nextMsg : Nat := 0
  cwnd : Frac := {}
  srtt : Frac := {}
  lastDec : Option Nat := none
  /-- receiver: PSN expected, packets after it, messages under way and messages complete that wait for a buffer -/
  rxNext : Nat := 0
  held : SMap UPkt := []
  asm : SMap (List Byte × List Byte) := []
  ready : List (List Byte) := []
  recvs : List Nat := []
  rxCount : Nat := 0
  echo : Nat := 0
  deriving DecidableEq, Repr

/-- A RoCEv2 queue pair (04 R156 to R159): 0 in reset, 1 connecting, 2 ready, 3 error. -/
structure Qp where
  st : Nat := 0
  peer : Nat := 0
  mtu : Nat := 4096
  eq : Nat := 0
  owner : Option Nat := none
  job : Option Nat := none
  /-- requester: next PSN; packets sent and not acknowledged, each with its job and whether it is its job's last -/
  sq : Nat := 0
  sent : List (RocePkt × Nat × Bool) := []
  /-- the READs outstanding: first PSN, length, job, bytes arrived -/
  reads : List (Nat × Nat × Nat × List Byte) := []
  /-- responder: PSN expected, the message under way: its data and for a WRITE its address, receive buffers posted -/
  rq : Nat := 0
  asm : List Byte := []
  waddr : Nat := 0
  recvs : List Nat := []
  nakSent : Bool := false
  /-- sending rate, in 1/65536 of the port's -/
  rate : Nat := 65536
  deriving DecidableEq, Repr

/-- URT beside its registers (04). Flows by index, Seam flows from 65,536; queue pairs by number. -/
structure Urt where
  flows : SMap UFlow := []
  qps : SMap Qp := []
  /-- DEVICE_FATAL (04 R182) -/
  fatal : Bool := false
  /-- phase bit of each event queue, false while it is 1 -/
  phases : SMap Bool := []
  deriving DecidableEq, Repr

end Sys2Proof.Machine
end

