-- ==== Sys2Proof/Syntax.lean ====
section
/-! DEFINITION. The commands of the block, one constructor for each row of the command table, in its order. Each names the row
and its rule; what it does is its meaning, `Sys2Proof.Machine.exec<Constructor>`. -/
namespace Sys2Proof

open Sys2Proof.Machine

/-- A command to the block: an access to one of its registers, an operation of a bus or a protocol, an event on a pin, the end of
a time. Operands are what the command carries from outside, and the answers of what lies outside (log 5, log 6). -/
inductive Instr where
  /-- REGISTER_WRITE (R648) -/
  | registerWrite (master addr len value : Nat)
  /-- LOCK_REPORT_WINDOW_END (R648) -/
  | lockReportWindowEnd (page : Nat) (access : Bool)
  /-- PAGE_LOCK_WRITE (R647) -/
  | pageLockWrite (master page value : Nat)
  /-- IRQ_FORCE_WRITE (R651) -/
  | irqForceWrite (master page value : Nat)
  /-- PAGE_SNAP (R646) -/
  | pageSnap (master page value : Nat)
  /-- GTS_SNAP_LO_READ (R642) -/
  | gtsSnapLoRead (master page : Nat)
  /-- REMOTE_ACCESS (R655) -/
  | remoteAccess (master page off : Nat) (write : Bool) (value : Nat)
  /-- REMOTE_ACCESS_TIMEOUT (R656) -/
  | remoteAccessTimeout (id : Nat)
  /-- MEMORY_READ (R193) -/
  | memoryRead (master owner addr n : Nat) (u : Upset) (way : Option Nat) (hit : Bool)
  /-- PARTIAL_WRITE (R195) -/
  | partialWrite (master owner addr : Nat) (data : List Byte) (u : Upset) (hit : Bool)
  /-- FULL_LINE_WRITE (R196) -/
  | fullLineWrite (master owner addr : Nat) (data : List Byte) (hit : Bool)
  /-- RING_PI_WRITE (R697) -/
  | ringPiWrite (e : Engine) (inst master value : Nat)
  /-- DESCRIPTOR_FETCH (R31) -/
  | descriptorFetch (e : Engine) (inst : Nat)
  /-- JOB_COMPLETE (R33) -/
  | jobComplete (job : Nat)
  /-- HELD_RECORD_WRITE (R33) -/
  | heldRecordWrite (e : Engine) (inst cring : Nat)
  /-- CRING_HEAD_WRITE (R36) -/
  | cringHeadWrite (e : Engine) (inst master value : Nat)
  /-- RING_ENABLE_SET (R697) -/
  | ringEnableSet (e : Engine) (inst master value : Nat)
  /-- RING_ENABLE_CLEAR (R697) -/
  | ringEnableClear (e : Engine) (inst master value : Nat)
  /-- CRING_ENABLE_SET (R36) -/
  | cringEnableSet (e : Engine) (inst master value : Nat)
  /-- CRING_ENABLE_CLEAR (R33) -/
  | cringEnableClear (e : Engine) (inst master value : Nat)
  /-- CRING_IRQ_CLEAR (R694) -/
  | cringIrqClear (e : Engine) (inst : Nat) (hi : Bool) (master value : Nat)
  /-- ENGINE_ENABLE_SET (R696) -/
  | engineEnableSet (e : Engine) (inst master value : Nat)
  /-- ENGINE_ENABLE_CLEAR (R696) -/
  | engineEnableClear (e : Engine) (inst master value : Nat)
  /-- CAL_SECOND_ROLLOVER (R55) -/
  | calSecondRollover
  /-- ADD (R81) -/
  | add (bead : Nat)
  /-- SUB (R81) -/
  | sub (bead : Nat)
  /-- AND (R81) -/
  | and (bead : Nat)
  /-- OR (R81) -/
  | or (bead : Nat)
  /-- XOR (R81) -/
  | xor (bead : Nat)
  /-- SHL (R81) -/
  | shl (bead : Nat)
  /-- SHR (R81) -/
  | shr (bead : Nat)
  /-- SRA (R81) -/
  | sra (bead : Nat)
  /-- SLT (R81) -/
  | slt (bead : Nat)
  /-- SLTU (R81) -/
  | sltu (bead : Nat)
  /-- ADDI (R81) -/
  | addi (bead : Nat)
  /-- ANDI (R81) -/
  | andi (bead : Nat)
  /-- LUI (R81) -/
  | lui (bead : Nat)
  /-- MUL (R81) -/
  | mul (bead : Nat)
  /-- MULHU (R81) -/
  | mulhu (bead : Nat)
  /-- DIVU (R81) -/
  | divu (bead : Nat)
  /-- POPC (R81) -/
  | popc (bead : Nat)
  /-- CLZ (R81) -/
  | clz (bead : Nat)
  /-- CRCW (R81) -/
  | crcw (bead : Nat)
  /-- LDW (R68) -/
  | ldw (bead : Nat) (flip : Word)
  /-- STW (R69) -/
  | stw (bead : Nat)
  /-- LDT (R81) -/
  | ldt (bead : Nat)
  /-- BEQ (R81) -/
  | beq (bead : Nat)
  /-- BNE (R81) -/
  | bne (bead : Nat)
  /-- BLT (R81) -/
  | blt (bead : Nat)
  /-- BLTU (R81) -/
  | bltu (bead : Nat)
  /-- JAL (R81) -/
  | jal (bead : Nat)
  /-- JR (R81) -/
  | jr (bead : Nat)
  /-- SND (R73) -/
  | snd (bead : Nat)
  /-- SND_UNSTALL (R73) -/
  | sndUnstall (bead : Nat)
  /-- SEND_STALL_TIMEOUT (R74) -/
  | sendStallTimeout (bead : Nat)
  /-- RCV (R81) -/
  | rcv (bead : Nat)
  /-- RCV_WAKE (R81) -/
  | rcvWake (bead : Nat)
  /-- QWAIT (R81) -/
  | qwait (bead : Nat)
  /-- QWAIT_WAKE (R81) -/
  | qwaitWake (bead : Nat)
  /-- QCNT (R81) -/
  | qcnt (bead : Nat)
  /-- TSET (R81) -/
  | tset (bead : Nat)
  /-- TSTOP (R81) -/
  | tstop (bead : Nat)
  /-- TRD (R81) -/
  | trd (bead : Nat)
  /-- EARM (R77) -/
  | earm (bead : Nat)
  /-- ERD (R81) -/
  | erd (bead : Nat)
  /-- FLD (R83) -/
  | fld (bead : Nat)
  /-- FLD_DATA_RETURN (R83) -/
  | fldDataReturn (bead : Nat) (u : Upset) (ext : List Byte)
  /-- FST (R83) -/
  | fst (bead : Nat)
  /-- JSUB (R82) -/
  | jsub (bead : Nat)
  /-- JSUB_UNSTALL (R82) -/
  | jsubUnstall (bead : Nat)
  /-- FNC (R81) -/
  | fnc (bead : Nat)
  /-- FNC_ACCEPT (R81) -/
  | fncAccept (bead : Nat)
  /-- VADD (R81) -/
  | vadd (bead : Nat)
  /-- VXOR (R81) -/
  | vxor (bead : Nat)
  /-- VAND (R81) -/
  | vand (bead : Nat)
  /-- VBC (R81) -/
  | vbc (bead : Nat)
  /-- VEXT (R81) -/
  | vext (bead : Nat)
  /-- VINS (R81) -/
  | vins (bead : Nat)
  /-- VSHUF (R81) -/
  | vshuf (bead : Nat)
  /-- GFMAC (R81) -/
  | gfmac (bead : Nat)
  /-- EBND (R98) -/
  | ebnd (bead : Nat)
  /-- HALT (R81) -/
  | halt (bead : Nat)
  /-- UNDEFINED_OPCODE (R84) -/
  | undefinedOpcode (bead : Nat)
  /-- TIMER_EXPIRY (R76) -/
  | timerExpiry (bead slot : Nat)
  /-- EDGE_EVENT (R77) -/
  | edgeEvent (cluster line : Nat) (level : Bool)
  /-- STRAND_LOAD (R92) -/
  | strandLoad (master value : Nat) (busy : List Nat)
  /-- STRAND_LOAD_DONE (R92) -/
  | strandLoadDone
  /-- STRAND_START (R92) -/
  | strandStart (master value : Nat)
  /-- STRAND_EXCHANGE (R94) -/
  | strandExchange (master value : Nat)
  /-- EXCHANGE_VERIFIED (R96) -/
  | exchangeVerified
  /-- DRAIN_COMPLETE (R97) -/
  | drainComplete
  /-- DRAIN_LIMIT_EXPIRY (R92) -/
  | drainLimitExpiry
  /-- EXCHANGE_LOAD_COMPLETE (R92) -/
  | exchangeLoadComplete
  /-- STRAND_ABORT (R92) -/
  | strandAbort (master value : Nat)
  /-- CAPSULE_RECEIVE (R118) -/
  | capsuleReceive (ctrl qid : Nat) (sqe data : List Byte)
  /-- COMMAND_ADMIT (R113) -/
  | commandAdmit
  /-- HOST_COMPLETION_SEND (R114) -/
  | hostCompletionSend (id : Nat) (back : Option (Nat × Nat × List Byte))
  /-- NVM_READ (R44) -/
  | nvmRead (id : Nat) (got : List Got)
  /-- NVM_WRITE (R38) -/
  | nvmWrite (id : Nat) (data : List Byte) (bad : Option (Nat × Nat))
  /-- FLUSH (R107) -/
  | flush (id : Nat)
  /-- WRITE_ZEROES (R371) -/
  | writeZeroes (id : Nat)
  /-- DATASET_MANAGEMENT (R371) -/
  | datasetManagement (id : Nat) (data : List Byte)
  /-- COMPARE (R107) -/
  | compare (id : Nat) (got : List Got) (data : List Byte)
  /-- COMPARE_AND_WRITE (R131) -/
  | compareAndWrite (id : Nat) (got : List Got) (cmp data : List Byte)
  /-- COPY (R526) -/
  | copy (id : Nat) (got : List Got) (data : List Byte)
  /-- RESERVATION_REGISTER (R107) -/
  | reservationRegister (id : Nat) (data : List Byte)
  /-- RESERVATION_REPORT (R107) -/
  | reservationReport (id : Nat)
  /-- RESERVATION_ACQUIRE (R107) -/
  | reservationAcquire (id : Nat) (data : List Byte)
  /-- RESERVATION_RELEASE (R107) -/
  | reservationRelease (id : Nat) (data : List Byte)
  /-- UNSUPPORTED_NVM_COMMAND (R107) -/
  | unsupportedNvmCommand (id : Nat)
  /-- KV_STORE (R112) -/
  | kvStore (id : Nat) (data : List Byte) (bad : Option (Nat × Nat))
  /-- KV_RETRIEVE (R111) -/
  | kvRetrieve (id : Nat) (got : List Got)
  /-- KV_DELETE (R372) -/
  | kvDelete (id : Nat)
  /-- KV_EXIST (R107) -/
  | kvExist (id : Nat)
  /-- KV_LIST (R107) -/
  | kvList (id : Nat)
  /-- ABORT_COMMAND (R132) -/
  | abortCommand (ctrl cid : Nat)
  /-- NVMEOF_CONNECT (R109) -/
  | nvmeofConnect (ctrl qid cid size conn host kato : Nat) (discovery noFlow notices : Bool)
  /-- DISCONNECT (R136) -/
  | disconnect (ctrl qid cid : Nat)
  /-- SET_QUEUE_ATTRIBUTES (R120) -/
  | setQueueAttributes (ctrl cid cdw11 : Nat)
  /-- ARBITRATION_FEATURE (R123) -/
  | arbitrationFeature (ctrl cid cdw11 : Nat)
  /-- CONTROLLER_ENABLE (R119) -/
  | controllerEnable (ctrl cc : Nat)
  /-- CONTROLLER_RESET (R133) -/
  | controllerReset (ctrl : Nat)
  /-- KEEP_ALIVE (R107) -/
  | keepAlive (ctrl cid : Nat)
  /-- KEEP_ALIVE_EXPIRY (R133) -/
  | keepAliveExpiry (ctrl : Nat)
  /-- NAMESPACE_CREATE (R366) -/
  | namespaceCreate (ctrl cid blocks group domain : Nat) (kv : Bool) (pi : Nat) (meta8 : Bool)
  /-- NAMESPACE_RESIZE (R366) -/
  | namespaceResize (ctrl cid n blocks : Nat)
  /-- SET_POWER_STATE (R143) -/
  | setPowerState (ctrl : Nat) (cid : Option Nat) (ps : Nat)
  /-- ANA_LOG_PAGE (R141) -/
  | anaLogPage (ctrl cid : Nat)
  /-- FORWARDED_COMMAND (R139) -/
  | forwardedCommand (fid ctrl qid : Nat) (compat : Bool) (sqe data : List Byte)
  /-- HOSTQ_QRESET (R151) -/
  | hostqQreset (master value : Nat)
  /-- TRANSPORT_CONNECTION_LOSS (R137) -/
  | transportConnectionLoss (conn : Nat)
  /-- HOSTQ_ANA_STATE_WRITE (R150) -/
  | hostqAnaStateWrite (master value : Nat)
  /-- IDLE_TIMER_EXPIRY (R144) -/
  | idleTimerExpiry
  /-- URT_SEND_PACKET (R171) -/
  | urtSendPacket (seam : Bool) (pkt : List Byte)
  /-- URT_WRITE_PACKET (R173) -/
  | urtWritePacket (seam : Bool) (pkt : List Byte)
  /-- READ_REQ (R162) -/
  | readReq (seam : Bool) (pkt : List Byte)
  /-- READ_RESP (R171) -/
  | readResp (seam : Bool) (pkt : List Byte)
  /-- URT_ACK (R176) -/
  | urtAck (seam : Bool) (pkt : List Byte)
  /-- URT_CONNECT (R168) -/
  | urtConnect (seam : Bool) (pkt : List Byte) (mtu psn : Nat) (lower : Bool)
  /-- CONNECT_ACK (R167) -/
  | connectAck (seam : Bool) (pkt : List Byte)
  /-- URT_CLOSE_PACKET (R162) -/
  | urtClosePacket (seam : Bool) (pkt : List Byte)
  /-- ACK_TIMER (R172) -/
  | ackTimer (seam : Bool) (flow : Nat)
  /-- RTO_EXPIRY (R174) -/
  | rtoExpiry (seam : Bool) (flow psn : Nat)
  /-- PACED_SEND (R176) -/
  | pacedSend (seam : Bool) (flow : Nat)
  /-- URT_OPEN (R179) -/
  | urtOpen (seam : Bool) (desc : List Byte) (peer mtu psn : Nat) (enc : Bool)
  /-- URT_CLOSE (R179) -/
  | urtClose (seam : Bool) (desc : List Byte)
  /-- URT_SEND (R179) -/
  | urtSend (seam : Bool) (desc : List Byte)
  /-- URT_WRITE (R179) -/
  | urtWrite (seam : Bool) (desc : List Byte)
  /-- URT_READ (R179) -/
  | urtRead (seam : Bool) (desc : List Byte)
  /-- URT_RECV (R179) -/
  | urtRecv (seam : Bool) (desc : List Byte)
  /-- ROCE_CM_REQUEST (R158) -/
  | roceCmRequest (n service peer mtu psn own : Nat)
  /-- ROCE_ATOMIC_REQUEST (R158) -/
  | roceAtomicRequest (n psn : Nat)
  /-- ROCE_PACKET (R156) -/
  | rocePacket (n : Nat) (p : RocePkt) (ce : Bool)
  /-- CNP_RECEIVE (R156) -/
  | cnpReceive (n : Nat)
  /-- ROCE_RETRY_EXHAUSTED (R159) -/
  | roceRetryExhausted (n : Nat)
  /-- SUBPORT_LINK_UP (R180) -/
  | subportLinkUp (port sub : Nat)
  /-- SUBPORT_LINK_DOWN (R180) -/
  | subportLinkDown (port sub : Nat)
  /-- FEC_SECOND_END (R180) -/
  | fecSecondEnd (port sub corr uncorr dropped : Nat)
  /-- PFC_PAUSE_TIMEOUT (R180) -/
  | pfcPauseTimeout (port sub prio : Nat)
  /-- URT_INTERNAL_ERROR (R182) -/
  | urtInternalError (ty : Nat)
  /-- URT_CTRL_RESET (R182) -/
  | urtCtrlReset (master value : Nat)
  /-- URT_EQ_HEAD_WRITE (R181) -/
  | urtEqHeadWrite (master value : Nat)
  /-- ETH_CFG_WRITE (R155) -/
  | ethCfgWrite (master port value : Nat)
  /-- SPOOL_ALLOC (R207) -/
  | spoolAlloc (job : Nat) (picks : List Nat)
  /-- SPOOL_FREE (R203) -/
  | spoolFree (job : Nat)
  /-- SPOOL_ALLOC_CMD (R224) -/
  | spoolAllocCmd (master value pick : Nat)
  /-- SPOOL_FREE_CMD (R224) -/
  | spoolFreeCmd (master value : Nat)
  /-- SPOOL_CFG_WRITE (R224) -/
  | spoolCfgWrite (master value : Nat)
  /-- SCRUB (R221) -/
  | scrub (ctl : Nat) (found : List (Nat × Upset))
  /-- MEMORY_INIT_DONE (R220) -/
  | memoryInitDone (ctl : Nat) (mirror : Bool) (dimms ms : Nat)
  /-- CACHE_ERR_WINDOW_END (R213) -/
  | cacheErrWindowEnd (sl way : Nat)
  /-- SYSCACHE_WAY_DIS_WRITE (R226) -/
  | syscacheWayDisWrite (master k j value : Nat)
  /-- DDRC_FAIL_WRITE (R218) -/
  | ddrcFailWrite (master ch value : Nat)
  /-- HBMC_PC_RETIRE_WRITE (R218) -/
  | hbmcPcRetireWrite (master stack value : Nat)
  /-- HBM_STACK_FAILURE (R218) -/
  | hbmStackFailure (stack : Nat)
  /-- HBM_TEMPERATURE_HIGH (R227) -/
  | hbmTemperatureHigh (stack temp : Nat)
  /-- DDRC_MAP_CFG_WRITE (R229) -/
  | ddrcMapCfgWrite (master inst value : Nat)
  /-- HALLMARK_INIT (R232) -/
  | hallmarkInit (job : Nat)
  /-- BIND (R233) -/
  | bind (job : Nat)
  /-- SNOOP_BEAT (R234) -/
  | snoopBeat (producer stream off addr : Nat) (data : List Byte) (poisoned : Bool)
  /-- CATCHUP_READ (R234) -/
  | catchupRead (producer stream : Nat)
  /-- STREAM_END (R235) -/
  | streamEnd (producer stream : Nat)
  /-- DIGEST (R237) -/
  | digest (job : Nat)
  /-- FINISH (R239) -/
  | finish (job : Nat)
  /-- HALLMARK_RELEASE (R232) -/
  | hallmarkRelease (job : Nat)
  /-- HALLMARK_LW_CMD (R270) -/
  | hallmarkLwCmd (master value : Nat)
  /-- HALLMARK_SEAL_EXP_WRITE (R240) -/
  | hallmarkSealExpWrite (master index value : Nat)
  /-- LOOKUP (R255) -/
  | lookup (job : Nat) (differs : List Nat)
  /-- LOOKUP_RESUME (R257) -/
  | lookupResume (job : Nat) (differs : List Nat)
  /-- PENDING_WAIT_TIMEOUT (R257) -/
  | pendingWaitTimeout (job : Nat) (differs : List Nat)
  /-- COMMIT (R261) -/
  | commit (job : Nat)
  /-- DEDUP_RELEASE (R261) -/
  | dedupRelease (job : Nat)
  /-- REBUILD (R254) -/
  | rebuild (job : Nat)
  /-- TAKEOVER (R266) -/
  | takeover (job : Nat) (again : List (Nat × Nat × Nat × Bool)) (us : Nat) (ended : Bool)
  /-- MANIFEST_SEAL_TIMEOUT (R251) -/
  | manifestSealTimeout (d : Nat)
  /-- DELTA_BATCH_COMMIT (R263) -/
  | deltaBatchCommit
  /-- DEDUP_DOM_CFG_WRITE (R273) -/
  | dedupDomCfgWrite (master value : Nat)
  /-- PLEAT (R283) -/
  | pleat (job : Nat) (out : List Byte)
  /-- UNPLEAT (R284) -/
  | unpleat (job : Nat)
  /-- PLEAT_CTX_EXPIRY (R277) -/
  | pleatCtxExpiry (ctx : Nat)
  /-- GCM_SEAL (R305) -/
  | gcmSeal (job : Nat)
  /-- GCM_OPEN (R297) -/
  | gcmOpen (job : Nat)
  /-- XTS_ENC (R294) -/
  | xtsEnc (job : Nat)
  /-- XTS_DEC (R294) -/
  | xtsDec (job : Nat)
  /-- CTR (R295) -/
  | ctr (job : Nat)
  /-- KEY_GEN (R303) -/
  | keyGen (job : Nat)
  /-- KEY_WRAP (R303) -/
  | keyWrap (job : Nat)
  /-- KEY_UNWRAP (R303) -/
  | keyUnwrap (job : Nat)
  /-- KEY_CLEAR (R303) -/
  | keyClear (job : Nat)
  /-- KEY_CMD_LOAD (R302) -/
  | keyCmdLoad (master value : Nat)
  /-- KEY_CMD_CLEAR (R314) -/
  | keyCmdClear (master value : Nat)
  /-- CIPHER_NONCE_FLOOR_WRITE (R306) -/
  | cipherNonceFloorWrite (master value : Nat)
  /-- CIPHER_NONCE_GRANT_WRITE (R306) -/
  | cipherNonceGrantWrite (master value : Nat)
  /-- ENCODE (R320) -/
  | encode (job : Nat)
  /-- RECONSTRUCT (R332) -/
  | reconstruct (job : Nat)
  /-- VERIFY (R337) -/
  | verify (job : Nat)
  /-- RESOLVE (R340) -/
  | resolve (job : Nat)
  /-- DIRTY_SET (R324) -/
  | dirtySet (job : Nat)
  /-- DIRTY_SET_MIRROR_ACK (R324) -/
  | dirtySetMirrorAck (job : Nat)
  /-- DIRTY_MAP_MIRROR (R531) -/
  | dirtyMapMirror (bolt region : Nat) (set : Bool)
  /-- DIRTY_CLEAR (R326) -/
  | dirtyClear (job : Nat)
  /-- RESYNCHRONISATION (R329) -/
  | resynchronisation (bolt region : Nat) (unprotected : List Nat) (lost : List (Nat × Nat))
  /-- REBUILD_START (R341) -/
  | rebuildStart (n : Nat)
  /-- REBUILD_END (R346) -/
  | rebuildEnd (n : Nat)
  /-- RESHAPE_START (R347) -/
  | reshapeStart (master value : Nat)
  /-- RESHAPE_PAUSE (R351) -/
  | reshapePause (master value : Nat)
  /-- RESHAPE_RESUME (R351) -/
  | reshapeResume (master value : Nat)
  /-- RESHAPE_BOLT_EMPTIED (R348) -/
  | reshapeBoltEmptied (bolt peer : Nat)
  /-- QUILT_UNFREEZE (R339) -/
  | quiltUnfreeze (master value : Nat)
  /-- QUILT_DRAIN_MASK_WRITE (R354) -/
  | quiltDrainMaskWrite (master value : Nat)
  /-- QUILT_LAYOUT_WRITE (R356) -/
  | quiltLayoutWrite (master value : Nat)
  /-- QUILT_WRITE_LAYOUT_WRITE (R356) -/
  | quiltWriteLayoutWrite (master value : Nat)
  /-- MAP_LOOKUP (R401) -/
  | mapLookup (job : Nat) (bad : List Nat)
  /-- RECORD (R363) -/
  | record (job : Nat)
  /-- ORDERED_RECORD_APPLY (R363) -/
  | orderedRecordApply (index : Nat)
  /-- DEALLOC (R371) -/
  | dealloc (job : Nat)
  /-- MAPPER_ZERO (R371) -/
  | mapperZero (job : Nat)
  /-- CHUNK_NEW (R374) -/
  | chunkNew (job : Nat)
  /-- CHUNK_NEW_EXPIRY (R374) -/
  | chunkNewExpiry (id : Nat)
  /-- RELOCATE (R375) -/
  | relocate (job : Nat) (back : Option (Nat × Nat × Nat))
  /-- FORWARDED_RELOCATE (R362) -/
  | forwardedRelocate (dom : Nat) (list : List Byte)
  /-- CHUNK_LOST (R336) -/
  | chunkLost (job : Nat)
  /-- BOLT_OPEN (R377) -/
  | boltOpen (job : Nat)
  /-- BOLT_CLOSE (R377) -/
  | boltClose (job : Nat)
  /-- BOLT_SUBST (R343) -/
  | boltSubst (job : Nat)
  /-- RECOUNT (R400) -/
  | recount (job : Nat)
  /-- MAPPER_CHECKPOINT (R382) -/
  | mapperCheckpoint
  /-- DIRTY_PAGE_WRITEBACK (R380) -/
  | dirtyPageWriteback (page bolt stripe slot crc : Nat)
  /-- COMPACTION (R370) -/
  | compaction (n g base : Nat) (old : List Nat)
  /-- MAPPER_REPLAY (R383) -/
  | mapperReplay (start unclean : Bool) (loaded : Loaded) (ms : Nat)
  /-- DEGRADED_MODE_ENTERED (R387) -/
  | degradedModeEntered
  /-- LOG_BOLT_FOLD (R387) -/
  | logBoltFold (n : Nat)
  /-- GREEDY_GC (R388) -/
  | greedyGc
  /-- PRIORITY_GC (R389) -/
  | priorityGc
  /-- WEAR_LEVELLING (R390) -/
  | wearLevelling
  /-- PROGRAM_FAILURE (R392) -/
  | programFailure (n die block stripe : Nat)
  /-- ERASE_FAILURE (R393) -/
  | eraseFailure (b index : Nat)
  /-- ERASE_COMPLETE (R377) -/
  | eraseComplete (b : Nat)
  /-- RETENTION_LIMIT (R398) -/
  | retentionLimit (b : Nat)
  /-- MAPPER_THR_LOAD (R397) -/
  | mapperThrLoad (master value : Nat)
  /-- MAPPER_CACHE_SIZE_WRITE (R406) -/
  | mapperCacheSizeWrite (master value : Nat)
  /-- SNAP_CREATE (R409) -/
  | snapCreate (master value : Nat)
  /-- SNAP_FREEZE (R409) -/
  | snapFreeze (j : Nat)
  /-- SNAP_DELETE (R415) -/
  | snapDelete (master value : Nat)
  /-- DEAD_LIST_ENTRY (R415) -/
  | deadListEntry (n epoch : Nat)
  /-- SNAP_ATTACH (R417) -/
  | snapAttach (master value : Nat)
  /-- SNAP_DETACH (R416) -/
  | snapDetach (master value : Nat)
  /-- SESSION_START (R419) -/
  | sessionStart (master value : Nat)
  /-- SESSION_STOP (R428) -/
  | sessionStop (master value : Nat)
  /-- REPL_OPEN (R418) -/
  | replOpen (p cursor base epoch kcv : Nat) (fps : SMap (List Byte))
  /-- FP_BATCH (R421) -/
  | fpBatch (p : Nat) (entries : List (Nat × List Byte))
  /-- FP_REPLY (R421) -/
  | fpReply (p bitmap : Nat) (frames : List (Nat × List Byte)) (fps : SMap (List Byte))
  /-- REPL_DATA (R422) -/
  | replData (p g len : Nat) (frame : List Byte) (chunk : Nat)
  /-- REPL_UNMAP (R420) -/
  | replUnmap (p first count : Nat)
  /-- REPL_ZERO (R420) -/
  | replZero (p first count : Nat)
  /-- REPL_CKPT (R424) -/
  | replCkpt (p cursor : Nat)
  /-- CKPT_ACK (R424) -/
  | ckptAck (p cursor : Nat)
  /-- DONE (R423) -/
  | done (p epoch : Nat)
  /-- REPL_RETRY (R425) -/
  | replRetry (p : Nat)
  /-- READ (R445) -/
  | read (job : Nat)
  /-- SOFT_READ (R455) -/
  | softRead (job : Nat)
  /-- PROGRAM (R449) -/
  | program (job : Nat)
  /-- ERASE (R449) -/
  | erase (job : Nat)
  /-- CREATE_QP (R448) -/
  | createQp (job : Nat)
  /-- DELETE_QP (R448) -/
  | deleteQp (job : Nat)
  /-- IDENTIFY (R445) -/
  | identify (job : Nat)
  /-- LOAD_PROFILE (R453) -/
  | loadProfile (job : Nat)
  /-- DEFECT_MAP (R457) -/
  | defectMap (job : Nat)
  /-- TELEMETRY (R445) -/
  | telemetry (job : Nat)
  /-- GET_WITNESS (R470) -/
  | getWitness (job : Nat)
  /-- W_CAS (R465) -/
  | wCas (job : Nat)
  /-- SET_EPOCH (R466) -/
  | setEpoch (job : Nat)
  /-- MODULE_COMPLETION (R447) -/
  | moduleCompletion (id : Nat) (a : ModAns)
  /-- DEEP_DECODE_DONE (R456) -/
  | deepDecodeDone (id cw : Nat) (user : Option (List Byte)) (plane : Nat) (fixed : List Nat)
  /-- MODULE_PRESENT (R471) -/
  | modulePresent (n : Nat)
  /-- STITCH_MOD_ATTACH (R471) -/
  | stitchModAttach (inst master value : Nat)
  /-- STITCH_MOD_DETACH (R471) -/
  | stitchModDetach (inst master value : Nat)
  /-- STITCH_MOD_POWER_OFF (R474) -/
  | stitchModPowerOff (inst master value : Nat)
  /-- STITCH_MOD_HOT_RESET (R471) -/
  | stitchModHotReset (inst master value : Nat)
  /-- MODULE_POWER_GRANT (R471) -/
  | modulePowerGrant
  /-- PERST_RELEASE_TIMER (R471) -/
  | perstReleaseTimer (n : Nat)
  /-- MODULE_LINK_UP (R471) -/
  | moduleLinkUp (n width gen : Nat) (flit : Bool) (ltssm : Nat)
  /-- LINK_TRAIN_TIMEOUT (R471) -/
  | linkTrainTimeout (n : Nat)
  /-- CONFIGURE_COMPLETE (R471) -/
  | configureComplete (n : Nat) (serial : List Byte) (dies : List (Nat × Nat)) (profiles : List (List Byte)) (defects : List (Nat × List Nat)) (slots : List (Nat × Nat)) (roles : List Nat)
  /-- CONFIGURE_TIMEOUT (R471) -/
  | configureTimeout (n : Nat)
  /-- COMMAND_TIMEOUT_EXPIRY (R471) -/
  | commandTimeoutExpiry (id : Nat)
  /-- DELETE_QP_TIMEOUT (R471) -/
  | deleteQpTimeout (n : Nat)
  /-- MODULE_LINK_DOWN (R471) -/
  | moduleLinkDown (n : Nat)
  /-- SURPRISE_REMOVAL (R471) -/
  | surpriseRemoval (n : Nat)
  /-- MODULE_FATAL (R471) -/
  | moduleFatal (n : Nat)
  /-- MODULE_ALERT (R439) -/
  | moduleAlert (n bits : Nat)
  /-- DETACH_COMPLETE (R476) -/
  | detachComplete (n : Nat)
  /-- TELEMETRY_TIMER (R478) -/
  | telemetryTimer
  /-- PCIE_COMPLETION_TIMEOUT (R484) -/
  | pcieCompletionTimeout (n : Nat)
  /-- PCIE_ERROR (R483) -/
  | pcieError (n bits replays : Nat)
  /-- STITCH_ROLE_EPOCH_HI_WRITE (R480) -/
  | stitchRoleEpochHiWrite (master value : Nat)
  /-- CHOOSE_BOLT (R492) -/
  | chooseBolt (job : Nat)
  /-- CHOOSE_SUBST (R496) -/
  | chooseSubst (job : Nat)
  /-- CHOOSE_COPIES (R497) -/
  | chooseCopies (job : Nat)
  /-- ELIGIBILITY_CHANGE (R486) -/
  | eligibilityChange
  /-- SHARE_RECOMPUTE (R498) -/
  | shareRecompute (host gc rebuild metadata : Nat)
  /-- PATTERN_BLOCK_USE_WRITE (R489) -/
  | patternBlockUseWrite (master value : Nat)
  /-- SEAM_ENABLE (R518) -/
  | seamEnable (master l value : Nat)
  /-- LANES_ALIGNED (R518) -/
  | lanesAligned (l : Nat)
  /-- TRAINING_TIMEOUT (R518) -/
  | trainingTimeout (l : Nat)
  /-- PROBATION_END (R518) -/
  | probationEnd (l : Nat)
  /-- SEAM_RETRAIN_TIMER (R518) -/
  | seamRetrainTimer (l : Nat)
  /-- SEAM_CTRL_RETIRE (R519) -/
  | seamCtrlRetire (master l value : Nat)
  /-- SEAM_CTRL_RETRAIN (R518) -/
  | seamCtrlRetrain (master l value : Nat)
  /-- SEAM_DATA_FRAME (R514) -/
  | seamDataFrame (l fseq first corr uncorr : Nat) (ok : Bool)
  /-- LANE_LOCK_LOSS (R517) -/
  | laneLockLoss (l lane : Nat)
  /-- NO_FRAME_TIMEOUT (R517) -/
  | noFrameTimeout (l : Nat)
  /-- HEARTBEAT (R522) -/
  | heartbeat (l fseq : Nat) (hb : List Byte)
  /-- HEARTBEAT_SEND (R520) -/
  | heartbeatSend
  /-- PARTNER_SILENT (R521) -/
  | partnerSilent
  /-- LEASE_LAPSE (R523) -/
  | leaseLapse
  /-- JOURNAL_RECORD (R528) -/
  | journalRecord (hdr data : List Byte)
  /-- MIRROR_ACK (R528) -/
  | mirrorAck (n : Nat)
  /-- NACK (R528) -/
  | nack (n : Nat)
  /-- RETAIN_SEND (R530) -/
  | retainSend
  /-- RETAIN (R530) -/
  | retain (h : Nat)
  /-- YIELD_MESSAGE (R537) -/
  | yieldMessage (cause : Nat)
  /-- PEER_YIELD_SEEN (R538) -/
  | peerYieldSeen
  /-- FENCE_MESSAGE (R532) -/
  | fenceMessage (role epoch : Nat)
  /-- JOIN (R537) -/
  | join
  /-- CATCHUP_DONE (R532) -/
  | catchupDone (n : Nat)
  /-- ROLE_RELEASE (R537) -/
  | roleRelease (role epoch : Nat)
  /-- HEADPAIR_CMD_YIELD (R539) -/
  | headpairCmdYield (master value : Nat)
  /-- ARBITRATION_ROUND (R542) -/
  | arbitrationRound (before between : List (Nat × List PeerOp)) (late : List Nat)
  /-- ARBITRATION_LIMIT_EXPIRY (R542) -/
  | arbitrationLimitExpiry
  /-- SET_EPOCH_TIMEOUT (R543) -/
  | setEpochTimeout (n : Nat)
  /-- SVC_REPORT_WRITE (R658) -/
  | svcReportWrite (master cluster value : Nat)
  /-- SVC_STALL_TIMEOUT (R540) -/
  | svcStallTimeout
  /-- HOST_PORTS_TIMEOUT (R540) -/
  | hostPortsTimeout
  /-- THERMAL_LIMIT (R540) -/
  | thermalLimit
  /-- LOCKSTEP_DISAGREEMENT (R657) -/
  | lockstepDisagreement
  /-- SVC_CTRL_WRITE (R658) -/
  | svcCtrlWrite (master cluster value : Nat)
  /-- CLASP_GO (R551) -/
  | claspGo (master c value wakeUs : Nat)
  /-- CLASP_IN_REL (R552) -/
  | claspInRel (master c value wakeUs : Nat)
  /-- CLASP_TIMEOUT_EXPIRY (R553) -/
  | claspTimeoutExpiry (c : Nat)
  /-- REMOTE_CLASP_MESSAGE (R554) -/
  | remoteClaspMessage (c sender : Nat) (words : List Nat) (wakeUs : Nat)
  /-- LOCKET_RECORD (R562) -/
  | locketRecord (gts source code : Nat) (payload : List Byte)
  /-- LOCKET_HANDOVER_TIMEOUT (R564) -/
  | locketHandoverTimeout
  /-- SPILL_PAGE (R566) -/
  | spillPage
  /-- LOCKET_SEQ_BASE_HI_WRITE (R565) -/
  | locketSeqBaseHiWrite (master value : Nat)
  /-- LOCKET_SEQ_NEXT_LO_READ (R572) -/
  | locketSeqNextLoRead (master : Nat)
  /-- LOCKET_WIN_DATA0_READ (R568) -/
  | locketWinData0Read (master : Nat)
  /-- LOCKET_WIN_DATA15_READ (R568) -/
  | locketWinData15Read (master : Nat)
  /-- LOCKET_CLEAR_CHAL_LO_READ (R570) -/
  | locketClearChalLoRead (master : Nat)
  /-- LOCKET_CLEAR_CMD (R571) -/
  | locketClearCmd (master value : Nat)
  /-- GTS_NOW_LO_READ (R573) -/
  | gtsNowLoRead (master : Nat)
  /-- GTS_CAL_SECONDS_LO_READ (R573) -/
  | gtsCalSecondsLoRead (master : Nat)
  /-- GTS_CAL_CMD (R574) -/
  | gtsCalCmd (master value : Nat)
  /-- PWRSEQ_STANDBY (R582) -/
  | pwrseqStandby (master value : Nat)
  /-- STANDBY_COMMIT (R588) -/
  | standbyCommit
  /-- THIMBLE_ARM (R584) -/
  | thimbleArm
  /-- WAKE_ADDRESS_MATCH (R583) -/
  | wakeAddressMatch (addr : Nat)
  /-- WAKE_N_LOW (R584) -/
  | wakeNLow (held : Bool)
  /-- PWR_FAIL_N_RISE (R585) -/
  | pwrFailNRise
  /-- AON_POWER_ON (R590) -/
  | aonPowerOn
  /-- PWRSEQ_DOM_CTRL_ON (R587) -/
  | pwrseqDomCtrlOn (master value : Nat)
  /-- PWRSEQ_DOM_CTRL_OFF (R587) -/
  | pwrseqDomCtrlOff (master value : Nat)
  /-- DOMAIN_GRANT (R593) -/
  | domainGrant
  /-- RAMP_END (R595) -/
  | rampEnd (us : Nat)
  /-- RAMP_TIMEOUT (R594) -/
  | rampTimeout (us : Nat)
  /-- DOMAIN_READY (R595) -/
  | domainReady (d : Nat)
  /-- QUIESCED (R595) -/
  | quiesced (d : Nat)
  /-- CLAMPED (R595) -/
  | clamped (d : Nat)
  /-- DISCHARGE_DONE (R595) -/
  | dischargeDone (d : Nat)
  /-- BROWNOUT_START (R597) -/
  | brownoutStart (mon mv : Nat)
  /-- BROWNOUT_END (R598) -/
  | brownoutEnd
  /-- MONITOR_TRIP (R599) -/
  | monitorTrip (mon mv : Nat)
  /-- POWER_FAIL (R601) -/
  | powerFail
  /-- DUMP_COMMIT (R601) -/
  | dumpCommit (bytes us : Nat)
  /-- DUMP_RESUME (R603) -/
  | dumpResume
  /-- DUMP_REPLAY (R605) -/
  | dumpReplay (partner : List JRec) (mirror : Option (SMap Nat))
  /-- SELVEDGE_RELEASE (R589) -/
  | selvedgeRelease (master value : Nat)
  /-- RESET_RELEASE (R618) -/
  | resetRelease
  /-- STAGE1_VERIFY_DONE (R620) -/
  | stage1VerifyDone (ctx fmt pages : Nat)
  /-- PACKAGE_VERIFY_DONE (R625) -/
  | packageVerifyDone (ctx : Nat) (sigOk : Bool) (conv : List Byte)
  /-- STAGE (R630) -/
  | stage (master value ctx : Nat) (sigOk : Bool)
  /-- ACTIVATE (R631) -/
  | activate (master value pauseMs : Nat)
  /-- CONFIRM (R632) -/
  | confirm (master value : Nat)
  /-- RECOVER (R635) -/
  | recover (master value : Nat)
  /-- RECOVERY_BUNDLE_RECEIVED (R636) -/
  | recoveryBundleReceived (bundle : List Byte) (path ctx : Nat) (sigOk : Bool)
  /-- OTP_ADD (R639) -/
  | otpAdd (master value : Nat)
  /-- OTP_REVOKE (R639) -/
  | otpRevoke (master value : Nat)
  /-- SVN_RAISE (R639) -/
  | svnRaise (master value : Nat)
  /-- BOOT_WATCHDOG_EXPIRY (R621) -/
  | bootWatchdogExpiry
  /-- TRIAL_TIMEOUT (R621) -/
  | trialTimeout
  /-- TOP_SW_RESET_WRITE (R678) -/
  | topSwResetWrite (master value : Nat)
  /-- SYS_RST_N_LOW (R678) -/
  | sysRstNLow
  /-- THERMTRIP (R682) -/
  | thermtrip
  /-- MGMT_LINK_CHANGE (R659) -/
  | mgmtLinkChange (up : Bool)
  /-- PTP_LOCK_LOSS (R659) -/
  | ptpLockLoss
  /-- GPIO_EDGE (R659) -/
  | gpioEdge (gpio : Nat) (level : Bool)
  /-- REMOTE_ACCESS_ANSWER (R656) -/
  | remoteAccessAnswer (id : Nat) (value : Word)
  /-- REMOTE_LATCH_ACK (R554) -/
  | remoteLatchAck (c : Nat) (latched : Bool)
  /-- XTAL_AON_RUNNING (R607) -/
  | xtalAonRunning
  /-- VDD_AON_REMOVAL (R679) -/
  | vddAonRemoval
  /-- JTAG_RESET (R678) -/
  | jtagReset
  /-- ENGINE_UNCORRECTABLE_ERROR (R540) -/
  | engineUncorrectableError (e : Engine)
  deriving DecidableEq, Repr

end Sys2Proof
end

