-- ==== Sys2Proof/Machine/Maps.lean ====
section
/-! DEFINITION. Sparse tables, byte strings and bit fields: the plain data operations every block uses. Multi-byte fields are
little-endian (00 R8). -/
namespace Sys2Proof.Machine

variable {α : Type}

/-- The keys of a table rise strictly: the one form in which a table is held. -/
def Rising : SMap α → Bool
  | [] => true
  | [_] => true
  | a :: b :: t => decide (a.1 < b.1) && Rising (b :: t)

/-- The entry of key `k`. -/
def mget (m : SMap α) (k : Nat) : Option α :=
  match m with
  | [] => none
  | (a, v) :: t => if a = k then some v else mget t k

/-- The entry of key `k`, or `d` where the table lists none. -/
def mgetD (d : α) (m : SMap α) (k : Nat) : α := (mget m k).getD d

/-- Set the entry of key `k`. -/
def mput (m : SMap α) (k : Nat) (v : α) : SMap α :=
  match m with
  | [] => [(k, v)]
  | (a, w) :: t => if k < a then (k, v) :: (a, w) :: t else if k = a then (k, v) :: t else (a, w) :: mput t k v

/-- Remove the entry of key `k`. -/
def mdel (m : SMap α) (k : Nat) : SMap α := m.filter fun e => e.1 != k

/-- Set the entry of key `k` in a table whose unlisted keys read as `d`: writing `d` removes the entry. -/
def mputD [DecidableEq α] (d : α) (m : SMap α) (k : Nat) (v : α) : SMap α :=
  if v = d then mdel m k else mput m k v

/-- Change the entry of key `k` of a table whose unlisted keys read as `d`. -/
def mmodD [DecidableEq α] (d : α) (m : SMap α) (k : Nat) (f : α → α) : SMap α :=
  mputD d m k (f (mgetD d m k))

/-- Change the entry of key `k`, where there is one. -/
def mmod (m : SMap α) (k : Nat) (f : α → α) : SMap α :=
  m.map fun e => if e.1 = k then (e.1, f e.2) else e

/-- Change every entry of a table whose unlisted keys read as `d`. -/
def mmapD [DecidableEq α] (d : α) (m : SMap α) (f : Nat → α → α) : SMap α :=
  (m.map fun e => (e.1, f e.1 e.2)).filter fun e => e.2 ≠ d

/-- The least key at or above `k` that the table does not list; `fuel` bounds the search by the table's length. -/
def freshKey (m : SMap α) (k : Nat) : Nat :=
  (m.map (·.1)).foldl (fun n a => if a = n then n + 1 else n) k

/-- Element `i` of a list, or `d`. -/
def nthD (d : α) (l : List α) (i : Nat) : α := l.getD i d

/-- Replace element `i` of a list; a list without it is unchanged. -/
def setNth (l : List α) (i : Nat) (v : α) : List α := l.set i v

/-- Add `x` to a list used as a set. -/
def insertNew [DecidableEq α] (x : α) (l : List α) : List α := if x ∈ l then l else l ++ [x]

/-- Bits [hi:lo] of a number. -/
def bits (n hi lo : Nat) : Nat := n / 2 ^ lo % 2 ^ (hi + 1 - lo)

/-- Bit `i` of a number. -/
def bitOf (n i : Nat) : Bool := n / 2 ^ i % 2 == 1

/-- 1 for true. -/
def b2n (b : Bool) : Nat := if b then 1 else 0

/-- Bits [hi:lo] of a word. -/
def fld (w : Word) (hi lo : Nat) : Nat := bits w.toNat hi lo

/-- Bit `i` of a word. -/
def bitW (w : Word) (i : Nat) : Bool := w.toNat.testBit i

/-- A word with bits [hi:lo] set to `v`. -/
def putFld (w : Word) (hi lo v : Nat) : Word :=
  BitVec.ofNat 32 (w.toNat - bits w.toNat hi lo * 2 ^ lo + v % 2 ^ (hi + 1 - lo) * 2 ^ lo)

/-- A word with bit `i` set to `b`. -/
def putBit (w : Word) (i : Nat) (b : Bool) : Word := putFld w i i (b2n b)

/-- `n` as `k` bytes, little-endian. -/
def leBytes : Nat → Nat → List Byte
  | 0, _ => []
  | k + 1, n => BitVec.ofNat 8 n :: leBytes k (n / 256)

/-- A byte string as a little-endian number. -/
def ofLE : List Byte → Nat
  | [] => 0
  | b :: t => b.toNat + 256 * ofLE t

/-- `n` as `k` bytes, big-endian. -/
def beBytes (k n : Nat) : List Byte := (leBytes k n).reverse

/-- A byte string as a big-endian number. -/
def ofBE (l : List Byte) : Nat := ofLE l.reverse

/-- Bytes `a` to `a + n - 1` of a string; bytes past its end read 0. -/
def sliceB (l : List Byte) (a n : Nat) : List Byte :=
  let t := (l.drop a).take n
  t ++ List.replicate (n - t.length) 0

/-- The little-endian field of `n` bytes at byte `a`. -/
def leAt (l : List Byte) (a n : Nat) : Nat := ofLE (sliceB l a n)

/-- The first `n` bytes of a string, filled up with 0. -/
def padTo (n : Nat) (l : List Byte) : List Byte := sliceB l 0 n

/-- XOR of two byte strings, of the length of the shorter. -/
def xorB (a b : List Byte) : List Byte := a.zipWith (· ^^^ ·) b

/-- `n` rounded up to a multiple of `k`. -/
def roundUp (n k : Nat) : Nat := (n + k - 1) / k * k

/-- Saturating addition at 2^w - 1. -/
def satAdd (w n k : Nat) : Nat := min (n + k) (2 ^ w - 1)

/-- Signed value of the low `w` bits of `n`. -/
def sext (w n : Nat) : Int := if n % 2 ^ w < 2 ^ (w - 1) then (n % 2 ^ w : Nat) else (n % 2 ^ w : Nat) - (2 ^ w : Nat)

/-- The number of 1 bits among the low `w` bits of `n`. -/
def popCount : Nat → Nat → Nat
  | 0, _ => 0
  | w + 1, n => n % 2 + popCount w (n / 2)

/-- The bits of `n` below `w` that are 1, lowest first. -/
def setBitsOf (w n : Nat) : List Nat := (List.range w).filter fun i => bitOf n i

end Sys2Proof.Machine
end

