-- ==== Sys2Proof/Machine/Codec.lean ====
section
/-! DEFINITION. Check values and decompression: CRC-32C (07 R278, 02 R81), XXH64 and the Zstandard format of RFC 8878 (07 R280,
R287, R288), and the media chunk format (07 R278 to R281). -/
namespace Sys2Proof.Machine

/-! ### Check values -/

/-- The CRC-32C remainder after `n` bits, reflected polynomial 0x82F63B78. -/
def crcBits : Nat → Nat → Nat
  | 0, r => r
  | n + 1, r => crcBits n (if r % 2 = 1 then (r / 2) ^^^ 0x82F63B78 else r / 2)

/-- The remainder advanced over bytes. -/
def crcStep (r : Nat) (l : List Byte) : Nat := l.foldl (fun r b => crcBits 8 (r ^^^ b.toNat)) r

/-- CRC-32C with initial value and final XOR 0xFFFF_FFFF. -/
def crc32c (l : List Byte) : Nat := crcStep 0xFFFFFFFF l ^^^ 0xFFFFFFFF

/-- Left rotation of a 64-bit number. -/
def rotl64 (x n : Nat) : Nat := (x * 2 ^ n % 2 ^ 64) ||| (x / 2 ^ (64 - n))

/-- The five primes of XXH64. -/
def xxP : List Nat :=
  [0x9E3779B185EBCA87, 0xC2B2AE3D27D4EB4F, 0x165667B19E3779F9, 0x85EBCA77C2B2AE63, 0x27D4EB2F165667C5]

/-- Prime `i`, 1 to 5. -/
def xxp (i : Nat) : Nat := xxP.getD (i - 1) 0

/-- One accumulation step. -/
def xxRound (acc x : Nat) : Nat := rotl64 ((acc + x * xxp 2) % 2 ^ 64) 31 * xxp 1 % 2 ^ 64

/-- The final steps over the bytes left after whole stripes; `n` bounds them. -/
def xxTail : Nat → Nat → List Byte → Nat
  | 0, h, _ => h
  | n + 1, h, l =>
    if 8 ≤ l.length then
      xxTail n ((rotl64 (h ^^^ xxRound 0 (leAt l 0 8)) 27 * xxp 1 + xxp 4) % 2 ^ 64) (l.drop 8)
    else if 4 ≤ l.length then
      xxTail n ((rotl64 (h ^^^ (leAt l 0 4 * xxp 1 % 2 ^ 64)) 23 * xxp 2 + xxp 3) % 2 ^ 64) (l.drop 4)
    else match l with
      | [] => h
      | b :: t => xxTail n (rotl64 (h ^^^ (b.toNat * xxp 5 % 2 ^ 64)) 11 * xxp 1 % 2 ^ 64) t

/-- The accumulators over whole 32-byte stripes, `n` of them. -/
def xxStripes : Nat → List Nat → List Byte → List Nat × List Byte
  | 0, v, l => (v, l)
  | n + 1, v, l => xxStripes n (v.zip (List.range 4) |>.map fun e => xxRound e.1 (leAt l (8 * e.2) 8)) (l.drop 32)

/-- XXH64 with seed 0. -/
def xxh64 (l : List Byte) : Nat :=
  let v0 := [(xxp 1 + xxp 2) % 2 ^ 64, xxp 2, 0, 2 ^ 64 - xxp 1]
  let r := xxStripes (l.length / 32) v0 l
  let h := if l.length < 32 then xxp 5
    else
      let g := fun i => r.1.getD i 0
      let h := (rotl64 (g 0) 1 + rotl64 (g 1) 7 + rotl64 (g 2) 12 + rotl64 (g 3) 18) % 2 ^ 64
      r.1.foldl (fun h x => ((h ^^^ xxRound 0 x) * xxp 1 + xxp 4) % 2 ^ 64) h
  let h := xxTail 40 ((h + l.length) % 2 ^ 64) r.2
  let h := (h ^^^ h / 2 ^ 33) * xxp 2 % 2 ^ 64
  let h := (h ^^^ h / 2 ^ 29) * xxp 3 % 2 ^ 64
  h ^^^ h / 2 ^ 32

/-! ### Bit streams -/

/-- A bit stream read from its last bit to its first (RFC 8878, 4.1): the bytes as one number and how many bits are left,
below 0 once zeros beyond the start have been read. -/
structure BackBits where
  n : Nat
  pos : Int

/-- Open a backward stream: the highest 1 bit marks its end. -/
def backOpen (l : List Byte) : Option BackBits :=
  match l.getLast? with
  | none => none
  | some b => if b = 0 then none else some { n := ofLE l, pos := (Nat.log2 (ofLE l) : Nat) }

/-- Read `k` bits. -/
def BackBits.read (b : BackBits) (k : Nat) : Nat × BackBits :=
  let p := b.pos - k
  (if 0 ≤ p then b.n / 2 ^ p.toNat % 2 ^ k else b.n * 2 ^ (-p).toNat % 2 ^ k, { b with pos := p })

/-! ### FSE and Huffman tables -/

/-- An entry of an FSE table: the symbol, the bits read for the next state and its base. -/
structure FseE where
  sym : Nat := 0
  nb : Nat := 0
  base : Nat := 0

/-- An FSE table with its accuracy log. -/
structure Fse where
  al : Nat
  t : Array FseE

/-- The entry of a state. -/
def Fse.get (f : Fse) (st : Nat) : FseE := f.t.getD st {}

/-- Spread one symbol `k` times from `pos` over the places below `high`. -/
def fseSpread (mask step high sym : Nat) : Nat → Nat → Array Nat → Nat × Array Nat
  | 0, pos, t => (pos, t)
  | k + 1, pos, t =>
    let t := t.setIfInBounds pos sym
    let p1 := (pos + step) % (mask + 1)
    -- the places at and above `high` are skipped; at most `mask` of them follow one another
    let p := ((List.range (mask + 1)).foldl (fun (q : Nat) _ => if q ≥ high then (q + step) % (mask + 1) else q) p1)
    fseSpread mask step high sym k p t

/-- An FSE table from its probabilities (-1 stands for less than 1). -/
def fseBuild (al : Nat) (freq : List Int) : Fse :=
  let size := 2 ^ al
  let syms := (freq.zip (List.range freq.length))
  let low := (syms.filter fun e => e.1 = -1).map (·.2)
  let high := size - low.length
  let t := ((low.zip (List.range low.length)).foldl (fun (t : Array Nat) e => t.setIfInBounds (size - 1 - e.2) e.1)
    (Array.replicate size 0))
  let step := size / 2 + size / 8 + 3
  let r := syms.foldl (fun (x : Nat × Array Nat) e =>
    if 0 < e.1 then fseSpread (size - 1) step high e.2 e.1.toNat x.1 x.2 else x) (0, t)
  let next := (freq.map fun f => if f = -1 then 1 else f.toNat).toArray
  let b := (List.range size).foldl (fun (x : Array Nat × Array FseE) i =>
    let s := r.2.getD i 0
    let d := x.1.getD s 0
    let nb := al - Nat.log2 d
    (x.1.setIfInBounds s (d + 1), x.2.push { sym := s, nb, base := d * 2 ^ nb - size })) (next, #[])
  { al, t := b.2 }

/-- The repeat counts after a probability of 0: the probabilities grow by zeros; `fuel` bounds the 2-bit counts. -/
def fseZeros (n : Nat) : Nat → Nat → List Int → Nat × List Int
  | 0, p, fr => (p, fr)
  | fuel + 1, p, fr =>
    let r := n / 2 ^ p % 4
    if r = 3 then fseZeros n fuel (p + 2) (fr ++ [0, 0, 0]) else (p + 2, fr ++ List.replicate r 0)

/-- The probabilities of a table description: `rem` is left, bits of `n` are read from `p`; `fuel` bounds the symbols. -/
def fseFreqs (n : Nat) : Nat → Nat → Nat → List Int → Option (Nat × List Int)
  | 0, rem, p, fr => if rem = 0 then some (p, fr) else none
  | fuel + 1, rem, p, fr =>
    if rem = 0 then some (p, fr)
    else
      let k := Nat.log2 (rem + 1) + 1
      let v := n / 2 ^ p % 2 ^ k
      let lower := v % 2 ^ (k - 1)
      let thr := 2 ^ k - 1 - (rem + 1)
      let r := if lower < thr then (lower, p + k - 1)
        else if 2 ^ (k - 1) ≤ v then (v - thr, p + k) else (v, p + k)
      let pr : Int := (r.1 : Int) - 1
      let used := if pr < 0 then 1 else pr.toNat
      if rem < used then none
      else
        let z := if pr = 0 then fseZeros n 100 r.2 (fr ++ [0]) else (r.2, fr ++ [pr])
        fseFreqs n fuel (rem - used) z.1 z.2

/-- A table description at the start of a string: the table and the bytes it takes. -/
def fseParse (maxAl maxSym : Nat) (l : List Byte) : Option (Fse × Nat) :=
  let n := ofLE (l.take 300)
  let al := n % 16 + 5
  if maxAl < al then none
  else match fseFreqs n (maxSym + 1) (2 ^ al) 4 [] with
    | none => none
    | some (p, fr) => if fr.length > maxSym + 1 ∨ l.length < (p + 7) / 8 then none else some (fseBuild al fr, (p + 7) / 8)

/-- A Huffman table: its depth and, for every prefix of that many bits, the symbol and its length. -/
structure Huff where
  bits : Nat
  t : Array (Nat × Nat)

/-- The table from the weights of all symbols but the last. -/
def huffBuild (ws : List Nat) : Option Huff :=
  let sum := (ws.map fun w => if w = 0 then 0 else 2 ^ (w - 1)).sum
  if sum = 0 then none
  else
    let mb := Nat.log2 sum + 1
    let left := 2 ^ mb - sum
    let lw := Nat.log2 left + 1
    if 2 ^ (lw - 1) ≠ left ∨ 11 < mb then none
    else
      let ws := ws ++ [lw]
      let sy := ws.zip (List.range ws.length)
      some {
        bits := mb
        t := ((List.range mb).flatMap fun k =>
          (sy.filter fun e => e.1 = k + 1).flatMap fun e => List.replicate (2 ^ k) (e.2, mb - k)).toArray }

/-- Weights compressed with FSE: two states take turns; `fuel` bounds the symbols. -/
def huffWeights (f : Fse) : Nat → Nat → Nat → BackBits → List Nat → Option (List Nat)
  | 0, _, _, _, _ => none
  | fuel + 1, a, b, s, ws =>
    let e := f.get a
    let r := s.read e.nb
    let ws := ws ++ [e.sym]
    if r.2.pos < 0 then some (ws ++ [(f.get b).sym]) else huffWeights f fuel b (e.base + r.1) r.2 ws

/-- A Huffman table description: the table and the bytes it takes. -/
def huffParse (l : List Byte) : Option (Huff × Nat) :=
  match l with
  | [] => none
  | h :: t =>
    if 128 ≤ h.toNat then
      let n := h.toNat - 127
      if t.length < (n + 1) / 2 then none
      else
        let ws := (List.range n).map fun i => let b := (t.getD (i / 2) 0).toNat; if i % 2 = 0 then b / 16 else b % 16
        (huffBuild ws).map fun x => (x, 1 + (n + 1) / 2)
    else
      if t.length < h.toNat then none
      else
        let c := t.take h.toNat
        match fseParse 6 255 c with
        | none => none
        | some (f, k) => match backOpen (c.drop k) with
          | none => none
          | some s =>
            let x := s.read f.al
            let y := x.2.read f.al
            match huffWeights f 255 x.1 y.1 y.2 [] with
            | none => none
            | some ws => (huffBuild ws).map fun z => (z, 1 + h.toNat)

/-- The symbols of a Huffman stream, `n` of them; the stream must end exactly. -/
def huffDecode (h : Huff) : Nat → Nat → BackBits → List Byte → Option (List Byte)
  | 0, _, s, acc => if s.pos = -(h.bits : Int) then some acc.reverse else none
  | n + 1, st, s, acc =>
    let e := h.t.getD st (0, 0)
    let r := s.read e.2
    huffDecode h n ((st * 2 ^ e.2 + r.1) % 2 ^ h.bits) r.2 (BitVec.ofNat 8 e.1 :: acc)

/-- One Huffman stream of `n` symbols. -/
def huffStream (h : Huff) (n : Nat) (l : List Byte) : Option (List Byte) :=
  match backOpen l with
  | none => none
  | some s => let r := s.read h.bits; huffDecode h n r.1 r.2 []

/-! ### Compressed blocks -/

/-- What carries over from block to block of a Zstandard frame: the Huffman table, the three FSE tables (literal lengths,
offsets, match lengths) and the repeat offsets. -/
structure ZState where
  huff : Option Huff := none
  ll : Option Fse := none
  off : Option Fse := none
  ml : Option Fse := none
  rep : List Nat := [1, 4, 8]

/-- Literals of a block: the literals, the Huffman table afterwards and the bytes the section takes. -/
def zLiterals (z : ZState) (media : Bool) (l : List Byte) : Option (List Byte × Option Huff × Nat) :=
  let n := ofLE (l.take 5)
  let ty := n % 4
  let sf := n / 4 % 4
  if ty < 2 then
    let hd := if sf % 2 = 0 then 1 else if sf = 1 then 2 else 3
    let size := if sf % 2 = 0 then n / 8 % 32 else if sf = 1 then n / 16 % 2 ^ 12 else n / 16 % 2 ^ 20
    if l.length < hd + (if ty = 0 then size else 1) then none
    else if ty = 0 then some ((l.drop hd).take size, z.huff, hd + size)
    else some (List.replicate size (l.getD hd 0), z.huff, hd + 1)
  else if ty = 3 ∧ media then none
  else
    let hd := if sf < 2 then 3 else if sf = 2 then 4 else 5
    let w := if sf < 2 then 10 else if sf = 2 then 14 else 18
    let size := n / 16 % 2 ^ w
    let comp := n / 2 ^ (4 + w) % 2 ^ w
    if l.length < hd + comp then none
    else
      let c := (l.drop hd).take comp
      let ht : Option (Huff × Nat) := if ty = 2 then huffParse c else z.huff.map fun h => (h, 0)
      match ht with
      | none => none
      | some (h, k) =>
        let d := c.drop k
        let lits : Option (List Byte) :=
          if sf = 0 then huffStream h size d
          else
            let s1 := leAt d 0 2
            let s2 := leAt d 2 2
            let s3 := leAt d 4 2
            let each := (size + 3) / 4
            if d.length < 6 + s1 + s2 + s3 ∨ size < 3 * each then none
            else
              let e := d.drop 6
              match huffStream h each (e.take s1), huffStream h each ((e.drop s1).take s2),
                  huffStream h each ((e.drop (s1 + s2)).take s3), huffStream h (size - 3 * each) (e.drop (s1 + s2 + s3)) with
              | some a, some b, some x, some y => some (a ++ b ++ x ++ y)
              | _, _, _, _ => none
        lits.map fun x => (x, some h, hd + comp)

/-- Baselines and extra bits of literal-length codes from 16, and of match-length codes from 32. -/
def llCodes : List (Nat × Nat) :=
  [(16, 1), (18, 1), (20, 1), (22, 1), (24, 2), (28, 2), (32, 3), (40, 3), (48, 4), (64, 6), (128, 7), (256, 8), (512, 9),
   (1024, 10), (2048, 11), (4096, 12), (8192, 13), (16384, 14), (32768, 15), (65536, 16)]
def mlCodes : List (Nat × Nat) :=
  [(35, 1), (37, 1), (39, 1), (41, 1), (43, 2), (47, 2), (51, 3), (59, 3), (67, 4), (83, 4), (99, 5), (131, 7), (259, 8),
   (515, 9), (1027, 10), (2051, 11), (4099, 12), (8195, 13), (16387, 14), (32771, 15), (65539, 16)]

/-- The default tables. -/
def llDefault : Fse := fseBuild 6
  ([4, 3, 2, 2, 2, 2, 2, 2, 2, 2, 2, 2, 2, 1, 1, 1, 2, 2, 2, 2, 2, 2, 2, 2, 2, 3, 2, 1, 1, 1, 1, 1] ++ List.replicate 4 (-1))
def offDefault : Fse := fseBuild 5
  ([1, 1, 1, 1, 1, 1, 2, 2, 2] ++ List.replicate 15 1 ++ List.replicate 5 (-1))
def mlDefault : Fse := fseBuild 6
  ([1, 4, 3, 2, 2, 2, 2, 2, 2] ++ List.replicate 37 1 ++ List.replicate 7 (-1))

/-- A sequence table by its mode: 0 predefined, 1 one symbol, 2 described, 3 the one before. -/
def seqTable (mode : Nat) (dflt : Fse) (maxAl maxSym : Nat) (old : Option Fse) (media : Bool) (l : List Byte) : Option (Fse × Nat) :=
  if mode = 0 then some (dflt, 0)
  else if mode = 1 then
    match l with
    | [] => none
    | b :: _ => if maxSym < b.toNat then none else some ({ al := 0, t := #[{ sym := b.toNat }] }, 1)
  else if mode = 2 then fseParse maxAl maxSym l
  else if media then none else old.map fun f => (f, 0)

/-- Copy `n` bytes from `off` back. -/
def copyBack (off : Nat) : Nat → Array Byte → Array Byte
  | 0, o => o
  | n + 1, o => copyBack off n (o.push (o.getD (o.size - off) 0))

/-- The decoder of sequences: output, literals left, repeat offsets. -/
structure SeqS where
  out : Array Byte
  lits : List Byte
  rep : List Nat

/-- One sequence with literal length, match length and offset value (RFC 8878, 3.1.1.5); `limit` bounds the reach of a
match. -/
def SeqS.apply (q : SeqS) (limit ll ml v : Nat) : Option SeqS :=
  let r0 := q.rep.getD 0 1
  let r1 := q.rep.getD 1 4
  let r2 := q.rep.getD 2 8
  let k := v - 1 + (if ll = 0 then 1 else 0)
  let x : Nat × List Nat :=
    if 3 < v then (v - 3, [v - 3, r0, r1])
    else if k = 0 then (r0, q.rep)
    else if k = 1 then (r1, [r1, r0, r2])
    else if k = 2 then (r2, [r2, r0, r1])
    else (r0 - 1, [r0 - 1, r0, r1])
  if q.lits.length < ll then none
  else
    let out := q.out ++ (q.lits.take ll).toArray
    if x.1 = 0 ∨ out.size < x.1 ∨ limit < x.1 then none
    else some { out := copyBack x.1 ml out, lits := q.lits.drop ll, rep := x.2 }

/-- The sequences of a block. -/
def zSeqs (lt ot mt : Fse) (limit : Nat) : Nat → Nat → Nat → Nat → BackBits → SeqS → Option SeqS
  | 0, _, _, _, s, q => if s.pos = 0 then some q else none
  | n + 1, a, b, c, s, q =>
    let le := lt.get a
    let oe := ot.get b
    let me := mt.get c
    if 31 < oe.sym then none
    else
      let o := s.read oe.sym
      let mc := if me.sym < 32 then (me.sym + 3, 0) else mlCodes.getD (me.sym - 32) (0, 0)
      let m := o.2.read mc.2
      let lc := if le.sym < 16 then (le.sym, 0) else llCodes.getD (le.sym - 16) (0, 0)
      let l := m.2.read lc.2
      match q.apply limit (lc.1 + l.1) (mc.1 + m.1) (2 ^ oe.sym + o.1) with
      | none => none
      | some q =>
        if n = 0 then (if l.2.pos = 0 then some q else none)
        else
          let x := l.2.read le.nb
          let y := x.2.read me.nb
          let w := y.2.read oe.nb
          zSeqs lt ot mt limit n (le.base + x.1) (oe.base + w.1) (me.base + y.1) w.2 q

/-- A Compressed_Block's content after `out`: the output and what carries over. `media` sets the limits of 07 R280. -/
def zBlock (z : ZState) (media : Bool) (limit : Nat) (out : Array Byte) (c : List Byte) : Option (Array Byte × ZState) :=
  let z := if media then {} else z
  match zLiterals z media c with
  | none => none
  | some (lits, hf, k) =>
    let d := c.drop k
    match d with
    | [] => none
    | b0 :: _ =>
      let n0 := b0.toNat
      let hn : Nat × Nat := if n0 < 128 then (n0, 1) else if n0 < 255 then ((n0 - 128) * 256 + (d.getD 1 0).toNat, 2)
        else ((d.getD 1 0).toNat + 256 * (d.getD 2 0).toNat + 0x7F00, 3)
      if hn.1 = 0 then
        if d.length = 1 then some (out ++ lits.toArray, { z with huff := hf }) else none
      else
        let mode := (d.getD hn.2 0).toNat
        let e := d.drop (hn.2 + 1)
        if d.length < hn.2 + 1 ∨ mode % 4 ≠ 0 then none
        else match seqTable (mode / 64) llDefault 9 35 z.ll media e with
        | none => none
        | some (lt, k1) => match seqTable (mode / 16 % 4) offDefault 8 31 z.off media (e.drop k1) with
          | none => none
          | some (ot, k2) => match seqTable (mode / 4 % 4) mlDefault 9 52 z.ml media (e.drop (k1 + k2)) with
            | none => none
            | some (mt, k3) => match backOpen (e.drop (k1 + k2 + k3)) with
              | none => none
              | some s =>
                let a := s.read lt.al
                let b := a.2.read ot.al
                let m := b.2.read mt.al
                match zSeqs lt ot mt limit hn.1 a.1 b.1 m.1 m.2 { out, lits, rep := z.rep } with
                | none => none
                | some q => some (q.out ++ q.lits.toArray, { huff := hf, ll := some lt, off := some ot, ml := some mt, rep := q.rep })

/-! ### Media chunks (07 R278 to R281) -/

/-- The blocks of a pleated payload after `out`; `fuel` bounds them. -/
def mediaBlocks : Nat → Array Byte → List Byte → Option (Array Byte)
  | 0, _, _ => none
  | fuel + 1, out, l =>
    if l.length < 8 then none
    else
      let h := leAt l 0 8
      let stored := bits h 24 8
      let orig := bits h 41 25
      let c := (l.drop 8).take stored
      let rest := l.drop (8 + stored)
      if bits h 7 3 ≠ 0 ∨ bits h 63 42 ≠ 0 ∨ 65536 < stored ∨ orig = 0 ∨ 16384 < orig ∨ c.length < stored then none
      else
        let o : Option (Array Byte) := match h % 4 with
          | 0 => if stored = orig then some (out ++ c.toArray) else none
          | 1 => (zBlock {} true 65535 out c).map (·.1)
          | 2 => if stored = 1 then some (out ++ (List.replicate orig (c.getD 0 0)).toArray) else none
          | _ => none
        match o with
        | none => none
        | some o =>
          if o.size ≠ out.size + orig then none
          else if bitOf h 2 then (if rest.isEmpty then some o else none)
          else mediaBlocks fuel o rest

/-- A media chunk's header: original and stored lengths, method and check value, or none where it is malformed. -/
structure MediaHdr where
  method : Nat
  orig : Nat
  stored : Nat
  crc : Nat

/-- Read the 16-byte header (07 R278). -/
def mediaHdr (l : List Byte) : Option MediaHdr :=
  let h : MediaHdr := { method := leAt l 3 1, orig := leAt l 4 4, stored := leAt l 8 4, crc := leAt l 12 4 }
  if l.length < 16 ∨ leAt l 0 2 ≠ 0x7C1E ∨ leAt l 2 1 ≠ 1 ∨ 1 < h.method ∨ h.orig = 0 ∨ 65536 < h.orig ∨
      (h.method = 0 ∧ h.stored ≠ h.orig) then none
  else some h

/-- A media chunk's header as bytes. -/
def MediaHdr.bytes (h : MediaHdr) : List Byte :=
  leBytes 2 0x7C1E ++ [1] ++ leBytes 1 h.method ++ leBytes 4 h.orig ++ leBytes 4 h.stored ++ leBytes 4 h.crc

/-- The original bytes of a chunk whose header is `h` and whose payload is `p`. -/
def mediaBody (h : MediaHdr) (p : List Byte) : Option (List Byte) :=
  if h.method = 0 then some p
  else match mediaBlocks (p.length / 8 + 1) #[] p with
    | none => none
    | some o => if o.size = h.orig then some o.toList else none

/-! ### Zstandard frames (07 R287, R288) -/

/-- What decoding frames has found: output, the XXH64 of the last frame ended, its stored checksum, and what went wrong:
0 nothing, 1 a bad header, 2 a bad block. -/
structure ZOut where
  out : List Byte := []
  xxh : Nat := 0
  stored : Nat := 0
  err : Nat := 0

/-- The blocks of one frame from its content: output, the bytes taken; `fuel` bounds the blocks. -/
def zFrameBlocks : Nat → ZState → Nat → Array Byte → List Byte → Nat → Option (Array Byte × Nat)
  | 0, _, _, _, _, _ => none
  | fuel + 1, z, win, out, l, k =>
    if l.length < 3 then none
    else
      let h := leAt l 0 3
      let size := h / 8
      let ty := h / 2 % 4
      let n := if ty = 1 then 1 else size
      let c := (l.drop 3).take n
      if c.length < n ∨ min win 131072 < (if ty = 2 then 0 else size) ∨ 131072 < size then none
      else
        let r : Option (Array Byte × ZState) := match ty with
          | 0 => some (out ++ c.toArray, z)
          | 1 => some (out ++ (List.replicate size (c.getD 0 0)).toArray, z)
          | 2 => zBlock z false win out c
          | _ => none
        match r with
        | none => none
        | some (o, z) =>
          if 131072 < o.size - out.size then none
          else if h % 2 = 1 then some (o, k + 3 + n) else zFrameBlocks fuel z win o (l.drop (3 + n)) (k + 3 + n)

/-- Concatenated frames; skippable frames are passed over; `fuel` bounds the frames. -/
def zFrames : Nat → ZOut → List Byte → ZOut
  | 0, z, _ => z
  | fuel + 1, z, l =>
    if l.isEmpty then z
    else
      let magic := leAt l 0 4
      if magic / 16 = 0x184D2A5 then
        if l.length < 8 + leAt l 4 4 then { z with err := 1 } else zFrames fuel z (l.drop (8 + leAt l 4 4))
      else if magic ≠ 0xFD2FB528 ∨ l.length < 6 then { z with err := 1 }
      else
        let d := leAt l 4 1
        let ss := bitOf d 5
        let didN := [0, 1, 2, 4].getD (d % 4) 0
        let fcsN := [if ss then 1 else 0, 2, 4, 8].getD (d / 64) 0
        let p := if ss then 5 else 6
        let fcs := leAt l (p + didN) fcsN + (if fcsN = 2 then 256 else 0)
        let wd := leAt l 5 1
        let win := if ss then fcs else 2 ^ (10 + wd / 8) + 2 ^ (10 + wd / 8) / 8 * (wd % 8)
        if bitOf d 3 || decide (8 * 2 ^ 20 < win) || leAt l p didN != 0 || decide (l.length < p + didN + fcsN) then { z with err := 1 }
        else
          let body := l.drop (p + didN + fcsN)
          match zFrameBlocks (body.length / 3 + 1) {} win #[] body 0 with
          | none => { z with err := 2 }
          | some (o, k) =>
            let ck := bitOf d 2
            if (fcsN ≠ 0 ∧ o.size ≠ fcs) ∨ (ck ∧ body.length < k + 4) then { z with err := 2 }
            else
              let z := { z with
                out := z.out ++ o.toList
                xxh := xxh64 o.toList % 2 ^ 32
                stored := if ck then leAt body k 4 else 0 }
              zFrames fuel z (body.drop (k + if ck then 4 else 0))

/-- Decode a string of frames. -/
def zDecode (l : List Byte) : ZOut := zFrames (l.length / 6 + 1) {} l

end Sys2Proof.Machine
end

