-- ==== Sys2Proof/Machine/Aes.lean ====
section
/-! DEFINITION. Arithmetic in GF(2^8), AES-256 (FIPS 197) and Cipher's modes: GCM (SP 800-38D), XTS (IEEE 1619), CTR (SP 800-38A)
and key wrap (SP 800-38F) (07 R293 to R297, R303). -/
namespace Sys2Proof.Machine

/-- The product of two polynomials over GF(2) modulo `poly` (of degree 8), over the low `n` bits of `b`. -/
def gfMulN (poly : Nat) : Nat → Nat → Nat → Nat
  | 0, _, _ => 0
  | n + 1, a, b =>
    (if b % 2 = 1 then a else 0) ^^^ gfMulN poly n (if a < 128 then 2 * a else (2 * a) ^^^ poly) (b / 2)

/-- The product in GF(2^8) modulo `poly`. -/
def gfMul (poly a b : Nat) : Nat := gfMulN poly 8 a b

/-- The inverse in GF(2^8) modulo `poly`, a^254; 0 for 0. -/
def gfInv (poly a : Nat) : Nat :=
  let a2 := gfMul poly a a
  let a4 := gfMul poly a2 a2
  let a8 := gfMul poly a4 a4
  let a16 := gfMul poly a8 a8
  let a32 := gfMul poly a16 a16
  let a64 := gfMul poly a32 a32
  let a128 := gfMul poly a64 a64
  gfMul poly (gfMul poly (gfMul poly a2 a4) (gfMul poly a8 a16)) (gfMul poly (gfMul poly a32 a64) a128)

/-- Left rotation of a byte. -/
def rotl8 (a n : Nat) : Nat := (a * 2 ^ n ||| a / 2 ^ (8 - n)) % 256

/-- The AES S-box and its inverse. -/
def sbox (a : Nat) : Nat :=
  let i := gfInv 0x11B a
  i ^^^ rotl8 i 1 ^^^ rotl8 i 2 ^^^ rotl8 i 3 ^^^ rotl8 i 4 ^^^ 0x63
def sboxInv (a : Nat) : Nat := gfInv 0x11B (rotl8 a 1 ^^^ rotl8 a 3 ^^^ rotl8 a 6 ^^^ 5)

/-- XOR of two lists of numbers. -/
def xorN (a b : List Nat) : List Nat := a.zipWith (· ^^^ ·) b

/-- The words of the key schedule after the first eight, newest first: `n` more, `i` the next one's index. -/
def aesExpand : Nat → Nat → Nat → List (List Nat) → List (List Nat)
  | 0, _, _, ws => ws
  | n + 1, i, rcon, ws =>
    let t := ws.getD 0 []
    let t' := if i % 8 = 0 then
        match t with
        | [a, b, c, d] => [sbox b ^^^ rcon, sbox c, sbox d, sbox a]
        | _ => t
      else if i % 8 = 4 then t.map sbox else t
    aesExpand n (i + 1) (if i % 8 = 0 then gfMul 0x11B rcon 2 else rcon) (xorN (ws.getD 7 []) t' :: ws)

/-- The fifteen round keys of a 32-byte key. -/
def aesKeys (key : List Byte) : List (List Nat) :=
  let k := (padTo 32 key).map (·.toNat)
  let ws := (List.range 8).map fun i => (k.drop (4 * i)).take 4
  let all := (aesExpand 52 8 1 ws.reverse).reverse
  (List.range 15).map fun r => ((all.drop (4 * r)).take 4).flatten

/-- Byte `i` of a block comes from byte `i + 4·k·(i mod 4)` (ShiftRows with k = 1; its inverse with k = 3). -/
def shiftRows (k : Nat) (b : List Nat) : List Nat := (List.range 16).map fun i => b.getD ((i + 4 * k * (i % 4)) % 16) 0

/-- MixColumns with the first row of its matrix. -/
def mixCols (m : List Nat) (b : List Nat) : List Nat :=
  (List.range 16).map fun i =>
    (List.range 4).foldl (fun x j => x ^^^ gfMul 0x11B (m.getD ((j + 4 - i % 4) % 4) 0) (b.getD (i / 4 * 4 + j) 0)) 0

/-- AES-256 on one block. -/
def aesEnc (key blk : List Byte) : List Byte :=
  let ks := aesKeys key
  let b := xorN ((padTo 16 blk).map (·.toNat)) (ks.getD 0 [])
  let b := (List.range 13).foldl (fun b r => xorN (mixCols [2, 3, 1, 1] (shiftRows 1 (b.map sbox))) (ks.getD (r + 1) [])) b
  (xorN (shiftRows 1 (b.map sbox)) (ks.getD 14 [])).map (BitVec.ofNat 8)

/-- The inverse of AES-256 on one block. -/
def aesDec (key blk : List Byte) : List Byte :=
  let ks := aesKeys key
  let b := (shiftRows 3 (xorN ((padTo 16 blk).map (·.toNat)) (ks.getD 14 []))).map sboxInv
  let b := (List.range 13).foldl (fun b r =>
    (shiftRows 3 (mixCols [14, 11, 13, 9] (xorN b (ks.getD (13 - r) [])))).map sboxInv) b
  (xorN b (ks.getD 0 [])).map (BitVec.ofNat 8)

/-- A key's check value (07 R299), byte 0 of the encrypted zero block as the high byte. -/
def kcvOf (key : List Byte) : Nat := ofBE ((aesEnc key []).take 3)

/-- The keystream of counter blocks from `ctr`, `n` blocks: the counter's low `w` bits count (big-endian). -/
def ctrStream (key : List Byte) (w : Nat) : Nat → Nat → List Byte
  | 0, _ => []
  | n + 1, c => aesEnc key (beBytes 16 c) ++ ctrStream key w n (c / 2 ^ w * 2 ^ w + (c + 1) % 2 ^ w)

/-- CTR (07 R295): the whole 128-bit block counts. -/
def aesCtr (key iv data : List Byte) : List Byte := xorB data (ctrStream key 128 ((data.length + 15) / 16) (ofBE iv))

/-- Multiplication of GHASH: `v` runs through the multiples of the second factor, the bits of the first from its top. -/
def ghashMul : Nat → Nat → Nat → Nat → Nat
  | 0, _, _, z => z
  | n + 1, x, v, z =>
    ghashMul n x (if v % 2 = 1 then (v / 2) ^^^ (0xE1 * 2 ^ 120) else v / 2) (if bitOf x n then z ^^^ v else z)

/-- GHASH of a string of whole blocks, `n` blocks. -/
def ghash (h : Nat) : Nat → List Byte → Nat → Nat
  | 0, _, y => y
  | n + 1, l, y => ghash h n (l.drop 16) (ghashMul 128 (y ^^^ ofBE (sliceB l 0 16)) h 0)

/-- A string filled up to whole blocks. -/
def pad16 (l : List Byte) : List Byte := padTo (roundUp l.length 16) l

/-- The GCM tag of a ciphertext. -/
def gcmTag (key nonce aad c : List Byte) : List Byte :=
  let l := pad16 aad ++ pad16 c ++ beBytes 8 (8 * aad.length) ++ beBytes 8 (8 * c.length)
  let y := ghash (ofBE (aesEnc key [])) (l.length / 16) l 0
  xorB (beBytes 16 y) (aesEnc key (nonce ++ beBytes 4 1))

/-- GCM's cipher, either direction: counter 2 onward. -/
def gcmCrypt (key nonce data : List Byte) : List Byte :=
  xorB data (ctrStream key 32 ((data.length + 15) / 16) (ofBE (nonce ++ beBytes 4 2)))

/-- The next XTS tweak: times x in GF(2^128), little-endian. -/
def xtsNext (t : Nat) : Nat := ((2 * t) % 2 ^ 128) ^^^ (if 2 ^ 127 ≤ t then 0x87 else 0)

/-- One block of XTS. -/
def xtsBlock (enc : Bool) (key : List Byte) (t : Nat) (b : List Byte) : List Byte :=
  let tw := leBytes 16 t
  xorB ((if enc then aesEnc else aesDec) key (xorB b tw)) tw

/-- The blocks of a data unit, the last two with ciphertext stealing when the unit is not whole blocks; `n` bounds the
blocks. -/
def xtsBlocks (enc : Bool) (key : List Byte) : Nat → Nat → List Byte → List Byte
  | 0, _, _ => []
  | n + 1, t, l =>
    if l.length < 16 then []
    else if l.length = 16 then xtsBlock enc key t l
    else if 32 ≤ l.length then xtsBlock enc key t (l.take 16) ++ xtsBlocks enc key n (xtsNext t) (l.drop 16)
    else
      let r := l.length - 16
      let ta := if enc then t else xtsNext t
      let tb := if enc then xtsNext t else t
      let c := xtsBlock enc key ta (l.take 16)
      xtsBlock enc key tb (l.drop 16 ++ c.drop r) ++ c.take r

/-- XTS of one data unit whose tweak number is `tw` (07 R294). -/
def xtsUnit (enc : Bool) (key key2 : List Byte) (tw : Nat) (l : List Byte) : List Byte :=
  xtsBlocks enc key (l.length / 16 + 1) (ofLE (aesEnc key2 (leBytes 16 (tw % 2 ^ 128)))) l

/-- The six rounds of key wrap over registers R, `i` counting steps. -/
def kwStep (key : List Byte) (a : Nat) (r : List (List Byte)) (j t : Nat) : Nat × List (List Byte) :=
  let b := aesEnc key (beBytes 8 a ++ r.getD j [])
  (ofBE (b.take 8) ^^^ t, r.set j (b.drop 8))

/-- AES key wrap of a 32-byte key: 40 bytes. -/
def kwWrap (kek key : List Byte) : List Byte :=
  let r := (List.range 4).map fun i => sliceB key (8 * i) 8
  let e := (List.range 24).foldl (fun (x : Nat × List (List Byte)) i => kwStep kek x.1 x.2 (i % 4) (i + 1)) (0xA6A6A6A6A6A6A6A6, r)
  beBytes 8 e.1 ++ e.2.flatten

/-- AES key unwrap of 40 bytes: the key, if the integrity check holds. -/
def kwUnwrap (kek w : List Byte) : Option (List Byte) :=
  let r := (List.range 4).map fun i => sliceB w (8 + 8 * i) 8
  let e := (List.range 24).foldl (fun (x : Nat × List (List Byte)) i =>
    let j := 3 - i % 4
    let b := aesDec kek (beBytes 8 (x.1 ^^^ (24 - i)) ++ x.2.getD j [])
    (ofBE (b.take 8), x.2.set j (b.drop 8))) (ofBE (w.take 8), r)
  if e.1 = 0xA6A6A6A6A6A6A6A6 then some e.2.flatten else none

end Sys2Proof.Machine
end

