-- ==== Sys2Proof/Machine/Digest.lean ====
section
/-! DEFINITION. The digests Hallmark computes (06 R231, R238): SHA-256 and SHA-512/256 per FIPS 180-4, SHA3-256 per FIPS 202,
and HMAC per RFC 2104. -/
namespace Sys2Proof.Machine

/-- Big-endian words of `n` bytes of a byte string. -/
def wordsBE (n : Nat) : Nat → List Byte → List Nat
  | 0, _ => []
  | k + 1, l => ofBE (sliceB l 0 n) :: wordsBE n k (l.drop n)

/-- The round constants of FIPS 180-4: those of SHA-256 are the high halves of the first 64. -/
def shaK : List Nat :=
  [0x428A2F98D728AE22, 0x7137449123EF65CD, 0xB5C0FBCFEC4D3B2F, 0xE9B5DBA58189DBBC, 0x3956C25BF348B538,
   0x59F111F1B605D019, 0x923F82A4AF194F9B, 0xAB1C5ED5DA6D8118, 0xD807AA98A3030242, 0x12835B0145706FBE,
   0x243185BE4EE4B28C, 0x550C7DC3D5FFB4E2, 0x72BE5D74F27B896F, 0x80DEB1FE3B1696B1, 0x9BDC06A725C71235,
   0xC19BF174CF692694, 0xE49B69C19EF14AD2, 0xEFBE4786384F25E3, 0x0FC19DC68B8CD5B5, 0x240CA1CC77AC9C65,
   0x2DE92C6F592B0275, 0x4A7484AA6EA6E483, 0x5CB0A9DCBD41FBD4, 0x76F988DA831153B5, 0x983E5152EE66DFAB,
   0xA831C66D2DB43210, 0xB00327C898FB213F, 0xBF597FC7BEEF0EE4, 0xC6E00BF33DA88FC2, 0xD5A79147930AA725,
   0x06CA6351E003826F, 0x142929670A0E6E70, 0x27B70A8546D22FFC, 0x2E1B21385C26C926, 0x4D2C6DFC5AC42AED,
   0x53380D139D95B3DF, 0x650A73548BAF63DE, 0x766A0ABB3C77B2A8, 0x81C2C92E47EDAEE6, 0x92722C851482353B] ++
  [0xA2BFE8A14CF10364, 0xA81A664BBC423001, 0xC24B8B70D0F89791, 0xC76C51A30654BE30, 0xD192E819D6EF5218,
   0xD69906245565A910, 0xF40E35855771202A, 0x106AA07032BBD1B8, 0x19A4C116B8D2D0C8, 0x1E376C085141AB53,
   0x2748774CDF8EEB99, 0x34B0BCB5E19B48A8, 0x391C0CB3C5C95A63, 0x4ED8AA4AE3418ACB, 0x5B9CCA4F7763E373,
   0x682E6FF3D6B2B8A3, 0x748F82EE5DEFB2FC, 0x78A5636F43172F60, 0x84C87814A1F0AB72, 0x8CC702081A6439EC,
   0x90BEFFFA23631E28, 0xA4506CEBDE82BDE9, 0xBEF9A3F7B2C67915, 0xC67178F2E372532B, 0xCA273ECEEA26619C,
   0xD186B8C721C0C207, 0xEADA7DD6CDE0EB1E, 0xF57D4F7FEE6ED178, 0x06F067AA72176FBA, 0x0A637DC5A2C898A6,
   0x113F9804BEF90DAE, 0x1B710B35131C471B, 0x28DB77F523047D84, 0x32CAAB7B40C72493, 0x3C9EBE0A15C9BEBC,
   0x431D67C49C100D4C, 0x4CC5D4BECB3E42B6, 0x597F299CFC657E2A, 0x5FCB6FAB3AD6FAEC, 0x6C44198C4A475817]

/-- A member of the family of FIPS 180-4: word width, rounds, and the shift counts of Σ0, Σ1, σ0 and σ1 (a σ's last is a
shift). -/
structure Sha where
  w : Nat
  rounds : Nat
  r : List Nat
  iv : List Nat

/-- SHA-256. -/
def sha256P : Sha :=
  { w := 32, rounds := 64, r := [2, 13, 22, 6, 11, 25, 7, 18, 3, 17, 19, 10],
    iv := [0x6A09E667, 0xBB67AE85, 0x3C6EF372, 0xA54FF53A,
   0x510E527F, 0x9B05688C, 0x1F83D9AB, 0x5BE0CD19] }

/-- SHA-512/256. -/
def sha512P : Sha :=
  { w := 64, rounds := 80, r := [28, 34, 39, 14, 18, 41, 1, 8, 7, 19, 61, 6],
    iv := [0x22312194FC2BF72C, 0x9F555FA3C84C64C2, 0x2393B86B6F53B151, 0x963877195940EABD,
   0x96283EE2A88EFFE3, 0xBE5E1E2553863992, 0x2B0199FC2C85B8AA, 0x0EB72DDC81C52CA2] }

/-- Right rotation in `w` bits. -/
def rotr (w x n : Nat) : Nat := (x / 2 ^ n) ||| (x * 2 ^ (w - n) % 2 ^ w)

/-- The XOR of three rotations, the counts from place `i` of the list; the third is a shift for a σ. -/
def Sha.mix (p : Sha) (i : Nat) (sh : Bool) (x : Nat) : Nat :=
  rotr p.w x (p.r.getD i 0) ^^^ rotr p.w x (p.r.getD (i + 1) 0) ^^^
    (if sh then x / 2 ^ p.r.getD (i + 2) 0 else rotr p.w x (p.r.getD (i + 2) 0))

/-- The message schedule, newest word first: `n` words beyond the block's sixteen. -/
def Sha.schedule (p : Sha) : Nat → List Nat → List Nat
  | 0, ws => ws
  | n + 1, ws =>
    p.schedule n ((p.mix 9 true (ws.getD 1 0) + ws.getD 6 0 + p.mix 6 true (ws.getD 14 0) + ws.getD 15 0) % 2 ^ p.w :: ws)

/-- One round. -/
def Sha.round (p : Sha) (v : List Nat) (kw : Nat × Nat) : List Nat :=
  match v with
  | [a, b, c, d, e, f, g, h] =>
    let t1 := h + p.mix 3 false e + ((e &&& f) ^^^ ((2 ^ p.w - 1 - e) &&& g)) + kw.1 + kw.2
    let t2 := p.mix 0 false a + ((a &&& b) ^^^ (a &&& c) ^^^ (b &&& c))
    [(t1 + t2) % 2 ^ p.w, a, b, c, (d + t1) % 2 ^ p.w, e, f, g]
  | _ => v

/-- The state after one block of `p.w * 2` bytes. -/
def Sha.block (p : Sha) (h : List Nat) (blk : List Byte) : List Nat :=
  let ws := (p.schedule (p.rounds - 16) (wordsBE (p.w / 8) 16 blk).reverse).reverse
  let ks := (shaK.take p.rounds).map fun k => k / 2 ^ (64 - p.w)
  (h.zip ((ks.zip ws).foldl p.round h)).map fun e => (e.1 + e.2) % 2 ^ p.w

/-- A string cut into pieces of `n` bytes; `fuel` bounds the number of pieces. -/
def chunksOf (n : Nat) : Nat → List Byte → List (List Byte)
  | 0, _ => []
  | fuel + 1, l => if l.isEmpty then [] else l.take n :: chunksOf n fuel (l.drop n)

/-- The padded message. -/
def Sha.pad (p : Sha) (m : List Byte) : List Byte :=
  let n := p.w * 2
  let lenB := p.w / 4
  let z := (2 * n - (m.length + 1 + lenB) % n) % n
  m ++ [0x80] ++ List.replicate z 0 ++ beBytes lenB (8 * m.length)

/-- The digest: the first 32 bytes of the final state. -/
def Sha.digest (p : Sha) (m : List Byte) : List Byte :=
  let l := p.pad m
  (((chunksOf (p.w * 2) (l.length) l).foldl p.block p.iv).flatMap fun x => beBytes (p.w / 8) x).take 32

/-- SHA-256. -/
def sha256 (m : List Byte) : List Byte := sha256P.digest m

/-- Round constants of Keccak-f[1600]. -/
def keccakRC : List Nat :=
  [0x0000000000000001, 0x0000000000008082, 0x800000000000808A, 0x8000000080008000, 0x000000000000808B,
   0x0000000080000001, 0x8000000080008081, 0x8000000000008009, 0x000000000000008A, 0x0000000000000088,
   0x0000000080008009, 0x000000008000000A, 0x000000008000808B, 0x800000000000008B, 0x8000000000008089,
   0x8000000000008003, 0x8000000000008002, 0x8000000000000080, 0x000000000000800A, 0x800000008000000A,
   0x8000000080008081, 0x8000000000008080, 0x0000000080000001, 0x8000000080008008]

/-- Rotation counts of Keccak's lanes, lane x + 5y. -/
def keccakRot : List Nat :=
  [0, 1, 62, 28, 27, 36, 44, 6, 55, 20, 3, 10, 43, 25, 39, 41, 45, 15, 21, 8, 18, 2, 61, 56, 14]

/-- One round of Keccak-f[1600] on 25 lanes. -/
def keccakRound (a : List Nat) (rc : Nat) : List Nat :=
  let c := (List.range 5).map fun x =>
    a.getD x 0 ^^^ a.getD (x + 5) 0 ^^^ a.getD (x + 10) 0 ^^^ a.getD (x + 15) 0 ^^^ a.getD (x + 20) 0
  let d := (List.range 5).map fun x => c.getD ((x + 4) % 5) 0 ^^^ rotr 64 (c.getD ((x + 1) % 5) 0) 63
  let t := (List.range 25).map fun i => a.getD i 0 ^^^ d.getD (i % 5) 0
  -- lane (X, Y) of the permuted state comes from lane (X + 3Y, X)
  let b := (List.range 25).map fun i =>
    let src := (i % 5 + 3 * (i / 5)) % 5 + 5 * (i % 5)
    rotr 64 (t.getD src 0) ((64 - keccakRot.getD src 0) % 64)
  let e := (List.range 25).map fun i =>
    let y := i / 5 * 5
    b.getD i 0 ^^^ ((2 ^ 64 - 1 - b.getD ((i + 1) % 5 + y) 0) &&& b.getD ((i + 2) % 5 + y) 0)
  match e with
  | h :: r => (h ^^^ rc) :: r
  | [] => []

/-- SHA3-256: rate 136 bytes. -/
def sha3 (m : List Byte) : List Byte :=
  let z := 136 - m.length % 136
  let l := if z = 1 then m ++ [0x86] else m ++ [0x06] ++ List.replicate (z - 2) 0 ++ [0x80]
  let st := (chunksOf 136 l.length l).foldl (fun a blk =>
    keccakRC.foldl keccakRound (a.zip (List.range 25) |>.map fun e => e.1 ^^^ leAt blk (8 * e.2) 8)) (List.replicate 25 0)
  (st.flatMap fun x => leBytes 8 x).take 32

/-- Hallmark's algorithms by their code: 0 SHA-256, 1 SHA-512/256, 2 SHA3-256 (06 R241). -/
def digestOf (alg : Nat) (m : List Byte) : List Byte :=
  if alg = 0 then sha256 m else if alg = 1 then sha512P.digest m else sha3 m

/-- The block size of an algorithm, for HMAC. -/
def digestBlock (alg : Nat) : Nat := if alg = 0 then 64 else if alg = 1 then 128 else 136

/-- HMAC with a key no longer than a block. -/
def hmac (alg : Nat) (key m : List Byte) : List Byte :=
  let k := padTo (digestBlock alg) key
  digestOf alg (k.map (· ^^^ 0x5C) ++ digestOf alg (k.map (· ^^^ 0x36) ++ m))

end Sys2Proof.Machine
end

