-- ==== Sys2Proof/Machine/Names.lean ====
section
/-! DEFINITION. The spec's own numbers under the spec's own names: page numbers (17 R653), register offsets
(each chapter's register table), Locket event codes, job status codes (00 R16), master IDs (01 R25). -/
namespace Sys2Proof

/-- First page number of each block (17 R653). -/

abbrev Pg.TOP : Nat := 0
abbrev Pg.THIMBLE : Nat := 1
abbrev Pg.SELVEDGE : Nat := 2
abbrev Pg.PWRSEQ : Nat := 3
abbrev Pg.MP : Nat := 4
abbrev Pg.SVC : Nat := 5
abbrev Pg.BEADC : Nat := 11
abbrev Pg.STRAND : Nat := 27
abbrev Pg.SPOOL : Nat := 28
abbrev Pg.SYSCACHE : Nat := 29
abbrev Pg.HBMC : Nat := 37
abbrev Pg.DDRC : Nat := 39
abbrev Pg.HALLMARK : Nat := 47
abbrev Pg.DEDUP : Nat := 48
abbrev Pg.PLEAT : Nat := 49
abbrev Pg.CIPHER : Nat := 50
abbrev Pg.QUILT : Nat := 51
abbrev Pg.MAPPER : Nat := 52
abbrev Pg.PATTERN : Nat := 53
abbrev Pg.STITCH : Nat := 54
abbrev Pg.PCIE : Nat := 58
abbrev Pg.ETH : Nat := 62
abbrev Pg.HOSTQ : Nat := 64
abbrev Pg.URT : Nat := 65
abbrev Pg.SEAM : Nat := 66
abbrev Pg.HEADPAIR : Nat := 68
abbrev Pg.CLASP : Nat := 69
abbrev Pg.LOCKET : Nat := 70
abbrev Pg.GTS : Nat := 71
abbrev Pg.BOOT : Nat := 72
abbrev Pg.MGMT : Nat := 73
abbrev Pg.SNAPREP : Nat := 74

/-- Job status codes (00 R16). -/
abbrev St.OK : Nat := 0x00
abbrev St.NO_GAIN : Nat := 0x01
abbrev St.OUT_FULL : Nat := 0x02
abbrev St.OUT_LIMIT : Nat := 0x03
abbrev St.BAD_INPUT : Nat := 0x04
abbrev St.TAG_FAIL : Nat := 0x05
abbrev St.NOT_OWNER : Nat := 0x06
abbrev St.ALREADY_FREE : Nat := 0x07
abbrev St.KEY_EMPTY : Nat := 0x08
abbrev St.AUTH_FAIL : Nat := 0x09
abbrev St.STALE_EPOCH : Nat := 0x0A
abbrev St.TIMEOUT : Nat := 0x0B
abbrev St.POISON : Nat := 0x0C
abbrev St.LOCKED : Nat := 0x0D
abbrev St.ABORTED_BY_RESET : Nat := 0x0E
abbrev St.NOT_READY : Nat := 0x0F
abbrev St.CHECK_ONLY_FIXED : Nat := 0x10
abbrev St.DIVERGENT : Nat := 0x11

/-- Master IDs (01 R25); ranges are named by their first value. -/
abbrev Ms.MP : Nat := 0x001
abbrev Ms.SVC : Nat := 0x010
abbrev Ms.STRAND : Nat := 0x040
abbrev Ms.HALLMARK : Nat := 0x080
abbrev Ms.PLEAT : Nat := 0x090
abbrev Ms.CIPHER : Nat := 0x0B0
abbrev Ms.QUILT : Nat := 0x0C0
abbrev Ms.DEDUP : Nat := 0x0C1
abbrev Ms.PATTERN : Nat := 0x0C2
abbrev Ms.MAPPER : Nat := 0x0C3
abbrev Ms.STITCH : Nat := 0x0C4
abbrev Ms.HOSTQ : Nat := 0x0C8
abbrev Ms.URT : Nat := 0x0C9
abbrev Ms.LOCKET : Nat := 0x0CA
abbrev Ms.STRANDLD : Nat := 0x0CB
abbrev Ms.JTAG : Nat := 0x0CC
abbrev Ms.SPOOL : Nat := 0x0CD
abbrev Ms.MODULE : Nat := 0x100
abbrev Ms.PARTNER : Nat := 0x200

/-- Offsets of the page header registers (17 R642). -/
abbrev Rg.PAGE_ID : Nat := 0x000
abbrev Rg.PAGE_CAPS : Nat := 0x004
abbrev Rg.PAGE_STATUS : Nat := 0x008
abbrev Rg.PAGE_CTRL : Nat := 0x00C
abbrev Rg.IRQ_STATUS : Nat := 0x010
abbrev Rg.IRQ_ENABLE : Nat := 0x014
abbrev Rg.IRQ_FORCE : Nat := 0x018
abbrev Rg.PAGE_LOCK : Nat := 0x01C
abbrev Rg.ERR_ADDR_LO : Nat := 0x020
abbrev Rg.ERR_ADDR_HI : Nat := 0x024
abbrev Rg.ERR_INFO : Nat := 0x028
abbrev Rg.GTS_SNAP_LO : Nat := 0x02C
abbrev Rg.GTS_SNAP_HI : Nat := 0x030

/-- Register offsets within their page; an array is named by its first register. -/
abbrev Rg.STRAND_LD_SEL : Nat := 0x100
abbrev Rg.STRAND_LD_SRC_LO : Nat := 0x104
abbrev Rg.STRAND_LD_SRC_HI : Nat := 0x108
abbrev Rg.STRAND_LD_LEN : Nat := 0x10C
abbrev Rg.STRAND_LD_OWNER : Nat := 0x110
abbrev Rg.STRAND_LD_CMD : Nat := 0x114
abbrev Rg.STRAND_LD_STATUS : Nat := 0x118
abbrev Rg.STRAND_DRAIN_LIMIT : Nat := 0x11C
abbrev Rg.STRAND_RUN_LO : Nat := 0x120
abbrev Rg.STRAND_RUN_HI : Nat := 0x124
abbrev Rg.STRAND_FAULT_LO : Nat := 0x128
abbrev Rg.STRAND_FAULT_HI : Nat := 0x12C
abbrev Rg.STRAND_VIEW_SEL : Nat := 0x130
abbrev Rg.STRAND_VIEW_INFO : Nat := 0x134
abbrev Rg.STRAND_VIEW_EPOCH : Nat := 0x138
abbrev Rg.STRAND_VIEW_FAMILY : Nat := 0x13C
abbrev Rg.STRAND_VIEW_VERSION : Nat := 0x140
abbrev Rg.STRAND_VIEW_XCHG_T : Nat := 0x144
abbrev Rg.STRAND_VIEW_XCHG_E : Nat := 0x148
abbrev Rg.STRAND_FREE_BEADS : Nat := 0x14C
abbrev Rg.BEADC_FAULT_LO : Nat := 0x100
abbrev Rg.BEADC_FAULT_HI : Nat := 0x104
abbrev Rg.BEADC_BEAD_SEL : Nat := 0x108
abbrev Rg.BEADC_BEAD_STATE : Nat := 0x10C
abbrev Rg.BEADC_FAULT_INFO : Nat := 0x110
abbrev Rg.BEADC_FAULT_GTS_LO : Nat := 0x114
abbrev Rg.BEADC_FAULT_GTS_HI : Nat := 0x118
abbrev Rg.BEADC_LINE_LEVEL_LO : Nat := 0x120
abbrev Rg.BEADC_LINE_LEVEL_HI : Nat := 0x124
abbrev Rg.BEADC_EVSEL : Nat := 0x200
abbrev Rg.HOSTQ_CFG : Nat := 0x100
abbrev Rg.HOSTQ_INFLIGHT : Nat := 0x104
abbrev Rg.HOSTQ_BP_STATUS : Nat := 0x108
abbrev Rg.HOSTQ_BP_COUNT : Nat := 0x10C
abbrev Rg.HOSTQ_CONN : Nat := 0x110
abbrev Rg.HOSTQ_QRESET : Nat := 0x114
abbrev Rg.HOSTQ_QRESET_STATUS : Nat := 0x118
abbrev Rg.HOSTQ_ANA_SEL : Nat := 0x11C
abbrev Rg.HOSTQ_ANA_STATE : Nat := 0x120
abbrev Rg.HOSTQ_ANA_CHGCNT : Nat := 0x124
abbrev Rg.HOSTQ_IDLE_P1 : Nat := 0x128
abbrev Rg.HOSTQ_IDLE_P2 : Nat := 0x12C
abbrev Rg.HOSTQ_IDLE_P3 : Nat := 0x130
abbrev Rg.HOSTQ_PWR_STATUS : Nat := 0x134
abbrev Rg.HOSTQ_ABORT_COUNT : Nat := 0x138
abbrev Rg.URT_CFG : Nat := 0x100
abbrev Rg.URT_UDP_PORT : Nat := 0x104
abbrev Rg.URT_TARGET_RTT : Nat := 0x108
abbrev Rg.URT_SEAM_TARGET_RTT : Nat := 0x10C
abbrev Rg.URT_CC_PARAMS : Nat := 0x110
abbrev Rg.URT_RTO_MIN : Nat := 0x114
abbrev Rg.URT_RETRY : Nat := 0x118
abbrev Rg.URT_FLOWS : Nat := 0x11C
abbrev Rg.URT_QPS : Nat := 0x120
abbrev Rg.URT_DROP_CRC : Nat := 0x124
abbrev Rg.URT_DROP_AUTH : Nat := 0x128
abbrev Rg.URT_DROP_EPOCH : Nat := 0x12C
abbrev Rg.URT_DROP_WINDOW : Nat := 0x130
abbrev Rg.URT_RETX : Nat := 0x134
abbrev Rg.URT_EQ_SEL : Nat := 0x138
abbrev Rg.URT_EQ_BASE_LO : Nat := 0x13C
abbrev Rg.URT_EQ_BASE_HI : Nat := 0x140
abbrev Rg.URT_EQ_CFG : Nat := 0x144
abbrev Rg.URT_EQ_HEAD : Nat := 0x148
abbrev Rg.URT_EQ_TAIL : Nat := 0x14C
abbrev Rg.URT_EQ_LOST : Nat := 0x150
abbrev Rg.URT_CTRL : Nat := 0x154
abbrev Rg.ETH_CFG : Nat := 0x100
abbrev Rg.ETH_MAC_LO : Nat := 0x104
abbrev Rg.ETH_MAC_HI : Nat := 0x108
abbrev Rg.ETH_MTU : Nat := 0x10C
abbrev Rg.ETH_PFC_PRIO : Nat := 0x110
abbrev Rg.ETH_LINK_STATUS : Nat := 0x114
abbrev Rg.ETH_FEC_CORR : Nat := 0x118
abbrev Rg.ETH_FEC_UNCORR : Nat := 0x11C
abbrev Rg.ETH_FEC_WARN : Nat := 0x120
abbrev Rg.ETH_RX_DROP : Nat := 0x124
abbrev Rg.ETH_DSCP : Nat := 0x128
abbrev Rg.SPOOL_CFG : Nat := 0x100
abbrev Rg.SPOOL_FREE_COUNT : Nat := 0x104
abbrev Rg.SPOOL_LOW_WATER : Nat := 0x108
abbrev Rg.SPOOL_ALLOC_CMD : Nat := 0x10C
abbrev Rg.SPOOL_FREE_OWNER : Nat := 0x110
abbrev Rg.SPOOL_FREE_CMD : Nat := 0x114
abbrev Rg.SPOOL_CMD_STATUS : Nat := 0x118
abbrev Rg.SPOOL_RING_SEL : Nat := 0x11C
abbrev Rg.SPOOL_RING_BASE_LO : Nat := 0x120
abbrev Rg.SPOOL_RING_BASE_HI : Nat := 0x124
abbrev Rg.SPOOL_RING_CFG : Nat := 0x128
abbrev Rg.SPOOL_RING_PI : Nat := 0x12C
abbrev Rg.SPOOL_RING_CI : Nat := 0x130
abbrev Rg.SPOOL_CRING_BASE : Nat := 0x134
abbrev Rg.SPOOL_REFUSALS : Nat := 0x138
abbrev Rg.SPOOL_POISON_COUNT : Nat := 0x13C
abbrev Rg.SPOOL_PAGE_SEL : Nat := 0x140
abbrev Rg.SPOOL_PAGE_INFO : Nat := 0x144
abbrev Rg.SPOOL_PAGE_WRITTEN_LO : Nat := 0x148
abbrev Rg.SPOOL_PAGE_WRITTEN_HI : Nat := 0x14C
abbrev Rg.SPOOL_CRING_HEAD : Nat := 0x800
abbrev Rg.SPOOL_CRING_TAIL : Nat := 0x804
abbrev Rg.SPOOL_CRING_STALLS : Nat := 0x808
abbrev Rg.SPOOL_CRING_IRQ_LO : Nat := 0x810
abbrev Rg.SPOOL_CRING_IRQ_HI : Nat := 0x814
abbrev Rg.SYSCACHE_P2_CFG : Nat := 0x100
abbrev Rg.SYSCACHE_ERR_CFG : Nat := 0x104
abbrev Rg.SYSCACHE_WAY_DIS : Nat := 0x110
abbrev Rg.SYSCACHE_SLICE_STATUS : Nat := 0x120
abbrev Rg.SYSCACHE_CORR : Nat := 0x130
abbrev Rg.SYSCACHE_UNCORR : Nat := 0x134
abbrev Rg.SYSCACHE_HITS : Nat := 0x138
abbrev Rg.SYSCACHE_MISSES : Nat := 0x13C
abbrev Rg.HBMC_STATUS : Nat := 0x100
abbrev Rg.HBMC_PC_FAILED : Nat := 0x104
abbrev Rg.HBMC_PC_RETIRE : Nat := 0x108
abbrev Rg.HBMC_TEMP : Nat := 0x10C
abbrev Rg.HBMC_SCRUB_PERIOD : Nat := 0x110
abbrev Rg.HBMC_UNCORR_LIMIT : Nat := 0x114
abbrev Rg.HBMC_CORR : Nat := 0x118
abbrev Rg.HBMC_UNCORR : Nat := 0x11C
abbrev Rg.HBMC_CHKFIX : Nat := 0x120
abbrev Rg.HBMC_TAGFAIL : Nat := 0x124
abbrev Rg.DDRC_MAP_CFG : Nat := 0x100
abbrev Rg.DDRC_STATUS : Nat := 0x104
abbrev Rg.DDRC_FAIL : Nat := 0x108
abbrev Rg.DDRC_TEMP : Nat := 0x10C
abbrev Rg.DDRC_SCRUB_PERIOD : Nat := 0x110
abbrev Rg.DDRC_UNCORR_LIMIT : Nat := 0x114
abbrev Rg.DDRC_CORR : Nat := 0x118
abbrev Rg.DDRC_UNCORR : Nat := 0x11C
abbrev Rg.DDRC_CHKFIX : Nat := 0x120
abbrev Rg.DDRC_TAGFAIL : Nat := 0x124
abbrev Rg.HALLMARK_CFG : Nat := 0x100
abbrev Rg.HALLMARK_RING_SEL : Nat := 0x104
abbrev Rg.HALLMARK_RING_BASE_LO : Nat := 0x108
abbrev Rg.HALLMARK_RING_BASE_HI : Nat := 0x10C
abbrev Rg.HALLMARK_RING_CFG : Nat := 0x110
abbrev Rg.HALLMARK_RING_PI : Nat := 0x114
abbrev Rg.HALLMARK_RING_CI : Nat := 0x118
abbrev Rg.HALLMARK_CRING_BASE : Nat := 0x11C
abbrev Rg.HALLMARK_CTX_FREE : Nat := 0x120
abbrev Rg.HALLMARK_LW_CTX : Nat := 0x124
abbrev Rg.HALLMARK_LW_DATA : Nat := 0x128
abbrev Rg.HALLMARK_LW_VALID_BYTES : Nat := 0x148
abbrev Rg.HALLMARK_LW_CMD : Nat := 0x14C
abbrev Rg.HALLMARK_LW_RESULT : Nat := 0x150
abbrev Rg.HALLMARK_LW_STATUS : Nat := 0x170
abbrev Rg.HALLMARK_SEAL_SEL : Nat := 0x174
abbrev Rg.HALLMARK_SEAL_EXP : Nat := 0x178
abbrev Rg.HALLMARK_SEAL_STATUS : Nat := 0x198
abbrev Rg.HALLMARK_BYTES_LO : Nat := 0x19C
abbrev Rg.HALLMARK_BYTES_HI : Nat := 0x1A0
abbrev Rg.HALLMARK_CATCHUP_BYTES : Nat := 0x1A4
abbrev Rg.HALLMARK_CRING_HEAD : Nat := 0x800
abbrev Rg.HALLMARK_CRING_TAIL : Nat := 0x804
abbrev Rg.HALLMARK_CRING_STALLS : Nat := 0x808
abbrev Rg.HALLMARK_CRING_IRQ_LO : Nat := 0x810
abbrev Rg.HALLMARK_CRING_IRQ_HI : Nat := 0x814
abbrev Rg.DEDUP_CFG : Nat := 0x100
abbrev Rg.DEDUP_HOOK_BASE_LO : Nat := 0x104
abbrev Rg.DEDUP_HOOK_BASE_HI : Nat := 0x108
abbrev Rg.DEDUP_HOOK_BUCKETS : Nat := 0x10C
abbrev Rg.DEDUP_DOM_SEL : Nat := 0x110
abbrev Rg.DEDUP_DOM_CFG : Nat := 0x114
abbrev Rg.DEDUP_DOM_REFSEQ_LO : Nat := 0x118
abbrev Rg.DEDUP_DOM_REFSEQ_HI : Nat := 0x11C
abbrev Rg.DEDUP_DOM_STATE : Nat := 0x120
abbrev Rg.DEDUP_LOOKUPS : Nat := 0x124
abbrev Rg.DEDUP_HITS : Nat := 0x128
abbrev Rg.DEDUP_HOOK_EVICT : Nat := 0x12C
abbrev Rg.DEDUP_COLLISIONS : Nat := 0x130
abbrev Rg.DEDUP_REF_FULL : Nat := 0x134
abbrev Rg.DEDUP_REF_UNDERFLOW : Nat := 0x138
abbrev Rg.DEDUP_PENDING : Nat := 0x13C
abbrev Rg.DEDUP_MAN_CACHE : Nat := 0x140
abbrev Rg.DEDUP_MAN_SEAL_MS : Nat := 0x144
abbrev Rg.DEDUP_LOG_INTERVAL : Nat := 0x148
abbrev Rg.DEDUP_RING_SEL : Nat := 0x150
abbrev Rg.DEDUP_RING_BASE_LO : Nat := 0x154
abbrev Rg.DEDUP_RING_BASE_HI : Nat := 0x158
abbrev Rg.DEDUP_RING_CFG : Nat := 0x15C
abbrev Rg.DEDUP_RING_PI : Nat := 0x160
abbrev Rg.DEDUP_RING_CI : Nat := 0x164
abbrev Rg.DEDUP_CRING_BASE : Nat := 0x168
abbrev Rg.DEDUP_CRING_HEAD : Nat := 0x800
abbrev Rg.DEDUP_CRING_TAIL : Nat := 0x804
abbrev Rg.DEDUP_CRING_STALLS : Nat := 0x808
abbrev Rg.DEDUP_CRING_IRQ_LO : Nat := 0x810
abbrev Rg.DEDUP_CRING_IRQ_HI : Nat := 0x814
abbrev Rg.PLEAT_CFG : Nat := 0x100
abbrev Rg.PLEAT_NO_GAIN_MARGIN : Nat := 0x120
abbrev Rg.PLEAT_CTX_FREE : Nat := 0x124
abbrev Rg.PLEAT_RESUME_LIMIT : Nat := 0x128
abbrev Rg.PLEAT_ENGINE_EN : Nat := 0x12C
abbrev Rg.PLEAT_IN_BYTES_LO : Nat := 0x130
abbrev Rg.PLEAT_IN_BYTES_HI : Nat := 0x134
abbrev Rg.PLEAT_OUT_BYTES_LO : Nat := 0x138
abbrev Rg.PLEAT_OUT_BYTES_HI : Nat := 0x13C
abbrev Rg.PLEAT_NO_GAIN_COUNT : Nat := 0x140
abbrev Rg.PLEAT_CRC_FAIL : Nat := 0x144
abbrev Rg.PLEAT_CTX_EXPIRED : Nat := 0x148
abbrev Rg.PLEAT_RING_SEL : Nat := 0x104
abbrev Rg.PLEAT_RING_BASE_LO : Nat := 0x108
abbrev Rg.PLEAT_RING_BASE_HI : Nat := 0x10C
abbrev Rg.PLEAT_RING_CFG : Nat := 0x110
abbrev Rg.PLEAT_RING_PI : Nat := 0x114
abbrev Rg.PLEAT_RING_CI : Nat := 0x118
abbrev Rg.PLEAT_CRING_BASE : Nat := 0x11C
abbrev Rg.PLEAT_CRING_HEAD : Nat := 0x800
abbrev Rg.PLEAT_CRING_TAIL : Nat := 0x804
abbrev Rg.PLEAT_CRING_STALLS : Nat := 0x808
abbrev Rg.PLEAT_CRING_IRQ_LO : Nat := 0x810
abbrev Rg.PLEAT_CRING_IRQ_HI : Nat := 0x814
abbrev Rg.CIPHER_CFG : Nat := 0x100
abbrev Rg.CIPHER_KEY_SEL : Nat := 0x120
abbrev Rg.CIPHER_KEY_DATA : Nat := 0x124
abbrev Rg.CIPHER_KEY_ATTR : Nat := 0x144
abbrev Rg.CIPHER_KEY_CMD : Nat := 0x148
abbrev Rg.CIPHER_KEY_INFO : Nat := 0x14C
abbrev Rg.CIPHER_KEY_CMD_STATUS : Nat := 0x150
abbrev Rg.CIPHER_NONCE_FLOOR : Nat := 0x154
abbrev Rg.CIPHER_NONCE_NEXT : Nat := 0x158
abbrev Rg.CIPHER_NONCE_ENG : Nat := 0x15C
abbrev Rg.CIPHER_NONCE_GRANT : Nat := 0x160
abbrev Rg.CIPHER_NONCE_CUR : Nat := 0x164
abbrev Rg.CIPHER_NONCE_PEND : Nat := 0x168
abbrev Rg.CIPHER_NONCE_STAT : Nat := 0x16C
abbrev Rg.CIPHER_AUTH_FAIL : Nat := 0x170
abbrev Rg.CIPHER_NONCE_STARVED : Nat := 0x174
abbrev Rg.CIPHER_KEYS_FULL : Nat := 0x178
abbrev Rg.CIPHER_RING_SEL : Nat := 0x104
abbrev Rg.CIPHER_RING_BASE_LO : Nat := 0x108
abbrev Rg.CIPHER_RING_BASE_HI : Nat := 0x10C
abbrev Rg.CIPHER_RING_CFG : Nat := 0x110
abbrev Rg.CIPHER_RING_PI : Nat := 0x114
abbrev Rg.CIPHER_RING_CI : Nat := 0x118
abbrev Rg.CIPHER_CRING_BASE : Nat := 0x11C
abbrev Rg.CIPHER_CRING_HEAD : Nat := 0x800
abbrev Rg.CIPHER_CRING_TAIL : Nat := 0x804
abbrev Rg.CIPHER_CRING_STALLS : Nat := 0x808
abbrev Rg.CIPHER_CRING_IRQ_LO : Nat := 0x810
abbrev Rg.CIPHER_CRING_IRQ_HI : Nat := 0x814
abbrev Rg.QUILT_CFG : Nat := 0x100
abbrev Rg.QUILT_LAYOUT_SEL : Nat := 0x120
abbrev Rg.QUILT_LAYOUT : Nat := 0x124
abbrev Rg.QUILT_WRITE_LAYOUT : Nat := 0x128
abbrev Rg.QUILT_REBUILD_FLOOR : Nat := 0x12C
abbrev Rg.QUILT_MOD_FAILED : Nat := 0x130
abbrev Rg.QUILT_MOD_REBUILDING : Nat := 0x134
abbrev Rg.QUILT_REBUILD_LEFT_LO : Nat := 0x138
abbrev Rg.QUILT_REBUILD_LEFT_HI : Nat := 0x13C
abbrev Rg.QUILT_MARGIN0 : Nat := 0x140
abbrev Rg.QUILT_RESHAPE_CFG : Nat := 0x144
abbrev Rg.QUILT_RESHAPE_CMD : Nat := 0x148
abbrev Rg.QUILT_RESHAPE_STATUS : Nat := 0x14C
abbrev Rg.QUILT_RESHAPE_BOUND_LO : Nat := 0x150
abbrev Rg.QUILT_RESHAPE_BOUND_HI : Nat := 0x154
abbrev Rg.QUILT_RESHAPE_TARGET_LO : Nat := 0x158
abbrev Rg.QUILT_RESHAPE_TARGET_HI : Nat := 0x15C
abbrev Rg.QUILT_RESHAPE_CKPT_LO : Nat := 0x160
abbrev Rg.QUILT_RESHAPE_CKPT_HI : Nat := 0x164
abbrev Rg.QUILT_DRAIN_MASK : Nat := 0x168
abbrev Rg.QUILT_MOD_DRAINED : Nat := 0x16C
abbrev Rg.QUILT_OPEN_BOLTS : Nat := 0x170
abbrev Rg.QUILT_DIRTY_REGIONS : Nat := 0x174
abbrev Rg.QUILT_RESYNC_LEFT : Nat := 0x178
abbrev Rg.QUILT_UNFREEZE_LO : Nat := 0x17C
abbrev Rg.QUILT_UNFREEZE_HI : Nat := 0x180
abbrev Rg.QUILT_FROZEN : Nat := 0x184
abbrev Rg.QUILT_CHECKFIX : Nat := 0x188
abbrev Rg.QUILT_DATAFIX : Nat := 0x18C
abbrev Rg.QUILT_LOST : Nat := 0x190
abbrev Rg.QUILT_RING_SEL : Nat := 0x104
abbrev Rg.QUILT_RING_BASE_LO : Nat := 0x108
abbrev Rg.QUILT_RING_BASE_HI : Nat := 0x10C
abbrev Rg.QUILT_RING_CFG : Nat := 0x110
abbrev Rg.QUILT_RING_PI : Nat := 0x114
abbrev Rg.QUILT_RING_CI : Nat := 0x118
abbrev Rg.QUILT_CRING_BASE : Nat := 0x11C
abbrev Rg.QUILT_CRING_HEAD : Nat := 0x800
abbrev Rg.QUILT_CRING_TAIL : Nat := 0x804
abbrev Rg.QUILT_CRING_STALLS : Nat := 0x808
abbrev Rg.QUILT_CRING_IRQ_LO : Nat := 0x810
abbrev Rg.QUILT_CRING_IRQ_HI : Nat := 0x814
abbrev Rg.MAPPER_CFG : Nat := 0x100
abbrev Rg.MAPPER_STATUS : Nat := 0x120
abbrev Rg.MAPPER_CACHE_SIZE : Nat := 0x124
abbrev Rg.MAPPER_CACHE_MIN : Nat := 0x128
abbrev Rg.MAPPER_CACHE_CFG : Nat := 0x12C
abbrev Rg.MAPPER_CACHE_HITS : Nat := 0x130
abbrev Rg.MAPPER_CACHE_MISSES : Nat := 0x134
abbrev Rg.MAPPER_SEQ_PERSIST_LO : Nat := 0x138
abbrev Rg.MAPPER_SEQ_PERSIST_HI : Nat := 0x13C
abbrev Rg.MAPPER_SEQ_HORIZON_LO : Nat := 0x140
abbrev Rg.MAPPER_SEQ_HORIZON_HI : Nat := 0x144
abbrev Rg.MAPPER_FREE_BOLTS : Nat := 0x148
abbrev Rg.MAPPER_GC_CFG : Nat := 0x14C
abbrev Rg.MAPPER_WEAR_CFG : Nat := 0x150
abbrev Rg.MAPPER_GC_STATUS : Nat := 0x154
abbrev Rg.MAPPER_RETIRE_CFG : Nat := 0x158
abbrev Rg.MAPPER_RETIRED_BLOCKS : Nat := 0x15C
abbrev Rg.MAPPER_RETIRED_DIES : Nat := 0x160
abbrev Rg.MAPPER_THR_SEL : Nat := 0x164
abbrev Rg.MAPPER_THR_SRC_LO : Nat := 0x168
abbrev Rg.MAPPER_THR_SRC_HI : Nat := 0x16C
abbrev Rg.MAPPER_THR_CMD : Nat := 0x170
abbrev Rg.MAPPER_THR_STATUS : Nat := 0x174
abbrev Rg.MAPPER_THR_CFG : Nat := 0x178
abbrev Rg.MAPPER_THR_FIRST_OK : Nat := 0x17C
abbrev Rg.MAPPER_THR_FIRST_FAIL : Nat := 0x180
abbrev Rg.MAPPER_REFRESH_QUEUED : Nat := 0x184
abbrev Rg.MAPPER_LOG_CFG : Nat := 0x188
abbrev Rg.MAPPER_LOG_BOLTS : Nat := 0x18C
abbrev Rg.MAPPER_ORDER_USED : Nat := 0x190
abbrev Rg.MAPPER_CKPT_INTERVAL : Nat := 0x194
abbrev Rg.MAPPER_RING_SEL : Nat := 0x104
abbrev Rg.MAPPER_RING_BASE_LO : Nat := 0x108
abbrev Rg.MAPPER_RING_BASE_HI : Nat := 0x10C
abbrev Rg.MAPPER_RING_CFG : Nat := 0x110
abbrev Rg.MAPPER_RING_PI : Nat := 0x114
abbrev Rg.MAPPER_RING_CI : Nat := 0x118
abbrev Rg.MAPPER_CRING_BASE : Nat := 0x11C
abbrev Rg.MAPPER_CRING_HEAD : Nat := 0x800
abbrev Rg.MAPPER_CRING_TAIL : Nat := 0x804
abbrev Rg.MAPPER_CRING_STALLS : Nat := 0x808
abbrev Rg.MAPPER_CRING_IRQ_LO : Nat := 0x810
abbrev Rg.MAPPER_CRING_IRQ_HI : Nat := 0x814
abbrev Rg.SNAPREP_CFG : Nat := 0x100
abbrev Rg.SNAPREP_ARG_LO : Nat := 0x104
abbrev Rg.SNAPREP_ARG_HI : Nat := 0x108
abbrev Rg.SNAPREP_CMD : Nat := 0x10C
abbrev Rg.SNAPREP_CMD_STATUS : Nat := 0x110
abbrev Rg.SNAPREP_EPOCH : Nat := 0x114
abbrev Rg.SNAPREP_SNAPS : Nat := 0x118
abbrev Rg.SNAPREP_DEL_RATE : Nat := 0x11C
abbrev Rg.SNAPREP_DEL_BACKLOG : Nat := 0x120
abbrev Rg.SNAPREP_CKPT_GRAINS : Nat := 0x124
abbrev Rg.SNAPREP_RETRY_MS : Nat := 0x128
abbrev Rg.SNAPREP_PAIR_SEL : Nat := 0x12C
abbrev Rg.SNAPREP_PAIR_CFG : Nat := 0x130
abbrev Rg.SNAPREP_PAIR_RATE : Nat := 0x134
abbrev Rg.SNAPREP_PAIR_STATE : Nat := 0x138
abbrev Rg.SNAPREP_PAIR_CURSOR_LO : Nat := 0x13C
abbrev Rg.SNAPREP_PAIR_CURSOR_HI : Nat := 0x140
abbrev Rg.SNAPREP_PAIR_HAVE : Nat := 0x144
abbrev Rg.SNAPREP_PAIR_NEED : Nat := 0x148
abbrev Rg.STITCH_CFG : Nat := 0x100
abbrev Rg.STITCH_ROLE_SEL : Nat := 0x120
abbrev Rg.STITCH_ROLE_EPOCH_LO : Nat := 0x124
abbrev Rg.STITCH_ROLE_EPOCH_HI : Nat := 0x128
abbrev Rg.STITCH_ROLE_HELD : Nat := 0x12C
abbrev Rg.STITCH_MOD_SEL : Nat := 0x130
abbrev Rg.STITCH_MOD_CFG : Nat := 0x134
abbrev Rg.STITCH_MOD_CTRL : Nat := 0x138
abbrev Rg.STITCH_MOD_STATUS : Nat := 0x13C
abbrev Rg.STITCH_MOD_INFLIGHT : Nat := 0x140
abbrev Rg.STITCH_MOD_SERIAL_LO : Nat := 0x144
abbrev Rg.STITCH_MOD_SERIAL_HI : Nat := 0x148
abbrev Rg.STITCH_MOD_TEMP : Nat := 0x14C
abbrev Rg.STITCH_MOD_DECODE : Nat := 0x150
abbrev Rg.STITCH_MOD_STALE : Nat := 0x154
abbrev Rg.STITCH_INFLIGHT : Nat := 0x158
abbrev Rg.STITCH_CMD_TIMEOUT : Nat := 0x15C
abbrev Rg.STITCH_LINK_TIMEOUT : Nat := 0x160
abbrev Rg.STITCH_TELEM_MS : Nat := 0x164
abbrev Rg.STITCH_STATUS : Nat := 0x168
abbrev Rg.STITCH_RING_SEL : Nat := 0x104
abbrev Rg.STITCH_RING_BASE_LO : Nat := 0x108
abbrev Rg.STITCH_RING_BASE_HI : Nat := 0x10C
abbrev Rg.STITCH_RING_CFG : Nat := 0x110
abbrev Rg.STITCH_RING_PI : Nat := 0x114
abbrev Rg.STITCH_RING_CI : Nat := 0x118
abbrev Rg.STITCH_CRING_BASE : Nat := 0x11C
abbrev Rg.STITCH_CRING_HEAD : Nat := 0x800
abbrev Rg.STITCH_CRING_TAIL : Nat := 0x804
abbrev Rg.STITCH_CRING_STALLS : Nat := 0x808
abbrev Rg.STITCH_CRING_IRQ_LO : Nat := 0x810
abbrev Rg.STITCH_CRING_IRQ_HI : Nat := 0x814
abbrev Rg.PCIE_CFG : Nat := 0x100
abbrev Rg.PCIE_PORT_SEL : Nat := 0x104
abbrev Rg.PCIE_PORT_STATUS : Nat := 0x108
abbrev Rg.PCIE_PORT_ERR : Nat := 0x10C
abbrev Rg.PCIE_CPL_TIMEOUT : Nat := 0x110
abbrev Rg.PCIE_CORR_COUNT : Nat := 0x114
abbrev Rg.PCIE_FLIT_REPLAY : Nat := 0x118
abbrev Rg.PCIE_HP_STATUS : Nat := 0x11C
abbrev Rg.PATTERN_CFG : Nat := 0x100
abbrev Rg.PATTERN_ELIGIBLE : Nat := 0x120
abbrev Rg.PATTERN_EXCL_HOT : Nat := 0x124
abbrev Rg.PATTERN_TEMP_CFG : Nat := 0x128
abbrev Rg.PATTERN_HOT_MINUTES : Nat := 0x12C
abbrev Rg.PATTERN_DIE_QD : Nat := 0x130
abbrev Rg.PATTERN_GC_SHARE : Nat := 0x134
abbrev Rg.PATTERN_SHARE_NOW : Nat := 0x138
abbrev Rg.PATTERN_CURSOR : Nat := 0x13C
abbrev Rg.PATTERN_BLOCK_USE : Nat := 0x140
abbrev Rg.PATTERN_BOLTS_CHOSEN : Nat := 0x144
abbrev Rg.PATTERN_ZONE_RELAXED : Nat := 0x148
abbrev Rg.PATTERN_NO_SET : Nat := 0x14C
abbrev Rg.PATTERN_OPEN_STREAM : Nat := 0x150
abbrev Rg.PATTERN_CLUSTER_SEL : Nat := 0x154
abbrev Rg.PATTERN_CLUSTER_LOAD : Nat := 0x158
abbrev Rg.PATTERN_RING_SEL : Nat := 0x104
abbrev Rg.PATTERN_RING_BASE_LO : Nat := 0x108
abbrev Rg.PATTERN_RING_BASE_HI : Nat := 0x10C
abbrev Rg.PATTERN_RING_CFG : Nat := 0x110
abbrev Rg.PATTERN_RING_PI : Nat := 0x114
abbrev Rg.PATTERN_RING_CI : Nat := 0x118
abbrev Rg.PATTERN_CRING_BASE : Nat := 0x11C
abbrev Rg.PATTERN_CRING_HEAD : Nat := 0x800
abbrev Rg.PATTERN_CRING_TAIL : Nat := 0x804
abbrev Rg.PATTERN_CRING_STALLS : Nat := 0x808
abbrev Rg.PATTERN_CRING_IRQ_LO : Nat := 0x810
abbrev Rg.PATTERN_CRING_IRQ_HI : Nat := 0x814
abbrev Rg.SEAM_CFG : Nat := 0x100
abbrev Rg.SEAM_STATUS : Nat := 0x104
abbrev Rg.SEAM_ERR : Nat := 0x108
abbrev Rg.SEAM_FEC_CORR : Nat := 0x10C
abbrev Rg.SEAM_FEC_UNCORR : Nat := 0x110
abbrev Rg.SEAM_MISSED : Nat := 0x114
abbrev Rg.SEAM_CRC_DROP : Nat := 0x118
abbrev Rg.SEAM_FRAMES_RX : Nat := 0x11C
abbrev Rg.SEAM_HB_GTS_LO : Nat := 0x120
abbrev Rg.SEAM_HB_GTS_HI : Nat := 0x124
abbrev Rg.SEAM_RTT : Nat := 0x128
abbrev Rg.SEAM_RETRAIN_MS : Nat := 0x12C
abbrev Rg.SEAM_CTRL : Nat := 0x130
abbrev Rg.HEADPAIR_CFG : Nat := 0x100
abbrev Rg.HEADPAIR_HEAD_ID : Nat := 0x104
abbrev Rg.HEADPAIR_STATE : Nat := 0x108
abbrev Rg.HEADPAIR_CMD : Nat := 0x10C
abbrev Rg.HEADPAIR_SILENCE : Nat := 0x110
abbrev Rg.HEADPAIR_READ_LEASE : Nat := 0x114
abbrev Rg.HEADPAIR_MIRROR_PAGES : Nat := 0x118
abbrev Rg.HEADPAIR_MIRROR_FREE : Nat := 0x11C
abbrev Rg.HEADPAIR_JSEQ_ACKED_LO : Nat := 0x120
abbrev Rg.HEADPAIR_JSEQ_ACKED_HI : Nat := 0x124
abbrev Rg.HEADPAIR_SHADOW_LO : Nat := 0x128
abbrev Rg.HEADPAIR_SHADOW_HI : Nat := 0x12C
abbrev Rg.HEADPAIR_KEEPER_LO : Nat := 0x130
abbrev Rg.HEADPAIR_KEEPER_HI : Nat := 0x134
abbrev Rg.HEADPAIR_GTS_STATUS : Nat := 0x138
abbrev Rg.HEADPAIR_YIELD_CAUSE : Nat := 0x13C
abbrev Rg.HEADPAIR_ANA_HOME : Nat := 0x140
abbrev Rg.HEADPAIR_TAKEOVER_US : Nat := 0x150
abbrev Rg.HEADPAIR_PINS : Nat := 0x154
abbrev Rg.CLASP_CFG : Nat := 0x100
abbrev Rg.CLASP_TMO_CHIP : Nat := 0x104
abbrev Rg.CLASP_TMO_SEAM : Nat := 0x108
abbrev Rg.CLASP_TIMEOUTS : Nat := 0x10C
abbrev Rg.CLASP_CROSSED : Nat := 0x110
abbrev Rg.CLASP_BIND : Nat := 0x200
abbrev Rg.CLASP_BANK : Nat := 0x300
abbrev Rg.CLASP_DB_PEND : Nat := 0x400
abbrev Rg.CLASP_DB_MASK : Nat := 0x500
abbrev Rg.CLASP_OUT_MSG : Nat := 0x1000
abbrev Rg.CLASP_OUT_GO : Nat := 0x1040
abbrev Rg.CLASP_OUT_STATUS : Nat := 0x1044
abbrev Rg.CLASP_IN_MSG : Nat := 0x3000
abbrev Rg.CLASP_IN_REL : Nat := 0x3040
abbrev Rg.CLASP_IN_STATUS : Nat := 0x3044
abbrev Rg.LOCKET_CFG : Nat := 0x100
abbrev Rg.LOCKET_SEQ_NEXT_LO : Nat := 0x104
abbrev Rg.LOCKET_SEQ_NEXT_HI : Nat := 0x108
abbrev Rg.LOCKET_SEQ_BASE_LO : Nat := 0x10C
abbrev Rg.LOCKET_SEQ_BASE_HI : Nat := 0x110
abbrev Rg.LOCKET_RING_BASE_LO : Nat := 0x114
abbrev Rg.LOCKET_RING_BASE_HI : Nat := 0x118
abbrev Rg.LOCKET_WIN_CURSOR_LO : Nat := 0x11C
abbrev Rg.LOCKET_WIN_CURSOR_HI : Nat := 0x120
abbrev Rg.LOCKET_WIN_STATUS : Nat := 0x124
abbrev Rg.LOCKET_OLDEST_LO : Nat := 0x128
abbrev Rg.LOCKET_OLDEST_HI : Nat := 0x12C
abbrev Rg.LOCKET_DROPPED : Nat := 0x130
abbrev Rg.LOCKET_SPILL_LOST : Nat := 0x134
abbrev Rg.LOCKET_CLEAR_CHAL_LO : Nat := 0x138
abbrev Rg.LOCKET_CLEAR_CHAL_HI : Nat := 0x13C
abbrev Rg.LOCKET_CLEAR_TOKEN_LO : Nat := 0x140
abbrev Rg.LOCKET_CLEAR_TOKEN_HI : Nat := 0x144
abbrev Rg.LOCKET_CLEAR_CMD : Nat := 0x148
abbrev Rg.LOCKET_CLEAR_STATUS : Nat := 0x14C
abbrev Rg.LOCKET_CLEAR_SEQ_LO : Nat := 0x150
abbrev Rg.LOCKET_CLEAR_SEQ_HI : Nat := 0x154
abbrev Rg.LOCKET_WIN_DATA : Nat := 0x200
abbrev Rg.GTS_NOW_LO : Nat := 0x100
abbrev Rg.GTS_NOW_HI : Nat := 0x104
abbrev Rg.GTS_CAL_SECONDS_LO : Nat := 0x108
abbrev Rg.GTS_CAL_SECONDS_HI : Nat := 0x10C
abbrev Rg.GTS_CAL_NS : Nat := 0x110
abbrev Rg.GTS_CAL_SET_LO : Nat := 0x114
abbrev Rg.GTS_CAL_SET_HI : Nat := 0x118
abbrev Rg.GTS_CAL_SET_NS : Nat := 0x11C
abbrev Rg.GTS_CAL_CMD : Nat := 0x120
abbrev Rg.GTS_SLEW : Nat := 0x124
abbrev Rg.GTS_LAST_STEP_LO : Nat := 0x128
abbrev Rg.GTS_LAST_STEP_HI : Nat := 0x12C
abbrev Rg.THIMBLE_CFG : Nat := 0x100
abbrev Rg.THIMBLE_STATE : Nat := 0x104
abbrev Rg.THIMBLE_WAKE_CAUSE : Nat := 0x108
abbrev Rg.THIMBLE_SECONDS_LO : Nat := 0x10C
abbrev Rg.THIMBLE_SECONDS_HI : Nat := 0x110
abbrev Rg.THIMBLE_NACKS : Nat := 0x114
abbrev Rg.THIMBLE_P4_COUNT : Nat := 0x118
abbrev Rg.THIMBLE_SCRATCH : Nat := 0x11C
abbrev Rg.THIMBLE_XTAL : Nat := 0x12C
abbrev Rg.SELVEDGE_CFG : Nat := 0x100
abbrev Rg.SELVEDGE_STATUS : Nat := 0x104
abbrev Rg.SELVEDGE_GROUP_SEL : Nat := 0x108
abbrev Rg.SELVEDGE_HELD : Nat := 0x10C
abbrev Rg.SELVEDGE_LEVEL : Nat := 0x110
abbrev Rg.SELVEDGE_MISMATCH : Nat := 0x114
abbrev Rg.SELVEDGE_RELEASE : Nat := 0x118
abbrev Rg.PWRSEQ_CFG : Nat := 0x100
abbrev Rg.PWRSEQ_STATE : Nat := 0x104
abbrev Rg.PWRSEQ_CMD : Nat := 0x108
abbrev Rg.PWRSEQ_CMD_STATUS : Nat := 0x10C
abbrev Rg.PWRSEQ_ICC_BUDGET : Nat := 0x110
abbrev Rg.PWRSEQ_DOM_SEL : Nat := 0x114
abbrev Rg.PWRSEQ_DOM_ICC : Nat := 0x118
abbrev Rg.PWRSEQ_DOM_STATUS : Nat := 0x11C
abbrev Rg.PWRSEQ_DOM_CTRL : Nat := 0x120
abbrev Rg.PWRSEQ_QUEUE : Nat := 0x124
abbrev Rg.PWRSEQ_MON_SEL : Nat := 0x128
abbrev Rg.PWRSEQ_MON_CFG : Nat := 0x12C
abbrev Rg.PWRSEQ_MON_STATUS : Nat := 0x130
abbrev Rg.PWRSEQ_MON_NOW : Nat := 0x134
abbrev Rg.PWRSEQ_BROWNOUTS : Nat := 0x138
abbrev Rg.PWRSEQ_PF_DEBOUNCE : Nat := 0x13C
abbrev Rg.PWRSEQ_DUMP_STATUS : Nat := 0x140
abbrev Rg.PWRSEQ_DUMP_BYTES_LO : Nat := 0x144
abbrev Rg.PWRSEQ_DUMP_BYTES_HI : Nat := 0x148
abbrev Rg.PWRSEQ_DUMP_US : Nat := 0x14C
abbrev Rg.PWRSEQ_DUMP_RESERVE : Nat := 0x150
abbrev Rg.BOOT_STATUS : Nat := 0x100
abbrev Rg.BOOT_READY : Nat := 0x104
abbrev Rg.BOOT_SLOT_SEL : Nat := 0x110
abbrev Rg.BOOT_SLOT_INFO : Nat := 0x114
abbrev Rg.BOOT_SLOT_VERSION : Nat := 0x118
abbrev Rg.BOOT_CMD : Nat := 0x11C
abbrev Rg.BOOT_CMD_STATUS : Nat := 0x120
abbrev Rg.BOOT_SRC_LO : Nat := 0x124
abbrev Rg.BOOT_SRC_HI : Nat := 0x128
abbrev Rg.BOOT_LEN : Nat := 0x12C
abbrev Rg.BOOT_TRIAL_MS : Nat := 0x130
abbrev Rg.BOOT_OTP_SEL : Nat := 0x134
abbrev Rg.BOOT_OTP_INFO : Nat := 0x138
abbrev Rg.TOP_PART : Nat := 0x100
abbrev Rg.TOP_STEPPING : Nat := 0x104
abbrev Rg.TOP_SERIAL_LO : Nat := 0x108
abbrev Rg.TOP_SERIAL_HI : Nat := 0x10C
abbrev Rg.TOP_STRAPS : Nat := 0x110
abbrev Rg.TOP_RESET_CAUSE : Nat := 0x114
abbrev Rg.TOP_SW_RESET : Nat := 0x118
abbrev Rg.SVC_BOOT_LO : Nat := 0x100
abbrev Rg.SVC_BOOT_HI : Nat := 0x104
abbrev Rg.SVC_CTRL : Nat := 0x108
abbrev Rg.SVC_STATUS : Nat := 0x10C
abbrev Rg.SVC_REPORT : Nat := 0x110
abbrev Rg.SVC_REPORT_AGE : Nat := 0x114
abbrev Rg.MGMT_CFG : Nat := 0x100
abbrev Rg.MGMT_MAC_LO : Nat := 0x104
abbrev Rg.MGMT_MAC_HI : Nat := 0x108
abbrev Rg.MGMT_ETH_STATUS : Nat := 0x10C
abbrev Rg.MGMT_MCTP_EID : Nat := 0x110
abbrev Rg.MGMT_I3C_SEL : Nat := 0x114
abbrev Rg.MGMT_I3C_CFG : Nat := 0x118
abbrev Rg.MGMT_I3C_STATUS : Nat := 0x11C
abbrev Rg.MGMT_UART_SEL : Nat := 0x120
abbrev Rg.MGMT_UART_BAUD : Nat := 0x124
abbrev Rg.MGMT_GPIO_DIR : Nat := 0x128
abbrev Rg.MGMT_GPIO_OUT : Nat := 0x12C
abbrev Rg.MGMT_GPIO_IN : Nat := 0x130
abbrev Rg.MGMT_GPIO_EDGE_EN : Nat := 0x134
abbrev Rg.MGMT_GPIO_EDGE : Nat := 0x138
abbrev Rg.MP_STATUS : Nat := 0x100

/-- Locket event codes: block code in bits [15:8], event number in [7:0] (00, section Events and ordering). -/
abbrev Ev.BEAD_FAULT : Nat := 0x0701
abbrev Ev.BEAD_PARITY : Nat := 0x0702
abbrev Ev.BEAD_SEND_STALL : Nat := 0x0703
abbrev Ev.STRAND_LOADED : Nat := 0x0801
abbrev Ev.STRAND_AUTH_FAIL : Nat := 0x0802
abbrev Ev.STRAND_EXCHANGED : Nat := 0x0803
abbrev Ev.STRAND_TIMER_CANCELLED : Nat := 0x0804
abbrev Ev.STRAND_EDGE_DISCARDED : Nat := 0x0805
abbrev Ev.STRAND_EXCHANGE_ENDED : Nat := 0x0806
abbrev Ev.STRAND_ABORTED : Nat := 0x0807
abbrev Ev.HOSTQ_BP_ENTER : Nat := 0x1701
abbrev Ev.HOSTQ_BP_EXIT : Nat := 0x1702
abbrev Ev.HOSTQ_QUEUE_RESET : Nat := 0x1703
abbrev Ev.HOSTQ_CONN_LOST : Nat := 0x1704
abbrev Ev.HOSTQ_FLOW_BREACH : Nat := 0x1705
abbrev Ev.HOSTQ_ANA_CHANGE : Nat := 0x1706
abbrev Ev.HOSTQ_PWR_STEP : Nat := 0x1707
abbrev Ev.ETH_LINK_DOWN : Nat := 0x1601
abbrev Ev.ETH_LINK_UP : Nat := 0x1602
abbrev Ev.ETH_DEGRADED : Nat := 0x1603
abbrev Ev.ETH_PFC_STORM : Nat := 0x1604
abbrev Ev.URT_FLOW_ERROR : Nat := 0x1801
abbrev Ev.URT_FLOW_RESET : Nat := 0x1802
abbrev Ev.URT_EQ_OVERFLOW : Nat := 0x1803
abbrev Ev.URT_DEVICE_FATAL : Nat := 0x1804
abbrev Ev.SPOOL_REFUSED_ACCESS : Nat := 0x0901
abbrev Ev.SPOOL_NOT_OWNER_FREE : Nat := 0x0902
abbrev Ev.SPOOL_DOUBLE_FREE : Nat := 0x0903
abbrev Ev.SPOOL_POISONED_WRITE : Nat := 0x0904
abbrev Ev.SPOOL_LOW_WATER : Nat := 0x0905
abbrev Ev.SYSCACHE_WAY_DISABLED : Nat := 0x0A01
abbrev Ev.SYSCACHE_SLICE_BYPASS : Nat := 0x0A02
abbrev Ev.HBMC_PC_RETIRED : Nat := 0x0B01
abbrev Ev.HBMC_HOT : Nat := 0x0B02
abbrev Ev.DDRC_CHANNEL_RETIRED : Nat := 0x0C01
abbrev Ev.DDRC_INIT_DONE : Nat := 0x0C02
abbrev Ev.HALLMARK_SEAL_MISMATCH : Nat := 0x0D01
abbrev Ev.HALLMARK_CHUNK_LIST_FULL : Nat := 0x0D02
abbrev Ev.HALLMARK_SNOOP_POISON : Nat := 0x0D03
abbrev Ev.DEDUP_COLLISION : Nat := 0x0E01
abbrev Ev.DEDUP_REF_UNDERFLOW : Nat := 0x0E02
abbrev Ev.DEDUP_PENDING_TIMEOUT : Nat := 0x0E03
abbrev Ev.DEDUP_DOMAIN_TAKEOVER : Nat := 0x0E04
abbrev Ev.DEDUP_HOOK_REBUILD_DONE : Nat := 0x0E05
abbrev Ev.PLEAT_CRC_FAIL : Nat := 0x0F01
abbrev Ev.PLEAT_CTX_EXPIRED : Nat := 0x0F02
abbrev Ev.CIPHER_AUTH_FAIL : Nat := 0x1001
abbrev Ev.CIPHER_NONCE_BLOCK_TAKEN : Nat := 0x1002
abbrev Ev.CIPHER_NONCE_STARVED : Nat := 0x1003
abbrev Ev.CIPHER_KEY_CHANGED : Nat := 0x1004
abbrev Ev.CIPHER_GRANT_REFUSED : Nat := 0x1005
abbrev Ev.QUILT_MODULE_FAILED : Nat := 0x1101
abbrev Ev.QUILT_REBUILD_DONE : Nat := 0x1102
abbrev Ev.QUILT_STRIPE_LOST : Nat := 0x1103
abbrev Ev.QUILT_CHECK_FIXED : Nat := 0x1104
abbrev Ev.QUILT_DATA_FIXED : Nat := 0x1105
abbrev Ev.QUILT_DIVERGENT : Nat := 0x1106
abbrev Ev.QUILT_RESYNC_DONE : Nat := 0x1107
abbrev Ev.QUILT_RESHAPE_CKPT : Nat := 0x1108
abbrev Ev.QUILT_RESHAPE_HELD : Nat := 0x1109
abbrev Ev.QUILT_RESHAPE_DONE : Nat := 0x110A
abbrev Ev.QUILT_DRAIN_DONE : Nat := 0x110B
abbrev Ev.MAPPER_PROGRAM_FAIL : Nat := 0x1201
abbrev Ev.MAPPER_ERASE_FAIL : Nat := 0x1202
abbrev Ev.MAPPER_DIE_RETIRED : Nat := 0x1203
abbrev Ev.MAPPER_MODE_CHANGE : Nat := 0x1204
abbrev Ev.MAPPER_MAP_LOST : Nat := 0x1205
abbrev Ev.MAPPER_REFRESH : Nat := 0x1206
abbrev Ev.MAPPER_REPLAY_DONE : Nat := 0x1207
abbrev Ev.MAPPER_RECOUNT_DONE : Nat := 0x1208
abbrev Ev.MAPPER_CHUNK_EXPIRED : Nat := 0x1209
abbrev Ev.MAPPER_ORDER_FULL : Nat := 0x120A
abbrev Ev.SNAP_CREATED : Nat := 0x2001
abbrev Ev.SNAP_DELETED : Nat := 0x2002
abbrev Ev.REPL_LINK_LOST : Nat := 0x2003
abbrev Ev.REPL_RESUMED : Nat := 0x2004
abbrev Ev.REPL_DONE : Nat := 0x2005
abbrev Ev.REPL_FAILED : Nat := 0x2006
abbrev Ev.STITCH_MOD_ATTACHED : Nat := 0x1401
abbrev Ev.STITCH_MOD_FAILED : Nat := 0x1402
abbrev Ev.STITCH_MOD_DETACHED : Nat := 0x1403
abbrev Ev.STITCH_STALE_EPOCH : Nat := 0x1404
abbrev Ev.STITCH_FENCED : Nat := 0x1405
abbrev Ev.STITCH_DEEP_FAIL : Nat := 0x1406
abbrev Ev.STITCH_HOLD : Nat := 0x1407
abbrev Ev.STITCH_CMD_TIMEOUT : Nat := 0x1408
abbrev Ev.STITCH_DIE_FAIL : Nat := 0x1409
abbrev Ev.PCIE_LINK_DOWN : Nat := 0x1501
abbrev Ev.PCIE_FATAL : Nat := 0x1502
abbrev Ev.PATTERN_MODULE_EXCLUDED : Nat := 0x1301
abbrev Ev.PATTERN_MODULE_READMITTED : Nat := 0x1302
abbrev Ev.PATTERN_ZONE_RELAXED : Nat := 0x1303
abbrev Ev.PATTERN_NO_SET : Nat := 0x1304
abbrev Ev.PATTERN_BEADS_PLACED : Nat := 0x1305
abbrev Ev.SEAM_STATE : Nat := 0x1901
abbrev Ev.SEAM_RETIRED : Nat := 0x1902
abbrev Ev.HEADPAIR_YIELD : Nat := 0x1A01
abbrev Ev.HEADPAIR_TAKEOVER_START : Nat := 0x1A02
abbrev Ev.HEADPAIR_ARBITRATION : Nat := 0x1A03
abbrev Ev.HEADPAIR_FENCED_PARTNER : Nat := 0x1A04
abbrev Ev.HEADPAIR_SOLO : Nat := 0x1A05
abbrev Ev.HEADPAIR_JOINED : Nat := 0x1A06
abbrev Ev.HEADPAIR_LEASE : Nat := 0x1A07
abbrev Ev.HEADPAIR_GTS : Nat := 0x1A08
abbrev Ev.HEADPAIR_ID_CONFLICT : Nat := 0x1A09
abbrev Ev.CLASP_TIMEOUT : Nat := 0x1B01
abbrev Ev.CLASP_CROSSED : Nat := 0x1B02
abbrev Ev.CLASP_REFUSED : Nat := 0x1B03
abbrev Ev.CLASP_WAKE : Nat := 0x1B04
abbrev Ev.LOCKET_CLEARED : Nat := 0x1C01
abbrev Ev.LOCKET_DROPPED : Nat := 0x1C02
abbrev Ev.LOCKET_SPILL_GAP : Nat := 0x1C03
abbrev Ev.LOCKET_CLEAR_REFUSED : Nat := 0x1C04
abbrev Ev.GTS_CAL_SET : Nat := 0x1D01
abbrev Ev.GTS_STEPPED : Nat := 0x1D02
abbrev Ev.THIMBLE_WAKE : Nat := 0x0201
abbrev Ev.SELVEDGE_RELEASED : Nat := 0x0301
abbrev Ev.PWRSEQ_STATE : Nat := 0x0401
abbrev Ev.PWRSEQ_BROWNOUT : Nat := 0x0402
abbrev Ev.PWRSEQ_REVERSED : Nat := 0x0403
abbrev Ev.PWRSEQ_GRANT_REFUSED : Nat := 0x0404
abbrev Ev.PWRSEQ_DOMAIN_FAILED : Nat := 0x0405
abbrev Ev.PWRSEQ_DUMP_DONE : Nat := 0x0406
abbrev Ev.PWRSEQ_DUMP_RESUMED : Nat := 0x0407
abbrev Ev.PWRSEQ_DUMP_INCOMPLETE : Nat := 0x0408
abbrev Ev.BOOT_DONE : Nat := 0x1E01
abbrev Ev.BOOT_SLOT_FAILED : Nat := 0x1E02
abbrev Ev.BOOT_FALLBACK : Nat := 0x1E03
abbrev Ev.BOOT_STAGED : Nat := 0x1E04
abbrev Ev.BOOT_ACTIVATE : Nat := 0x1E05
abbrev Ev.BOOT_CONFIRMED : Nat := 0x1E06
abbrev Ev.BOOT_SETTINGS_RESET : Nat := 0x1E07
abbrev Ev.BOOT_RECOVERY : Nat := 0x1E08
abbrev Ev.BOOT_OTP_CHANGED : Nat := 0x1E09
abbrev Ev.REG_LOCK_VIOLATION : Nat := 0x0101
abbrev Ev.REG_REMOTE_TIMEOUT : Nat := 0x0102
abbrev Ev.REG_ACCESS_REFUSED : Nat := 0x0103
abbrev Ev.MP_LOCKSTEP_MISMATCH : Nat := 0x0501
abbrev Ev.MGMT_LINK : Nat := 0x1F01
abbrev Ev.MGMT_PTP_LOST : Nat := 0x1F02

/-- Events every ring engine writes, in its own block code (01 R693). -/
abbrev Ev.BAD_CRING : Nat := 0xF0
abbrev Ev.CRING_STALL : Nat := 0xF1
abbrev Ev.RECORD_DROPPED : Nat := 0xF2
abbrev Ev.DESC_UNREADABLE : Nat := 0xF3

end Sys2Proof
end

