-- ==== Sys2Proof/Machine/RegTable.lean ====
section
/-! DEFINITION. The register tables of the spec as data: one row per register, with its offset, how many it is an array of,
its access code (00 R12), its reset value, the bits its description names (00 R15: the others read 0 and ignore writes),
the bits that must be written 0 and the ranges its fields must lie in (17 R699), and the selector whose value says which of
several copies is shown. The rows come from each chapter's own register table. -/
namespace Sys2Proof.Machine

/-- Access codes of 00 R12. -/
inductive Access where
  | ro | rw | rwl | w1c | w1s | wo | wos
  deriving DecidableEq, Repr

/-- One register of a page, or an array of `cnt` of them `stride` bytes apart. -/
structure RegRow where
  off : Nat
  cnt : Nat := 1
  stride : Nat := 4
  /-- consecutive words in each element of the array -/
  words : Nat := 1
  acc : Access := .rw
  reset : Nat := 0
  mask : Nat := 0xFFFFFFFF
  zero : Nat := 0
  /-- ranges of 17 R699: field high bit, low bit, least value, greatest value -/
  checks : List (Nat × Nat × Nat × Nat) := []
  /-- offset of the selector register, when the row shows one copy of several -/
  sel : Option Nat := none
  deriving DecidableEq, Repr

/-- Registers of the STRAND page. -/
def rows.STRAND : List RegRow :=
  [
  { off := Rg.STRAND_LD_SEL, mask := 0x3F },
  { off := Rg.STRAND_LD_SRC_LO, zero := 0x3F },
  { off := Rg.STRAND_LD_SRC_HI, mask := 0xFFFF },
  { off := Rg.STRAND_LD_LEN },
  { off := Rg.STRAND_LD_OWNER, mask := 0xFFF },
  { off := Rg.STRAND_LD_CMD, acc := .wo, mask := 0xF },
  { off := Rg.STRAND_LD_STATUS, acc := .ro },
  { off := Rg.STRAND_DRAIN_LIMIT, acc := .rwl, reset := 0x3E8, mask := 0xFFFF, checks := [(15, 0, 1, 65535)] },
  { off := Rg.STRAND_RUN_LO, acc := .ro },
  { off := Rg.STRAND_RUN_HI, acc := .ro },
  { off := Rg.STRAND_FAULT_LO, acc := .w1c },
  { off := Rg.STRAND_FAULT_HI, acc := .w1c },
  { off := Rg.STRAND_VIEW_SEL, mask := 0x3F },
  { off := Rg.STRAND_VIEW_INFO, acc := .ro, reset := 0x8, sel := some 0x130 },
  { off := Rg.STRAND_VIEW_EPOCH, acc := .ro, sel := some 0x130 },
  { off := Rg.STRAND_VIEW_FAMILY, acc := .ro, sel := some 0x130 },
  { off := Rg.STRAND_VIEW_VERSION, acc := .ro, sel := some 0x130 },
  { off := Rg.STRAND_VIEW_XCHG_T, acc := .ro, sel := some 0x130 },
  { off := Rg.STRAND_VIEW_XCHG_E, acc := .ro, sel := some 0x130 },
  { off := Rg.STRAND_FREE_BEADS, acc := .ro, reset := 0x400 }]

/-- Registers of the BEADC page. -/
def rows.BEADC : List RegRow :=
  [
  { off := Rg.BEADC_FAULT_LO, acc := .w1c },
  { off := Rg.BEADC_FAULT_HI, acc := .w1c },
  { off := Rg.BEADC_BEAD_SEL, mask := 0x3F },
  { off := Rg.BEADC_BEAD_STATE, acc := .ro, sel := some 0x108 },
  { off := Rg.BEADC_FAULT_INFO, acc := .ro, sel := some 0x108 },
  { off := Rg.BEADC_FAULT_GTS_LO, acc := .ro, sel := some 0x108 },
  { off := Rg.BEADC_FAULT_GTS_HI, acc := .ro, sel := some 0x108 },
  { off := Rg.BEADC_LINE_LEVEL_LO, acc := .ro },
  { off := Rg.BEADC_LINE_LEVEL_HI, acc := .ro },
  { off := Rg.BEADC_EVSEL, cnt := 64, acc := .rwl, mask := 0x80FFFFFF }]

/-- Registers of the HOSTQ page. -/
def rows.HOSTQ : List RegRow :=
  [
  { off := Rg.HOSTQ_CFG, acc := .rwl, reset := 0x3, mask := 0x3 },
  { off := Rg.HOSTQ_INFLIGHT, acc := .ro },
  { off := Rg.HOSTQ_BP_STATUS, acc := .ro },
  { off := Rg.HOSTQ_BP_COUNT, acc := .ro },
  { off := Rg.HOSTQ_CONN, acc := .ro },
  { off := Rg.HOSTQ_QRESET, acc := .wo, mask := 0x7FFFFFF },
  { off := Rg.HOSTQ_QRESET_STATUS, acc := .ro },
  { off := Rg.HOSTQ_ANA_SEL, mask := 0x7F },
  { off := Rg.HOSTQ_ANA_STATE, mask := 0xF, sel := some 0x11C },
  { off := Rg.HOSTQ_ANA_CHGCNT, acc := .ro },
  { off := Rg.HOSTQ_IDLE_P1, reset := 0x64, mask := 0xFFFFFF },
  { off := Rg.HOSTQ_IDLE_P2, reset := 0x2710, mask := 0xFFFFFF },
  { off := Rg.HOSTQ_IDLE_P3, reset := 0xF4240, mask := 0xFFFFFF },
  { off := Rg.HOSTQ_PWR_STATUS, acc := .ro },
  { off := Rg.HOSTQ_ABORT_COUNT, acc := .ro }]

/-- Registers of the URT page. -/
def rows.URT : List RegRow :=
  [
  { off := Rg.URT_CFG, acc := .rwl, mask := 0x1 },
  { off := Rg.URT_UDP_PORT, acc := .rwl, reset := 0x1CF3, mask := 0xFFFF },
  { off := Rg.URT_TARGET_RTT, reset := 0x19, mask := 0xFF, checks := [(7, 0, 5, 200)] },
  { off := Rg.URT_SEAM_TARGET_RTT, reset := 0x5, mask := 0xFF, checks := [(7, 0, 5, 200)] },
  { off := Rg.URT_CC_PARAMS, reset := 0x101080CD, checks := [(31, 24, 1, 255)] },
  { off := Rg.URT_RTO_MIN, reset := 0x64, mask := 0xFFFF },
  { off := Rg.URT_RETRY, reset := 0x307, mask := 0xF0F, checks := [(11, 8, 1, 15)] },
  { off := Rg.URT_FLOWS, acc := .ro },
  { off := Rg.URT_QPS, acc := .ro },
  { off := Rg.URT_DROP_CRC, acc := .ro },
  { off := Rg.URT_DROP_AUTH, acc := .ro },
  { off := Rg.URT_DROP_EPOCH, acc := .ro },
  { off := Rg.URT_DROP_WINDOW, acc := .ro },
  { off := Rg.URT_RETX, acc := .ro },
  { off := Rg.URT_EQ_SEL, mask := 0x3F },
  { off := Rg.URT_EQ_BASE_LO, zero := 0x3F, sel := some 0x138 },
  { off := Rg.URT_EQ_BASE_HI, mask := 0xFFFF, sel := some 0x138 },
  { off := Rg.URT_EQ_CFG, mask := 0x1F3, sel := some 0x138 },
  { off := Rg.URT_EQ_HEAD, mask := 0xFFFF, sel := some 0x138 },
  { off := Rg.URT_EQ_TAIL, acc := .ro, sel := some 0x138 },
  { off := Rg.URT_EQ_LOST, acc := .ro, sel := some 0x138 },
  { off := Rg.URT_CTRL, acc := .wo, mask := 0x1 }]

/-- Registers of the ETH page. -/
def rows.ETH : List RegRow :=
  [
  { off := Rg.ETH_CFG, acc := .rwl, mask := 0xF },
  { off := Rg.ETH_MAC_LO },
  { off := Rg.ETH_MAC_HI, mask := 0xFFFF },
  { off := Rg.ETH_MTU, reset := 0x2328, mask := 0x3FFF, checks := [(13, 0, 1500, 9000)] },
  { off := Rg.ETH_PFC_PRIO, mask := 0xFF },
  { off := Rg.ETH_LINK_STATUS, acc := .ro },
  { off := Rg.ETH_FEC_CORR, acc := .ro },
  { off := Rg.ETH_FEC_UNCORR, acc := .ro },
  { off := Rg.ETH_FEC_WARN, reset := 0xF4240 },
  { off := Rg.ETH_RX_DROP, acc := .ro },
  { off := Rg.ETH_DSCP, reset := 0x301A1A, mask := 0x3F3F3F }]

/-- Registers of the SPOOL page. -/
def rows.SPOOL : List RegRow :=
  [
  { off := Rg.SPOOL_CFG, acc := .rwl, reset := 0xA00000, mask := 0xFFFFFF, checks := [(23, 0, 1, 10485760)] },
  { off := Rg.SPOOL_FREE_COUNT, acc := .ro },
  { off := Rg.SPOOL_LOW_WATER, reset := 0x40000, mask := 0xFFFFFF },
  { off := Rg.SPOOL_ALLOC_CMD, acc := .wo, mask := 0xFFF },
  { off := Rg.SPOOL_FREE_OWNER, mask := 0xFFF },
  { off := Rg.SPOOL_FREE_CMD, acc := .wo, mask := 0xFFFFFF },
  { off := Rg.SPOOL_CMD_STATUS, acc := .ro },
  { off := Rg.SPOOL_RING_SEL, mask := 0x3F },
  { off := Rg.SPOOL_RING_BASE_LO, zero := 0x3F, sel := some 0x11C },
  { off := Rg.SPOOL_RING_BASE_HI, mask := 0xFFFF, sel := some 0x11C },
  { off := Rg.SPOOL_RING_CFG, mask := 0x1F101F1, checks := [(8, 4, 4, 16), (24, 20, 4, 16)], sel := some 0x11C },
  { off := Rg.SPOOL_RING_PI, mask := 0xFFFF, sel := some 0x11C },
  { off := Rg.SPOOL_RING_CI, acc := .ro, sel := some 0x11C },
  { off := Rg.SPOOL_CRING_BASE, sel := some 0x11C },
  { off := Rg.SPOOL_REFUSALS, acc := .ro },
  { off := Rg.SPOOL_POISON_COUNT, acc := .ro },
  { off := Rg.SPOOL_PAGE_SEL, mask := 0xFFFFFF },
  { off := Rg.SPOOL_PAGE_INFO, acc := .ro, sel := some 0x140 },
  { off := Rg.SPOOL_PAGE_WRITTEN_LO, acc := .ro, sel := some 0x140 },
  { off := Rg.SPOOL_PAGE_WRITTEN_HI, acc := .ro, sel := some 0x140 },
  { off := Rg.SPOOL_CRING_HEAD, mask := 0xFFFF, sel := some 0x11C },
  { off := Rg.SPOOL_CRING_TAIL, acc := .ro, reset := 0x10000, sel := some 0x11C },
  { off := Rg.SPOOL_CRING_STALLS, acc := .ro, sel := some 0x11C },
  { off := Rg.SPOOL_CRING_IRQ_LO, acc := .w1c },
  { off := Rg.SPOOL_CRING_IRQ_HI, acc := .w1c }]

/-- Registers of the SYSCACHE page. -/
def rows.SYSCACHE : List RegRow :=
  [
  { off := Rg.SYSCACHE_P2_CFG, acc := .rwl, reset := 0x4, mask := 0x1F, checks := [(4, 0, 0, 16)] },
  { off := Rg.SYSCACHE_ERR_CFG, reset := 0x10, mask := 0xFF, checks := [(7, 0, 1, 255)] },
  { off := Rg.SYSCACHE_WAY_DIS, cnt := 4, acc := .w1s, mask := 0xFFFF },
  { off := Rg.SYSCACHE_SLICE_STATUS, cnt := 4, acc := .ro, reset := 0xFFFF },
  { off := Rg.SYSCACHE_CORR, acc := .ro },
  { off := Rg.SYSCACHE_UNCORR, acc := .ro },
  { off := Rg.SYSCACHE_HITS, acc := .ro },
  { off := Rg.SYSCACHE_MISSES, acc := .ro }]

/-- Registers of the HBMC page. -/
def rows.HBMC : List RegRow :=
  [
  { off := Rg.HBMC_STATUS, acc := .ro },
  { off := Rg.HBMC_PC_FAILED, acc := .ro },
  { off := Rg.HBMC_PC_RETIRE, acc := .w1s },
  { off := Rg.HBMC_TEMP, acc := .ro },
  { off := Rg.HBMC_SCRUB_PERIOD, reset := 0x18, mask := 0xFF, checks := [(7, 0, 1, 255)] },
  { off := Rg.HBMC_UNCORR_LIMIT, reset := 0x8, mask := 0xFF },
  { off := Rg.HBMC_CORR, acc := .ro },
  { off := Rg.HBMC_UNCORR, acc := .ro },
  { off := Rg.HBMC_CHKFIX, acc := .ro },
  { off := Rg.HBMC_TAGFAIL, acc := .ro }]

/-- Registers of the DDRC page. -/
def rows.DDRC : List RegRow :=
  [
  { off := Rg.DDRC_MAP_CFG, acc := .rwl, reset := 0x1000, mask := 0xFFFF },
  { off := Rg.DDRC_STATUS, acc := .ro },
  { off := Rg.DDRC_FAIL, acc := .w1s, mask := 0x1 },
  { off := Rg.DDRC_TEMP, acc := .ro },
  { off := Rg.DDRC_SCRUB_PERIOD, reset := 0x18, mask := 0xFF, checks := [(7, 0, 1, 255)] },
  { off := Rg.DDRC_UNCORR_LIMIT, reset := 0x8, mask := 0xFF },
  { off := Rg.DDRC_CORR, acc := .ro },
  { off := Rg.DDRC_UNCORR, acc := .ro },
  { off := Rg.DDRC_CHKFIX, acc := .ro },
  { off := Rg.DDRC_TAGFAIL, acc := .ro }]

/-- Registers of the HALLMARK page. -/
def rows.HALLMARK : List RegRow :=
  [
  { off := Rg.HALLMARK_CFG, acc := .rwl, reset := 0x100FF, mask := 0x1FFFF },
  { off := Rg.HALLMARK_RING_SEL, mask := 0x3F },
  { off := Rg.HALLMARK_RING_BASE_LO, zero := 0x3F, sel := some 0x104 },
  { off := Rg.HALLMARK_RING_BASE_HI, mask := 0xFFFF, sel := some 0x104 },
  { off := Rg.HALLMARK_RING_CFG, mask := 0x1F101F1, checks := [(8, 4, 4, 16), (24, 20, 4, 16)], sel := some 0x104 },
  { off := Rg.HALLMARK_RING_PI, mask := 0xFFFF, sel := some 0x104 },
  { off := Rg.HALLMARK_RING_CI, acc := .ro, sel := some 0x104 },
  { off := Rg.HALLMARK_CRING_BASE, sel := some 0x104 },
  { off := Rg.HALLMARK_CTX_FREE, acc := .ro, reset := 0x1000 },
  { off := Rg.HALLMARK_LW_CTX, mask := 0xFFF },
  { off := Rg.HALLMARK_LW_DATA, cnt := 8, acc := .wo },
  { off := Rg.HALLMARK_LW_VALID_BYTES, mask := 0x3F },
  { off := Rg.HALLMARK_LW_CMD, acc := .wo, mask := 0x1 },
  { off := Rg.HALLMARK_LW_RESULT, cnt := 8, acc := .ro },
  { off := Rg.HALLMARK_LW_STATUS, acc := .ro },
  { off := Rg.HALLMARK_SEAL_SEL, mask := 0x3 },
  { off := Rg.HALLMARK_SEAL_EXP, cnt := 8, acc := .wo, sel := some 0x174 },
  { off := Rg.HALLMARK_SEAL_STATUS, acc := .ro },
  { off := Rg.HALLMARK_BYTES_LO, acc := .ro },
  { off := Rg.HALLMARK_BYTES_HI, acc := .ro },
  { off := Rg.HALLMARK_CATCHUP_BYTES, acc := .ro },
  { off := Rg.HALLMARK_CRING_HEAD, mask := 0xFFFF, sel := some 0x104 },
  { off := Rg.HALLMARK_CRING_TAIL, acc := .ro, reset := 0x10000, sel := some 0x104 },
  { off := Rg.HALLMARK_CRING_STALLS, acc := .ro, sel := some 0x104 },
  { off := Rg.HALLMARK_CRING_IRQ_LO, acc := .w1c },
  { off := Rg.HALLMARK_CRING_IRQ_HI, acc := .w1c }]

/-- Registers of the DEDUP page. -/
def rows.DEDUP : List RegRow :=
  [
  { off := Rg.DEDUP_CFG, acc := .rwl, reset := 0x9, mask := 0xF, checks := [(3, 1, 1, 7)] },
  { off := Rg.DEDUP_HOOK_BASE_LO, zero := 0x3F },
  { off := Rg.DEDUP_HOOK_BASE_HI, mask := 0xFFFF },
  { off := Rg.DEDUP_HOOK_BUCKETS, reset := 0x1C, mask := 0x3F, checks := [(5, 0, 10, 32)] },
  { off := Rg.DEDUP_DOM_SEL, mask := 0x3FF },
  { off := Rg.DEDUP_DOM_CFG, mask := 0xFFF0007, sel := some 0x110 },
  { off := Rg.DEDUP_DOM_REFSEQ_LO, acc := .ro, sel := some 0x110 },
  { off := Rg.DEDUP_DOM_REFSEQ_HI, acc := .ro, sel := some 0x110 },
  { off := Rg.DEDUP_DOM_STATE, acc := .ro, sel := some 0x110 },
  { off := Rg.DEDUP_LOOKUPS, acc := .ro },
  { off := Rg.DEDUP_HITS, acc := .ro },
  { off := Rg.DEDUP_HOOK_EVICT, acc := .ro },
  { off := Rg.DEDUP_COLLISIONS, acc := .ro },
  { off := Rg.DEDUP_REF_FULL, acc := .ro },
  { off := Rg.DEDUP_REF_UNDERFLOW, acc := .ro },
  { off := Rg.DEDUP_PENDING, acc := .ro },
  { off := Rg.DEDUP_MAN_CACHE, reset := 0x10000, mask := 0xFFFFF },
  { off := Rg.DEDUP_MAN_SEAL_MS, reset := 0x64, mask := 0xFFFF },
  { off := Rg.DEDUP_LOG_INTERVAL, reset := 0x40, mask := 0xFFFF, checks := [(15, 0, 8, 1000)] },
  { off := Rg.DEDUP_RING_SEL, mask := 0x3F },
  { off := Rg.DEDUP_RING_BASE_LO, zero := 0x3F, sel := some 0x150 },
  { off := Rg.DEDUP_RING_BASE_HI, mask := 0xFFFF, sel := some 0x150 },
  { off := Rg.DEDUP_RING_CFG, mask := 0x1F101F1, checks := [(8, 4, 4, 16), (24, 20, 4, 16)], sel := some 0x150 },
  { off := Rg.DEDUP_RING_PI, mask := 0xFFFF, sel := some 0x150 },
  { off := Rg.DEDUP_RING_CI, acc := .ro, sel := some 0x150 },
  { off := Rg.DEDUP_CRING_BASE, sel := some 0x150 },
  { off := Rg.DEDUP_CRING_HEAD, mask := 0xFFFF, sel := some 0x150 },
  { off := Rg.DEDUP_CRING_TAIL, acc := .ro, reset := 0x10000, sel := some 0x150 },
  { off := Rg.DEDUP_CRING_STALLS, acc := .ro, sel := some 0x150 },
  { off := Rg.DEDUP_CRING_IRQ_LO, acc := .w1c },
  { off := Rg.DEDUP_CRING_IRQ_HI, acc := .w1c }]

/-- Registers of the PLEAT page. -/
def rows.PLEAT : List RegRow :=
  [
  { off := Rg.PLEAT_CFG, acc := .rwl, reset := 0x5, mask := 0xF, checks := [(3, 1, 1, 6)] },
  { off := Rg.PLEAT_RING_SEL, mask := 0x3F },
  { off := Rg.PLEAT_RING_BASE_LO, zero := 0x3F, sel := some 0x104 },
  { off := Rg.PLEAT_RING_BASE_HI, mask := 0xFFFF, sel := some 0x104 },
  { off := Rg.PLEAT_RING_CFG, mask := 0x1F101F1, checks := [(8, 4, 4, 16), (24, 20, 4, 16)], sel := some 0x104 },
  { off := Rg.PLEAT_RING_PI, mask := 0xFFFF, sel := some 0x104 },
  { off := Rg.PLEAT_RING_CI, acc := .ro, sel := some 0x104 },
  { off := Rg.PLEAT_CRING_BASE, sel := some 0x104 },
  { off := Rg.PLEAT_NO_GAIN_MARGIN, reset := 0x40, mask := 0x1FFF, checks := [(12, 0, 0, 4096)] },
  { off := Rg.PLEAT_CTX_FREE, acc := .ro, reset := 0x1000 },
  { off := Rg.PLEAT_RESUME_LIMIT, reset := 0x2710, mask := 0xFFFFFF, checks := [(23, 0, 1, 16777215)] },
  { off := Rg.PLEAT_ENGINE_EN, reset := 0xFFFFFFFF },
  { off := Rg.PLEAT_IN_BYTES_LO, acc := .ro },
  { off := Rg.PLEAT_IN_BYTES_HI, acc := .ro },
  { off := Rg.PLEAT_OUT_BYTES_LO, acc := .ro },
  { off := Rg.PLEAT_OUT_BYTES_HI, acc := .ro },
  { off := Rg.PLEAT_NO_GAIN_COUNT, acc := .ro },
  { off := Rg.PLEAT_CRC_FAIL, acc := .ro },
  { off := Rg.PLEAT_CTX_EXPIRED, acc := .ro },
  { off := Rg.PLEAT_CRING_HEAD, mask := 0xFFFF, sel := some 0x104 },
  { off := Rg.PLEAT_CRING_TAIL, acc := .ro, reset := 0x10000, sel := some 0x104 },
  { off := Rg.PLEAT_CRING_STALLS, acc := .ro, sel := some 0x104 },
  { off := Rg.PLEAT_CRING_IRQ_LO, acc := .w1c },
  { off := Rg.PLEAT_CRING_IRQ_HI, acc := .w1c }]

/-- Registers of the CIPHER page. -/
def rows.CIPHER : List RegRow :=
  [
  { off := Rg.CIPHER_CFG, acc := .rwl, reset := 0x1, mask := 0x3 },
  { off := Rg.CIPHER_RING_SEL, mask := 0x3F },
  { off := Rg.CIPHER_RING_BASE_LO, zero := 0x3F, sel := some 0x104 },
  { off := Rg.CIPHER_RING_BASE_HI, mask := 0xFFFF, sel := some 0x104 },
  { off := Rg.CIPHER_RING_CFG, mask := 0x1F101F1, checks := [(8, 4, 4, 16), (24, 20, 4, 16)], sel := some 0x104 },
  { off := Rg.CIPHER_RING_PI, mask := 0xFFFF, sel := some 0x104 },
  { off := Rg.CIPHER_RING_CI, acc := .ro, sel := some 0x104 },
  { off := Rg.CIPHER_CRING_BASE, sel := some 0x104 },
  { off := Rg.CIPHER_KEY_SEL, mask := 0xFFF },
  { off := Rg.CIPHER_KEY_DATA, cnt := 8, acc := .wo },
  { off := Rg.CIPHER_KEY_ATTR, mask := 0x3F },
  { off := Rg.CIPHER_KEY_CMD, acc := .wo, mask := 0x3 },
  { off := Rg.CIPHER_KEY_INFO, acc := .ro, sel := some 0x120 },
  { off := Rg.CIPHER_KEY_CMD_STATUS, acc := .ro },
  { off := Rg.CIPHER_NONCE_FLOOR, acc := .wos },
  { off := Rg.CIPHER_NONCE_NEXT, acc := .ro },
  { off := Rg.CIPHER_NONCE_ENG, mask := 0xF },
  { off := Rg.CIPHER_NONCE_GRANT, acc := .wo, sel := some 0x15C },
  { off := Rg.CIPHER_NONCE_CUR, acc := .ro, sel := some 0x15C },
  { off := Rg.CIPHER_NONCE_PEND, acc := .ro, sel := some 0x15C },
  { off := Rg.CIPHER_NONCE_STAT, acc := .ro, sel := some 0x15C },
  { off := Rg.CIPHER_AUTH_FAIL, acc := .ro },
  { off := Rg.CIPHER_NONCE_STARVED, acc := .ro },
  { off := Rg.CIPHER_KEYS_FULL, acc := .ro },
  { off := Rg.CIPHER_CRING_HEAD, mask := 0xFFFF, sel := some 0x104 },
  { off := Rg.CIPHER_CRING_TAIL, acc := .ro, reset := 0x10000, sel := some 0x104 },
  { off := Rg.CIPHER_CRING_STALLS, acc := .ro, sel := some 0x104 },
  { off := Rg.CIPHER_CRING_IRQ_LO, acc := .w1c },
  { off := Rg.CIPHER_CRING_IRQ_HI, acc := .w1c }]

/-- Registers of the QUILT page. -/
def rows.QUILT : List RegRow :=
  [
  { off := Rg.QUILT_CFG, acc := .rwl, reset := 0x1, mask := 0x1 },
  { off := Rg.QUILT_RING_SEL, mask := 0x3F },
  { off := Rg.QUILT_RING_BASE_LO, zero := 0x3F, sel := some 0x104 },
  { off := Rg.QUILT_RING_BASE_HI, mask := 0xFFFF, sel := some 0x104 },
  { off := Rg.QUILT_RING_CFG, mask := 0x1F101F1, checks := [(8, 4, 4, 16), (24, 20, 4, 16)], sel := some 0x104 },
  { off := Rg.QUILT_RING_PI, mask := 0xFFFF, sel := some 0x104 },
  { off := Rg.QUILT_RING_CI, acc := .ro, sel := some 0x104 },
  { off := Rg.QUILT_CRING_BASE, sel := some 0x104 },
  { off := Rg.QUILT_LAYOUT_SEL, mask := 0x7 },
  { off := Rg.QUILT_LAYOUT, mask := 0xFF, sel := some 0x120 },
  { off := Rg.QUILT_WRITE_LAYOUT, mask := 0x7 },
  { off := Rg.QUILT_REBUILD_FLOOR, reset := 0x190A, mask := 0xFF7F, checks := [(6, 0, 1, 100), (15, 8, 0, 100)] },
  { off := Rg.QUILT_MOD_FAILED, acc := .ro },
  { off := Rg.QUILT_MOD_REBUILDING, acc := .ro },
  { off := Rg.QUILT_REBUILD_LEFT_LO, acc := .ro },
  { off := Rg.QUILT_REBUILD_LEFT_HI, acc := .ro },
  { off := Rg.QUILT_MARGIN0, acc := .ro },
  { off := Rg.QUILT_RESHAPE_CFG, reset := 0x500, mask := 0x1F37 },
  { off := Rg.QUILT_RESHAPE_CMD, acc := .wo, mask := 0x3 },
  { off := Rg.QUILT_RESHAPE_STATUS, acc := .ro },
  { off := Rg.QUILT_RESHAPE_BOUND_LO, acc := .ro },
  { off := Rg.QUILT_RESHAPE_BOUND_HI, acc := .ro },
  { off := Rg.QUILT_RESHAPE_TARGET_LO, acc := .ro },
  { off := Rg.QUILT_RESHAPE_TARGET_HI, acc := .ro },
  { off := Rg.QUILT_RESHAPE_CKPT_LO, acc := .ro },
  { off := Rg.QUILT_RESHAPE_CKPT_HI, acc := .ro },
  { off := Rg.QUILT_DRAIN_MASK },
  { off := Rg.QUILT_MOD_DRAINED, acc := .ro },
  { off := Rg.QUILT_OPEN_BOLTS, acc := .ro },
  { off := Rg.QUILT_DIRTY_REGIONS, acc := .ro },
  { off := Rg.QUILT_RESYNC_LEFT, acc := .ro },
  { off := Rg.QUILT_UNFREEZE_LO, acc := .wo },
  { off := Rg.QUILT_UNFREEZE_HI, acc := .wo },
  { off := Rg.QUILT_FROZEN, acc := .ro },
  { off := Rg.QUILT_CHECKFIX, acc := .ro },
  { off := Rg.QUILT_DATAFIX, acc := .ro },
  { off := Rg.QUILT_LOST, acc := .ro },
  { off := Rg.QUILT_CRING_HEAD, mask := 0xFFFF, sel := some 0x104 },
  { off := Rg.QUILT_CRING_TAIL, acc := .ro, reset := 0x10000, sel := some 0x104 },
  { off := Rg.QUILT_CRING_STALLS, acc := .ro, sel := some 0x104 }] ++
  [
  { off := Rg.QUILT_CRING_IRQ_LO, acc := .w1c },
  { off := Rg.QUILT_CRING_IRQ_HI, acc := .w1c }]

/-- Registers of the MAPPER page. -/
def rows.MAPPER : List RegRow :=
  [
  { off := Rg.MAPPER_CFG, acc := .rwl, reset := 0x1, mask := 0x1 },
  { off := Rg.MAPPER_RING_SEL, mask := 0x3F },
  { off := Rg.MAPPER_RING_BASE_LO, zero := 0x3F, sel := some 0x104 },
  { off := Rg.MAPPER_RING_BASE_HI, mask := 0xFFFF, sel := some 0x104 },
  { off := Rg.MAPPER_RING_CFG, mask := 0x1F101F1, checks := [(8, 4, 4, 16), (24, 20, 4, 16)], sel := some 0x104 },
  { off := Rg.MAPPER_RING_PI, mask := 0xFFFF, sel := some 0x104 },
  { off := Rg.MAPPER_RING_CI, acc := .ro, sel := some 0x104 },
  { off := Rg.MAPPER_CRING_BASE, sel := some 0x104 },
  { off := Rg.MAPPER_STATUS, acc := .ro },
  { off := Rg.MAPPER_CACHE_SIZE, reset := 0x200, mask := 0x3FF, checks := [(9, 0, 1, 768)] },
  { off := Rg.MAPPER_CACHE_MIN, reset := 0x80, mask := 0x3FF },
  { off := Rg.MAPPER_CACHE_CFG, reset := 0xA, mask := 0x7F, checks := [(6, 0, 1, 50)] },
  { off := Rg.MAPPER_CACHE_HITS, acc := .ro },
  { off := Rg.MAPPER_CACHE_MISSES, acc := .ro },
  { off := Rg.MAPPER_SEQ_PERSIST_LO, acc := .ro },
  { off := Rg.MAPPER_SEQ_PERSIST_HI, acc := .ro },
  { off := Rg.MAPPER_SEQ_HORIZON_LO, acc := .ro },
  { off := Rg.MAPPER_SEQ_HORIZON_HI, acc := .ro },
  { off := Rg.MAPPER_FREE_BOLTS, acc := .ro },
  { off := Rg.MAPPER_GC_CFG, reset := 0x2000100, mask := 0x3FF03FF },
  { off := Rg.MAPPER_WEAR_CFG, reset := 0xC8, mask := 0xFFFF },
  { off := Rg.MAPPER_GC_STATUS, acc := .ro },
  { off := Rg.MAPPER_RETIRE_CFG, reset := 0x80, mask := 0xFFFF },
  { off := Rg.MAPPER_RETIRED_BLOCKS, acc := .ro },
  { off := Rg.MAPPER_RETIRED_DIES, acc := .ro },
  { off := Rg.MAPPER_THR_SEL, mask := 0x7 },
  { off := Rg.MAPPER_THR_SRC_LO, zero := 0x3F },
  { off := Rg.MAPPER_THR_SRC_HI, mask := 0xFFFF },
  { off := Rg.MAPPER_THR_CMD, acc := .wo, mask := 0x1 },
  { off := Rg.MAPPER_THR_STATUS, acc := .ro },
  { off := Rg.MAPPER_THR_CFG, reset := 0x8, mask := 0xF },
  { off := Rg.MAPPER_THR_FIRST_OK, acc := .ro },
  { off := Rg.MAPPER_THR_FIRST_FAIL, acc := .ro },
  { off := Rg.MAPPER_REFRESH_QUEUED, acc := .ro },
  { off := Rg.MAPPER_LOG_CFG, acc := .rwl, reset := 0x100, mask := 0x3FF },
  { off := Rg.MAPPER_LOG_BOLTS, acc := .ro },
  { off := Rg.MAPPER_ORDER_USED, acc := .ro },
  { off := Rg.MAPPER_CKPT_INTERVAL, reset := 0x3E8, mask := 0xFFFF, checks := [(15, 0, 10, 60000)] },
  { off := Rg.MAPPER_CRING_HEAD, mask := 0xFFFF, sel := some 0x104 },
  { off := Rg.MAPPER_CRING_TAIL, acc := .ro, reset := 0x10000, sel := some 0x104 }] ++
  [
  { off := Rg.MAPPER_CRING_STALLS, acc := .ro, sel := some 0x104 },
  { off := Rg.MAPPER_CRING_IRQ_LO, acc := .w1c },
  { off := Rg.MAPPER_CRING_IRQ_HI, acc := .w1c }]

/-- Registers of the SNAPREP page. -/
def rows.SNAPREP : List RegRow :=
  [
  { off := Rg.SNAPREP_CFG, acc := .rwl, reset := 0x1, mask := 0x1 },
  { off := Rg.SNAPREP_ARG_LO },
  { off := Rg.SNAPREP_ARG_HI },
  { off := Rg.SNAPREP_CMD, acc := .wo, mask := 0xF },
  { off := Rg.SNAPREP_CMD_STATUS, acc := .ro },
  { off := Rg.SNAPREP_EPOCH, acc := .ro },
  { off := Rg.SNAPREP_SNAPS, acc := .ro },
  { off := Rg.SNAPREP_DEL_RATE, reset := 0x100000, mask := 0xFFFFFF },
  { off := Rg.SNAPREP_DEL_BACKLOG, acc := .ro },
  { off := Rg.SNAPREP_CKPT_GRAINS, reset := 0x10000, mask := 0xFFFFFF, checks := [(23, 0, 1024, 1048576)] },
  { off := Rg.SNAPREP_RETRY_MS, reset := 0x3E8, mask := 0xFFFF, checks := [(15, 0, 10, 60000)] },
  { off := Rg.SNAPREP_PAIR_SEL, mask := 0xFF },
  { off := Rg.SNAPREP_PAIR_CFG, sel := some 0x12C },
  { off := Rg.SNAPREP_PAIR_RATE, reset := 0x7D0, mask := 0xFFFF, checks := [(15, 0, 1, 50000)], sel := some 0x12C },
  { off := Rg.SNAPREP_PAIR_STATE, acc := .ro, sel := some 0x12C },
  { off := Rg.SNAPREP_PAIR_CURSOR_LO, acc := .ro, sel := some 0x12C },
  { off := Rg.SNAPREP_PAIR_CURSOR_HI, acc := .ro, sel := some 0x12C },
  { off := Rg.SNAPREP_PAIR_HAVE, acc := .ro, sel := some 0x12C },
  { off := Rg.SNAPREP_PAIR_NEED, acc := .ro, sel := some 0x12C }]

/-- Registers of the STITCH page. -/
def rows.STITCH : List RegRow :=
  [
  { off := Rg.STITCH_CFG, acc := .rwl, reset := 0x41, mask := 0x7F, checks := [(6, 1, 1, 62)] },
  { off := Rg.STITCH_RING_SEL, mask := 0x3F },
  { off := Rg.STITCH_RING_BASE_LO, zero := 0x3F, sel := some 0x104 },
  { off := Rg.STITCH_RING_BASE_HI, mask := 0xFFFF, sel := some 0x104 },
  { off := Rg.STITCH_RING_CFG, mask := 0x1F101F1, checks := [(8, 4, 4, 16), (24, 20, 4, 16)], sel := some 0x104 },
  { off := Rg.STITCH_RING_PI, mask := 0xFFFF, sel := some 0x104 },
  { off := Rg.STITCH_RING_CI, acc := .ro, sel := some 0x104 },
  { off := Rg.STITCH_CRING_BASE, sel := some 0x104 },
  { off := Rg.STITCH_ROLE_SEL, mask := 0x3 },
  { off := Rg.STITCH_ROLE_EPOCH_LO, sel := some 0x120 },
  { off := Rg.STITCH_ROLE_EPOCH_HI, sel := some 0x120 },
  { off := Rg.STITCH_ROLE_HELD, mask := 0x7 },
  { off := Rg.STITCH_MOD_SEL, mask := 0x7 },
  { off := Rg.STITCH_MOD_CFG, reset := 0x3210, mask := 0xFF1F, checks := [(3, 0, 0, 15)], sel := some 0x130 },
  { off := Rg.STITCH_MOD_CTRL, acc := .wo, mask := 0xF, sel := some 0x130 },
  { off := Rg.STITCH_MOD_STATUS, acc := .ro, sel := some 0x130 },
  { off := Rg.STITCH_MOD_INFLIGHT, acc := .ro, sel := some 0x130 },
  { off := Rg.STITCH_MOD_SERIAL_LO, acc := .ro, sel := some 0x130 },
  { off := Rg.STITCH_MOD_SERIAL_HI, acc := .ro, sel := some 0x130 },
  { off := Rg.STITCH_MOD_TEMP, acc := .ro, reset := 0x80, sel := some 0x130 },
  { off := Rg.STITCH_MOD_DECODE, acc := .ro, sel := some 0x130 },
  { off := Rg.STITCH_MOD_STALE, acc := .ro, sel := some 0x130 },
  { off := Rg.STITCH_INFLIGHT, acc := .ro },
  { off := Rg.STITCH_CMD_TIMEOUT, reset := 0x32, mask := 0xFFFF, checks := [(15, 0, 10, 60000)] },
  { off := Rg.STITCH_LINK_TIMEOUT, reset := 0x64, mask := 0xFFFF, checks := [(15, 0, 10, 60000)] },
  { off := Rg.STITCH_TELEM_MS, reset := 0x3E8, mask := 0xFFFF, checks := [(15, 0, 100, 60000)] },
  { off := Rg.STITCH_STATUS, acc := .ro },
  { off := Rg.STITCH_CRING_HEAD, mask := 0xFFFF, sel := some 0x104 },
  { off := Rg.STITCH_CRING_TAIL, acc := .ro, reset := 0x10000, sel := some 0x104 },
  { off := Rg.STITCH_CRING_STALLS, acc := .ro, sel := some 0x104 },
  { off := Rg.STITCH_CRING_IRQ_LO, acc := .w1c },
  { off := Rg.STITCH_CRING_IRQ_HI, acc := .w1c }]

/-- Registers of the PCIE page. -/
def rows.PCIE : List RegRow :=
  [
  { off := Rg.PCIE_CFG, acc := .rwl, reset := 0xD, mask := 0xF, checks := [(3, 1, 1, 6)] },
  { off := Rg.PCIE_PORT_SEL, mask := 0x7 },
  { off := Rg.PCIE_PORT_STATUS, acc := .ro, sel := some 0x104 },
  { off := Rg.PCIE_PORT_ERR, acc := .w1c, mask := 0x1F, sel := some 0x104 },
  { off := Rg.PCIE_CPL_TIMEOUT, reset := 0x2710, mask := 0xFFFF, checks := [(15, 0, 50, 65535)], sel := some 0x104 },
  { off := Rg.PCIE_CORR_COUNT, acc := .ro, sel := some 0x104 },
  { off := Rg.PCIE_FLIT_REPLAY, acc := .ro, sel := some 0x104 },
  { off := Rg.PCIE_HP_STATUS, acc := .ro }]

/-- Registers of the PATTERN page. -/
def rows.PATTERN : List RegRow :=
  [
  { off := Rg.PATTERN_CFG, acc := .rwl, reset := 0x1, mask := 0x1 },
  { off := Rg.PATTERN_RING_SEL, mask := 0x3F },
  { off := Rg.PATTERN_RING_BASE_LO, zero := 0x3F, sel := some 0x104 },
  { off := Rg.PATTERN_RING_BASE_HI, mask := 0xFFFF, sel := some 0x104 },
  { off := Rg.PATTERN_RING_CFG, mask := 0x1F101F1, checks := [(8, 4, 4, 16), (24, 20, 4, 16)], sel := some 0x104 },
  { off := Rg.PATTERN_RING_PI, mask := 0xFFFF, sel := some 0x104 },
  { off := Rg.PATTERN_RING_CI, acc := .ro, sel := some 0x104 },
  { off := Rg.PATTERN_CRING_BASE, sel := some 0x104 },
  { off := Rg.PATTERN_ELIGIBLE, acc := .ro },
  { off := Rg.PATTERN_EXCL_HOT, acc := .ro },
  { off := Rg.PATTERN_TEMP_CFG, reset := 0x4B, mask := 0xFF, checks := [(7, 0, 50, 80)] },
  { off := Rg.PATTERN_HOT_MINUTES, reset := 0x3C, mask := 0xFFFF, checks := [(15, 0, 1, 65535)] },
  { off := Rg.PATTERN_DIE_QD, reset := 0x8, mask := 0x3F, checks := [(5, 0, 1, 32)] },
  { off := Rg.PATTERN_GC_SHARE, reset := 0x3C05, mask := 0x7F7F, checks := [(14, 8, 0, 90)] },
  { off := Rg.PATTERN_SHARE_NOW, acc := .ro },
  { off := Rg.PATTERN_CURSOR, acc := .ro },
  { off := Rg.PATTERN_BLOCK_USE, mask := 0x1 },
  { off := Rg.PATTERN_BOLTS_CHOSEN, acc := .ro },
  { off := Rg.PATTERN_ZONE_RELAXED, acc := .ro },
  { off := Rg.PATTERN_NO_SET, acc := .ro },
  { off := Rg.PATTERN_OPEN_STREAM, acc := .ro },
  { off := Rg.PATTERN_CLUSTER_SEL, mask := 0xF },
  { off := Rg.PATTERN_CLUSTER_LOAD, acc := .ro, reset := 0x40, sel := some 0x154 },
  { off := Rg.PATTERN_CRING_HEAD, mask := 0xFFFF, sel := some 0x104 },
  { off := Rg.PATTERN_CRING_TAIL, acc := .ro, reset := 0x10000, sel := some 0x104 },
  { off := Rg.PATTERN_CRING_STALLS, acc := .ro, sel := some 0x104 },
  { off := Rg.PATTERN_CRING_IRQ_LO, acc := .w1c },
  { off := Rg.PATTERN_CRING_IRQ_HI, acc := .w1c }]

/-- Registers of the SEAM page. -/
def rows.SEAM : List RegRow :=
  [
  { off := Rg.SEAM_CFG, acc := .rwl, reset := 0x1, mask := 0x1 },
  { off := Rg.SEAM_STATUS, acc := .ro },
  { off := Rg.SEAM_ERR, acc := .ro },
  { off := Rg.SEAM_FEC_CORR, acc := .ro },
  { off := Rg.SEAM_FEC_UNCORR, acc := .ro },
  { off := Rg.SEAM_MISSED, acc := .ro },
  { off := Rg.SEAM_CRC_DROP, acc := .ro },
  { off := Rg.SEAM_FRAMES_RX, acc := .ro },
  { off := Rg.SEAM_HB_GTS_LO, acc := .ro },
  { off := Rg.SEAM_HB_GTS_HI, acc := .ro },
  { off := Rg.SEAM_RTT, acc := .ro },
  { off := Rg.SEAM_RETRAIN_MS, reset := 0x3E8, mask := 0xFFFF, checks := [(15, 0, 10, 60000)] },
  { off := Rg.SEAM_CTRL, acc := .wo, mask := 0x3 }]

/-- Registers of the HEADPAIR page. -/
def rows.HEADPAIR : List RegRow :=
  [
  { off := Rg.HEADPAIR_CFG, acc := .rwl, reset := 0xFFE0001, mask := 0xFFF0003 },
  { off := Rg.HEADPAIR_HEAD_ID, acc := .wos, mask := 0x1 },
  { off := Rg.HEADPAIR_STATE, acc := .ro },
  { off := Rg.HEADPAIR_CMD, acc := .wo, mask := 0x1 },
  { off := Rg.HEADPAIR_SILENCE, reset := 0x7D0, mask := 0xFFFF, checks := [(15, 0, 500, 20000)] },
  { off := Rg.HEADPAIR_READ_LEASE, reset := 0x1F4, mask := 0xFFFF, checks := [(15, 0, 100, 10000)] },
  { off := Rg.HEADPAIR_MIRROR_PAGES, acc := .rwl, reset := 0x280000, mask := 0xFFFFFF, checks := [(23, 0, 2097152, 4194304)] },
  { off := Rg.HEADPAIR_MIRROR_FREE, acc := .ro },
  { off := Rg.HEADPAIR_JSEQ_ACKED_LO, acc := .ro },
  { off := Rg.HEADPAIR_JSEQ_ACKED_HI, acc := .ro },
  { off := Rg.HEADPAIR_SHADOW_LO, acc := .ro },
  { off := Rg.HEADPAIR_SHADOW_HI, acc := .ro },
  { off := Rg.HEADPAIR_KEEPER_LO, acc := .ro },
  { off := Rg.HEADPAIR_KEEPER_HI, acc := .ro },
  { off := Rg.HEADPAIR_GTS_STATUS, acc := .ro },
  { off := Rg.HEADPAIR_YIELD_CAUSE, acc := .ro },
  { off := Rg.HEADPAIR_ANA_HOME, cnt := 4 },
  { off := Rg.HEADPAIR_TAKEOVER_US, acc := .ro },
  { off := Rg.HEADPAIR_PINS, acc := .ro }]

/-- Registers of the CLASP page. -/
def rows.CLASP : List RegRow :=
  [
  { off := Rg.CLASP_CFG, acc := .rwl, reset := 0x1, mask := 0x1 },
  { off := Rg.CLASP_TMO_CHIP, reset := 0x64, mask := 0xFFFF, checks := [(15, 0, 10, 65535)] },
  { off := Rg.CLASP_TMO_SEAM, reset := 0x7D0, mask := 0xFFFF, checks := [(15, 0, 100, 65535)] },
  { off := Rg.CLASP_TIMEOUTS, acc := .ro },
  { off := Rg.CLASP_CROSSED, acc := .ro },
  { off := Rg.CLASP_BIND, cnt := 64, acc := .rwl, mask := 0x801FFFFF, checks := [(19, 15, 0, 30)] },
  { off := Rg.CLASP_BANK, cnt := 32, acc := .rwl, mask := 0x800003FF },
  { off := Rg.CLASP_DB_PEND, cnt := 32, acc := .w1c },
  { off := Rg.CLASP_DB_MASK, cnt := 32 },
  { off := Rg.CLASP_OUT_MSG, cnt := 64, stride := 0x80, words := 16 },
  { off := Rg.CLASP_OUT_GO, cnt := 64, stride := 0x80, acc := .w1s, mask := 0x3 },
  { off := Rg.CLASP_OUT_STATUS, cnt := 64, stride := 0x80, acc := .ro },
  { off := Rg.CLASP_IN_MSG, cnt := 64, stride := 0x80, words := 16, acc := .ro },
  { off := Rg.CLASP_IN_REL, cnt := 64, stride := 0x80, acc := .wo, mask := 0x1 },
  { off := Rg.CLASP_IN_STATUS, cnt := 64, stride := 0x80, acc := .ro }]

/-- Registers of the LOCKET page. -/
def rows.LOCKET : List RegRow :=
  [
  { off := Rg.LOCKET_CFG, acc := .rwl, reset := 0x1, mask := 0xFFF0003 },
  { off := Rg.LOCKET_SEQ_NEXT_LO, acc := .ro },
  { off := Rg.LOCKET_SEQ_NEXT_HI, acc := .ro },
  { off := Rg.LOCKET_SEQ_BASE_LO },
  { off := Rg.LOCKET_SEQ_BASE_HI, acc := .wos },
  { off := Rg.LOCKET_RING_BASE_LO, acc := .rwl, zero := 0x3FFFFF },
  { off := Rg.LOCKET_RING_BASE_HI, acc := .rwl, mask := 0xFFFF },
  { off := Rg.LOCKET_WIN_CURSOR_LO },
  { off := Rg.LOCKET_WIN_CURSOR_HI },
  { off := Rg.LOCKET_WIN_STATUS, acc := .ro },
  { off := Rg.LOCKET_OLDEST_LO, acc := .ro },
  { off := Rg.LOCKET_OLDEST_HI, acc := .ro },
  { off := Rg.LOCKET_DROPPED, acc := .ro },
  { off := Rg.LOCKET_SPILL_LOST, acc := .ro },
  { off := Rg.LOCKET_CLEAR_CHAL_LO, acc := .ro },
  { off := Rg.LOCKET_CLEAR_CHAL_HI, acc := .ro },
  { off := Rg.LOCKET_CLEAR_TOKEN_LO, acc := .wo },
  { off := Rg.LOCKET_CLEAR_TOKEN_HI, acc := .wo },
  { off := Rg.LOCKET_CLEAR_CMD, acc := .wo, mask := 0x1 },
  { off := Rg.LOCKET_CLEAR_STATUS, acc := .ro },
  { off := Rg.LOCKET_CLEAR_SEQ_LO, acc := .ro },
  { off := Rg.LOCKET_CLEAR_SEQ_HI, acc := .ro },
  { off := Rg.LOCKET_WIN_DATA, cnt := 16, acc := .ro }]

/-- Registers of the GTS page. -/
def rows.GTS : List RegRow :=
  [
  { off := Rg.GTS_NOW_LO, acc := .ro },
  { off := Rg.GTS_NOW_HI, acc := .ro },
  { off := Rg.GTS_CAL_SECONDS_LO, acc := .ro },
  { off := Rg.GTS_CAL_SECONDS_HI, acc := .ro },
  { off := Rg.GTS_CAL_NS, acc := .ro, reset := 0x80000000 },
  { off := Rg.GTS_CAL_SET_LO },
  { off := Rg.GTS_CAL_SET_HI, mask := 0xFF },
  { off := Rg.GTS_CAL_SET_NS, mask := 0x3FFFFFFF },
  { off := Rg.GTS_CAL_CMD, acc := .wo, mask := 0x1 },
  { off := Rg.GTS_SLEW, acc := .ro },
  { off := Rg.GTS_LAST_STEP_LO, acc := .ro },
  { off := Rg.GTS_LAST_STEP_HI, acc := .ro }]

/-- Registers of the THIMBLE page. -/
def rows.THIMBLE : List RegRow :=
  [
  { off := Rg.THIMBLE_CFG, acc := .rwl, reset := 0x3DA, mask := 0x3FF },
  { off := Rg.THIMBLE_STATE, acc := .ro },
  { off := Rg.THIMBLE_WAKE_CAUSE, acc := .w1c, reset := 0x8, mask := 0xF },
  { off := Rg.THIMBLE_SECONDS_LO, acc := .ro },
  { off := Rg.THIMBLE_SECONDS_HI, acc := .ro },
  { off := Rg.THIMBLE_NACKS, acc := .ro },
  { off := Rg.THIMBLE_P4_COUNT, acc := .ro },
  { off := Rg.THIMBLE_SCRATCH, cnt := 4 },
  { off := Rg.THIMBLE_XTAL, acc := .ro }]

/-- Registers of the SELVEDGE page. -/
def rows.SELVEDGE : List RegRow :=
  [
  { off := Rg.SELVEDGE_CFG, acc := .rwl, reset := 0x1, mask := 0x1 },
  { off := Rg.SELVEDGE_STATUS, acc := .ro },
  { off := Rg.SELVEDGE_GROUP_SEL, mask := 0x3 },
  { off := Rg.SELVEDGE_HELD, acc := .ro, sel := some 0x108 },
  { off := Rg.SELVEDGE_LEVEL, acc := .ro, sel := some 0x108 },
  { off := Rg.SELVEDGE_MISMATCH, acc := .ro, sel := some 0x108 },
  { off := Rg.SELVEDGE_RELEASE, acc := .wo, sel := some 0x108 }]

/-- Registers of the PWRSEQ page. -/
def rows.PWRSEQ : List RegRow :=
  [
  { off := Rg.PWRSEQ_CFG, acc := .rwl, reset := 0x1, mask := 0x3 },
  { off := Rg.PWRSEQ_STATE, acc := .ro },
  { off := Rg.PWRSEQ_CMD, acc := .wo, mask := 0x1 },
  { off := Rg.PWRSEQ_CMD_STATUS, acc := .ro },
  { off := Rg.PWRSEQ_ICC_BUDGET, acc := .rwl, reset := 0x190, mask := 0xFFF },
  { off := Rg.PWRSEQ_DOM_SEL, mask := 0x3F },
  { off := Rg.PWRSEQ_DOM_ICC, mask := 0xFFF, sel := some 0x114 },
  { off := Rg.PWRSEQ_DOM_STATUS, acc := .ro, sel := some 0x114 },
  { off := Rg.PWRSEQ_DOM_CTRL, acc := .wo, mask := 0x3, sel := some 0x114 },
  { off := Rg.PWRSEQ_QUEUE, acc := .ro, reset := 0x40 },
  { off := Rg.PWRSEQ_MON_SEL, mask := 0x7 },
  { off := Rg.PWRSEQ_MON_CFG, reset := 0x640A32, mask := 0xFFFFFF, sel := some 0x128 },
  { off := Rg.PWRSEQ_MON_STATUS, acc := .ro, sel := some 0x128 },
  { off := Rg.PWRSEQ_MON_NOW, acc := .ro, sel := some 0x128 },
  { off := Rg.PWRSEQ_BROWNOUTS, acc := .ro },
  { off := Rg.PWRSEQ_PF_DEBOUNCE, reset := 0xA, mask := 0xFFFF, checks := [(15, 0, 1, 1000)] },
  { off := Rg.PWRSEQ_DUMP_STATUS, acc := .ro },
  { off := Rg.PWRSEQ_DUMP_BYTES_LO, acc := .ro },
  { off := Rg.PWRSEQ_DUMP_BYTES_HI, acc := .ro },
  { off := Rg.PWRSEQ_DUMP_US, acc := .ro },
  { off := Rg.PWRSEQ_DUMP_RESERVE, acc := .ro }]

/-- Registers of the BOOT page. -/
def rows.BOOT : List RegRow :=
  [
  { off := Rg.BOOT_STATUS, acc := .ro },
  { off := Rg.BOOT_READY, cnt := 3, acc := .ro },
  { off := Rg.BOOT_SLOT_SEL, mask := 0x1 },
  { off := Rg.BOOT_SLOT_INFO, acc := .ro, sel := some 0x110 },
  { off := Rg.BOOT_SLOT_VERSION, acc := .ro, sel := some 0x110 },
  { off := Rg.BOOT_CMD, acc := .wo, mask := 0xF },
  { off := Rg.BOOT_CMD_STATUS, acc := .ro },
  { off := Rg.BOOT_SRC_LO, zero := 0x3F },
  { off := Rg.BOOT_SRC_HI, mask := 0xFFFF },
  { off := Rg.BOOT_LEN },
  { off := Rg.BOOT_TRIAL_MS, acc := .rwl, reset := 0x927C0, mask := 0x3FFFFF, checks := [(21, 0, 10000, 3600000)] },
  { off := Rg.BOOT_OTP_SEL, mask := 0xF },
  { off := Rg.BOOT_OTP_INFO, acc := .ro, sel := some 0x134 }]

/-- Registers of the TOP page. -/
def rows.TOP : List RegRow :=
  [
  { off := Rg.TOP_PART, acc := .ro, reset := 0x9464 },
  { off := Rg.TOP_STEPPING, acc := .ro, reset := 0xB0 },
  { off := Rg.TOP_SERIAL_LO, acc := .ro },
  { off := Rg.TOP_SERIAL_HI, acc := .ro },
  { off := Rg.TOP_STRAPS, acc := .ro },
  { off := Rg.TOP_RESET_CAUSE, acc := .w1c, mask := 0x3F },
  { off := Rg.TOP_SW_RESET, acc := .wo }]

/-- Registers of the SVC page. -/
def rows.SVC : List RegRow :=
  [
  { off := Rg.SVC_BOOT_LO, acc := .rwl, zero := 0x3 },
  { off := Rg.SVC_BOOT_HI, acc := .rwl, mask := 0xFFFF },
  { off := Rg.SVC_CTRL, mask := 0xFF },
  { off := Rg.SVC_STATUS, acc := .ro },
  { off := Rg.SVC_REPORT, acc := .wo },
  { off := Rg.SVC_REPORT_AGE, acc := .ro }]

/-- Registers of the MGMT page. -/
def rows.MGMT : List RegRow :=
  [
  { off := Rg.MGMT_CFG, acc := .rwl, reset := 0x9, mask := 0x1F },
  { off := Rg.MGMT_MAC_LO },
  { off := Rg.MGMT_MAC_HI, mask := 0xFFFF },
  { off := Rg.MGMT_ETH_STATUS, acc := .ro },
  { off := Rg.MGMT_MCTP_EID, mask := 0xFF },
  { off := Rg.MGMT_I3C_SEL, mask := 0x1 },
  { off := Rg.MGMT_I3C_CFG, reset := 0x5A, mask := 0x37F, sel := some 0x114 },
  { off := Rg.MGMT_I3C_STATUS, acc := .ro, sel := some 0x114 },
  { off := Rg.MGMT_UART_SEL, mask := 0x1 },
  { off := Rg.MGMT_UART_BAUD, reset := 0x1C200, mask := 0x3FFFFF, checks := [(21, 0, 9600, 3000000)], sel := some 0x120 },
  { off := Rg.MGMT_GPIO_DIR },
  { off := Rg.MGMT_GPIO_OUT },
  { off := Rg.MGMT_GPIO_IN, acc := .ro },
  { off := Rg.MGMT_GPIO_EDGE_EN },
  { off := Rg.MGMT_GPIO_EDGE, acc := .w1c }]

/-- Registers of the MP page. -/
def rows.MP : List RegRow :=
  [
  { off := Rg.MP_STATUS, acc := .ro, reset := 0x1 }]

/-- The block's rows of page `p` (17 R653). -/
def rowsOf (p : Nat) : List RegRow :=
  if p = Pg.TOP then rows.TOP
  else if p = Pg.THIMBLE then rows.THIMBLE
  else if p = Pg.SELVEDGE then rows.SELVEDGE
  else if p = Pg.PWRSEQ then rows.PWRSEQ
  else if p = Pg.MP then rows.MP
  else if Pg.SVC ≤ p ∧ p ≤ 10 then rows.SVC
  else if Pg.BEADC ≤ p ∧ p ≤ 26 then rows.BEADC
  else if p = Pg.STRAND then rows.STRAND
  else if p = Pg.SPOOL then rows.SPOOL
  else if Pg.SYSCACHE ≤ p ∧ p ≤ 36 then rows.SYSCACHE
  else if Pg.HBMC ≤ p ∧ p ≤ 38 then rows.HBMC
  else if Pg.DDRC ≤ p ∧ p ≤ 46 then rows.DDRC
  else if p = Pg.HALLMARK then rows.HALLMARK
  else if p = Pg.DEDUP then rows.DEDUP
  else if p = Pg.PLEAT then rows.PLEAT
  else if p = Pg.CIPHER then rows.CIPHER
  else if p = Pg.QUILT then rows.QUILT
  else if p = Pg.MAPPER then rows.MAPPER
  else if p = Pg.PATTERN then rows.PATTERN
  else if Pg.STITCH ≤ p ∧ p ≤ 57 then rows.STITCH
  else if Pg.PCIE ≤ p ∧ p ≤ 61 then rows.PCIE
  else if Pg.ETH ≤ p ∧ p ≤ 63 then rows.ETH
  else if p = Pg.HOSTQ then rows.HOSTQ
  else if p = Pg.URT then rows.URT
  else if Pg.SEAM ≤ p ∧ p ≤ 67 then rows.SEAM
  else if p = Pg.HEADPAIR then rows.HEADPAIR
  else if p = Pg.CLASP then rows.CLASP
  else if p = Pg.LOCKET then rows.LOCKET
  else if p = Pg.GTS then rows.GTS
  else if p = Pg.BOOT then rows.BOOT
  else if p = Pg.MGMT then rows.MGMT
  else if p = Pg.SNAPREP then rows.SNAPREP
  else []

/-- First page of the block that page `p` belongs to, and the block code (17 R653). -/
def pageBase (p : Nat) : Nat × Nat :=
  if p ≤ 0 then (Pg.TOP, 0x01)
  else if p ≤ 1 then (Pg.THIMBLE, 0x02)
  else if p ≤ 2 then (Pg.SELVEDGE, 0x03)
  else if p ≤ 3 then (Pg.PWRSEQ, 0x04)
  else if p ≤ 4 then (Pg.MP, 0x05)
  else if p ≤ 10 then (Pg.SVC, 0x06)
  else if p ≤ 26 then (Pg.BEADC, 0x07)
  else if p ≤ 27 then (Pg.STRAND, 0x08)
  else if p ≤ 28 then (Pg.SPOOL, 0x09)
  else if p ≤ 36 then (Pg.SYSCACHE, 0x0A)
  else if p ≤ 38 then (Pg.HBMC, 0x0B)
  else if p ≤ 46 then (Pg.DDRC, 0x0C)
  else if p ≤ 47 then (Pg.HALLMARK, 0x0D)
  else if p ≤ 48 then (Pg.DEDUP, 0x0E)
  else if p ≤ 49 then (Pg.PLEAT, 0x0F)
  else if p ≤ 50 then (Pg.CIPHER, 0x10)
  else if p ≤ 51 then (Pg.QUILT, 0x11)
  else if p ≤ 52 then (Pg.MAPPER, 0x12)
  else if p ≤ 53 then (Pg.PATTERN, 0x13)
  else if p ≤ 57 then (Pg.STITCH, 0x14)
  else if p ≤ 61 then (Pg.PCIE, 0x15)
  else if p ≤ 63 then (Pg.ETH, 0x16)
  else if p ≤ 64 then (Pg.HOSTQ, 0x17)
  else if p ≤ 65 then (Pg.URT, 0x18)
  else if p ≤ 67 then (Pg.SEAM, 0x19)
  else if p ≤ 68 then (Pg.HEADPAIR, 0x1A)
  else if p ≤ 69 then (Pg.CLASP, 0x1B)
  else if p ≤ 70 then (Pg.LOCKET, 0x1C)
  else if p ≤ 71 then (Pg.GTS, 0x1D)
  else if p ≤ 72 then (Pg.BOOT, 0x1E)
  else if p ≤ 73 then (Pg.MGMT, 0x1F)
  else if p ≤ 74 then (Pg.SNAPREP, 0x20)
  else (0, 0)

/-- The row that holds offset `off` of page `p`. -/
def regRow? (p off : Nat) : Option RegRow :=
  (rowsOf p).find? fun r => r.off ≤ off && off < r.off + r.cnt * r.stride && (off - r.off) % r.stride < 4 * r.words && off % 4 == 0

/-- Reset value of a register (each chapter's table; the header's of 17 R642). -/
def resetOf (p off : Nat) : Nat :=
  if off = Rg.PAGE_ID then (pageBase p).2 * 2 ^ 24 + (p - (pageBase p).1) * 2 ^ 16 + 1
  else if off = Rg.PAGE_CTRL then 1
  else if off < 0x100 then 0
  else match regRow? p off with
    | some r => r.reset
    | none => 0

end Sys2Proof.Machine
end

