-- ==== Sys2Proof/Config.lean ====
section
/-! DEFINITION. What one part or one board fixes, and the free values: constants with no body, so that nothing can prove what
they are. A free value is applied to a counter of the state (`State.fresh`) or to the operands it depends on. -/
namespace Sys2Proof

/-- A free 32-bit value for each use: stands for every value the spec leaves open (log 1). -/
opaque Config.free : Nat → Word

/-- A free byte of the MP ROM, whose contents the spec does not give (log 1). -/
opaque Config.romByte : Nat → Byte

/-- The part's unique serial number, from OTP (16 R640). -/
opaque Config.serial : BitVec 64

/-- The maker's code in each flash module's SLM_ID (11 R439). -/
opaque Config.moduleMaker : Nat → BitVec 16

/-- How busy a bead cluster was over the last 10 ms, in percent (12 R505): the model keeps no such time (log 3). -/
opaque Config.busyPercent : Nat → Nat → Nat

end Sys2Proof
end

