-- ==== Sys2Proof/Machine/State.lean ====
section
/-! DEFINITION. The state of the block: everything the spec gives the machine, as plain data, each field at its reset value. -/
namespace Sys2Proof.Machine

/-- Why a step can stop for good. No meaning of this model ends in one: the type keeps the one reason the host's
interface could need. -/
inductive Fault where
  /-- raised by no command of this model; safe -/
  | unreachable
  deriving DecidableEq, Repr

/-- Why a command is refused. -/
inductive Refusal where
  /-- the dispatch, for a command without a meaning, by its mnemonic; safe -/
  | notModelled (mnemonic : String)
  deriving DecidableEq, Repr

/-- The block's state. -/
structure State where
  /-- commands that wait, first in, first out -/
  pending : List Instr := []
  /-- global timestamp, ns (01 R48) -/
  gts : Nat := 0
  cal : Calendar := {}
  pins : Pins := {}
  /-- every register of every page that differs from its reset value, by page, offset and selected copy (17 R642) -/
  regs : SMap Word := []
  /-- registers whose write-once field has been written since reset (17 R649) -/
  wosDone : List Nat := []
  /-- pages with a REG_LOCK_VIOLATION in the last 1 ms, and the same for REG_ACCESS_REFUSED (17 R648, 01 R64) -/
  lockWins : SMap LockWin := []
  accWin : Option LockWin := none
  remotes : SMap RemoteRead := []
  mem : Memory := {}
  eng : Engines := {}
  locket : Locket := {}
  power : Power := {}
  boot : Boot := {}
  bd : Beads := {}
  hq : Hostq := {}
  pair : Pair := {}
  clasp : Clasp := {}
  cipher : Cipher := {}
  hall : Hallmark := {}
  pleat : SMap PleatCtx := []
  stitch : Stitch := {}
  urt : Urt := {}
  dedup : Dedup := {}
  map : Mapper := {}
  pat : Pattern := {}
  quilt : Quilt := {}
  repl : Repl := {}
  /-- what has been sent outside, newest first (log 5) -/
  out : List Out := []
  /-- the counter free values are drawn at (log 1) -/
  fresh : Nat := 0
  deriving DecidableEq, Repr

/-- The head as power is first applied, before VDD_AON is in tolerance. -/
def State.reset : State := {}

end Sys2Proof.Machine
end

