-- ==== Sys2Proof/Machine/Ops.lean ====
section
/-! DEFINITION. The operations every block shares: registers, pages and their power domains, interrupts, the access-error
record, Locket's acceptance of a record. -/
namespace Sys2Proof.Machine

/-- What a command answers. -/
abbrev Res := Host.Outcome State Fault Refusal

/-! ### Registers -/

/-- The key of copy `i` of the register at offset `off` of page `p`. -/
def rkey (p off i : Nat) : Nat := (p * 0x10000 + off) * 0x10000 + i

/-- Default inrush current of a power domain, in 0.1 A (15 R591). -/
def defaultIcc (d : Nat) : Nat :=
  if d = 0 then 120 else if d ≤ 4 then 100 else if d ≤ 6 then 60 else if d = 7 then 80
  else if d ≤ 13 then 20 else if d ≤ 29 then 15 else 0

/-- Reset value of copy `i` of a register. -/
def resetAt (p off i : Nat) : Word :=
  if p = Pg.PWRSEQ ∧ off = Rg.PWRSEQ_DOM_ICC then BitVec.ofNat 32 (defaultIcc i) else BitVec.ofNat 32 (resetOf p off)

/-- Copy `i` of a register. -/
def State.rd (s : State) (p off : Nat) (i : Nat := 0) : Word :=
  mgetD (resetAt p off i) s.regs (rkey p off i)

/-- Set copy `i` of a register. -/
def State.wr (s : State) (p off i : Nat) (v : Word) : State :=
  { s with regs := mputD (resetAt p off i) s.regs (rkey p off i) v }

/-- A register as a number. -/
def State.rdN (s : State) (p off : Nat) (i : Nat := 0) : Nat := (s.rd p off i).toNat

/-- A register set to a number modulo 2^32. -/
def State.wrN (s : State) (p off i n : Nat) : State := s.wr p off i (BitVec.ofNat 32 n)

/-- Bits [hi:lo] of a register. -/
def State.rf (s : State) (p off hi lo : Nat) (i : Nat := 0) : Nat := fld (s.rd p off i) hi lo

/-- Bit `b` of a register. -/
def State.rb (s : State) (p off b : Nat) (i : Nat := 0) : Bool := bitW (s.rd p off i) b

/-- Set bits [hi:lo] of a register. -/
def State.wf (s : State) (p off hi lo v : Nat) (i : Nat := 0) : State := s.wr p off i (putFld (s.rd p off i) hi lo v)

/-- Set bit `b` of a register. -/
def State.wb (s : State) (p off b : Nat) (v : Bool) (i : Nat := 0) : State := s.wr p off i (putBit (s.rd p off i) b v)

/-- A 64-bit value shown by a pair of registers, low half first. -/
def State.rd64 (s : State) (p off : Nat) (i : Nat := 0) : Nat := s.rdN p off i + 2 ^ 32 * s.rdN p (off + 4) i

/-- Set a pair of registers to a 64-bit value. -/
def State.wr64 (s : State) (p off n : Nat) (i : Nat := 0) : State :=
  (s.wrN p off i n).wrN p (off + 4) i (n / 2 ^ 32)

/-- Add to a counter that wraps. -/
def State.count (s : State) (p off n : Nat) (i : Nat := 0) : State := s.wrN p off i (s.rdN p off i + n)

/-- Add to a counter that saturates at 2^32 - 1. -/
def State.countSat (s : State) (p off n : Nat) (i : Nat := 0) : State := s.wrN p off i (satAdd 32 (s.rdN p off i) n)

/-- Add to the counter in bits [hi:lo] of a register, which saturates. -/
def State.fieldSat (s : State) (p off hi lo n : Nat) (i : Nat := 0) : State :=
  s.wf p off hi lo (satAdd (hi + 1 - lo) (s.rf p off hi lo i) n) i

/-- A wrapping 64-bit counter in a pair of registers. -/
def State.count64 (s : State) (p off n : Nat) : State := s.wr64 p off (s.rd64 p off + n)

/-- The copy of a register that its selector shows. -/
def State.shown (s : State) (p off : Nat) : Nat :=
  match regRow? p off with
  | some r => match r.sel with
    | some q => s.rdN p q
    | none => 0
  | none => 0

/-- Head state 0 to 4 (15 R576). -/
def State.headState (s : State) : Nat := s.rf Pg.PWRSEQ Rg.PWRSEQ_STATE 2 0

/-! ### Outside and free values -/

/-- Send something outside. -/
def State.emit (s : State) (o : Out) : State := { s with out := o :: s.out }

/-- A free value, drawn at the counter, and the state with the counter advanced. -/
def State.free (s : State) : Word × State := (Config.free s.fresh, { s with fresh := s.fresh + 1 })

/-- `n` free bytes. -/
def State.freeBytes (s : State) : Nat → List Byte × State
  | 0 => ([], s)
  | n + 1 =>
    let r := s.free
    let t := r.2.freeBytes n
    (BitVec.ofNat 8 r.1.toNat :: t.1, t.2)

/-! ### Power domains and page release -/

/-- A power domain's entry. -/
def State.dom (s : State) (d : Nat) : Domain := mgetD {} s.power.doms d

/-- Set a power domain's entry. -/
def State.setDom (s : State) (d : Nat) (x : Domain) : State :=
  { s with power := { s.power with doms := mputD {} s.power.doms d x } }

/-- A domain is on. -/
def State.domOn (s : State) (d : Nat) : Bool := (s.dom d).st == 4

/-- The power domains a page lies in, beside the I/O die's: the compute die and the bead cluster that hold its block
(01, the table of dies; DEDUCED, log 30). -/
def pageDomains (p : Nat) : List Nat :=
  if Pg.BEADC ≤ p ∧ p ≤ Pg.BEADC + 15 then [1 + (p - Pg.BEADC) / 4, 14 + (p - Pg.BEADC)]
  else if p = Pg.STRAND ∨ p = Pg.MAPPER then [4]
  else if Pg.SYSCACHE ≤ p ∧ p ≤ Pg.SYSCACHE + 7 then [1 + (p - Pg.SYSCACHE) / 2]
  else if p = Pg.HBMC ∨ p = Pg.QUILT then [2]
  else if p = Pg.HBMC + 1 ∨ p = Pg.DEDUP then [3]
  else if p = Pg.HALLMARK ∨ p = Pg.PLEAT ∨ p = Pg.CIPHER ∨ p = Pg.PATTERN then [1]
  else []

/-- A page answers: released, and every domain it lies in is on (16 R613). -/
def State.pageReady (s : State) (p : Nat) : Bool :=
  bitOf s.boot.ready p && (pageDomains p).all fun d => s.domOn d

/-- The head runs: VDD_AON and the I/O die are powered, reset is released and the head is not in P4. -/
def State.alive (s : State) : Bool := s.power.aon && s.boot.up && s.domOn 0 && s.headState != 4

/-- A command that comes about while the head runs; otherwise nothing comes about (log 6). -/
def act (s : State) (f : State → State) : Res := if s.alive then .next (f s) else .next s

/-- A command that comes about while the head runs and its precondition holds (log 6). -/
def actIf (s : State) (b : Bool) (f : State → State) : Res := if s.alive && b then .next (f s) else .next s

/-! ### Page headers -/

/-- Source number of a page's block (00, Events and ordering). -/
def srcOf (p : Nat) : Nat := (pageBase p).2 * 256 + (p - (pageBase p).1)

/-- Capture GTS in the page header (17 R646). -/
def State.snap (s : State) (p : Nat) : State :=
  (s.wrN p Rg.GTS_SNAP_LO 0 s.gts).wrN p Rg.GTS_SNAP_HI 1 (s.gts / 2 ^ 32)

/-- IRQ_STATUS bits a page implements (17 R642, PAGE_CAPS.irq_bits): those its chapter lists, and at least 8 where the
page takes descriptor rings (01 R694). -/
def irqBits (p : Nat) : Nat :=
  let b := (pageBase p).1
  if b = Pg.SPOOL ∨ b = Pg.HALLMARK ∨ b = Pg.DEDUP ∨ b = Pg.PLEAT ∨ b = Pg.CIPHER ∨ b = Pg.QUILT ∨ b = Pg.MAPPER ∨
      b = Pg.PATTERN ∨ b = Pg.STITCH then 8
  else if b = Pg.PWRSEQ then 5
  else if b = Pg.HEADPAIR ∨ b = Pg.LOCKET then 4
  else if b = Pg.MGMT ∨ b = Pg.SEAM ∨ b = Pg.CLASP ∨ b = Pg.SNAPREP then 3
  else if b = Pg.BOOT then 2
  else 0

/-- Set bits of IRQ_STATUS; GTS is captured when it leaves 0 (17 R646, R651). An interrupt raised in P1 to P3 wakes the
head (15 R581). -/
def State.irqMask (s : State) (p m : Nat) : State :=
  let old := s.rdN p Rg.IRQ_STATUS
  let new := old ||| (m % 2 ^ irqBits p)
  let s := s.wrN p Rg.IRQ_STATUS 0 new
  let s := if 1 ≤ s.headState ∧ s.headState ≤ 3 ∧ s.rb p Rg.PAGE_CTRL 0 ∧ new &&& s.rdN p Rg.IRQ_ENABLE ≠ 0 then
      { s with power := { s.power with wakePend := true } }
    else s
  if old = 0 ∧ new ≠ 0 then s.snap p else s

/-- Set one bit of IRQ_STATUS. -/
def State.irq (s : State) (p b : Nat) : State := s.irqMask p (2 ^ b)

/-- The address of a register (17 R653). -/
def regAddr (p off : Nat) : Nat := 0x0FE000000000 + p * 0x10000 + off

/-- Record an access in error in a page's ERR_ADDR and ERR_INFO (17 R645): `ty` is a code of 00 R16. -/
def State.err (s : State) (p master : Nat) (write remote : Bool) (ty addr : Nat) : State :=
  let valid := s.rb p Rg.ERR_INFO 31
  let s := (s.wrN p Rg.ERR_ADDR_LO 0 addr).wrN p Rg.ERR_ADDR_HI 0 (addr / 2 ^ 32 % 2 ^ 16)
  let s := s.wrN p Rg.ERR_INFO 0 (master % 1024 + 2 ^ 10 * b2n write + 2 ^ 11 * b2n remote + 2 ^ 16 * ty +
    2 ^ 30 * b2n valid + 2 ^ 31)
  if valid then s else s.snap p

/-! ### Locket -/

/-- A field of an event payload (14 R561): a value of 1, 2, 4 or 8 bytes, or a string of bytes. -/
inductive Pf where
  | v (size value : Nat)
  | str (b : List Byte)
  deriving DecidableEq, Repr

/-- A payload packed as 14 R561 says, filled up to 32 bytes with 0. -/
def packPayload (fs : List Pf) : List Byte :=
  padTo 32 (fs.foldl (fun acc f =>
    match f with
    | .v n x => acc ++ List.replicate (roundUp acc.length n - acc.length) 0 ++ leBytes n x
    | .str b => acc ++ List.replicate (roundUp acc.length 8 - acc.length) 0 ++ b) [])

/-- The 64 bytes of a Locket record (14 R560). -/
def LkRec.bytes (r : LkRec) : List Byte :=
  leBytes 8 r.seq ++ leBytes 8 r.gts ++ leBytes 5 r.cal ++ leBytes 1 (b2n r.unsync + 2 * b2n r.head) ++ [0, 0xA5] ++
    leBytes 4 (r.calNs % 2 ^ 30) ++ leBytes 2 r.source ++ leBytes 2 r.code ++ padTo 32 r.payload

/-- Store bytes in the head's memory as they are. -/
def State.poke (s : State) (addr : Nat) (bs : List Byte) : State :=
  { s with mem := { s.mem with
      cells := (bs.zip (List.range bs.length)).foldl (fun m b => mputD 0 m (addr + b.2) b.1) s.mem.cells } }

/-- Bytes of the head's memory as they are. -/
def State.peek (s : State) (addr n : Nat) : List Byte :=
  (List.range n).map fun i => mgetD 0 s.mem.cells (addr + i)

/-- The head ID (13 R508). -/
def State.headId (s : State) : Nat := s.rf Pg.HEADPAIR Rg.HEADPAIR_HEAD_ID 0 0

/-- Records that Locket's SRAM holds (14 R567). -/
def locketDepth : Nat := 65536

/-- Ring copying (14 R569): while it runs, the record goes to its slot as one line owned by SYSTEM. -/
def State.ringCopy (s : State) (r : LkRec) : State :=
  if s.locket.based && s.rb Pg.LOCKET Rg.LOCKET_CFG 0 && s.rb Pg.LOCKET Rg.LOCKET_CFG 1 then
    let a := s.rd64 Pg.LOCKET Rg.LOCKET_RING_BASE_LO + r.seq % 65536 * 64
    let s := s.poke a r.bytes
    { s with mem := { s.mem with lines := mputD {} s.mem.lines (a / 64) { key := s.mem.key } } }
  else s

/-- Number a record and hold it (14 R562); a record overwritten before it was spilled is lost (14 R567). -/
def State.holdRec (s : State) (r : LkRec) : State :=
  let L := s.locket
  let r := { r with seq := L.next }
  let full := decide (locketDepth ≤ L.recs.length)
  let lost := match L.recs with
    | o :: _ => if full && decide (L.spilled ≤ o.seq) then some o.seq else none
    | [] => none
  let recs := (if full then L.recs.drop 1 else L.recs) ++ [r]
  let gap := match lost, L.gap with
    | none, g => g
    | some q, none => some (q, q)
    | some q, some (a, _) => some (a, q)
  let s := { s with locket := { L with recs, next := L.next + 1, gap, spilled := match lost with | some q => q + 1 | none => L.spilled } }
  let s := s.ringCopy r
  match lost with
  | none => s
  | some _ => (s.countSat Pg.LOCKET Rg.LOCKET_SPILL_LOST 1).irq Pg.LOCKET 1

/-- A record as its source hands it over, with calendar time at acceptance (14 R560). -/
def State.mkRec (s : State) (gts source code : Nat) (payload : List Byte) : LkRec :=
  { seq := 0, gts, cal := s.cal.seconds % 2 ^ 40, calNs := s.cal.ns, unsync := s.cal.unsync, head := s.headId == 1,
    source, code, payload := padTo 32 payload }

/-- Locket accepts a record (14 R562, R564), or, before its page is released, the MP keeps it (16 R614). -/
def State.accept (s : State) (gts source code : Nat) (payload : List Byte) : State :=
  let r := s.mkRec gts source code payload
  if bitOf s.boot.ready Pg.LOCKET then
    let s := if s.locket.dropPend = 0 then s else
      let s' := s.holdRec (s.mkRec s.gts (srcOf Pg.LOCKET) Ev.LOCKET_DROPPED (packPayload [.v 4 s.locket.dropPend]))
      { s' with locket := { s'.locket with dropPend := 0 } }
    s.holdRec r
  else
    let L := s.locket
    if 256 ≤ L.boot.length then
      { s with locket := { L with boot := L.boot.drop 1 ++ [r], bootDropped := L.bootDropped + 1 } }
    else { s with locket := { L with boot := L.boot ++ [r] } }

/-- A block writes a Locket record: the page gives block and instance. -/
def State.log (s : State) (p code : Nat) (fs : List Pf) : State := s.accept s.gts (srcOf p) code (packPayload fs)

/-- As `log`, with the instance's own source number. -/
def State.logI (s : State) (p inst code : Nat) (fs : List Pf) : State :=
  s.accept s.gts ((pageBase p).2 * 256 + inst) code (packPayload fs)

/-! ### Refused accesses -/

/-- One access refused under 17 R648 is reported or counted toward the page's next report: `cause` is 0 lock, 1 WOS,
2 master. -/
def State.reportRefusal (s : State) (p off master cause : Nat) : State :=
  match mget s.lockWins p with
  | none =>
    let s := s.log Pg.TOP Ev.REG_LOCK_VIOLATION [.v 1 p, .v 2 off, .v 2 master, .v 1 cause, .v 4 1]
    { s with lockWins := mput s.lockWins p {} }
  | some w => { s with lockWins := mput s.lockWins p { count := w.count + 1, off, master, cause, gts := s.gts } }

/-- A refused register write (17 R648): lock_violation, ERR_INFO with type LOCKED, and the report. -/
def State.refuse (s : State) (p off master cause : Nat) (remote : Bool := false) : State :=
  let s := s.wb p Rg.PAGE_STATUS 0 true
  let s := s.err p master true remote St.LOCKED (regAddr p off)
  s.reportRefusal p off master cause

/-- An access refused under 01 R64: TOP's ERR_INFO, and REG_ACCESS_REFUSED under the rate rule (`cause` 0 unmapped,
1 spanning, 2 master). The window is TOP's own, beside that of its REG_LOCK_VIOLATION records (DEDUCED, log 31). -/
def State.accessRefused (s : State) (addr master : Nat) (write : Bool) (cause : Nat) : State :=
  let s := s.err Pg.TOP master write false (if cause = 2 then St.LOCKED else St.BAD_INPUT) addr
  match s.accWin with
  | none =>
    let s := s.log Pg.TOP Ev.REG_ACCESS_REFUSED [.v 8 addr, .v 2 master, .v 1 (b2n write), .v 1 cause, .v 4 1]
    { s with accWin := some {} }
  | some w => { s with accWin := some { count := w.count + 1, off := addr, master, cause := cause + 4 * b2n write, gts := s.gts } }

/-- An access to a page not yet released (16 R612): TOP's ERR_INFO with NOT_READY, and the page's not_ready. -/
def State.notReady (s : State) (p off master : Nat) (write remote : Bool) : State :=
  (s.err Pg.TOP master write remote St.NOT_READY (regAddr p off)).wb p Rg.PAGE_STATUS 1 true

/-! ### Time -/

/-- One nanosecond passes: GTS counts, and calendar time within its second (01 R48, R55); the carry into the next second
is CAL_SECOND_ROLLOVER. -/
def State.tick (s : State) : State :=
  { s with gts := s.gts + 1, cal := { s.cal with ns := if s.cal.ns < 999999999 then s.cal.ns + 1 else s.cal.ns } }

end Sys2Proof.Machine
end

