-- ==== Sys2Proof/Machine/RegOps.lean ====
section
/-! DEFINITION. A write to a head register: who may write it, locks, write-once fields, the ranges of its fields, and what the
write leaves (17 R642 to R651, R698, R699, and each chapter's write rules). -/
namespace Sys2Proof.Machine

/-- The kinds of master the write rules tell apart. -/
inductive Who where
  | mp | svc | jtag | remoteMp | remoteSvc | other
  deriving DecidableEq, Repr

/-- The kind of a master ID (01 R25, 17 R655). -/
def whoOf (m : Nat) : Who :=
  if m = Ms.MP then .mp else if Ms.SVC ≤ m ∧ m ≤ 0x3F then .svc else if m = Ms.JTAG then .jtag
  else if m = Ms.PARTNER + Ms.MP then .remoteMp
  else if Ms.PARTNER + Ms.SVC ≤ m ∧ m ≤ Ms.PARTNER + 0x3F then .remoteSvc else .other

/-- Registers 01 R22 reserves to the MP alone, JTAG excluded. -/
def mpAlone (p off : Nat) : Bool :=
  (p == Pg.STRAND && Rg.STRAND_LD_SEL ≤ off && off ≤ Rg.STRAND_DRAIN_LIMIT) ||
  ((pageBase p).1 == Pg.SVC && (off == Rg.SVC_BOOT_LO || off == Rg.SVC_BOOT_HI || off == Rg.SVC_CTRL))

/-- Registers that only the MP writes: those of `mpAlone`, PAGE_LOCK (17 R647), and each chapter's (02 R105, 06 R268, 07 R311,
14 R550, R572, R573, 15 R606, 16 R637, 17 R659). -/
def mpOnly (p off : Nat) : Bool :=
  mpAlone p off || off == Rg.PAGE_LOCK ||
  (p == Pg.HALLMARK && Rg.HALLMARK_SEAL_SEL ≤ off && off < Rg.HALLMARK_SEAL_EXP + 32) ||
  (p == Pg.CIPHER && ((Rg.CIPHER_KEY_SEL ≤ off && off ≤ Rg.CIPHER_KEY_CMD) || off == Rg.CIPHER_NONCE_FLOOR)) ||
  ((pageBase p).1 == Pg.BEADC && Rg.BEADC_EVSEL ≤ off && off < Rg.BEADC_EVSEL + 256) ||
  (p == Pg.CLASP && Rg.CLASP_BIND ≤ off && off < Rg.CLASP_BANK + 128) ||
  (p == Pg.LOCKET && (off == Rg.LOCKET_CFG || (Rg.LOCKET_SEQ_BASE_LO ≤ off && off ≤ Rg.LOCKET_RING_BASE_HI))) ||
  (p == Pg.GTS && Rg.GTS_CAL_SET_LO ≤ off && off ≤ Rg.GTS_CAL_CMD) ||
  p == Pg.THIMBLE || p == Pg.SELVEDGE || (p == Pg.PWRSEQ && off != Rg.PWRSEQ_DOM_CTRL) || p == Pg.BOOT || p == Pg.MGMT ||
  (p == Pg.TOP && off == Rg.TOP_SW_RESET)

/-- The bound sender of a Clasp channel (14 R550). -/
def State.claspSender (s : State) (c : Nat) : Option Nat :=
  if s.rb Pg.CLASP (Rg.CLASP_BIND + 4 * c) 31 then some (s.rf Pg.CLASP (Rg.CLASP_BIND + 4 * c) 9 0) else none

/-- The bank a Clasp channel is bound to. -/
def State.claspBank (s : State) (c : Nat) : Nat := s.rf Pg.CLASP (Rg.CLASP_BIND + 4 * c) 14 10

/-- The master of a Clasp bank, if it is bound. -/
def State.bankMaster (s : State) (r : Nat) : Option Nat :=
  if s.rb Pg.CLASP (Rg.CLASP_BANK + 4 * r) 31 then some (s.rf Pg.CLASP (Rg.CLASP_BANK + 4 * r) 9 0) else none

/-- The Clasp channel or bank that an offset of the CLASP page belongs to. -/
def claspIndex (off : Nat) : Nat :=
  if 0x3000 ≤ off then (off - 0x3000) / 0x80 else if 0x1000 ≤ off then (off - 0x1000) / 0x80
  else if 0x500 ≤ off then (off - 0x500) / 4 else if 0x400 ≤ off then (off - 0x400) / 4
  else if 0x300 ≤ off then (off - 0x300) / 4 else (off - 0x200) / 4

/-- A master may write a register of the CLASP page (14 R550, R559). -/
def State.mayWriteClasp (s : State) (off master : Nat) : Bool :=
  let w := whoOf master
  if 0x1000 ≤ off ∧ off < 0x3000 then s.claspSender (claspIndex off) == some master
  else if 0x3000 ≤ off ∧ off < 0x5000 then
    w == .mp || w == .jtag || s.bankMaster (s.claspBank (claspIndex off)) == some master
  else if 0x400 ≤ off ∧ off < 0x600 then w == .mp || w == .jtag || s.bankMaster (claspIndex off) == some master
  else if mpOnly Pg.CLASP off then w == .mp || w == .jtag
  else w == .mp || w == .jtag || w == .svc || w == .remoteMp || w == .remoteSvc

/-- A master may write a register, as the page's write rules say (17 R698 where a chapter gives none). -/
def State.mayWrite (s : State) (p off master : Nat) : Bool :=
  let w := whoOf master
  if p = Pg.CLASP ∧ 0x100 ≤ off then s.mayWriteClasp off master
  else if mpAlone p off then w == .mp
  else if p = Pg.STRAND ∧ (off = Rg.STRAND_FAULT_LO ∨ off = Rg.STRAND_FAULT_HI) then true
  else if p = Pg.LOCKET ∧ 0x100 ≤ off ∧ !mpOnly p off then true
  else if p = Pg.PWRSEQ ∧ off = Rg.PWRSEQ_DOM_CTRL then true
  else if mpOnly p off then w == .mp || w == .jtag
  else w == .mp || w == .jtag || w == .svc || w == .remoteMp || w == .remoteSvc

/-- A value that a register's description admits (17 R699): no 1 where a bit must be 0, every field in its range. -/
def RegRow.admits (r : RegRow) (v : Nat) : Bool :=
  v &&& r.zero == 0 && r.checks.all fun c => c.2.2.1 ≤ bits v c.1 c.2.1 && bits v c.1 c.2.1 ≤ c.2.2.2

/-- Rules that tie a field to another register or to several fields (03 R149, 04 R185, R186, 06 R273, 08 R357, 12 R505,
13 R524, R546, 15 R610, 17 R659). -/
def State.admits (s : State) (p off v : Nat) : Bool :=
  let b := (pageBase p).1
  if b = Pg.ETH ∧ off = Rg.ETH_CFG then bits v 2 1 != 3
  else if b = Pg.QUILT ∧ off = Rg.QUILT_RESHAPE_CFG then bits v 5 4 != 3
  else if b = Pg.PATTERN ∧ off = Rg.PATTERN_GC_SHARE then bits v 6 0 ≤ bits v 14 8
  else if b = Pg.PWRSEQ ∧ off = Rg.PWRSEQ_MON_CFG then bits v 7 0 < bits v 23 16 && bits v 15 8 ≤ bits v 7 0
  else if b = Pg.HEADPAIR ∧ off = Rg.HEADPAIR_READ_LEASE then 2 * bits v 15 0 + 10 ≤ s.rf p Rg.HEADPAIR_SILENCE 15 0
  else if b = Pg.HEADPAIR ∧ off = Rg.HEADPAIR_SILENCE then 2 * s.rf p Rg.HEADPAIR_READ_LEASE 15 0 + 10 ≤ bits v 15 0
  else if b = Pg.HEADPAIR ∧ off = Rg.HEADPAIR_CFG then
    bitOf v 0 || !s.rb p off 0 || s.rf p Rg.HEADPAIR_STATE 2 0 == 0
  else if b = Pg.DEDUP ∧ (off = Rg.DEDUP_HOOK_BASE_LO ∨ off = Rg.DEDUP_HOOK_BASE_HI ∨ off = Rg.DEDUP_HOOK_BUCKETS) then
    !s.rb p Rg.DEDUP_CFG 0
  else if b = Pg.HOSTQ ∧ off = Rg.HOSTQ_ANA_STATE then
    (1 ≤ bits v 3 0 && bits v 3 0 ≤ 4) || bits v 3 0 == 0xF
  else if b = Pg.LOCKET ∧ (off = Rg.LOCKET_SEQ_BASE_LO ∨ off = Rg.LOCKET_SEQ_BASE_HI) then s.locket.cold
  else true

/-- A head-wide register of a STITCH page other than instance 0's: it does nothing and reads 0 (11, STITCH pages). -/
def deadCopy (p off : Nat) : Bool :=
  decide (Pg.STITCH < p) && decide (p ≤ Pg.STITCH + 3) && decide (Rg.STITCH_ROLE_SEL ≤ off) && decide (off ≤ Rg.STITCH_ROLE_HELD)

/-- A register write as it reaches its page. -/
structure RegW where
  page : Nat
  off : Nat
  master : Nat
  value : Nat
  remote : Bool := false
  deriving DecidableEq, Repr

/-- What a register holds after an accepted write of `v` (00 R12, R15). -/
def applied (a : Access) (mask old v : Nat) : Nat :=
  match a with
  | .ro => old
  | .w1c => old - (old &&& (v &&& mask))
  | .w1s => old ||| (v &&& mask)
  | .rw | .rwl | .wo | .wos => (old - (old &&& mask)) + (v &&& mask)

/-- The lock bits a page implements (17 R642): bit 0 where its table has an RWL register. -/
def lockBits (p : Nat) : Nat := if (rowsOf p).any fun r => r.acc == .rwl then 1 else 0

/-- A cause that persists sets its bit again at once (00 R13, 17 R652): ring_done while any CRING_IRQ bit is set (01 R694),
and the GPIO edge bit while any MGMT_GPIO_EDGE bit is set (17 R659). -/
def State.persistIrq (s : State) (p : Nat) : State :=
  if irqBits p = 8 then
    if s.rdN p Rg.SPOOL_CRING_IRQ_LO = 0 ∧ s.rdN p Rg.SPOOL_CRING_IRQ_HI = 0 then s else s.irq p 7
  else if p = Pg.MGMT ∧ s.rdN p Rg.MGMT_GPIO_EDGE ≠ 0 then s.irq p 2
  else s

/-- The write of a page-header register (17 R642, R646, R647); IRQ_STATUS and the others by their own access codes. -/
def State.headerWrite (s : State) (w : RegW) : State :=
  let old := s.rdN w.page w.off
  if w.off = Rg.PAGE_STATUS then s.wrN w.page w.off 0 (old - (old &&& (w.value &&& 3)))
  else if w.off = Rg.PAGE_CTRL then
    let s := s.wrN w.page w.off 0 (w.value &&& 5)
    if bitOf w.value 1 then s.snap w.page else s
  else if w.off = Rg.IRQ_STATUS then
    (s.wrN w.page w.off 0 (old - (old &&& w.value))).persistIrq w.page
  else if w.off = Rg.IRQ_ENABLE then s.wrN w.page w.off 0 (w.value % 2 ^ irqBits w.page)
  else if w.off = Rg.IRQ_FORCE then s.irqMask w.page w.value
  else if w.off = Rg.PAGE_LOCK then s.wrN w.page w.off 0 (old ||| (w.value % 2 ^ lockBits w.page))
  else if w.off = Rg.ERR_INFO then
    if bitOf w.value 31 then s.wrN w.page w.off 0 (old % 2 ^ 30) else s
  else s

/-- A refused write of the CLASP page also sets IRQ_STATUS bit 2 and writes CLASP_REFUSED (14 R559, R575). -/
def State.refuseAt (s : State) (w : RegW) (cause : Nat) : State :=
  let s := s.refuse w.page w.off w.master cause w.remote
  if w.page = Pg.CLASP ∧ 0x200 ≤ w.off then
    (s.irq Pg.CLASP 2).log Pg.CLASP Ev.CLASP_REFUSED [.v 1 (claspIndex w.off), .v 2 w.master, .v 2 w.off]
  else s

/-- A write ignored for the value of a field (17 R699). -/
def State.ignoreW (s : State) (w : RegW) : State := s.err w.page w.master true w.remote St.BAD_INPUT (regAddr w.page w.off)

/-- The write of a 4-byte register: refused, ignored or applied. The second part is the register's value before the write,
where it was applied. -/
def State.regWrite (s : State) (w : RegW) : State × Option Nat :=
  let w := { w with value := w.value % 2 ^ 32, remote := w.remote || decide (Ms.PARTNER ≤ w.master) }
  let p := w.page
  if !s.pageReady w.page then (s.notReady w.page w.off w.master true w.remote, none)
  else if w.remote && (!s.rb w.page Rg.PAGE_CTRL 2 || mpOnly w.page w.off) then (s.refuseAt w 2, none)
  else if !s.mayWrite w.page w.off w.master then (s.refuseAt w 2, none)
  else if deadCopy w.page w.off then (s, none)
  else if w.off < 0x100 then (s.headerWrite w, some (s.rdN w.page w.off))
  else match regRow? w.page w.off with
    | none => (s, none)
    | some r =>
      let i := s.shown p w.off
      let old := s.rdN p w.off i
      if r.acc == .ro then (s, none)
      else if r.acc == .rwl && s.rb w.page Rg.PAGE_LOCK 0 then (s.refuseAt w 0, none)
      else if r.acc == .wos && decide (rkey p w.off i ∈ s.wosDone) then (s.refuseAt w 1, none)
      else if !r.admits w.value || !s.admits w.page w.off w.value then (s.ignoreW w, none)
      else
        let s := s.wrN p w.off i (applied r.acc r.mask old w.value)
        let s := if r.acc == .wos then { s with wosDone := insertNew (rkey p w.off i) s.wosDone } else s
        (s, some old)

/-- A register write with an effect of its own: `f` runs on the state after an accepted write, given the old value. -/
def State.regCmd (s : State) (w : RegW) (f : State → Nat → State) : State :=
  match s.regWrite w with
  | (s', some old) => f s' old
  | (s', none) => s'

end Sys2Proof.Machine
end

