-- ==== Sys2Proof/Machine/CipherOps.lean ====
section
/-! DEFINITION. Cipher's key slots and what other blocks take from them (07 R299 to R301, 06 R231). -/
namespace Sys2Proof.Machine

/-- A key slot's entry. -/
def State.slot (s : State) (n : Nat) : KeySlot := mgetD {} s.cipher.slots n

/-- CIPHER_KEYS_FULL counts the slots that hold a key (07 R313). -/
def State.showKeys (s : State) : State := s.wrN Pg.CIPHER Rg.CIPHER_KEYS_FULL 0 s.cipher.slots.length

/-- Set a slot; an empty slot is not listed. -/
def State.setSlot (s : State) (n : Nat) (k : KeySlot) : State :=
  ({ s with cipher := { s.cipher with slots := if k.key.isNone then mdel s.cipher.slots n else mput s.cipher.slots n k } }).showKeys

/-- Every slot is emptied (07 R299). -/
def State.emptySlots (s : State) : State := ({ s with cipher := { s.cipher with slots := [] } }).showKeys

/-- Usage bits (07 R300). -/
abbrev Us.gcm : Nat := 0
abbrev Us.xts : Nat := 1
abbrev Us.ctr : Nat := 2
abbrev Us.hmac : Nat := 3
abbrev Us.kek : Nat := 4

/-- A slot's key for a purpose, or the status of a job that names the slot (07 R300). -/
def State.keyFor (s : State) (n use : Nat) : Except Nat (List Byte) :=
  match (s.slot n).key with
  | none => .error St.KEY_EMPTY
  | some k => if bitOf (s.slot n).usage use then .ok k else .error St.LOCKED

/-- A slot's key check value, 0 when it is empty. -/
def KeySlot.kcv (k : KeySlot) : Nat := match k.key with | some b => kcvOf b | none => 0

/-- An AES engine's nonce blocks. -/
def State.nonceEng (s : State) (e : Nat) : NonceEng := mgetD {} s.cipher.engines e

/-- Set an AES engine's nonce blocks. -/
def State.setNonceEng (s : State) (e : Nat) (x : NonceEng) : State :=
  { s with cipher := { s.cipher with engines := mputD {} s.cipher.engines e x } }

end Sys2Proof.Machine
end

