-- ==== Sys2Proof/Machine/MemOps.lean ====
section
/-! DEFINITION. Memory: the system address map, tagged lines, Spool ownership, reads and writes of bytes by a master under an
owner (01 R59 to R65, 05 R188 to R206, R692, R701). -/
namespace Sys2Proof.Machine

/-- Regions of the system address map (01 R59). -/
inductive Region where
  | ddr | hbm | bead | beadTop | pcie | page (p : Nat) | partner (p : Nat) | rom | sram | unmapped
  deriving DecidableEq, Repr

/-- First address of HBM. -/
def hbmBase : Nat := 0x010000000000

/-- Pages the Spool can hold (05, Spool pages). -/
def spoolMax : Nat := 10485760

/-- DDR5 channels in use: those of DDRC_MAP_CFG's mask, or every fitted channel, of channel 0's capacity (05 R216), less
those lost at an earlier start (05 R219). -/
def State.ddrChans (s : State) : List Nat :=
  let m := s.rf Pg.DDRC Rg.DDRC_MAP_CFG 7 0
  (List.range 8).filter fun c =>
    s.pins.ddrGiB.getD c 0 != 0 && s.pins.ddrGiB.getD c 0 == s.pins.ddrGiB.getD 0 0 && (m == 0 || bitOf m c) && !bitOf s.mem.ddrLost c

/-- Bytes fitted on the channels in use. -/
def State.ddrFitted (s : State) : Nat := (s.ddrChans.map fun c => s.pins.ddrGiB.getD c 0).sum * 2 ^ 30

/-- Bytes of the mirrored region (05 R217). -/
def State.mirrorBytes (s : State) : Nat := s.rf Pg.DDRC Rg.DDRC_MAP_CFG 15 8 * 2 ^ 32

/-- Top of DDR5 (05 R217). -/
def State.ddrTop (s : State) : Nat := s.ddrFitted - s.mirrorBytes

/-- The region an address lies in; bead windows end after 192 KiB of each 256 KiB (01 R60). -/
def State.region (s : State) (a : Nat) : Region :=
  if a < 0x010000000000 then (if a < s.ddrTop then .ddr else .unmapped)
  else if a < 0x010C00000000 then .hbm
  else if a < 0x030000000000 then .unmapped
  else if a < 0x030010000000 then (if a % 0x40000 < 0x30000 then .bead else .beadTop)
  else if a < 0x040000000000 then .unmapped
  else if a < 0x080000000000 then .pcie
  else if a < 0x0FE000000000 then .unmapped
  else if a < 0x0FE0004B0000 then .page ((a - 0x0FE000000000) / 0x10000)
  else if a < 0x0FE800000000 then .unmapped
  else if a < 0x0FE8004B0000 then .partner ((a - 0x0FE800000000) / 0x10000)
  else if a < 0x0FF000000000 then .unmapped
  else if a < 0x0FF000040000 then .rom
  else if a < 0x0FF000100000 then .unmapped
  else if a < 0x0FF000300000 then .sram
  else .unmapped

/-- Two addresses of one region, for the spanning rule of 01 R64: a bead window ends the region. -/
def State.sameRegion (s : State) (a b : Nat) : Bool :=
  match s.region a, s.region b with
  | .bead, .bead => a / 0x40000 == b / 0x40000
  | r, q => r == q

/-- Who makes an access: its master ID and the owner it carries (05 R192). -/
structure Acc where
  master : Nat
  owner : Nat
  deriving DecidableEq, Repr

/-- SYSTEM, the owner the MP, service cores and JTAG carry (05 R191, R192). -/
def sysOwner : Nat := 0xFFF

/-- The HBM pseudo-channel of an address (05 R198, R701). -/
def hbmPc (a : Nat) : Nat := (a - hbmBase) / 4096 % 64

/-- An HBM pseudo-channel is retired (05 R218). -/
def State.pcRetired (s : State) (pc : Nat) : Bool :=
  s.rb (Pg.HBMC + pc / 32) Rg.HBMC_PC_FAILED (pc % 32) || s.rb (Pg.HBMC + pc / 32) Rg.HBMC_STATUS 2

/-- A DDR5 channel is retired. -/
def State.chFailed (s : State) (c : Nat) : Bool := s.rb (Pg.DDRC + c) Rg.DDRC_STATUS 3

/-- The channels that hold a DDR5 address: both of a pair for a mirrored granule, one for an interleaved granule (05 R217).
Which pair or channel a granule takes is the granule number modulo their count (DESIGN CHOICE, log 32). -/
def State.ddrHome (s : State) (a : Nat) : List Nat :=
  if a < s.mirrorBytes then [2 * (a / 4096 % 4), 2 * (a / 4096 % 4) + 1]
  else match s.ddrChans with
    | [] => []
    | cs => [cs.getD (a / 4096 % cs.length) 0]

/-- The line's home is retired, so the line reads as poisoned (05 R219, R692). -/
def State.lineRetired (s : State) (a : Nat) : Bool :=
  if hbmBase ≤ a then s.pcRetired (hbmPc a) else (s.ddrHome a).all fun c => s.chFailed c

/-- The page of the memory that holds a line: HBMC or DDRC (05 R194). -/
def State.homeOf (s : State) (a : Nat) : Nat :=
  if hbmBase ≤ a then Pg.HBMC + hbmPc a / 32
  else Pg.DDRC + (((s.ddrHome a).find? fun c => !s.chFailed c).getD ((s.ddrHome a).headD 0))

/-- The index of the controller that initialises a line: stacks 0 and 1, DDR5 channels from 2. -/
def State.ctlOf (s : State) (a : Nat) : Nat := if hbmBase ≤ a then hbmPc a / 32 else s.homeOf a - Pg.DDRC + 2

/-- The line has been initialised (05 R220); the mirrored region is done before the rest. -/
def State.lineInit (s : State) (a : Nat) : Bool :=
  if hbmBase ≤ a then s.rb (s.homeOf a) Rg.HBMC_STATUS 1
  else s.rb (s.homeOf a) Rg.DDRC_STATUS 1 || (decide (a < s.mirrorBytes) && s.rb (s.homeOf a) Rg.DDRC_STATUS 2)

/-- The Spool page of an address, if it lies in the Spool (05, Spool pages). -/
def spoolPageOf (a : Nat) : Option Nat :=
  if hbmBase ≤ a ∧ a < hbmBase + spoolMax * 4096 then some ((a - hbmBase) / 4096) else none

/-- SPOOL_CFG.pages. -/
def State.spoolPages (s : State) : Nat := s.rf Pg.SPOOL Rg.SPOOL_CFG 23 0

/-- A page's entry of the page-state table. -/
def State.spage (s : State) (p : Nat) : SpoolPage := mgetD {} s.mem.pages p

/-- Set a page's entry. -/
def State.setSpage (s : State) (p : Nat) (x : SpoolPage) : State :=
  { s with mem := { s.mem with pages := mputD {} s.mem.pages p x } }

/-- The side band a line has when none is listed: clean, owned by SYSTEM, tagged under the key its controller
initialised it with. -/
def State.line (s : State) (a : Nat) : LineMeta :=
  match mget s.mem.lines (a / 64) with
  | some m => m
  | none => { key := (mget s.mem.initKey (s.ctlOf a)).getD 0 }

/-- Set a line's side band. -/
def State.setLine (s : State) (a : Nat) (m : LineMeta) : State :=
  { s with mem := { s.mem with lines := mput s.mem.lines (a / 64) m } }

/-- A refused access to a Spool page (05 R202): ERR_INFO, SPOOL_REFUSALS, the interrupt and the record. -/
def State.spoolRefused (s : State) (p : Nat) (w : Acc) (write : Bool) (addr : Nat) : State :=
  let s := s.err Pg.SPOOL w.master write false St.LOCKED addr
  let s := (s.fieldSat Pg.SPOOL Rg.SPOOL_REFUSALS 15 0 1).irq Pg.SPOOL 1
  s.log Pg.SPOOL Ev.SPOOL_REFUSED_ACCESS [.v 4 p, .v 2 w.owner, .v 2 (s.spage p).owner, .v 2 w.master]

/-- The Spool admits an access to a page: its owner's or SYSTEM's (05 R202, R224). -/
def State.spoolAdmits (s : State) (p owner : Nat) : Bool :=
  owner == sysOwner || (decide (p < s.spoolPages) && (s.spage p).owner == owner && owner != 0)

/-- A channel or pseudo-channel gains an uncorrectable error at the present time; those of the last hour stay counted
(05 R218). -/
def State.noteUncorr (s : State) (a : Nat) : State :=
  let k := if hbmBase ≤ a then hbmPc a else 64 + (s.homeOf a - Pg.DDRC)
  let l := (mgetD [] s.mem.uncorr k).filter fun t => s.gts < t + 3600000000000
  { s with mem := { s.mem with uncorr := mput s.mem.uncorr k (s.gts :: l) } }

/-- The result of reading one line: the state, its 64 bytes, and the engine status of 05 R193 (or NOT_OWNER, NOT_READY). -/
structure LineR where
  st : State
  data : List Byte
  status : Nat
  deriving DecidableEq, Repr

/-- 64 zero bytes. -/
def zeroLine : List Byte := List.replicate 64 0

/-- The address a poisoned read is recorded at, in the page of the memory that holds the line (05 R194). -/
def State.poisonAddr (s : State) (a : Nat) : State :=
  let h := s.homeOf a
  (s.wrN h Rg.ERR_ADDR_LO 0 a).wrN h Rg.ERR_ADDR_HI 0 (a / 2 ^ 32)

/-- Read one line of DDR5 or HBM (the counters lie at the same offsets in an HBMC and a DDRC page), `a` its first byte (05 R193, R201, R202, R220, R692). -/
def State.readLine (s : State) (w : Acc) (a : Nat) (u : Upset := .clean) : LineR :=
  let h := s.homeOf a
  let bad := fun (s : State) => ({ st := s.poisonAddr a, data := zeroLine, status := St.POISON } : LineR)
  let check := fun (_ : Unit) =>
    let m := s.line a
    if m.poison then bad s
    else match u with
      | .twoSym => bad (((s.setLine a { m with poison := true }).countSat h Rg.HBMC_UNCORR 1).noteUncorr a)
      | .checkSym => { st := s.countSat h Rg.HBMC_CHKFIX 1, data := s.peek a 64, status := St.CHECK_ONLY_FIXED }
      | .oneSym => { st := s.countSat h Rg.HBMC_CORR 1, data := s.peek a 64, status := St.OK }
      | _ => if u = .badTag ∨ m.key ≠ s.mem.key then
          { st := (s.countSat h Rg.HBMC_TAGFAIL 1).poisonAddr a, data := zeroLine, status := St.TAG_FAIL }
        else { st := s, data := s.peek a 64, status := St.OK }
  match spoolPageOf a with
  | some p =>
    if !s.spoolAdmits p w.owner then { st := s.spoolRefused p w false a, data := zeroLine, status := St.NOT_OWNER }
    else if s.pcRetired (hbmPc a) then bad s
    else if (s.spage p).zero && !bitOf (s.spage p).written (a / 64 % 64) then { st := s, data := zeroLine, status := St.OK }
    else check ()
  | none =>
    if s.lineRetired a then bad s
    else if !s.lineInit a then { st := s, data := zeroLine, status := St.NOT_READY }
    else check ()

/-- A write that reaches a line it may not clean: the line is left poisoned and the writer gets POISON (05 R195, R692);
`cause` 0 poisoned, 1 uncorrectable, 2 itag failing, 3 retired. Lines of Spool pages count in SPOOL_POISON_COUNT. -/
def State.poisonedWrite (s : State) (w : Acc) (a cause : Nat) : State :=
  let s := if cause = 3 then s else s.setLine a { (s.line a) with poison := true }
  match spoolPageOf a with
  | some _ => ((s.countSat Pg.SPOOL Rg.SPOOL_POISON_COUNT 1).irq Pg.SPOOL 2).log Pg.SPOOL Ev.SPOOL_POISONED_WRITE
      [.v 8 a, .v 2 w.owner, .v 1 cause]
  | none => s.log Pg.SPOOL Ev.SPOOL_POISONED_WRITE [.v 8 a, .v 2 w.owner, .v 1 cause]

/-- A write marks its line written in the page-state table; when all 64 bits are set, zero_pending clears (05 R201). -/
def State.markWritten (s : State) (a : Nat) : State :=
  match spoolPageOf a with
  | none => s
  | some p =>
    let x := s.spage p
    if !x.zero then s
    else
      let wr := x.written ||| 2 ^ (a / 64 % 64)
      s.setSpage p { x with written := wr, zero := decide (wr ≠ 2 ^ 64 - 1) }

/-- A line stored with a fresh side band: the page's owner and generation in the Spool, SYSTEM and 0 outside (05 R188). -/
def State.storeLine (s : State) (a : Nat) (data : List Byte) : State :=
  let s := s.poke a data
  let s := match spoolPageOf a with
    | some p => s.setLine a { owner := (s.spage p).owner, gen := (s.spage p).gen, key := s.mem.key }
    | none => s.setLine a { key := s.mem.key }
  s.markWritten a

/-- Write bytes `data` at offset `o` of the line at `a`: a full line stores it whole (05 R196), fewer bytes are merged by one
read-modify-write (05 R195). Answers the writer's status. -/
def State.writeLine (s : State) (w : Acc) (a o : Nat) (data : List Byte) (u : Upset := .clean) : State × Nat :=
  let refused := match spoolPageOf a with
    | some p => if s.spoolAdmits p w.owner then none else some p
    | none => none
  match refused with
  | some p => (s.spoolRefused p w true a, St.NOT_OWNER)
  | none =>
    if s.lineRetired a then (s.poisonedWrite w a 3, St.POISON)
    else if (spoolPageOf a).isNone && !s.lineInit a then (s, St.NOT_READY)
    else if o = 0 ∧ data.length = 64 then (s.storeLine a data, St.OK)
    else
      let unwritten := match spoolPageOf a with
        | some p => (s.spage p).zero && !bitOf (s.spage p).written (a / 64 % 64)
        | none => false
      let merge := fun (s : State) (old : List Byte) =>
        s.storeLine a (old.take o ++ data ++ old.drop (o + data.length))
      if unwritten then (merge s zeroLine, St.OK)
      else
        let m := s.line a
        let h := s.homeOf a
        if m.poison then (s.poisonedWrite w a 0, St.POISON)
        else match u with
          | .twoSym => (((s.countSat h Rg.HBMC_UNCORR 1).noteUncorr a).poisonedWrite w a 1, St.POISON)
          | .checkSym => (merge (s.countSat h Rg.HBMC_CHKFIX 1) (s.peek a 64), St.CHECK_ONLY_FIXED)
          | .oneSym => (merge (s.countSat h Rg.HBMC_CORR 1) (s.peek a 64), St.OK)
          | _ => if u = .badTag ∨ m.key ≠ s.mem.key then
              ((s.countSat h Rg.HBMC_TAGFAIL 1).poisonedWrite w a 2, St.POISON)
            else (merge s (s.peek a 64), St.OK)

/-- The one code reported when several conditions apply (00 R19): the lowest of 0x04 to 0x0F and 0x11; then OUT_FULL or
OUT_LIMIT; then NO_GAIN; then CHECK_ONLY_FIXED. -/
def codeRank (c : Nat) : Nat :=
  if (4 ≤ c ∧ c ≤ 0xF) ∨ c = 0x11 then c else if c = 2 ∨ c = 3 then 0x20 + c else if c = 1 then 0x30
  else if c = 0x10 then 0x40 else 0x50

/-- The code of a job two conditions apply to (00 R19). -/
def worse (a b : Nat) : Nat := if codeRank a ≤ codeRank b then a else b

/-- The pieces of an access: each line's address, offset in the line and number of bytes. -/
def linesOf (addr n : Nat) : List (Nat × Nat × Nat) :=
  if n = 0 then []
  else (List.range ((addr + n - 1) / 64 - addr / 64 + 1)).map fun k =>
    let l := (addr / 64 + k) * 64
    let lo := max addr l
    let hi := min (addr + n) (l + 64)
    (l, lo - l, hi - lo)

/-- An access lies in DDR5 or HBM whole. -/
def State.inMemory (s : State) (addr n : Nat) : Bool :=
  let r := s.region addr
  (r == .ddr || r == .hbm) && s.region (addr + n - 1) == r

/-- The module and the BAR0 offset of an address in a root complex's outbound window (11 R437). -/
def bar0 (addr : Nat) : Nat × Nat :=
  let a := addr - 0x040000000000
  (8 * (a / 2 ^ 40) + a % 2 ^ 40 / 2 ^ 37, a % 2 ^ 37)

/-- The cause under which an engine's, a strand's or a module's access is refused: 0 unmapped, 1 spanning, 2 its master may not
(01 R63, R64, 17 R654). -/
def State.offLimits (s : State) (addr n : Nat) : Option Nat :=
  if !s.sameRegion addr (addr + n - 1) then some 1
  else match s.region addr with
  | .unmapped | .beadTop => some 0
  | .bead | .rom | .sram | .partner _ => some 2
  | .ddr | .hbm | .pcie | .page _ => none

/-- An engine reads bytes: the state, the bytes (zeros where a line answers no data), and the job status its lines give
(05 R193, R202, 01 R65). A flash module answers a PCIe window as it will; a register page answers no such access (17 R643). -/
def State.readBytes (s : State) (w : Acc) (addr n : Nat) : State × List Byte × Nat :=
  if n = 0 then (s, [], St.OK)
  else match s.offLimits addr n with
  | some c => (s.accessRefused addr w.master false c, List.replicate n 0, St.BAD_INPUT)
  | none => match s.region addr with
    | .pcie =>
      let r := s.freeBytes n
      (r.2, r.1, St.OK)
    | .page p => (s.err p w.master false false St.BAD_INPUT addr, List.replicate n 0, St.OK)
    | _ => (linesOf addr n).foldl (fun acc l =>
      let r := acc.1.readLine w l.1
      (r.st, acc.2.1 ++ (r.data.drop l.2.1).take l.2.2, worse acc.2.2 r.status)) (s, [], St.OK)

/-- An engine writes bytes. -/
def State.writeBytes (s : State) (w : Acc) (addr : Nat) (data : List Byte) : State × Nat :=
  if data.length = 0 then (s, St.OK)
  else match s.offLimits addr data.length with
  | some c => (s.accessRefused addr w.master true c, St.BAD_INPUT)
  | none => match s.region addr with
    | .pcie => (s.emit (.module (bar0 addr).1 0x101 (addr :: data.map (·.toNat))), St.OK)
    | .page p => (s.err p w.master true false St.BAD_INPUT addr, St.OK)
    | _ => (linesOf addr data.length).foldl (fun acc l =>
      let r := acc.1.writeLine w l.1 l.2.1 ((data.drop (l.1 + l.2.1 - addr)).take l.2.2)
      (r.1, worse acc.2 r.2)) (s, St.OK)

end Sys2Proof.Machine
end

