-- ==== Sys2Proof/Machine/JobOps.lean ====
section
/-! DEFINITION. Engine jobs: descriptor rings, fetching, completion records (01 R27 to R37, R693 to R697). -/
namespace Sys2Proof.Machine

/-- The page whose rings an engine instance serves: Stitchline has one per root complex. -/
def Engine.page : Engine → Nat → Nat
  | .spool, _ => Pg.SPOOL
  | .hallmark, _ => Pg.HALLMARK
  | .dedup, _ => Pg.DEDUP
  | .pleat, _ => Pg.PLEAT
  | .cipher, _ => Pg.CIPHER
  | .quilt, _ => Pg.QUILT
  | .mapper, _ => Pg.MAPPER
  | .pattern, _ => Pg.PATTERN
  | .stitch, i => Pg.STITCH + i
  | .urt, _ => Pg.URT

/-- Instances an engine has (01, the table of dies). -/
def Engine.count : Engine → Nat
  | .hallmark => 16
  | .pleat => 32
  | .cipher => 16
  | .stitch => 4
  | _ => 1

/-- The master ID an engine instance issues under (01 R25). -/
def Engine.master : Engine → Nat → Nat
  | .spool, _ => Ms.SPOOL
  | .hallmark, i => Ms.HALLMARK + i
  | .dedup, _ => Ms.DEDUP
  | .pleat, i => Ms.PLEAT + i
  | .cipher, i => Ms.CIPHER + i
  | .quilt, _ => Ms.QUILT
  | .mapper, _ => Ms.MAPPER
  | .pattern, _ => Ms.PATTERN
  | .stitch, i => Ms.STITCH + i
  | .urt, _ => Ms.URT

/-- Base of an engine page's ring block (01 R35, each chapter's table). -/
def Engine.ringBase : Engine → Nat
  | .spool => Rg.SPOOL_RING_SEL
  | .dedup => Rg.DEDUP_RING_SEL
  | _ => Rg.HALLMARK_RING_SEL

/-- The enable field of an engine's page (01 R696); the Spool's page has none. -/
def State.engEnabled (s : State) (e : Engine) (inst : Nat) : Bool :=
  match e with
  | .spool => true
  | .hallmark => s.rb Pg.HALLMARK Rg.HALLMARK_CFG 16
  | .pleat => s.rb Pg.PLEAT Rg.PLEAT_CFG 0 && s.rb Pg.PLEAT Rg.PLEAT_ENGINE_EN inst
  | .urt => s.rb Pg.URT Rg.URT_CFG 0
  | e => s.rb (e.page inst) 0x100 0

/-- Opcodes of each engine's opcode table (05 R207, 06, 07, 08, 09, 11, 12). -/
def Engine.opcodes : Engine → List Nat
  | .spool => [1, 2]
  | .hallmark => [1, 2, 3, 4, 5]
  | .dedup => [1, 2, 3, 4, 5]
  | .pleat => [1, 2]
  | .cipher => [1, 2, 3, 4, 5, 0x10, 0x11, 0x12, 0x13]
  | .quilt => [1, 2, 3, 4, 0x10, 0x11]
  | .mapper => [1, 2, 3, 4, 5, 6, 7, 0x10, 0x11, 0x12, 0x20]
  | .pattern => [1, 2, 3]
  | .stitch => [1, 2, 3, 4, 0x10, 0x11, 0x12, 0x13, 0x14, 0x15, 0x16, 0x17, 0x18]
  | .urt => []

/-- A register of ring `n`: `k` is its place in the ring block (01 R35). -/
def State.ringReg (s : State) (e : Engine) (inst k n : Nat) : Nat := s.rdN (e.page inst) (e.ringBase + k) n

/-- RING_CFG of ring `n`. -/
def State.ringCfg (s : State) (e : Engine) (inst n : Nat) : Word := s.rd (e.page inst) (e.ringBase + 0xC) n

/-- Ring `n` is enabled. -/
def State.ringOn (s : State) (e : Engine) (inst n : Nat) : Bool := bitW (s.ringCfg e inst n) 0

/-- Completion ring `n` is enabled. -/
def State.cringOn (s : State) (e : Engine) (inst n : Nat) : Bool := bitW (s.ringCfg e inst n) 16

/-- Entries of descriptor ring `n`. -/
def State.ringSize (s : State) (e : Engine) (inst n : Nat) : Nat := 2 ^ fld (s.ringCfg e inst n) 8 4

/-- Entries of completion ring `n`. -/
def State.cringSize (s : State) (e : Engine) (inst n : Nat) : Nat := 2 ^ fld (s.ringCfg e inst n) 24 20

/-- RING_PI and RING_CI, which read 0 while the ring is disabled (01 R697). -/
def State.ringPi (s : State) (e : Engine) (inst n : Nat) : Nat := if s.ringOn e inst n then s.ringReg e inst 0x10 n else 0
def State.ringCi (s : State) (e : Engine) (inst n : Nat) : Nat := if s.ringOn e inst n then s.ringReg e inst 0x14 n else 0

/-- The descriptor ring is full (01 R697). -/
def State.ringFull (s : State) (e : Engine) (inst n : Nat) : Bool :=
  (s.ringPi e inst n + 1) % s.ringSize e inst n == s.ringCi e inst n

/-- The completion ring is full (01 R36). -/
def State.cringFull (s : State) (e : Engine) (inst n : Nat) : Bool :=
  (s.rf (e.page inst) 0x804 15 0 n + 1) % s.cringSize e inst n == s.rf (e.page inst) 0x800 15 0 n

/-- The source number of an engine instance (00, Events and ordering). -/
def Engine.source (e : Engine) (inst : Nat) : Nat := (pageBase (e.page inst)).2 * 256 + inst

/-- The event of 01 R693 in an engine's block code. -/
def Engine.event (e : Engine) (inst k : Nat) : Nat := (pageBase (e.page inst)).2 * 256 + k

/-- The bytes of a completion record (01 R29). -/
def recordBytes (tag source gts phase : Nat) (r : JobRes) : List Byte :=
  leBytes 4 tag ++ leBytes 1 r.status ++ leBytes 1 (phase + 2 * (r.detail % 128)) ++ leBytes 2 source ++ leBytes 16 r.counts ++ leBytes 8 gts

/-- Write a record to an enabled completion ring with a free slot, advance its tail, and raise the ring interrupt of a job
with irq set (01 R29, R30, R36, R694). The engine writes its rings under SYSTEM (DESIGN CHOICE, log 33). -/
def State.putRecord (s : State) (h : Held) : State :=
  let p := h.engine.page h.inst
  let t := s.rd p 0x804 h.cring
  let tail := fld t 15 0
  let phase := fld t 16 16
  let base := s.ringReg h.engine h.inst 0x18 h.cring * 65536
  let s := (s.writeBytes { master := h.engine.master h.inst, owner := sysOwner } (base + tail * 32)
    (recordBytes h.tag h.source s.gts phase h.res)).1
  let next := (tail + 1) % s.cringSize h.engine h.inst h.cring
  let s := s.wrN p 0x804 h.cring (next + 65536 * (if next = 0 then 1 - phase else phase))
  if h.irq then
    let off := if h.cring < 32 then 0x810 else 0x814
    (s.wb p off (h.cring % 32) true).irq p 7
  else s

/-- A record for a disabled completion ring is dropped and reported (01 R33). -/
def State.dropRecord (s : State) (h : Held) : State :=
  s.logI (h.engine.page h.inst) h.inst (h.engine.event h.inst Ev.RECORD_DROPPED) [.v 1 h.cring, .v 4 h.tag, .v 1 h.res.status]

/-- Records already held for a completion ring. -/
def State.heldFor (s : State) (e : Engine) (inst n : Nat) : Bool :=
  s.eng.held.any fun h => h.engine.page h.inst == e.page inst && h.cring == n

/-- A completion record: written, held while its ring is full, or dropped when the ring is disabled (01 R33). -/
def State.sendRecord (s : State) (h : Held) : State :=
  let p := h.engine.page h.inst
  if !s.cringOn h.engine h.inst h.cring then s.dropRecord h
  else if s.heldFor h.engine h.inst h.cring then { s with eng := { s.eng with held := s.eng.held ++ [h] } }
  else if s.cringFull h.engine h.inst h.cring then
    let s := (s.countSat p 0x808 1 h.cring).logI p h.inst (h.engine.event h.inst Ev.CRING_STALL) [.v 1 h.cring, .v 4 h.tag]
    { s with eng := { s.eng with held := s.eng.held ++ [h] } }
  else s.putRecord h

/-- The record of a job. -/
def Job.held (j : Job) (r : JobRes) : Held :=
  { engine := j.engine, inst := j.inst, cring := j.cring, tag := j.tag, source := j.engine.source j.inst, irq := j.irq, res := r }

/-- A job ends: its record is sent and it is no longer held as fetched. -/
def State.endJob (s : State) (id : Nat) (j : Job) (r : JobRes) : State :=
  let s := { s with eng := { s.eng with jobs := mdel s.eng.jobs id } }
  if j.engine = .urt then s.emit (.jobDone j.tag r.status r.counts) else s.sendRecord (j.held r)

/-- Give a job its result; JOB_COMPLETE sends the record. -/
def State.setRes (s : State) (id : Nat) (r : JobRes) : State :=
  { s with eng := { s.eng with jobs := mmod s.eng.jobs id fun j => { j with res := some r } } }

/-- The access an engine makes for a job: under the descriptor's owner (05 R192). -/
def Job.acc (j : Job) : Acc := { master := j.engine.master j.inst, owner := j.owner }

/-- A field of `n` bytes at byte `a` of a job's descriptor. -/
def Job.f (j : Job) (a n : Nat) : Nat := leAt j.desc a n

/-- Run a job of engine `e` and opcode `op` that has been fetched and has no result yet; otherwise nothing comes about
(log 6). `f` answers the state and the result. -/
def jobAct (s : State) (e : Engine) (op id : Nat) (f : State → Job → State × JobRes) : Res :=
  match mget s.eng.jobs id with
  | some j =>
    if s.alive && decide (j.engine = e) && j.opcode == op && j.res.isNone then
      let r := f s j
      .next (r.1.setRes id r.2)
    else .next s
  | none => .next s

/-- As `jobAct` for a job that may stay under way: `f` answers the state and, once the job has ended, its result. -/
def jobActM (s : State) (e : Engine) (op id : Nat) (f : State → Job → State × Option JobRes) : Res :=
  match mget s.eng.jobs id with
  | some j =>
    if s.alive && decide (j.engine = e) && j.opcode == op && j.res.isNone then
      match f s j with
      | (s', some r) => .next (s'.setRes id r)
      | (s', none) => .next s'
    else .next s
  | none => .next s

/-- A result with a status alone. -/
def stRes (c : Nat) : JobRes := { status := c }

end Sys2Proof.Machine
end

