-- ==== Sys2Proof/Machine/HostOps.lean ====
section
/-! DEFINITION. HOSTQ's shared operations: queues, the in-flight count and its backpressure, the end of a queue
(03 R113 to R117, R133 to R137, R141). -/
namespace Sys2Proof.Machine

/-- The key of a controller's queue. -/
def qkey (ctrl qid : Nat) : Nat := ctrl * 256 + qid

/-- HOSTQ_CONN shows the controllers and the I/O queue pairs connected. -/
def State.showConn (s : State) : State :=
  let q := (s.hq.queues.filter fun e => e.1 % 256 != 0).length
  s.wrN Pg.HOSTQ Rg.HOSTQ_CONN 0 (s.hq.ctrls.length + 2 ^ 16 * q)

/-- A command has completed or been discarded: the in-flight count of I/O commands falls, and admission resumes at 520,192
(03 R114, R115). -/
def State.endFlight (s : State) (io : Bool) : State :=
  if !io then s
  else
    let n := s.rdN Pg.HOSTQ Rg.HOSTQ_INFLIGHT
    let s := s.wrN Pg.HOSTQ Rg.HOSTQ_INFLIGHT 0 (n - 1)
    if s.rb Pg.HOSTQ Rg.HOSTQ_BP_STATUS 0 && decide (n - 1 ≤ 520192) then
      (s.wb Pg.HOSTQ Rg.HOSTQ_BP_STATUS 0 false).log Pg.HOSTQ Ev.HOSTQ_BP_EXIT
        [.v 1 0, .v 4 ((s.gts - s.hq.bpSince.getD 0 0) / 1000)]
    else s

/-- Bytes acknowledged to hosts, mirrored and not yet recorded by the Mapper (01 R39). -/
def State.dirtyBytes (s : State) : Nat :=
  ((s.pair.journal.filter fun r => !r.recorded).map fun r => r.data.length).sum

/-- A service core's dump reserve has room for NV staging (15 R600). -/
def State.reserveReady (s : State) : Bool := s.rb Pg.PWRSEQ Rg.PWRSEQ_DUMP_RESERVE 31

/-- Enter or leave the dirty backpressure: at 8 GiB, below 7.5 GiB, while the partner has no free slot, and while the dump
reserve lacks room (01 R40, 13 R525, 15 R600). -/
def State.dirtyBp (s : State) : State :=
  let on := s.rb Pg.HOSTQ Rg.HOSTQ_BP_STATUS 1
  let paired := s.rf Pg.HEADPAIR Rg.HEADPAIR_STATE 2 0 == 3
  let hold := !s.reserveReady || (paired && s.rdN Pg.HEADPAIR Rg.HEADPAIR_MIRROR_FREE == 0)
  if !on && (hold || decide (8 * 2 ^ 30 ≤ s.dirtyBytes)) then
    let s := ((s.wb Pg.HOSTQ Rg.HOSTQ_BP_STATUS 1 true).count Pg.HOSTQ Rg.HOSTQ_BP_COUNT 1).log Pg.HOSTQ Ev.HOSTQ_BP_ENTER
      [.v 1 1, .v 4 (s.rdN Pg.HOSTQ Rg.HOSTQ_INFLIGHT)]
    { s with hq := { s.hq with bpSince := s.hq.bpSince.set 1 s.gts } }
  else if on && !hold && decide (s.dirtyBytes < 15 * 2 ^ 29) then
    (s.wb Pg.HOSTQ Rg.HOSTQ_BP_STATUS 1 false).log Pg.HOSTQ Ev.HOSTQ_BP_EXIT
      [.v 1 1, .v 4 ((s.gts - s.hq.bpSince.getD 1 0) / 1000)]
  else s

/-! ### Journal records (13 R526, R527) -/

/-- Spool pages of the partner's mirror pool that a record's data takes (13 R525). -/
def JRec.slots (r : JRec) : Nat := (r.data.length + 4095) / 4096

/-- HEADPAIR_MIRROR_FREE: the pool less what the retained records take. The partner's pool is as large as this head's
(DESIGN CHOICE, log 50). -/
def State.showMirror (s : State) : State :=
  s.wrN Pg.HEADPAIR Rg.HEADPAIR_MIRROR_FREE 0
    (s.rf Pg.HEADPAIR Rg.HEADPAIR_MIRROR_PAGES 23 0 - (s.pair.journal.map JRec.slots).sum)

/-- A journal record's 64 bytes and slot runs (13 R527); the slots are numbered by the model's order of records. -/
def JRec.bytes (r : JRec) : List Byte :=
  let h := leBytes 7 r.jseq ++ leBytes 1 r.kind ++ leBytes 2 r.ns ++ leBytes 2 r.domain ++ leBytes 4 r.count ++ leBytes 8 r.loc ++
    leBytes 8 r.keyHi ++ leBytes 1 r.keyLen ++ leBytes 1 (if r.data = [] then 0 else 1) ++ leBytes 2 0 ++ leBytes 4 (crc32c r.data) ++
    leBytes 8 r.admGts ++ leBytes 8 r.epoch ++ leBytes 4 0
  h ++ leBytes 4 (crc32c h)

/-- A record is shipped to the partner on its flow (13 R526, R531). -/
def State.shipRec (s : State) (r : JRec) : State :=
  (s.emit (.seam (1 + r.jseq % 16) 1 ((r.bytes ++ r.data).map (·.toNat)))).showMirror

/-- Insert a record into a list rising by sequence number; one already held stays. -/
def insertRec (r : JRec) : List JRec → List JRec
  | [] => [r]
  | a :: t => if r.jseq < a.jseq then r :: a :: t else if r.jseq = a.jseq then a :: t else a :: insertRec r t

/-- A record is retained; with a partner in step, or joining, it is shipped (13 R526). -/
def State.putRec (s : State) (r : JRec) : State :=
  let st := s.rf Pg.HEADPAIR Rg.HEADPAIR_STATE 2 0
  let r := { r with epoch := s.rd64 Pg.STITCH Rg.STITCH_ROLE_EPOCH_LO (s.headId + 8) }
  let s := { s with pair := { s.pair with journal := insertRec r s.pair.journal } }
  (if st = 3 ∨ (st = 5 ∧ s.pair.joinSince ≠ 0) then s.shipRec r else s.showMirror).dirtyBp

/-- The next journal sequence number (03 R126). -/
def State.takeSeq (s : State) : State × Nat := ({ s with hq := { s.hq with jseq := s.hq.jseq + 1 } }, s.hq.jseq)

/-- A number whose command has ended without a record is a VOID record (13 R526). -/
def State.voidSeq (s : State) (c : Cmd) : State :=
  match c.jseq with
  | some q => s.putRec { jseq := q, kind := 7, admGts := c.admGts, recorded := true }
  | none => s

/-! ### Queues -/

/-- Commands of a queue that are in execution. -/
def State.cmdsOf (s : State) (ctrl qid : Nat) : List (Nat × Cmd) :=
  s.hq.cmds.filter fun e => e.2.ctrl == ctrl && e.2.qid == qid && !e.2.fwd

/-- A queue reset (03 R133 to R137): the staged capsules are discarded, every command not yet done ends as aborted, and the
queue is no longer connected. `cause` counts the choices of HOSTQ_QUEUE_RESET. With `silent` the connection is lost: no
completion can be sent. -/
def State.queueReset (s : State) (ctrl qid cause : Nat) (silent : Bool) : State :=
  match mget s.hq.queues (qkey ctrl qid) with
  | none => s
  | some q =>
    let mine := s.cmdsOf ctrl qid
    let cut := mine.filter fun e => silent || e.2.phase != 2
    let cmds := if silent then s.hq.cmds.filter fun e => !(e.2.ctrl == ctrl && e.2.qid == qid && !e.2.fwd)
      else s.hq.cmds.map fun e =>
        if e.2.ctrl == ctrl && e.2.qid == qid && !e.2.fwd && e.2.phase != 2 then
          (e.1, { e.2 with phase := 2, away := false, sct := 0, sc := 8, result := [] })
        else e
    let s := { s with hq := { s.hq with cmds, queues := mdel s.hq.queues (qkey ctrl qid) } }
    let s := (cut.filter fun e => e.2.phase == 0).foldl (fun s e => s.voidSeq e.2) s
    let s := if silent && qid != 0 then mine.foldl (fun s _ => s.endFlight true) s else s
    let s := s.showConn
    let s := if cause = 1 then s.log Pg.HOSTQ Ev.HOSTQ_CONN_LOST [.v 2 ctrl, .v 2 qid, .v 4 (mine.length + q.staged.length)]
      else s.log Pg.HOSTQ Ev.HOSTQ_QUEUE_RESET [.v 2 ctrl, .v 2 qid, .v 1 cause, .v 4 cut.length]
    s

/-- Every queue of a controller is reset. -/
def State.resetController (s : State) (ctrl cause : Nat) (silent : Bool) : State :=
  (s.hq.queues.filter fun e => e.1 / 256 == ctrl).foldl (fun s e => s.queueReset ctrl (e.1 % 256) cause silent) s

/-- Every host connection is lost (13 R539). -/
def State.dropConnections (s : State) : State :=
  let s := s.hq.queues.foldl (fun s e => s.queueReset (e.1 / 256) (e.1 % 256) 1 true) s
  ({ s with hq := { s.hq with ctrls := [] } }).showConn

/-- The ANA state this head reports for a group (03 R139), group identifiers counted from 1. -/
def State.anaState (s : State) (group : Nat) : Nat := s.rf Pg.HOSTQ Rg.HOSTQ_ANA_STATE 3 0 (group - 1)

/-- Report another ANA state for a group: the change is counted, recorded and noticed (03 R141). -/
def State.setAna (s : State) (group new : Nat) : State :=
  let old := s.anaState group
  if old = new then s
  else
    let s := s.wf Pg.HOSTQ Rg.HOSTQ_ANA_STATE 3 0 new (group - 1)
    let s := s.count Pg.HOSTQ Rg.HOSTQ_ANA_CHGCNT 1
    let s := s.log Pg.HOSTQ Ev.HOSTQ_ANA_CHANGE [.v 1 group, .v 1 old, .v 1 new, .v 4 (s.rdN Pg.HOSTQ Rg.HOSTQ_ANA_CHGCNT)]
    (s.hq.ctrls.filter fun c => c.2.anaNotice).foldl (fun s c => s.emit (.hostCpl c.1 0 0xFFFF 0 0 0 [0x02, 0x03, 0x0C])) s

/-- Bit `g - 1` of HEADPAIR_ANA_HOME: this head is home to group `g` (13 R536). -/
def State.homeGroup (s : State) (g : Nat) : Bool :=
  s.rb Pg.HEADPAIR (Rg.HEADPAIR_ANA_HOME + 4 * ((g - 1) / 32)) ((g - 1) % 32)

/-- Report one state for every group that `sel` picks. -/
def State.setAnaWhere (s : State) (sel : Nat → Bool) (new : Nat) : State :=
  (List.range 128).foldl (fun s g => if sel (g + 1) then s.setAna (g + 1) new else s) s

end Sys2Proof.Machine
end

