-- ==== Sys2Proof/Machine/PairOps.lean ====
section
/-! DEFINITION. The pair's shared operations: the pair state, control messages, and the yield (13 R532, R537 to R541). -/
namespace Sys2Proof.Machine

/-- HEADPAIR_STATE.state: 0 INIT, 1 ARBITRATING, 2 JOINING, 3 PAIRED, 4 TAKING_OVER, 5 SOLO, 6 YIELDED. -/
def State.pairState (s : State) : Nat := s.rf Pg.HEADPAIR Rg.HEADPAIR_STATE 2 0

/-- Change the pair state; HEAD_YIELD_N is driven high in every state but YIELDED (13 R538). -/
def State.setPairState (s : State) (st : Nat) : State :=
  let s := (s.wf Pg.HEADPAIR Rg.HEADPAIR_STATE 2 0 st).irq Pg.HEADPAIR 0
  let s := { s with pins := { s.pins with headYieldN := some (st != 6) } }
  (s.wb Pg.HEADPAIR Rg.HEADPAIR_PINS 0 (st != 6))

/-- Acknowledgements stop (13 R533). -/
def State.stopAcks (s : State) : State := s.wb Pg.HEADPAIR Rg.HEADPAIR_STATE 6 true

/-- A control message on flow 0: its type, the sender's head ID, cause or role, epoch or sequence number (13 R532). -/
def State.control (s : State) (ty cause n : Nat) : State := s.emit (.seam 0 ty [s.headId, cause, n])

/-- The causes for which a head in SOLO yields (13 R541). -/
def soloCauses : List Nat := [0x02, 0x03, 0x07, 0x08, 0x0A]

/-- The head yields for `cause` (13 R539): it stops admitting and acknowledging, sends YIELD on both links, drives
HEAD_YIELD_N low, and disables its ports, which drops its host connections. In SOLO only the causes of 13 R541 count;
any other is recorded. A head already YIELDED is left as it is. -/
def State.yield (s : State) (cause : Nat) : State :=
  let st := s.pairState
  if st = 6 then s
  else if st = 5 ∧ cause ∉ soloCauses then s.log Pg.HEADPAIR Ev.HEADPAIR_YIELD [.v 1 cause, .v 1 st]
  else
    let s := s.wf Pg.HEADPAIR Rg.HEADPAIR_YIELD_CAUSE 7 0 cause
    let s := (s.stopAcks.wb Pg.HEADPAIR Rg.HEADPAIR_STATE 3 false).setPairState 6
    let s := (s.control 1 cause 0).control 1 cause 0
    let s := s.log Pg.HEADPAIR Ev.HEADPAIR_YIELD [.v 1 cause, .v 1 st]
    let s := { s with pair := { s.pair with portsOff := true } }
    let s := (List.range 2).foldl (fun s p => s.wf (Pg.ETH + p) Rg.ETH_LINK_STATUS 3 0 0) s
    s.dropConnections

/-- The head serves hosts at all: it is enabled and in PAIRED, TAKING_OVER or SOLO (13 R537, R546). -/
def State.serving (s : State) : Bool :=
  s.rb Pg.HEADPAIR Rg.HEADPAIR_CFG 0 && (s.pairState == 3 || s.pairState == 4 || s.pairState == 5)

end Sys2Proof.Machine
end

