-- ==== Sys2Proof/Machine/MapOps.lean ====
section
/-! DEFINITION. The Mapper's shared operations: namespaces, the journal as the Mapper sees it, chunk records and their counts,
bolts, the forward map, snapshots' dead lists (06 R260 to R266, 09 R360 to R384, 10 R411 to R415). -/
namespace Sys2Proof.Machine

/-- Change the Mapper's part of the state. -/
def State.setMap (s : State) (m : Mapper) : State := { s with map := m }

/-! ### Namespaces and the journal -/

/-- A namespace or key space. -/
def State.nsp (s : State) (n : Nat) : Option Ns := mget s.map.nss n

/-- Set a namespace's entry. -/
def State.setNs (s : State) (n : Nat) (x : Ns) : State := s.setMap { s.map with nss := mput s.map.nss n x }

/-- Change a namespace's entry, where there is one. -/
def State.modNs (s : State) (n : Nat) (f : Ns → Ns) : State := s.setMap { s.map with nss := mmod s.map.nss n f }

/-- Grains of a namespace: four blocks each (09, Grain order). -/
def Ns.grains (x : Ns) : Nat := (x.blocks + 3) / 4

/-- A dedup domain is valid, and owned by this head (06 R248, R272). -/
def State.domValid (s : State) (d : Nat) : Bool := s.rb Pg.DEDUP Rg.DEDUP_DOM_CFG 0 d
def State.domOwned (s : State) (d : Nat) : Bool := s.rb Pg.DEDUP Rg.DEDUP_DOM_CFG 1 d

/-- A record of a block namespace covers grain `g`. -/
def JRec.covers (r : JRec) (ns g : Nat) : Bool :=
  r.ns == ns && decide (1 ≤ r.kind) && decide (r.kind ≤ 3) && decide (r.loc / 4 ≤ g) && decide (4 * g < r.loc + r.count)

/-- Grains a record covers. -/
def JRec.grains (r : JRec) : List Nat :=
  if 1 ≤ r.kind ∧ r.kind ≤ 3 ∧ r.count ≠ 0 then (List.range ((r.loc + r.count - 1) / 4 - r.loc / 4 + 1)).map (r.loc / 4 + ·) else []

/-- The key of a KV record as a number: bytes 0 to 15 and the length. -/
def JRec.key (r : JRec) : Nat := r.loc + 2 ^ 64 * r.keyHi + 2 ^ 128 * r.keyLen

/-- This head has taken the partner's state over. -/
def State.tookOver (s : State) : Bool := s.pairState == 4 || s.pairState == 5

/-- Records this head applies: its own and, after a takeover, the partner's (13 R535). -/
def State.retained (s : State) : List JRec := s.pair.journal ++ if s.tookOver then s.pair.shadow else []

/-- Change the records that `sel` picks, own and partner's. -/
def State.modRecs (s : State) (sel : JRec → Bool) (f : JRec → JRec) : State :=
  let g := fun r => if sel r then f r else r
  { s with pair := { s.pair with journal := s.pair.journal.map g, shadow := if s.tookOver then s.pair.shadow.map g else s.pair.shadow } }

/-- The Mapper has recorded grain `g` of a record; a record whose grains are all recorded is recorded. -/
def JRec.record (r : JRec) (g : Nat) : JRec :=
  let done := insertNew g r.done
  { r with done, recorded := r.grains.all fun g => decide (g ∈ done) }

/-- The applied horizon (09 R370): the lowest journal sequence number not yet recorded on this head. -/
def State.horizon (s : State) : Nat :=
  ((s.pair.journal.filter fun r => !r.recorded).map (·.jseq)).foldl min s.hq.jseq

/-- MAPPER_SEQ_PERSIST (09 R381, 06 R264): below it every record is recorded, its map pages are written and its deltas
committed. -/
def State.seqPersist (s : State) : Nat :=
  (s.dedup.deltas.map (·.seq)).foldl min ((s.map.pages.filterMap fun e => e.2.dirty).foldl min s.horizon)

/-! ### Map pages (09 R378 to R381) -/

/-- The least number from `n` on that a list lacks; `fuel` bounds the search by the list's length. -/
def leastFree (used : List Nat) : Nat → Nat → Nat
  | 0, n => n
  | fuel + 1, n => if n ∈ used then leastFree used fuel (n + 1) else n

/-- Allocate a map page number (09 R378). -/
def State.newMapPage (s : State) (x : MPage) : State × Nat :=
  let m := s.map
  let used := (m.pages.filter fun e => e.1 / 2 ^ 61 == s.headId).map fun e => e.1 % 2 ^ 30
  let i := leastFree used (used.length + 1) ((m.lastIdx.map (· + 1)).getD 0)
  let r := if i < 2 ^ 30 then (m.round, i) else (m.round + 1, leastFree used (used.length + 1) 0)
  let n := s.headId * 2 ^ 61 + r.1 % 2 ^ 31 * 2 ^ 30 + r.2
  (s.setMap { m with pages := mput m.pages n x, round := r.1, lastIdx := some r.2, lru := n :: m.lru }, n)

/-- The number the next map page would have, as a page floor (10, Shared map pages and chunks): every page allocated so far lies
below it. -/
def State.pageFloor (s : State) : Nat :=
  s.headId * 2 ^ 61 + s.map.round % 2 ^ 31 * 2 ^ 30 + (s.map.lastIdx.map (· + 1)).getD 0

/-- A page is freed: its index may be used again. -/
def State.delMapPage (s : State) (n : Nat) : State :=
  let m := s.map
  s.setMap { m with pages := mdel m.pages n, mpt := mdel m.mpt n, lru := m.lru.filter (· != n), changed := insertNew n m.changed }

/-- The lower of a sequence number and an earlier one. -/
def lowest (a : Option Nat) (b : Nat) : Option Nat := some (match a with | some x => min x b | none => b)

/-- A page is changed by record `seq`. -/
def State.putPage (s : State) (n seq : Nat) (body : MBody) : State :=
  s.setMap { s.map with pages := mmod s.map.pages n fun x => { x with body, dirty := lowest x.dirty seq } }

/-- Capacity of the map cache in GiB: the configured size less the part on lost channels (09 R384). -/
def State.cacheCap (s : State) : Nat :=
  let chans := (List.range 8).filter fun c => s.pins.ddrGiB.getD c 0 != 0
  let left := chans.filter fun c => !s.rb (Pg.DDRC + c) Rg.DDRC_STATUS 3
  if chans.isEmpty then 0 else s.rf Pg.MAPPER Rg.MAPPER_CACHE_SIZE 9 0 * left.length / chans.length

/-- MAPPER_STATUS.map_mode: 0 NORMAL, 1 ENTERING, 2 DEGRADED. -/
def State.mapMode (s : State) : Nat := s.rf Pg.MAPPER Rg.MAPPER_STATUS 1 0

/-- Change the map mode (09 R387). -/
def State.setMapMode (s : State) (mode : Nat) : State :=
  let old := s.mapMode
  ((s.wf Pg.MAPPER Rg.MAPPER_STATUS 1 0 mode).irq Pg.MAPPER 0).log Pg.MAPPER Ev.MAPPER_MODE_CHANGE
    [.v 1 old, .v 1 mode, .v 2 s.cacheCap]

/-- A DDR5 channel has been retired: below MAPPER_CACHE_MIN the head enters degraded map mode (09 R384, R387). -/
def State.checkMapMode (s : State) : State :=
  if s.mapMode = 0 ∧ s.cacheCap < s.rf Pg.MAPPER Rg.MAPPER_CACHE_MIN 9 0 then s.setMapMode 1 else s

/-- The kind of a page in MAPPER_MAP_LOST: directory, run, grain, chunk, value. -/
def MBody.kind : MBody → Nat
  | .dir _ => 0
  | .run _ => 1
  | .grain _ _ => 2
  | .chunks _ => 3
  | .value _ => 5

/-- A page fails its CRC and its reconstruction, or is a stale reference (09 R378, R379). -/
def State.losePage (s : State) (n kind : Nat) : State :=
  let s := s.setMap { s.map with pages := mmod s.map.pages n fun x => { x with lost := true } }
  ((s.wb Pg.MAPPER Rg.MAPPER_STATUS 3 true).irq Pg.MAPPER 1).log Pg.MAPPER Ev.MAPPER_MAP_LOST [.v 8 n, .v 1 kind]

/-- Use a map page: a hit, or a miss that reads it from flash, where `bad` names the pages that fail there (09 R379, R380).
Answers whether it is good and whether it missed. The least recently used clean page gives way when the cache is full. -/
def State.usePage (s : State) (bad : List Nat) (n : Nat) : State × Bool × Bool :=
  match mget s.map.pages n with
  | none => (s.losePage n 0, false, true)
  | some x =>
    if n ∈ s.map.lru then
      let s := s.setMap { s.map with lru := n :: s.map.lru.filter (· != n) }
      (s.count Pg.MAPPER Rg.MAPPER_CACHE_HITS 1, !x.lost, false)
    else
      let s := s.count Pg.MAPPER Rg.MAPPER_CACHE_MISSES 1
      if x.lost then (s, false, true)
      else if n ∈ bad then (s.losePage n x.body.kind, false, true)
      else
        let lru := s.map.lru
        let clean := fun p => match mget s.map.pages p with | some y => y.dirty.isNone | none => true
        let lru := if s.cacheCap * 2 ^ 18 ≤ lru.length then
            (match lru.reverse.find? clean with | some v => lru.filter (· != v) | none => lru)
          else lru
        (s.setMap { s.map with lru := n :: lru }, true, true)

/-! ### Snapshots (10 R411 to R414) -/

/-- The newest snapshot of a namespace whose map is frozen and that is not being deleted. -/
def Ns.newest (x : Ns) : Option Snap := (x.snaps.filter fun q => q.frozen && !q.deleting).getLast?

/-- Page floor and point of the newest snapshot, 0 with none. -/
def Ns.floor (x : Ns) : Nat := (x.newest.map (·.floor)).getD 0
def Ns.point (x : Ns) : Nat := (x.newest.map (·.point)).getD 0

/-- Append to the dead list of a namespace's newest snapshot (10 R412, R413). -/
def State.addDead (s : State) (n : Nat) (d : Dead) : State :=
  s.modNs n fun x => match x.newest with
    | none => x
    | some q => { x with snaps := x.snaps.map fun y => if y.epoch = q.epoch then { y with dead := y.dead ++ [d] } else y }

/-! ### Chunk records (09 R373, R374) and reference counts (06 R260 to R263) -/

/-- A chunk's domain; its record. -/
def chunkDom (id : Nat) : Nat := id / 2 ^ 54
def State.chunk (s : State) (id : Nat) : Option Chunk := mget s.map.chunks id

/-- Set a chunk record: its chunk page is changed by record `seq`. -/
def State.setChunk (s : State) (id seq : Nat) (c : Chunk) : State :=
  let s := s.setMap { s.map with chunks := mput s.map.chunks id c }
  match mget s.map.chunkPages (id / 128) with
  | some p => s.putPage p seq (.chunks (id / 128))
  | none =>
    let r := s.newMapPage { ns := chunkDom id, body := .chunks (id / 128), dirty := some seq }
    r.1.setMap { r.1.map with chunkPages := mput r.1.map.chunkPages (id / 128) r.2 }

/-- The bytes of a chunk record. -/
def Chunk.bytes (c : Chunk) : List Byte :=
  leBytes 6 c.bolt ++ leBytes 2 c.stripe ++ leBytes 4 c.place ++ leBytes 4 c.refs ++ leBytes 8 c.fpLo ++ leBytes 2 c.origLen ++
    leBytes 1 (c.st % 4 + 4 * b2n c.hasFp + 8 * b2n c.lost + 16 * b2n c.raw) ++ List.replicate 5 0

/-- A chunk record from its bytes; its state and count are not taken from them. -/
def parseChunk (b : List Byte) : Chunk :=
  let f := leAt b 26 1
  { bolt := leAt b 0 6, stripe := leAt b 6 2, place := leAt b 8 4, fpLo := leAt b 16 8, origLen := leAt b 24 2
    hasFp := bitOf f 2, lost := bitOf f 3, raw := bitOf f 4 }

/-! ### Bolts (09 R376, R377) -/

/-- A bolt's record. -/
def State.bolt (s : State) (b : Nat) : Option Bolt := mget s.map.bolts b

/-- Set a bolt's record, or change it where there is one. -/
def State.setBolt (s : State) (b : Nat) (x : Bolt) : State := s.setMap { s.map with bolts := mput s.map.bolts b x }
def State.modBolt (s : State) (b : Nat) (f : Bolt → Bolt) : State := s.setMap { s.map with bolts := mmod s.map.bolts b f }

/-- Queue a bolt, or a stripe of it, for priority GC (09 R389). -/
def State.queueGc (s : State) (cls b : Nat) (stripe : Option Nat) : State :=
  s.setMap { s.map with gc := insertNew (cls, b, stripe) s.map.gc }

/-- A CLOSED or GC bolt with no valid chunk and no frozen stripe is erased (09 R377); GC reclaims its DEAD records (09 R391). -/
def State.settleBolt (s : State) (b : Nat) : State :=
  match s.bolt b with
  | none => s
  | some x =>
    if (x.st = 2 ∨ x.st = 3) ∧ x.valid = 0 ∧ !x.frozen then
      let dead := s.map.chunks.filter fun e => e.2.bolt == b && e.2.st == 2
      let s := dead.foldl (fun s e => s.setChunk e.1 s.hq.jseq { e.2 with st := 3 }) s
      let erasing := (List.range x.members.length).filter fun i => decide (i ∉ x.bad)
      let members := (x.members.zip (List.range x.members.length)).map fun y => if y.2 ∈ x.bad then { y.1 with retired := true } else y.1
      let s := s.setBolt b { x with st := 4, erasing, members }
      let s := s.setMap { s.map with gc := s.map.gc.filter fun q => q.2.1 != b }
      erasing.foldl (fun s i => match x.members[i]? with
        | some y => s.emit (.module y.module 4 [y.die, y.block])
        | none => s) s
    else s

/-- A bolt gains a valid chunk, or loses one. -/
def State.gainValid (s : State) (b : Nat) : State := s.modBolt b fun x => { x with valid := x.valid + 1 }
def State.loseValid (s : State) (b : Nat) : State := (s.modBolt b fun x => { x with valid := x.valid - 1 }).settleBolt b

/-- Layouts (08 R316, R357): data and check patches. -/
def State.layoutK (s : State) (i : Nat) : Nat := s.rf Pg.QUILT Rg.QUILT_LAYOUT 4 0 i
def State.layoutM (s : State) (i : Nat) : Nat := s.rf Pg.QUILT Rg.QUILT_LAYOUT 6 5 i
def State.layoutOk (s : State) (i : Nat) : Bool := decide (i < 8) && s.rb Pg.QUILT Rg.QUILT_LAYOUT 7 i

/-- Modules declared failed (08 R346). -/
def State.modFailed (s : State) (n : Nat) : Bool := s.rb Pg.QUILT Rg.QUILT_MOD_FAILED n

/-- Members of a bolt on failed modules, and its spare checks. -/
def State.badMembers (s : State) (x : Bolt) : Nat := (x.members.filter fun y => s.modFailed y.module).length
def State.margin (s : State) (x : Bolt) : Nat := s.layoutM x.layout - s.badMembers x

/-- Live bolts with a member on module `n`. -/
def State.boltsOn (s : State) (n : Nat) : List (Nat × Bolt) :=
  s.map.bolts.filter fun e => e.2.st != 0 && e.2.members.any fun y => y.module == n

/-- The regions of a dirty map go to resynchronisation (08 R329). -/
def State.askResync (s : State) (b : Nat) : State :=
  match mget s.quilt.dirty b with
  | some d => if d = 0 then s else
      { s with quilt := { s.quilt with
          resync := mput s.quilt.resync b d
          resyncSince := if s.quilt.resync.isEmpty then s.gts else s.quilt.resyncSince } }
  | none => s

/-- A closed bolt with no dirty region holds no map (08 R326). -/
def State.freeMap (s : State) (b : Nat) : State :=
  if mget s.quilt.dirty b = some 0 ∧ (s.bolt b).all fun x => x.st != 1 then
    { s with quilt := { s.quilt with dirty := mdel s.quilt.dirty b } }
  else s

/-- An OPEN bolt closes; one closed early is resynchronised (09 R377, 08 R329, R342). -/
def State.closeBolt (s : State) (b : Nat) : State :=
  match s.bolt b with
  | some x => if x.st = 1 then ((s.setBolt b { x with st := 2 }).askResync b).freeMap b else s
  | none => s

/-- A module is declared failed (08 R341, R342, R346, R359): open bolts with a member there close at once. -/
def State.moduleFailed (s : State) (n : Nat) : State :=
  let s := s.wb Pg.QUILT Rg.QUILT_MOD_FAILED n true
  let l := s.boltsOn n
  let s := l.foldl (fun s e => (s.modBolt e.1 fun x => { x with failed := true }).closeBolt e.1) s
  let stripes : Nat := (l.map fun e => e.2.stripes).sum
  let bare : Nat := ((l.filter fun e => s.margin e.2 == 0).map fun e => e.2.stripes).sum
  let s := if bare = 0 then s else s.irq Pg.QUILT 4
  s.log Pg.QUILT Ev.QUILT_MODULE_FAILED [.v 1 n, .v 4 stripes, .v 4 bare]

/-- Data patches of its stripe that a chunk lies on, as a mask (08 R319). -/
def Chunk.patches (c : Chunk) : Nat :=
  let lo := c.place % 2 ^ 15 * 64
  let hi := lo + max (c.place / 2 ^ 15) 1 - 1
  ((List.range (hi / 65536 - lo / 65536 + 1)).map fun k => 2 ^ (lo / 65536 + k)).sum

/-- Bytes of valid chunks in a bolt. -/
def State.validBytes (s : State) (b : Nat) : Nat :=
  ((s.map.chunks.filter fun e => e.2.bolt == b && decide (e.2.st ≤ 1)).map fun e => e.2.place / 2 ^ 15).sum

/-- Chunks of one stripe are lost (08 R336): marked, counted and recorded; their counts are kept. `mask` are the lost patches. -/
def State.loseChunks (s : State) (b stripe mask : Nat) (ids : List Nat) : State :=
  let s := ids.foldl (fun s id => match s.chunk id with
    | some c => s.setChunk id s.hq.jseq { c with lost := true }
    | none => s) s
  ((s.countSat Pg.QUILT Rg.QUILT_LOST ids.length).irq Pg.QUILT 3).log Pg.QUILT Ev.QUILT_STRIPE_LOST
    [.v 8 b, .v 4 stripe, .v 4 mask, .v 4 ids.length]

/-! ### Reference counts -/

/-- Log a count change for the next delta batch (06 R263); DEDUP_DOM_REFSEQ gives the highest number applied. -/
def State.addDelta (s : State) (seq idx chunk : Nat) (up : Bool) : State :=
  let d := chunkDom chunk
  let s := { s with dedup := { s.dedup with deltas := s.dedup.deltas ++ [{ dom := d, seq, idx, chunk, up }] } }
  if s.rd64 Pg.DEDUP Rg.DEDUP_DOM_REFSEQ_LO d < seq then s.wr64 Pg.DEDUP Rg.DEDUP_DOM_REFSEQ_LO seq d else s

/-- A refused release (06 R261). -/
def State.underflow (s : State) (seq id : Nat) : State :=
  (s.countSat Pg.DEDUP Rg.DEDUP_REF_UNDERFLOW 1).log Pg.DEDUP Ev.DEDUP_REF_UNDERFLOW [.v 2 (chunkDom id), .v 8 id, .v 8 seq]

/-- A reference is released (06 R261): the count falls; at 0 the record is DEAD. -/
def State.release (s : State) (seq idx id : Nat) : State :=
  match s.chunk id with
  | some c =>
    if c.st ≠ 1 ∨ c.refs = 0 then s.underflow seq id
    else
      let s := s.setChunk id seq { c with refs := c.refs - 1, st := if c.refs = 1 then 2 else 1 }
      let s := s.addDelta seq idx id false
      if c.refs = 1 then s.loseValid c.bolt else s
  | none => s.underflow seq id

/-- A reference is taken (06 R260): none for a dead chunk or a full count; the second part is whether it was taken. -/
def State.takeRef (s : State) (seq idx id : Nat) : State × Bool :=
  match s.chunk id with
  | some c =>
    if c.st = 1 ∧ 1 ≤ c.refs ∧ c.refs < 2 ^ 32 - 1 then
      ((s.setChunk id seq { c with refs := c.refs + 1 }).addDelta seq idx id true, true)
    else (s, false)
  | none => (s, false)

/-- The chunk that an entry of seq `old` named is no longer named by the live map (09 R371, 10 R413). -/
def State.dropChunk (s : State) (n seq idx id old : Nat) : State :=
  match s.nsp n with
  | some x => if old < x.point then s.addDead n (.chunk id old) else s.release seq idx id
  | none => s

/-! ### The forward map (09 R366 to R371) -/

/-- Directory levels for a size (09 R366): grains to run pages to levels. -/
def levelsFor (blocks : Nat) : Nat :=
  let r := (blocks + 65535) / 65536
  if r ≤ 512 then 1 else if r ≤ 262144 then 2 else 3

/-- The largest namespace, 32 PiB, in 4 KiB blocks. -/
def maxBlocks : Nat := 2 ^ 43

/-- Children of a directory page; slots of a run page; groups of a grain page. -/
def State.kids (s : State) (n : Nat) : SMap Nat := match mget s.map.pages n with | some { body := .dir k, .. } => k | _ => []
def State.slots (s : State) (n : Nat) : SMap MEntry := match mget s.map.pages n with | some { body := .run k, .. } => k | _ => []
def State.groups (s : State) (n : Nat) : SMap (SMap MEntry) :=
  match mget s.map.pages n with | some { body := .grain _ k, .. } => k | _ => []

/-- The run page of run index `r` under page `p`, `level` directories below: good or not, and the misses. -/
def State.findRun (s : State) (bad : List Nat) : Nat → Nat → Nat → State × Except Nat (Option Nat) × Nat
  | 0, p, _ =>
    let u := s.usePage bad p
    (u.1, if u.2.1 then .ok (some p) else .error St.POISON, b2n u.2.2)
  | level + 1, p, r =>
    let u := s.usePage bad p
    if !u.2.1 then (u.1, .error St.POISON, b2n u.2.2)
    else match mget (u.1.kids p) (r / 512 ^ level % 512) with
      | none => (u.1, .ok none, b2n u.2.2)
      | some c =>
        let v := State.findRun u.1 bad level c r
        (v.1, v.2.1, v.2.2 + b2n u.2.2)

/-- A RUN slot's grain `j` as a grain entry (09 R367). -/
def MEntry.runEntry (e : MEntry) (j : Nat) : MEntry := { kind := 1, target := e.target + j, seq := e.seq }

/-- The entry of grain `g` in the map under `top`: a RUN expanded to CHUNK. -/
def State.lookup (s : State) (bad : List Nat) (top : Option Nat) (levels g : Nat) : State × Except Nat MEntry × Nat :=
  match top with
  | none => (s, .ok {}, 0)
  | some t =>
    let v := s.findRun bad levels t (g / 16384)
    match v.2.1 with
    | .error c => (v.1, .error c, v.2.2)
    | .ok none => (v.1, .ok {}, v.2.2)
    | .ok (some p) =>
      let e := mgetD {} (v.1.slots p) (g / 64 % 256)
      if e.kind = 3 then (v.1, .ok (e.runEntry (g % 64)), v.2.2)
      else if e.kind = 4 then
        let u := v.1.usePage bad (e.target % 2 ^ 62)
        let m := v.2.2 + b2n u.2.2
        if u.2.1 then (u.1, .ok (mgetD {} (mgetD [] (u.1.groups (e.target % 2 ^ 62)) (e.target / 2 ^ 62)) (g % 64)), m)
        else (u.1, .error St.POISON, m)
      else (v.1, .ok {}, v.2.2)

/-- The entry of grain `g` of a namespace's live map, as it stands. -/
def State.entry (s : State) (n g : Nat) : MEntry :=
  match s.nsp n with
  | some x => match (s.lookup [] x.top x.levels g).2.1 with | .ok e => e | .error _ => {}
  | none => {}

/-- The page to change in place of `p` (10 R412): a new one where there is none or it is shared. -/
def State.ownPage (s : State) (n seq : Nat) (p : Option Nat) (empty : MBody) : State × Nat :=
  match p with
  | none => s.newMapPage { ns := n, body := empty, dirty := some seq }
  | some q =>
    let body := match mget s.map.pages q with | some x => x.body | none => empty
    if q < (((s.nsp n).map Ns.floor).getD 0) then
      let r := s.newMapPage { ns := n, body, dirty := some seq }
      (r.1.addDead n (.page q), r.2)
    else (s.putPage q seq body, q)

/-- Change the slots of run page `r` of namespace `n`, under page `p` with `level` directories below it; answers the page that
stands in its place. -/
def State.updRun (n seq r : Nat) (f : State → SMap MEntry → State × SMap MEntry) : Nat → State → Option Nat → State × Nat
  | 0, s, p =>
    let o := s.ownPage n seq p (.run [])
    let q := f o.1 (o.1.slots o.2)
    (q.1.putPage o.2 seq (.run q.2), o.2)
  | level + 1, s, p =>
    let o := s.ownPage n seq p (.dir [])
    let i := r / 512 ^ level % 512
    let q := State.updRun n seq r f level o.1 (mget (o.1.kids o.2) i)
    (q.1.putPage o.2 seq (.dir (mput (q.1.kids o.2) i q.2)), o.2)

/-- Change the slots of the run page that holds grain `g`. -/
def State.updSlots (s : State) (n seq g : Nat) (f : State → SMap MEntry → State × SMap MEntry) : State :=
  match s.nsp n with
  | none => s
  | some x =>
    let r := State.updRun n seq (g / 16384) f x.levels s x.top
    r.1.modNs n fun y => { y with top := some r.2 }

/-- A grain-page group for a slot of run page `r`: a free one in a grain page that serves the run page and may be changed, or one
in a new page (09 R369). -/
def State.newGroup (s : State) (n seq r : Nat) (slots : SMap MEntry) : State × Nat × Nat :=
  let floor := ((s.nsp n).map Ns.floor).getD 0
  let pages := (slots.filter fun e => e.2.kind == 4).map fun e => e.2.target % 2 ^ 62
  match pages.find? fun p => decide (floor ≤ p) && decide ((s.groups p).length < 4) with
  | some p => (s, p, leastFree ((s.groups p).map (·.1)) 4 0)
  | none =>
    let a := s.newMapPage { ns := n, body := .grain r [], dirty := some seq }
    (a.1, a.2, 0)

/-- Set the entries of a group. -/
def State.setGroup (s : State) (p r seq k : Nat) (es : SMap MEntry) : State :=
  s.putPage p seq (.grain r (mput (s.groups p) k es))

/-- A GRAINS slot no longer names its group: the group is freed, and its page once nothing of the live map names it. -/
def State.dropGroup (s : State) (n seq r : Nat) (slots : SMap MEntry) (e : MEntry) : State :=
  if e.kind ≠ 4 then s
  else
    let p := e.target % 2 ^ 62
    let named := slots.any fun x => x.2.kind == 4 && x.2.target % 2 ^ 62 == p
    if p < ((s.nsp n).map Ns.floor).getD 0 then (if named then s else s.addDead n (.page p))
    else if named then s.putPage p seq (.grain r (mdel (s.groups p) (e.target / 2 ^ 62)))
    else s.delMapPage p

/-- Write grain `g` of a run page's slots (09 R367, R369): a RUN slot is split first; a shared grain page is copied, and every
slot that names it follows. -/
def State.writeGrain (n g : Nat) (e : MEntry) (s : State) (slots : SMap MEntry) : State × SMap MEntry :=
  let r := g / 16384
  let i := g / 64 % 256
  let j := g % 64
  let old := mgetD {} slots i
  if old.kind = 4 then
    let p := old.target % 2 ^ 62
    let k := old.target / 2 ^ 62
    let o := s.ownPage n e.seq (some p) (.grain r [])
    let slots := if o.2 = p then slots
      else slots.map fun x => if x.2.kind = 4 ∧ x.2.target % 2 ^ 62 = p then (x.1, { x.2 with target := o.2 + x.2.target / 2 ^ 62 * 2 ^ 62 }) else x
    let es := mgetD [] (o.1.groups o.2) k
    (o.1.setGroup o.2 r e.seq k (mput es j e), mmod slots i fun x => { x with seq := e.seq })
  else
    let a := s.newGroup n e.seq r slots
    let es := if old.kind = 3 then (List.range 64).map fun j => (j, old.runEntry j) else []
    (a.1.setGroup a.2.1 r e.seq a.2.2 (mput es j e), mput slots i { kind := 4, target := a.2.1 + a.2.2 * 2 ^ 62, seq := e.seq })

/-- Apply an update of one grain that is newer than its entry (09 R371): the chunk it named is dropped. -/
def State.applyGrain (s : State) (n g idx : Nat) (e : MEntry) : State :=
  let old := s.entry n g
  let s := s.updSlots n e.seq g (State.writeGrain n g e)
  if old.kind = 1 then s.dropChunk n e.seq idx old.target old.seq else s

/-- Write a RUN slot for the 64 grains from `g` (09 R368); `idx` counts the releases from there. -/
def State.applyRun (s : State) (n g seq base : Nat) : State :=
  let olds := (List.range 64).map fun j => (j, s.entry n (g + j))
  let s := s.updSlots n seq g fun s slots =>
    let old := mgetD {} slots (g / 64 % 256)
    let slots := mput slots (g / 64 % 256) { kind := 3, target := base, seq }
    (s.dropGroup n seq (g / 16384) slots old, slots)
  olds.foldl (fun s o => if o.2.kind = 1 then s.dropChunk n seq o.1 o.2.target o.2.seq else s) s

/-- A grain has an update before `seq` that is not yet recorded (09 R363). -/
def State.blocked (s : State) (n g seq : Nat) : Bool :=
  s.retained.any fun r => r.covers n g && decide (r.jseq < seq) && !r.recorded && decide (g ∉ r.done)

/-- A record of a key space names key `k`. -/
def JRec.names (r : JRec) (n k : Nat) : Bool := r.ns == n && (r.kind == 4 || r.kind == 5) && r.key == k

/-- A key has an update before `seq` that is not yet recorded. -/
def State.keyBlocked (s : State) (n k seq : Nat) : Bool := s.retained.any fun r => r.names n k && decide (r.jseq < seq) && !r.recorded

/-- An unfrozen snapshot of the namespace has its point below `seq`: the update waits for the freeze (10 R409). -/
def State.frozenOut (s : State) (n seq : Nat) : Bool :=
  ((s.nsp n).map fun x => x.snaps.any fun q => !q.frozen && decide (q.point < seq)).getD false

/-- Record `seq` has been recorded for grain `g`. -/
def State.noteRecorded (s : State) (n g seq : Nat) : State :=
  (s.modRecs (fun r => r.jseq == seq && r.covers n g) fun r => r.record g).dirtyBp

end Sys2Proof.Machine
end

