-- ==== Sys2Proof/Machine/PatOps.lean ====
section
/-! DEFINITION. Pattern's shared operations: modules and dies it may use, free blocks (12 R486 to R494), and what the Mapper does as
programs and reads complete (09 R377, R394, R398). -/
namespace Sys2Proof.Machine

/-- The STITCH page and the copy that show module `n`. -/
def stPage (n : Nat) : Nat := Pg.STITCH + n / 8
def pciePage (n : Nat) : Nat := Pg.PCIE + n / 8

/-- A module's state (11 R471): 0 ABSENT, 1 POWERING, 2 LINKING, 3 CONFIGURING, 4 ATTACHED, 5 FAILED. -/
def State.modState (s : State) (n : Nat) : Nat := s.rf (stPage n) Rg.STITCH_MOD_STATUS 2 0 (n % 8)

/-- A module's entry. -/
def State.module (s : State) (n : Nat) : Module := mgetD {} s.stitch.mods n

/-- Set a module's entry. -/
def State.setModule (s : State) (n : Nat) (m : Module) : State :=
  { s with stitch := { s.stitch with mods := mputD {} s.stitch.mods n m } }

/-- Dies of a module: family and blocks of each. -/
def State.dies (s : State) (n : Nat) : List (Nat × Nat) := (s.module n).dies

/-- The key of a die, and of a block. -/
def dieKey (n d : Nat) : Nat := n * 256 + d
def blockKey (n d b : Nat) : Nat := dieKey n d * 2 ^ 19 + b

/-- Both heads' blocks may be used (12 R489). -/
def State.bothBlocks (s : State) : Bool := s.rb Pg.PATTERN Rg.PATTERN_BLOCK_USE 0

/-- Block `b` is one that this head may use: its own by parity, even for head A, or any while both is set. -/
def State.ownBlock (s : State) (b : Nat) : Bool := s.bothBlocks || b % 2 == s.headId

/-- Free blocks of a die that this head may use. -/
def State.freeOn (s : State) (n d : Nat) : Nat :=
  let blocks := ((s.dies n).getD d (0, 0)).2
  let own := if s.bothBlocks then blocks else (blocks + 1 - s.headId) / 2
  own - (s.pat.used.filter fun e => e.1 / 2 ^ 19 == dieKey n d && s.ownBlock (e.1 % 2 ^ 19) && decide (e.1 % 2 ^ 19 < blocks)).length

/-- A die is eligible (12 R488). -/
def State.dieOk (s : State) (n d : Nat) : Bool :=
  decide (dieKey n d ∉ s.pat.deadDies) && decide (0 < s.freeOn n d)

/-- Eligible dies of a module, of a family or of any. -/
def State.okDies (s : State) (n : Nat) (family : Option Nat) : List Nat :=
  (List.range (s.dies n).length).filter fun d => s.dieOk n d && family.all fun f => ((s.dies n).getD d (0, 0)).1 == f

/-- Modules eligible at Pattern's last evaluation (12 R486). -/
def State.eligible (s : State) : List Nat := (List.range 32).filter fun n => s.rb Pg.PATTERN Rg.PATTERN_ELIGIBLE n

/-- Free blocks of a module in eligible dies. -/
def State.freeIn (s : State) (n : Nat) (family : Option Nat) : Nat := ((s.okDies n family).map fun d => s.freeOn n d).sum

/-- The greatest `n` of `steps` bits, from `acc` on, for which `ok` holds, where it holds up to a bound. -/
def greatest (ok : Nat → Bool) : Nat → Nat → Nat
  | 0, acc => acc
  | b + 1, acc => greatest ok b (if ok (acc + 2 ^ b) then acc + 2 ^ b else acc)

/-- Bolts of the present write layout that this head may still open: as many as have their members on distinct eligible modules
(09 MAPPER_FREE_BOLTS; DEDUCED, log 52). -/
def State.freeBolts (s : State) : Nat :=
  let i := s.rf Pg.QUILT Rg.QUILT_WRITE_LAYOUT 2 0
  let w := s.layoutK i + s.layoutM i
  let free := s.eligible.map fun n => s.freeIn n none
  if w = 0 then 0 else greatest (fun n => decide (n * w ≤ (free.map (min n)).sum)) 20 0

/-- A block is taken for a bolt, or returned free. -/
def State.useBlock (s : State) (n d b how : Nat) : State :=
  { s with pat := { s.pat with used := mput s.pat.used (blockKey n d b) how } }
def State.returnBlock (s : State) (n d b : Nat) : State :=
  { s with pat := { s.pat with used := mdel s.pat.used (blockKey n d b) } }

/-- A die is retired (09 R394): every bolt with a member on it is queued for priority GC. -/
def State.retireDie (s : State) (n d : Nat) : State :=
  if dieKey n d ∈ s.pat.deadDies then s
  else
    let count := (s.pat.used.filter fun e => e.1 / 2 ^ 19 == dieKey n d && e.2 == 2).length
    let s := { s with pat := { s.pat with deadDies := s.pat.deadDies ++ [dieKey n d] } }
    let s := (s.wrN Pg.MAPPER Rg.MAPPER_RETIRED_DIES 0 (s.pat.deadDies.length % 2 ^ 14)).irq Pg.MAPPER 2
    let s := s.log Pg.MAPPER Ev.MAPPER_DIE_RETIRED [.v 1 n, .v 1 d, .v 4 count]
    (s.map.bolts.filter fun e => e.2.st != 0 && e.2.members.any fun y => y.module == n && y.die == d).foldl
      (fun s e => s.queueGc 2 e.1 none) s

/-- A block is retired (09 R392, R393, R394). -/
def State.retireBlock (s : State) (n d b : Nat) : State :=
  let s := (s.useBlock n d b 2).countSat Pg.MAPPER Rg.MAPPER_RETIRED_BLOCKS 1
  let count := (s.pat.used.filter fun e => e.1 / 2 ^ 19 == dieKey n d && e.2 == 2).length
  if s.rf Pg.MAPPER Rg.MAPPER_RETIRE_CFG 15 0 ≤ count then s.retireDie n d else s

/-- The live bolt that holds a block, with the index of its member. -/
def State.boltAt (s : State) (n d b : Nat) : Option (Nat × Bolt × Nat) :=
  let is := fun (y : Member) => y.module == n && y.die == d && y.block == b
  match s.map.bolts.find? fun e => e.2.st != 0 && e.2.members.any is with
  | some e => some (e.1, e.2, (e.2.members.findIdx? is).getD 0)
  | none => none

/-- Calendar minutes since 1970 (09 R376). -/
def State.minute (s : State) : Nat := s.cal.seconds / 60

/-- A program of `len` bytes at `off` of a block has completed at die temperature `temp` (09 R377): the first of a member stamps
its temperature, the first of a region its minute; when every member is full the bolt closes. -/
def State.noteProgram (s : State) (n d b off len temp : Nat) : State :=
  match s.boltAt n d b with
  | none => s
  | some (q, x, i) =>
    if x.st ≠ 1 ∨ x.stripes = 0 then s
    else
      let regs := ((List.range (len / 65536)).map fun k => (off / 65536 + k) * 64 / x.stripes).filter fun r => (mget x.regions r).isNone
      let regs := regs.foldl (fun l r => insertNew r l) []
      let members := x.members.map fun y =>
        if y.module = n ∧ y.die = d ∧ y.block = b ∧ !y.stamped then { y with temp := temp % 256, stamped := true } else y
      let x := { x with
        members
        regions := regs.foldl (fun t r => mput t r (min (s.minute - x.minute) 65535)) x.regions
        unsync := if s.cal.unsync then regs.foldl (fun u r => u ||| 2 ^ r) x.unsync else x.unsync }
      let s := s.setBolt q x
      let full := x.members.all fun y => mget (s.module y.module).wptr (y.die * 2 ^ 19 + y.block) == some (x.stripes * 65536)
      if full && decide (i < x.members.length) then (s.setBolt q { x with st := 2 }).freeMap q else s

/-- A read of a member block is counted (09 R398). -/
def State.noteRead (s : State) (n d b : Nat) : State :=
  let k := blockKey n d b
  s.setMap { s.map with reads := mput s.map.reads k (mgetD 0 s.map.reads k + 1) }

end Sys2Proof.Machine
end

