-- ==== Sys2Proof/Machine/View.lean ====
section
/-! DEFINITION. What a read of a register returns (00 R12, R15, each chapter's table): most registers return what is held, some
show other parts of the state. -/
namespace Sys2Proof.Machine

/-- The domain-status word of 15 R609. -/
def Domain.word (d : Domain) : Nat :=
  d.st + 8 * b2n d.latch.isSome + 16 * b2n d.retention + 32 * b2n d.failed + 65536 * min d.rampUs 65535

/-- Domains that wait in the sequencer's queue; domains 5 and 6 are one entry (15 R592, R609). -/
def State.queued (s : State) : List Nat :=
  (s.power.doms.filter fun e => e.2.st == 1 && e.1 != 6).map (·.1)

/-- The domain that ramps, if one does. -/
def State.ramping (s : State) : Option Nat := (s.power.doms.find? fun e => e.2.st == 2).map (·.1)

/-- Pages on the Spool's free list (05 R203, R205): free, below SPOOL_CFG.pages, in a pseudo-channel that is not retired. -/
def State.spoolFree (s : State) : Nat :=
  let per := fun c => (s.spoolPages + 63 - c) / 64
  let all := ((List.range 64).map fun c => if s.pcRetired c then 0 else per c).sum
  all - (s.mem.pages.filter fun e => e.2.owner != 0 && decide (e.1 < s.spoolPages) && !s.pcRetired (e.1 % 64)).length

/-- A strand's entry. -/
def State.strand (s : State) (n : Nat) : Strand := mgetD {} s.bd.strands n

/-- A bead's entry. -/
def State.bead (s : State) (n : Nat) : Bead := mgetD {} s.bd.beads n

/-- The strand-view word of 02 R104. -/
def Strand.word (x : Strand) : Nat := x.st + 8 * b2n x.intakeClosed + 16 * x.beads.length + 65536 * x.owner

/-- The bead-state word of 02 R105. -/
def Bead.word (b : Bead) : Nat :=
  (match b.strand with | some n => n + 256 | none => 0) + 512 * b.run + 65536 * b.logical

/-- Pages that show their ready bit (16 R613). -/
def State.readyWord (s : State) (j : Nat) : Nat :=
  ((List.range 32).filter fun i => s.pageReady (32 * j + i)).foldl (fun n i => n + 2 ^ i) 0

/-- The level the core drives to the pads of a Selvedge group (15 R588). -/
def State.coreLevel (s : State) (g : Nat) : Nat :=
  if g = 0 then s.pins.modPwren else if g = 1 then s.pins.modPerstN else if g = 2 then s.rdN Pg.MGMT Rg.MGMT_GPIO_OUT
  else b2n (s.pins.headYieldN == some true) + 14

/-- Lowest seq that Locket's SRAM holds, or the next seq (14 R568). -/
def State.oldestSeq (s : State) : Nat :=
  match s.locket.recs with
  | r :: _ => r.seq
  | [] => s.locket.next

/-- The deepest head state the connected controllers permit (03 R143); with none connected P0, as at reset (DESIGN CHOICE,
log 43). -/
def State.permitted (s : State) : Nat :=
  match s.hq.ctrls with
  | [] => 0
  | l => l.foldl (fun n e => min n e.2.ps) 3

/-- Some I/O command is in flight, or either head holds dirty mirrored data (03 R145). -/
def State.heldInP0 (s : State) : Bool :=
  s.rdN Pg.HOSTQ Rg.HOSTQ_INFLIGHT != 0 || s.dirtyBytes != 0 || !s.pair.shadow.isEmpty

/-- The boot control copy in force (16 R617): the later of those that verify, seq compared modulo 2^32, and its number. -/
def State.bootCtl (s : State) : Option (Nat × BootCtl) :=
  let a := s.boot.ctl.getD 0 {}
  let b := s.boot.ctl.getD 1 {}
  if a.valid && b.valid then (if (b.seq + 2 ^ 32 - a.seq) % 2 ^ 32 - 1 < 2 ^ 31 - 1 then some (1, b) else some (0, a))
  else if a.valid then some (0, a) else if b.valid then some (1, b) else none

/-- Fields of a slot's package header (16 R624). -/
def pkgSvn (p : List Byte) : Nat := leAt p 12 4
def pkgVersion (p : List Byte) : Nat := leAt p 8 4

/-- BOOT_SLOT_INFO of a slot (16 R638). -/
def State.slotInfo (s : State) (n : Nat) : Nat :=
  let x := s.boot.slots.getD n {}
  let act := match s.bootCtl with | some c => c.2.active == n | none => false
  let trial := match s.bootCtl with | some c => c.2.trial == n | none => false
  b2n x.verified + 2 * b2n x.staged + 4 * b2n act + 8 * b2n trial + 2 ^ 16 * (pkgSvn x.package % 2 ^ 16)

/-- Stripes left to rebuild on this head: those of live bolts with a member on a module under rebuild (08 R346). -/
def State.rebuildLeft (s : State) : Nat :=
  ((s.map.bolts.filter fun e => e.2.st != 0 && e.2.members.any fun y => s.rb Pg.QUILT Rg.QUILT_MOD_REBUILDING y.module).map
    fun e => e.2.stripes).sum

/-- Stripes with no spare check (08 QUILT_MARGIN0). -/
def State.margin0 (s : State) : Nat :=
  ((s.map.bolts.filter fun e => e.2.st != 0 && s.badMembers e.2 != 0 && s.margin e.2 == 0).map fun e => e.2.stripes).sum

/-- Open bolts of this head in a stream (12 PATTERN_OPEN_STREAM). -/
def State.openIn (s : State) (stream : Nat) : Nat :=
  (s.map.bolts.filter fun e => e.2.st == 1 && e.2.opener == s.headId && e.2.stream % 4 == stream).length

/-- Registers of the DEDUP, QUILT, MAPPER, PATTERN and SNAPREP pages that show other parts of the state. -/
def State.viewMedia (s : State) (b off r : Nat) : Nat :=
  if b = Pg.DEDUP ∧ off = Rg.DEDUP_PENDING then s.dedup.pending.length
  else if b = Pg.QUILT then
    if off = Rg.QUILT_REBUILD_LEFT_LO then s.rebuildLeft % 2 ^ 32
    else if off = Rg.QUILT_REBUILD_LEFT_HI then s.rebuildLeft / 2 ^ 32
    else if off = Rg.QUILT_MARGIN0 then min s.margin0 (2 ^ 32 - 1)
    else if off = Rg.QUILT_OPEN_BOLTS then s.quilt.dirty.length
    else if off = Rg.QUILT_DIRTY_REGIONS then (s.quilt.dirty.map fun e => popCount 64 e.2).sum
    else if off = Rg.QUILT_RESYNC_LEFT then (s.quilt.resync.map fun e => popCount 64 e.2).sum
    else if off = Rg.QUILT_FROZEN then s.quilt.frozen.length
    else r
  else if b = Pg.MAPPER then
    if off = Rg.MAPPER_SEQ_PERSIST_LO then s.seqPersist % 2 ^ 32
    else if off = Rg.MAPPER_SEQ_PERSIST_HI then s.seqPersist / 2 ^ 32
    else if off = Rg.MAPPER_SEQ_HORIZON_LO then s.horizon % 2 ^ 32
    else if off = Rg.MAPPER_SEQ_HORIZON_HI then s.horizon / 2 ^ 32
    else if off = Rg.MAPPER_FREE_BOLTS then s.freeBolts
    else if off = Rg.MAPPER_GC_STATUS then r % 2 + 256 * (s.map.gc.map (·.2.1)).eraseDups.length
    else if off = Rg.MAPPER_LOG_BOLTS then (s.map.logs.map fun e => e.2.length).sum
    else if off = Rg.MAPPER_ORDER_USED then (s.map.order.map fun w => (w.ns, w.grain)).eraseDups.length
    else r
  else if b = Pg.PATTERN then
    if off = Rg.PATTERN_OPEN_STREAM then
      min (s.openIn 0) 255 + 2 ^ 8 * min (s.openIn 1) 255 + 2 ^ 16 * min (s.openIn 2) 255 + 2 ^ 24 * min (s.openIn 3) 255
    else if off = Rg.PATTERN_CLUSTER_LOAD then
      let c := s.rf Pg.PATTERN Rg.PATTERN_CLUSTER_SEL 3 0
      (64 - (s.bd.beads.filter fun e => e.2.strand.isSome && e.1 / 64 == c).length) + 2 ^ 8 * (Config.busyPercent c s.gts % 101) +
        2 ^ 16 * b2n (s.domOn (14 + c))
    else r
  else if b = Pg.SNAPREP then
    if off = Rg.SNAPREP_SNAPS then (s.map.nss.map fun e => e.2.snaps.length).sum
    else if off = Rg.SNAPREP_DEL_BACKLOG then
      min ((s.map.nss.flatMap fun e => (e.2.snaps.filter (·.deleting)).map fun q => q.dead.length).sum) (2 ^ 32 - 1)
    else r
  else r

/-- The value a 4-byte read returns. -/
def State.viewReg (s : State) (p off : Nat) : Nat :=
  let b := (pageBase p).1
  let i := s.shown p off
  let r := s.rdN p off i
  if off = Rg.PAGE_CAPS then irqBits p + 32 * lockBits p + 1024 * b2n (pageDomains p ≠ [])
  else if off = Rg.PAGE_STATUS then r % 4 + 4 * b2n (s.rb p Rg.ERR_INFO 31)
  else if off = Rg.IRQ_FORCE then 0
  else if off < 0x100 then r
  else if deadCopy p off then 0
  else match regRow? p off with
  | none => 0
  | some row =>
    if row.acc == .wo then 0
    else if irqBits p = 8 ∧ row.sel.isSome ∧ off % 4 = 0 ∧ (off = Rg.HALLMARK_RING_PI ∧ b ≠ Pg.SPOOL ∧ b ≠ Pg.DEDUP ∨
        off = Rg.HALLMARK_RING_CI ∧ b ≠ Pg.SPOOL ∧ b ≠ Pg.DEDUP) then
      if s.rb p Rg.HALLMARK_RING_CFG 0 i then r else 0
    else if b = Pg.SPOOL ∧ off = Rg.SPOOL_FREE_COUNT then s.spoolFree
    else if b = Pg.SPOOL ∧ off = Rg.SPOOL_PAGE_INFO then
      let x := s.spage (s.rf p Rg.SPOOL_PAGE_SEL 23 0)
      x.owner + 2 ^ 12 * x.last + 2 ^ 24 * x.gen + 2 ^ 28 * b2n x.zero +
        2 ^ 29 * b2n (s.pcRetired (s.rf p Rg.SPOOL_PAGE_SEL 23 0 % 64))
    else if b = Pg.SPOOL ∧ off = Rg.SPOOL_PAGE_WRITTEN_LO then (s.spage (s.rf p Rg.SPOOL_PAGE_SEL 23 0)).written % 2 ^ 32
    else if b = Pg.SPOOL ∧ off = Rg.SPOOL_PAGE_WRITTEN_HI then (s.spage (s.rf p Rg.SPOOL_PAGE_SEL 23 0)).written / 2 ^ 32
    else if b = Pg.CIPHER ∧ off = Rg.CIPHER_KEY_INFO then
      let k := s.slot (s.rf p Rg.CIPHER_KEY_SEL 11 0)
      k.kcv + 2 ^ 24 * b2n k.key.isSome + 2 ^ 25 * (k.usage % 32) + 2 ^ 30 * b2n k.exportable
    else if b = Pg.CIPHER ∧ Rg.CIPHER_NONCE_CUR ≤ off ∧ off ≤ Rg.CIPHER_NONCE_STAT then
      let e := s.nonceEng (s.rf p Rg.CIPHER_NONCE_ENG 3 0)
      if off = Rg.CIPHER_NONCE_CUR then (match e.cur with | some (k, _) => k % 2 ^ 32 | none => 0)
      else if off = Rg.CIPHER_NONCE_PEND then e.pend.getD 0 % 2 ^ 32
      else b2n e.cur.isSome + 2 * b2n e.pend.isSome
    else if b = Pg.STRAND ∧ off = Rg.STRAND_VIEW_INFO then (s.strand i).word
    else if b = Pg.STRAND ∧ off = Rg.STRAND_VIEW_EPOCH then (s.strand i).epoch % 2 ^ 32
    else if b = Pg.STRAND ∧ off = Rg.STRAND_VIEW_FAMILY then (s.strand i).family
    else if b = Pg.STRAND ∧ off = Rg.STRAND_VIEW_VERSION then (s.strand i).version
    else if b = Pg.STRAND ∧ off = Rg.STRAND_VIEW_XCHG_T then (s.strand i).counts.getD 0 0 + 2048 * (s.strand i).counts.getD 1 0
    else if b = Pg.STRAND ∧ off = Rg.STRAND_VIEW_XCHG_E then (s.strand i).counts.getD 2 0 + 2048 * (s.strand i).counts.getD 3 0
    else if b = Pg.STRAND ∧ (off = Rg.STRAND_RUN_LO ∨ off = Rg.STRAND_RUN_HI) then
      let base := if off = Rg.STRAND_RUN_LO then 0 else 32
      ((s.bd.strands.filter fun e => e.2.st == 2 && decide (base ≤ e.1) && decide (e.1 < base + 32)).map fun e => 2 ^ (e.1 - base)).sum
    else if b = Pg.STRAND ∧ off = Rg.STRAND_FREE_BEADS then
      1024 - (s.bd.beads.filter fun e => e.2.strand.isSome).length
    else if b = Pg.BEADC ∧ off = Rg.BEADC_BEAD_STATE then (s.bead ((p - Pg.BEADC) * 64 + i)).word
    else if b = Pg.LOCKET ∧ off = Rg.LOCKET_SEQ_NEXT_LO then s.locket.next % 2 ^ 32
    else if b = Pg.LOCKET ∧ off = Rg.LOCKET_CLEAR_CHAL_LO then s.locket.chal % 2 ^ 32
    else if b = Pg.LOCKET ∧ off = Rg.LOCKET_OLDEST_LO then s.oldestSeq % 2 ^ 32
    else if b = Pg.LOCKET ∧ off = Rg.LOCKET_OLDEST_HI then s.oldestSeq / 2 ^ 32 % 2 ^ 32
    else if b = Pg.LOCKET ∧ Rg.LOCKET_WIN_DATA ≤ off ∧ off < Rg.LOCKET_WIN_DATA + 64 ∧ s.rb p Rg.LOCKET_CFG 1 then 0
    else if b = Pg.LOCKET ∧ off = Rg.LOCKET_WIN_STATUS then r % 4 + 4 * b2n (s.rb p Rg.LOCKET_CFG 1)
    else if b = Pg.GTS ∧ off = Rg.GTS_NOW_LO then s.gts % 2 ^ 32
    else if b = Pg.GTS ∧ off = Rg.GTS_CAL_SECONDS_LO then s.cal.seconds % 2 ^ 32
    else if b = Pg.PWRSEQ ∧ off = Rg.PWRSEQ_DOM_STATUS then (s.dom i).word
    else if b = Pg.PWRSEQ ∧ off = Rg.PWRSEQ_DOM_ICC ∧ 32 ≤ i then
      s.rf (Pg.STITCH + (i - 32) / 8) Rg.STITCH_MOD_CFG 15 8 ((i - 32) % 8)
    else if b = Pg.PWRSEQ ∧ off = Rg.PWRSEQ_QUEUE then
      (match s.ramping with | some d => d | none => 64) + 256 * s.queued.length
    else if b = Pg.SELVEDGE ∧ off = Rg.SELVEDGE_STATUS then
      ((List.range 4).filter fun g => s.power.held.getD g 0 != 0).foldl (fun n g => n + 2 ^ g) 0
    else if b = Pg.SELVEDGE ∧ off = Rg.SELVEDGE_HELD then s.power.held.getD i 0
    else if b = Pg.SELVEDGE ∧ off = Rg.SELVEDGE_LEVEL then s.power.level.getD i 0
    else if b = Pg.SELVEDGE ∧ off = Rg.SELVEDGE_MISMATCH then
      (s.power.level.getD i 0 ^^^ s.coreLevel i) &&& s.power.held.getD i 0
    else if b = Pg.BOOT ∧ Rg.BOOT_READY ≤ off ∧ off < Rg.BOOT_READY + 12 then s.readyWord ((off - Rg.BOOT_READY) / 4)
    else if b = Pg.BOOT ∧ off = Rg.BOOT_SLOT_INFO then s.slotInfo (s.rf p Rg.BOOT_SLOT_SEL 0 0)
    else if b = Pg.BOOT ∧ off = Rg.BOOT_SLOT_VERSION then pkgVersion (s.boot.slots.getD (s.rf p Rg.BOOT_SLOT_SEL 0 0) {}).package
    else if b = Pg.BOOT ∧ off = Rg.BOOT_OTP_INFO then
      let e := s.boot.otp.getD (s.rf p Rg.BOOT_OTP_SEL 3 0) {}
      b2n e.valid + 2 * b2n e.revoked + 2 ^ 8 * s.boot.svnFloor
    else if b = Pg.TOP ∧ off = Rg.TOP_SERIAL_LO then Config.serial.toNat % 2 ^ 32
    else if b = Pg.TOP ∧ off = Rg.TOP_SERIAL_HI then Config.serial.toNat / 2 ^ 32
    else if b = Pg.MGMT ∧ off = Rg.MGMT_I3C_CFG ∧ i = 0 then s.rf Pg.THIMBLE Rg.THIMBLE_CFG 6 0 + r / 2 ^ 8 * 2 ^ 8
    else if b = Pg.MGMT ∧ off = Rg.MGMT_GPIO_IN then s.pins.gpioIn
    else if b = Pg.DDRC ∧ off = Rg.DDRC_MAP_CFG ∧ p ≠ Pg.DDRC then 0
    else if p = Pg.STITCH ∧ (off = Rg.STITCH_ROLE_EPOCH_LO ∨ off = Rg.STITCH_ROLE_EPOCH_HI) then s.rdN p off (i + 8)
    else if b = Pg.STITCH ∧ off = Rg.STITCH_MOD_TEMP then
      r % 256 + 256 * (match mget s.stitch.tempAt ((p - Pg.STITCH) * 8 + i) with
        | some t => min ((s.gts - t) / 1000000000) 255
        | none => 0)
    else if b = Pg.PCIE ∧ off = Rg.PCIE_HP_STATUS then
      let k := p - Pg.PCIE
      bits (0xFFFFFFFF - s.pins.modPrsntN) (8 * k + 7) (8 * k) + 2 ^ 8 * bits (0xFFFFFFFF - s.pins.modAlertN) (8 * k + 7) (8 * k) +
        2 ^ 16 * bits s.pins.modPwren (8 * k + 7) (8 * k) + 2 ^ 24 * bits s.pins.modPerstN (8 * k + 7) (8 * k)
    else if b = Pg.HOSTQ ∧ off = Rg.HOSTQ_PWR_STATUS then
      min s.headState 3 + 16 * s.permitted + 128 * b2n s.heldInP0
    else if b = Pg.HEADPAIR ∧ off = Rg.HEADPAIR_PINS then b2n (s.pins.headYieldN == some true) + 2 * b2n s.pins.peerYieldN
    else if b = Pg.SVC ∧ off = Rg.SVC_STATUS then r % 2 ^ 16 + 2 ^ 16 * b2n (s.domOn (8 + (p - Pg.SVC)))
    else if b = Pg.SVC ∧ off = Rg.SVC_REPORT_AGE then
      min ((s.gts - s.pair.reports.getD (p - Pg.SVC) 0) / 1000) (2 ^ 24 - 1)
    else s.viewMedia b off r

/-- What a read by a master returns: an inbox of Clasp reads 0 to any master but its bank's (14 R550; the inbox is its sixteen
message registers). -/
def State.viewFor (s : State) (master p off : Nat) : Nat :=
  if p = Pg.CLASP ∧ 0x3000 ≤ off ∧ off < 0x5000 ∧ off % 0x80 < 0x40 ∧
      s.bankMaster (s.claspBank (claspIndex off)) ≠ some master then 0
  else s.viewReg p off

end Sys2Proof.Machine
end

