-- ==== Sys2Proof/Machine/BeadOps.lean ====
section
/-! DEFINITION. Beads and strands, the operations their commands share (02): word registers, vector lanes, local memory, queues,
events, faults. -/
namespace Sys2Proof.Machine

/-- Set a bead's entry. -/
def State.setBead (s : State) (n : Nat) (b : Bead) : State := { s with bd := { s.bd with beads := mputD {} s.bd.beads n b } }

/-- Set a strand's entry. -/
def State.setStrand (s : State) (n : Nat) (x : Strand) : State :=
  { s with bd := { s.bd with strands := mputD {} s.bd.strands n x } }

/-! ### Registers and local memory -/

/-- A word register; w0 reads 0, unpoisoned (02 R66). -/
def Bead.reg (b : Bead) (r : Nat) : PW := if r = 0 then {} else mgetD {} b.w r

/-- Write a word register; writes to w0 are discarded (02 R66). -/
def Bead.setReg (b : Bead) (r : Nat) (v : PW) : Bead := if r = 0 then b else { b with w := mputD {} b.w r v }

/-- Lane `i` of a vector register. -/
def Bead.lane (b : Bead) (v i : Nat) : PW := mgetD {} b.vec (8 * v + i)

/-- Set lane `i` of a vector register. -/
def Bead.setLane (b : Bead) (v i : Nat) (x : PW) : Bead := { b with vec := mputD {} b.vec (8 * v + i) x }

/-- The eight lanes of a vector register. -/
def Bead.lanes (b : Bead) (v : Nat) : List PW := (List.range 8).map (b.lane v)

/-- Set every lane of a vector register. -/
def Bead.setLanes (b : Bead) (v : Nat) (f : Nat → PW) : Bead := (List.range 8).foldl (fun b i => b.setLane v i (f i)) b

/-- A bead's local word. -/
def Bead.word? (b : Bead) (a : Nat) : LW := mgetD {} b.mem a

/-- The parity bits of a data word: [1] of bits [31:16], [0] of bits [15:0] (02, Local memory). -/
def parity (d : Word) : Nat := popCount 16 (d.toNat / 65536) % 2 * 2 + popCount 16 d.toNat % 2

/-- A word as the loader or a store writes it: poison, written bit, parity (02 R69, R70). -/
def LW.mk' (d : Word) (poison written : Bool) : LW := { d, tag := parity d + 4 * b2n written + 8 * b2n poison }

/-- Write a local word. -/
def Bead.setWord (b : Bead) (a : Nat) (x : LW) : Bead := { b with mem := mputD {} b.mem a x }

/-- Words of local memory (02, The bead). -/
def localWords : Nat := 49152

/-! ### Queues and events -/

/-- A message queue, 0 to 6: whole messages, oldest first. -/
def Bead.queue (b : Bead) (q : Nat) : List (List PW) := mgetD [] b.queues q

/-- Set a message queue. -/
def Bead.setQueue (b : Bead) (q : Nat) (l : List (List PW)) : Bead := { b with queues := mputD [] b.queues q l }

/-- Words a queue holds. -/
def queueWords (l : List (List PW)) : Nat := (l.map List.length).sum

/-- A queue has room for a message (02 R73). -/
def Bead.room (b : Bead) (q n : Nat) : Bool := decide (queueWords (b.queue q) + n ≤ 32)

/-- Messages that wait in queue `q`; each event of queue 7 is one. -/
def Bead.count (b : Bead) (q : Nat) : Nat := if q = 7 then b.events.length else (b.queue q).length

/-- Take the oldest message of a queue. -/
def Bead.pop (b : Bead) (q : Nat) : Option (List PW × Bead) :=
  if q = 7 then
    match b.events with
    | [] => none
    | e :: t => some ([{ v := e }], { b with events := t })
  else
    match b.queue q with
    | [] => none
    | m :: t => some (m, b.setQueue q t)

/-- The waiting event of a slot: kind 0 timer, 1 edge (02 R78). -/
def isEvent (kind slot : Nat) (e : Word) : Bool := fld e 31 30 == kind && fld e 29 28 == slot

/-- An event word (02 R78). -/
def eventWord (kind slot : Nat) (level during : Bool) (gts : Nat) : Word :=
  BitVec.ofNat 32 (kind * 2 ^ 30 + slot * 2 ^ 28 + b2n level * 2 ^ 27 + b2n during * 2 ^ 26 + bits gts 35 10)

/-- A timer slot and an edge slot. -/
def Bead.timer (b : Bead) (i : Nat) : Timer := mgetD {} b.timers i
def Bead.edge (b : Bead) (i : Nat) : Edge := mgetD {} b.edges i
def Bead.setTimer (b : Bead) (i : Nat) (t : Timer) : Bead := { b with timers := mputD {} b.timers i t }
def Bead.setEdge (b : Bead) (i : Nat) (e : Edge) : Bead := { b with edges := mputD {} b.edges i e }

/-- Post an event, or count an overrun while the slot's event waits (02 R76). -/
def Bead.post (b : Bead) (kind slot : Nat) (e : Word) : Bead :=
  if b.events.any (isEvent kind slot) then
    if kind = 0 then b.setTimer slot { b.timer slot with overrun := (b.timer slot).overrun + 1 }
    else b.setEdge slot { b.edge slot with overrun := (b.edge slot).overrun + 1 }
  else { b with events := b.events ++ [e] }

/-- Remaining ticks of a timer, 0 when stopped. -/
def Timer.left (t : Timer) (gts : Nat) : Nat :=
  if t.running then (match t.kept with | some k => k | none => (t.deadline - gts + 9) / 10) else 0

/-- The bead's strand is exchanging (02 R78). -/
def State.exchanging (s : State) (b : Bead) : Bool :=
  match b.strand with | some n => (s.strand n).st == 4 | none => false

/-! ### Event lines -/

/-- The present level of event line `i` of a cluster; a disabled line reads 0 (02 R105). -/
def State.lineLevel (s : State) (c i : Nat) : Bool :=
  s.rb (Pg.BEADC + c) (Rg.BEADC_EVSEL + 4 * i) 31 &&
    s.rb (Pg.BEADC + c) (if i < 32 then Rg.BEADC_LINE_LEVEL_LO else Rg.BEADC_LINE_LEVEL_HI) (i % 32)

/-- A mode selects a change to `level`: 1 rising, 2 falling, 3 both. -/
def edgeSelects (mode : Nat) (level : Bool) : Bool := if level then bitOf mode 0 else bitOf mode 1

/-- An armed detector samples its line (02 R77). -/
def State.sampleEdge (s : State) (n slot : Nat) (level : Bool) : State :=
  let b := s.bead n
  let e := b.edge slot
  if e.mode = 0 ∨ e.last = level then s
  else
    let b := b.setEdge slot { e with last := level }
    s.setBead n (if edgeSelects e.mode level then b.post 1 slot (eventWord 1 slot level (s.exchanging b) s.gts) else b)

/-- A bead's cluster is powered and its clock runs: the cluster's domain and its compute die are on, and not in retention
(15 R578). -/
def State.clusterRuns (s : State) (c : Nat) : Bool :=
  s.domOn (14 + c) && s.domOn (1 + c / 4) && !(s.dom (14 + c)).retention

/-- Every armed detector of a cluster on event line `i` samples it. -/
def State.sampleLine (s : State) (c i : Nat) : State :=
  if !s.clusterRuns c then s
  else
    let level := s.lineLevel c i
    (s.bd.beads.filter fun e => e.1 / 64 == c).foldl (fun s e =>
      (List.range 4).foldl (fun s k => if (e.2.edge k).line = i then s.sampleEdge e.1 k level else s) s) s

/-- Event line `i` of a cluster takes a level (02 R77). -/
def State.setLine' (s : State) (c i : Nat) (level : Bool) : State :=
  (s.wb (Pg.BEADC + c) (if i < 32 then Rg.BEADC_LINE_LEVEL_LO else Rg.BEADC_LINE_LEVEL_HI) (i % 32) level).sampleLine c i

/-! ### Faults -/

/-- Set STRAND_LD_STATUS: phase, code, strand and busy (02 R104). -/
def State.ldStatus (s : State) (phase code strand : Nat) (busy : Bool) : State :=
  s.wrN Pg.STRAND Rg.STRAND_LD_STATUS 0 (phase + 2 ^ 8 * code + 2 ^ 16 * strand + 2 ^ 31 * b2n busy)

/-- A command of the STRAND page is in progress on strand `n`. -/
def State.ldBusy (s : State) (n : Nat) : Bool :=
  s.rb Pg.STRAND Rg.STRAND_LD_STATUS 31 && s.rf Pg.STRAND Rg.STRAND_LD_STATUS 21 16 == n

/-- An exchange ends without completing (02 R92, R106). -/
def State.endExchange (s : State) (n code : Nat) : State :=
  let phase := s.rf Pg.STRAND Rg.STRAND_LD_STATUS 2 0
  (s.ldStatus 5 code n false).log Pg.STRAND Ev.STRAND_EXCHANGE_ENDED [.v 1 n, .v 1 code, .v 1 phase]

/-- A bead fault (02 R85): the bead stops before the operation takes effect; BEADC_FAULT, the strand and Locket say so. -/
def State.beadFault (s : State) (n code : Nat) : State :=
  let b := s.bead n
  let p := Pg.BEADC + n / 64
  let i := n % 64
  let s := s.setBead n { b with run := 3 }
  let s := s.wb p (if i < 32 then Rg.BEADC_FAULT_LO else Rg.BEADC_FAULT_HI) (i % 32) true
  let s := s.wrN p Rg.BEADC_FAULT_INFO i (code + 256 * (b.pc % 65536))
  let s := (s.wrN p Rg.BEADC_FAULT_GTS_LO i s.gts).wrN p Rg.BEADC_FAULT_GTS_HI i (s.gts / 2 ^ 32)
  let s := s.logI p (n / 64) Ev.BEAD_FAULT [.v 2 n, .v 1 code, .v 2 b.pc]
  match b.strand with
  | none => s
  | some k =>
    let x := s.strand k
    if x.st = 2 ∨ x.st = 3 then
      let exch := s.ldBusy k
      let s := s.setStrand k { x with st := 5, intakeClosed := true, next := [] }
      let s := s.wb Pg.STRAND (if k < 32 then Rg.STRAND_FAULT_LO else Rg.STRAND_FAULT_HI) (k % 32) true
      if exch then s.endExchange k code else s
    else s

/-! ### Running one operation -/

/-- A word's fields (02, Stitch operations): opcode, d, s, t, x, imm; branch and jump forms. -/
def opOf (w : Word) : Nat := fld w 31 26
def dOf (w : Word) : Nat := fld w 25 21
def sOf (w : Word) : Nat := fld w 20 16
def tOf (w : Word) : Nat := fld w 15 11
def xOf (w : Word) : Nat := fld w 10 0
def immOf (w : Word) : Nat := fld w 15 0
def offJ (w : Word) : Int := sext 21 (fld w 20 0)
def offB (w : Word) : Int := sext 16 (immOf w)

/-- Vector registers an operation names. -/
def vecFields (w : Word) : List Nat :=
  let op := opOf w
  if op = 0x1C ∨ op = 0x1D ∨ op = 0x2C ∨ op = 0x2E then [dOf w]
  else if op = 0x25 ∨ op = 0x26 ∨ op = 0x27 then [dOf w, dOf w + 1]
  else if op = 0x29 ∨ op = 0x2A ∨ op = 0x2B then [dOf w, sOf w, tOf w]
  else if op = 0x2D then [sOf w]
  else if op = 0x2F ∨ op = 0x30 then [dOf w, sOf w]
  else []

/-- The instruction word at the bead's pc. -/
def Bead.instr (b : Bead) : Word := (b.word? b.pc).d

/-- A vector register that still waits for an fld's data. -/
def Bead.pendingVec (b : Bead) (v : Nat) : Bool := b.flds.any fun f => f.1 == v || f.1 + 1 == v

/-- A bead may issue: the head runs the data plane (P0 or P1, 15 R576), its cluster runs, and the bead runs and does not wait. -/
def State.issues (s : State) (n : Nat) : Bool :=
  let b := s.bead n
  s.clusterRuns (n / 64) && decide (s.headState ≤ 1) && b.run == 1 && decide (b.wait = .none)

/-- The outcome of one operation: a fault with its code, or the state and the bead after it. A fault's state is the one before
the operation but for what 01 R64 records of a refused access. -/
abbrev BeadRes := Except (State × Nat) (State × Bead)

/-- Bead `n` issues the operation at its pc, which is of opcode `op` (log 10); an operation that names a vector register whose
fld is outstanding waits. `f` gives the effect; pc is its own business. -/
def beadAct (op n : Nat) (s : State) (f : State → Bead → Word → BeadRes) : Res :=
  let b := s.bead n
  let i := b.instr
  actIf s (s.issues n && decide (b.pc < localWords) && opOf i == op && !((vecFields i).any b.pendingVec)) fun s =>
    if (vecFields i).any fun v => decide (15 < v) then s.beadFault n St.BAD_INPUT
    else match f s b i with
    | .error (s', c) => s'.beadFault n c
    | .ok (s', b') => s'.setBead n b'

/-- The next word address. -/
def Bead.next (b : Bead) : Bead := { b with pc := b.pc + 1 }

/-- An operation that only computes on the bead and goes on. -/
def beadOp (op n : Nat) (s : State) (f : Bead → Word → Except Nat Bead) : Res :=
  beadAct op n s fun s b i =>
    match f b i with
    | .error c => .error (s, c)
    | .ok b => .ok (s, b.next)

/-- Result with the poison of its sources (02 R67). -/
def PW.map2 (a b : PW) (f : Word → Word → Word) : PW := { v := f a.v b.v, p := a.p || b.p }

/-- wd ← f ws wt. -/
def alu (op n : Nat) (s : State) (f : Word → Word → Word) : Res :=
  beadOp op n s fun b i => .ok (b.setReg (dOf i) ((b.reg (sOf i)).map2 (b.reg (tOf i)) f))

/-- wd ← f ws imm. -/
def aluImm (op n : Nat) (s : State) (f : Word → Nat → Word) : Res :=
  beadOp op n s fun b i => .ok (b.setReg (dOf i) { v := f (b.reg (sOf i)).v (immOf i), p := (b.reg (sOf i)).p })

/-- An integer modulo 2^32. -/
def wrap32 (x : Int) : Nat := (x % 2 ^ 32).toNat

/-- The local address ws + imm, or the fault it is (02 R84); a poisoned value's range is not looked at (DEDUCED, log 10). -/
def Bead.localAddr (b : Bead) (i : Word) : Except Nat Nat :=
  let r := b.reg (sOf i)
  let a := wrap32 ((r.v.toNat : Int) + sext 16 (immOf i))
  if r.p then .error St.POISON else if localWords ≤ a then .error St.BAD_INPUT else .ok a

end Sys2Proof.Machine
end

