-- ==== Sys2Proof/Machine/RegisterPages.lean ====
section
/-! DEFINITION. Commands of 17 Register Pages: register writes, page headers, the partner's pages, the MP, SVC and MGMT pages. -/
namespace Sys2Proof.Machine

/-- The enable bit of an engine page's configuration register (01 R696). -/
def enableBit (p : Nat) : Nat := if p = Pg.HALLMARK then 16 else 0

/-- An engine page with descriptor rings, other than the Spool's, which has no enable field. -/
def enginePage (p : Nat) : Bool := irqBits p == 8 && p != Pg.SPOOL

/-- Base of the ring block of a page. -/
def ringBaseOf (p : Nat) : Nat :=
  if p = Pg.SPOOL then Rg.SPOOL_RING_SEL else if p = Pg.DEDUP then Rg.DEDUP_RING_SEL else Rg.HALLMARK_RING_SEL

/-- The write of `v` to a register is a command of its own row of the table, not REGISTER_WRITE. -/
def State.ownRow (s : State) (p off v : Nat) : Bool :=
  let b := (pageBase p).1
  let old := s.viewReg p off
  if off = Rg.PAGE_LOCK ∨ off = Rg.IRQ_FORCE then true
  else if off = Rg.PAGE_CTRL then bitOf v 1
  else if off < 0x100 then false
  else if irqBits p = 8 ∧ (off = ringBaseOf p + 0x10 ∨ off = 0x800 ∨ off = 0x810 ∨ off = 0x814) then true
  else if irqBits p = 8 ∧ off = ringBaseOf p + 0xC then bitOf v 0 != bitOf old 0 || bitOf v 16 != bitOf old 16
  else if enginePage p ∧ off = 0x100 then bitOf v (enableBit p) != bitOf old (enableBit p)
  else if b = Pg.STRAND then off == Rg.STRAND_LD_CMD && decide (1 ≤ bits v 3 0) && decide (bits v 3 0 ≤ 4)
  else if b = Pg.HOSTQ then off == Rg.HOSTQ_QRESET || off == Rg.HOSTQ_ANA_STATE
  else if b = Pg.URT then off == Rg.URT_CTRL || off == Rg.URT_EQ_HEAD
  else if b = Pg.ETH then off == Rg.ETH_CFG
  else if b = Pg.SPOOL then off == Rg.SPOOL_CFG || off == Rg.SPOOL_ALLOC_CMD || off == Rg.SPOOL_FREE_CMD
  else if b = Pg.SYSCACHE then decide (Rg.SYSCACHE_WAY_DIS ≤ off) && decide (off < Rg.SYSCACHE_WAY_DIS + 16)
  else if b = Pg.HBMC then off == Rg.HBMC_PC_RETIRE
  else if b = Pg.DDRC then off == Rg.DDRC_FAIL || off == Rg.DDRC_MAP_CFG
  else if b = Pg.HALLMARK then
    off == Rg.HALLMARK_LW_CMD || (decide (Rg.HALLMARK_SEAL_EXP ≤ off) && decide (off < Rg.HALLMARK_SEAL_EXP + 32))
  else if b = Pg.DEDUP then off == Rg.DEDUP_DOM_CFG
  else if b = Pg.CIPHER then off == Rg.CIPHER_KEY_CMD || off == Rg.CIPHER_NONCE_FLOOR || off == Rg.CIPHER_NONCE_GRANT
  else if b = Pg.QUILT then
    off == Rg.QUILT_LAYOUT || off == Rg.QUILT_WRITE_LAYOUT || off == Rg.QUILT_DRAIN_MASK || off == Rg.QUILT_UNFREEZE_HI ||
      (off == Rg.QUILT_RESHAPE_CMD && bits v 1 0 != 0)
  else if b = Pg.MAPPER then (off == Rg.MAPPER_THR_CMD && bitOf v 0) || off == Rg.MAPPER_CACHE_SIZE
  else if b = Pg.SNAPREP then off == Rg.SNAPREP_CMD && decide (1 ≤ bits v 3 0) && decide (bits v 3 0 ≤ 6)
  else if b = Pg.STITCH then (off == Rg.STITCH_MOD_CTRL && bits v 3 0 != 0) || (off == Rg.STITCH_ROLE_EPOCH_HI && p == Pg.STITCH)
  else if b = Pg.PATTERN then off == Rg.PATTERN_BLOCK_USE
  else if b = Pg.SEAM then (off == Rg.SEAM_CTRL && bits v 1 0 != 0) || (off == Rg.SEAM_CFG && bitOf v 0 && !bitOf old 0)
  else if b = Pg.HEADPAIR then off == Rg.HEADPAIR_CMD && bitOf v 0
  else if b = Pg.SVC then off == Rg.SVC_CTRL || off == Rg.SVC_REPORT
  else if b = Pg.CLASP then
    (decide (0x1000 ≤ off) && decide (off < 0x3000) && off % 0x80 == 0x40) ||
      (decide (0x3000 ≤ off) && decide (off < 0x5000) && off % 0x80 == 0x40)
  else if b = Pg.LOCKET then off == Rg.LOCKET_SEQ_BASE_HI || off == Rg.LOCKET_CLEAR_CMD
  else if b = Pg.GTS then off == Rg.GTS_CAL_CMD
  else if b = Pg.PWRSEQ then (off == Rg.PWRSEQ_CMD && bitOf v 0) || (off == Rg.PWRSEQ_DOM_CTRL && bits v 1 0 != 0)
  else if b = Pg.SELVEDGE then off == Rg.SELVEDGE_RELEASE
  else if b = Pg.BOOT then off == Rg.BOOT_CMD && decide (1 ≤ bits v 3 0) && decide (bits v 3 0 ≤ 7)
  else if b = Pg.TOP then off == Rg.TOP_SW_RESET && v == 0xA5A5
  else false

/-- What an accepted write does beside storing the value: message registers of a channel whose go is set discard it
(14 R552), a cursor write clears the window's overrun (14 R568), MGMT_I3C_CFG of bus 0 and PWRSEQ_DOM_ICC of a module's
domain ignore it (15 R609, 17 R659). -/
def State.afterPlain (s : State) (w : RegW) (old : Nat) : State :=
  if w.page = Pg.CLASP ∧ 0x1000 ≤ w.off ∧ w.off < 0x3000 then
    let c := claspIndex w.off
    if s.rb Pg.CLASP (Rg.CLASP_OUT_GO + 0x80 * c) 0 then
      (s.wrN Pg.CLASP w.off 0 old).wf Pg.CLASP (Rg.CLASP_OUT_STATUS + 0x80 * c) 15 8 St.LOCKED
    else s
  else if Pg.BEADC ≤ w.page ∧ w.page ≤ Pg.BEADC + 15 ∧ Rg.BEADC_EVSEL ≤ w.off then
    if bitOf w.value 31 then s else s.setLine' (w.page - Pg.BEADC) ((w.off - Rg.BEADC_EVSEL) / 4) false
  else if w.page = Pg.STRAND ∧ w.off = Rg.STRAND_LD_CMD then
    let n := s.rf Pg.STRAND Rg.STRAND_LD_SEL 5 0
    if s.rb Pg.STRAND Rg.STRAND_LD_STATUS 31 then s else s.ldStatus 5 St.BAD_INPUT n false
  else if w.page = Pg.BOOT ∧ w.off = Rg.BOOT_CMD then s.wrN Pg.BOOT Rg.BOOT_CMD_STATUS 0 (256 * St.BAD_INPUT)
  else if w.page = Pg.SNAPREP ∧ w.off = Rg.SNAPREP_CMD then
    s.wf Pg.SNAPREP Rg.SNAPREP_CMD_STATUS 15 8 (if s.rb Pg.SNAPREP Rg.SNAPREP_CMD_STATUS 0 then St.LOCKED else St.BAD_INPUT)
  else if w.page = Pg.LOCKET ∧ (w.off = Rg.LOCKET_WIN_CURSOR_LO ∨ w.off = Rg.LOCKET_WIN_CURSOR_HI) then
    s.wb Pg.LOCKET Rg.LOCKET_WIN_STATUS 1 false
  else if w.page = Pg.MGMT ∧ w.off = Rg.MGMT_I3C_CFG ∧ s.shown Pg.MGMT w.off = 0 then s.wrN Pg.MGMT w.off 0 old
  else if w.page = Pg.PWRSEQ ∧ w.off = Rg.PWRSEQ_DOM_ICC ∧ 32 ≤ s.shown Pg.PWRSEQ w.off then
    s.wrN Pg.PWRSEQ w.off (s.shown Pg.PWRSEQ w.off) old
  else s

/-- One 4-byte write of REGISTER_WRITE. A service core's write of PWRSEQ_DUMP_RESERVE is its report (15 R600; DESIGN CHOICE,
log 56). -/
def State.plainWrite (s : State) (w : RegW) : State :=
  if s.ownRow w.page w.off (w.value % 2 ^ 32) then s
  else if w.page = Pg.PWRSEQ ∧ w.off = Rg.PWRSEQ_DUMP_RESERVE ∧ whoOf w.master = .svc ∧ s.pageReady w.page then
    (s.wrN w.page w.off 0 (w.value % 2 ^ 32 &&& 0x8000FFFF)).dirtyBp
  else s.regCmd { w with value := w.value % 2 ^ 32 } fun s' old => s'.afterPlain w old

/-! ### The partner's pages (17 R654 to R656) -/

/-- A Seam link that carries traffic: PROBATION, ACTIVE or CAUTIONED. -/
def State.seamUp (s : State) : Bool :=
  (List.range 2).any fun l => let st := s.rf (Pg.SEAM + l) Rg.SEAM_STATUS 2 0; st == 2 || st == 3 || st == 4

/-- An access to the partner's register pages: only the MP and the service cores make one (17 R654); with no Seam link up it
ends at once (17 R656). -/
def State.partnerAccess (s : State) (master addr : Nat) (write : Bool) (value : Word) : State :=
  let w := whoOf master
  if !(w == .mp || w == .svc) then s.accessRefused addr master write 2
  else if !s.seamUp then
    let s := s.err Pg.TOP master write true St.NOT_READY addr
    let s := s.log Pg.TOP Ev.REG_REMOTE_TIMEOUT [.v 8 addr, .v 2 master, .v 1 (b2n write), .v 1 St.NOT_READY]
    if write then s else s.emit (.readData master addr (leBytes 4 0) false)
  else
    let id := freshKey s.remotes 0
    ({ s with remotes := mput s.remotes id { master, addr, write } }).emit (.remote id (Ms.PARTNER + master) addr write value)

/-- REGISTER_WRITE (17 R643, R644, R648): `len` bytes at `addr`, `value` little-endian. Registers with a row of their own are
left to it. -/
def execRegisterWrite (master addr len value : Nat) (s : State) : Res := act s fun s =>
  match s.region addr with
  | .page p =>
    let off := addr % 0x10000
    if off + len > 0x10000 then s.accessRefused addr master true 1
    else if len = 4 ∧ off % 4 = 0 then s.plainWrite { page := p, off, master, value }
    else if len = 8 ∧ off % 8 = 0 then
      (s.plainWrite { page := p, off, master, value := value % 2 ^ 32 }).plainWrite
        { page := p, off := off + 4, master, value := value / 2 ^ 32 }
    else s.err p master true false St.BAD_INPUT addr
  | .partner _ => if len = 4 ∧ addr % 4 = 0 then s.partnerAccess master addr true (BitVec.ofNat 32 value) else s
  | _ => s

/-- LOCK_REPORT_WINDOW_END (17 R648): 1 ms after a report of a page; with `access`, after one of REG_ACCESS_REFUSED. -/
def execLockReportWindowEnd (page : Nat) (access : Bool) (s : State) : Res := act s fun s =>
  if access then
    match s.accWin with
    | none => s
    | some w =>
      if w.count = 0 then { s with accWin := none }
      else
        let s := s.accept w.gts (srcOf Pg.TOP) Ev.REG_ACCESS_REFUSED
          (packPayload [.v 8 w.off, .v 2 w.master, .v 1 (w.cause / 4), .v 1 (w.cause % 4), .v 4 w.count])
        { s with accWin := some {} }
  else
    match mget s.lockWins page with
    | none => s
    | some w =>
      if w.count = 0 then { s with lockWins := mdel s.lockWins page }
      else
        let s := s.accept w.gts (srcOf Pg.TOP) Ev.REG_LOCK_VIOLATION
          (packPayload [.v 1 page, .v 2 w.off, .v 2 w.master, .v 1 w.cause, .v 4 w.count])
        { s with lockWins := mput s.lockWins page {} }

/-- A write of one header register, whatever it does beyond its own access code being in `headerWrite`. -/
def State.headerCmd (s : State) (page off master value : Nat) : State :=
  (s.regWrite { page, off, master, value := value % 2 ^ 32 }).1

/-- PAGE_LOCK_WRITE (17 R647). -/
def execPageLockWrite (master page value : Nat) (s : State) : Res := act s fun s =>
  s.headerCmd page Rg.PAGE_LOCK master value

/-- IRQ_FORCE_WRITE (17 R651). -/
def execIrqForceWrite (master page value : Nat) (s : State) : Res := act s fun s =>
  s.headerCmd page Rg.IRQ_FORCE master value

/-- PAGE_SNAP (17 R646): a write of PAGE_CTRL with snap set; its other fields take their values too. -/
def execPageSnap (master page value : Nat) (s : State) : Res := actIf s (bitOf value 1) fun s =>
  s.headerCmd page Rg.PAGE_CTRL master value

/-- A read of a register with an effect of its own: a page that is not ready answers 0 (16 R612). -/
def State.readCmd (s : State) (p off master : Nat) (f : State → State) : State :=
  if !s.pageReady p then
    (s.notReady p off master false false).emit (.readData master (regAddr p off) (leBytes 4 0) false)
  else
    let s := f s
    s.emit (.readData master (regAddr p off) (leBytes 4 (s.viewFor master p off)) false)

/-- GTS_SNAP_LO_READ (17 R642): latches GTS_SNAP_HI. -/
def execGtsSnapLoRead (master page : Nat) (s : State) : Res := act s fun s =>
  s.readCmd page Rg.GTS_SNAP_LO master fun s => s.wr page Rg.GTS_SNAP_HI 0 (s.rd page Rg.GTS_SNAP_HI 1)

/-! ### Remote accesses (17 R656) -/

/-- REMOTE_ACCESS_TIMEOUT (17 R656). -/
def execRemoteAccessTimeout (id : Nat) (s : State) : Res :=
  match mget s.remotes id with
  | none => .next s
  | some r => act s fun s =>
    let s := { s with remotes := mdel s.remotes id }
    let s := s.err Pg.TOP r.master r.write true St.TIMEOUT r.addr
    let s := s.log Pg.TOP Ev.REG_REMOTE_TIMEOUT [.v 8 r.addr, .v 2 r.master, .v 1 (b2n r.write), .v 1 St.TIMEOUT]
    if r.write then s else s.emit (.readData r.master r.addr (leBytes 4 0) false)

/-- REMOTE_ACCESS_ANSWER (17 R656): the partner's answer completes the access. -/
def execRemoteAccessAnswer (id : Nat) (value : Word) (s : State) : Res :=
  match mget s.remotes id with
  | none => .next s
  | some r => act s fun s =>
    let s := { s with remotes := mdel s.remotes id }
    if r.write then s else s.emit (.readData r.master r.addr (leBytes 4 value.toNat) false)

/-! ### MP, SVC and MGMT pages -/

/-- LOCKSTEP_DISAGREEMENT (17 R657): mismatch_seen, the record, and the yield. -/
def execLockstepDisagreement (s : State) : Res := act s fun s =>
  let s := s.wb Pg.MP Rg.MP_STATUS 1 true
  let s := s.wb Pg.MP Rg.MP_STATUS 0 false
  let s := s.log Pg.MP Ev.MP_LOCKSTEP_MISMATCH [.v 8 s.gts]
  s.yield 0x03

/-- SVC_CTRL_WRITE (17 R658): a core released runs from the entry address, a core held is in reset. -/
def execSvcCtrlWrite (master cluster value : Nat) (s : State) : Res := actIf s (decide (cluster < 6)) fun s =>
  s.regCmd { page := Pg.SVC + cluster, off := Rg.SVC_CTRL, master, value } fun s _ =>
    let st := s.rdN (Pg.SVC + cluster) Rg.SVC_STATUS
    s.wrN (Pg.SVC + cluster) Rg.SVC_STATUS 0 (st / 256 * 256 + (value % 256))

/-- SVC_REPORT_WRITE (17 R658): the cluster's report resets its age. -/
def execSvcReportWrite (master cluster value : Nat) (s : State) : Res := actIf s (decide (cluster < 6)) fun s =>
  s.regCmd { page := Pg.SVC + cluster, off := Rg.SVC_REPORT, master, value } fun s _ =>
    { s with pair := { s.pair with reports := s.pair.reports.set cluster s.gts } }

/-- A cluster counts for the SVC_STALL cause unless it is powered off (15 R580). -/
def State.svcCounts (s : State) (c : Nat) : Bool := s.domOn (8 + c)

/-- SVC_STALL_TIMEOUT (13 R540): no cluster that counts has reported for 100 ms. -/
def execSvcStallTimeout (s : State) : Res :=
  actIf s ((List.range 6).any s.svcCounts && (List.range 6).all fun c =>
    !s.svcCounts c || decide (s.pair.reports.getD c 0 + 100000000 ≤ s.gts)) fun s => s.yield 0x04

/-- MGMT_LINK_CHANGE (17 R659). -/
def execMgmtLinkChange (up : Bool) (s : State) : Res := act s fun s =>
  let s := s.wb Pg.MGMT Rg.MGMT_ETH_STATUS 0 up
  (s.irq Pg.MGMT 0).log Pg.MGMT Ev.MGMT_LINK [.v 1 (b2n up)]

/-- PTP_LOCK_LOSS (17 R659): the payload gives the last offset. -/
def execPtpLockLoss (s : State) : Res := act s fun s =>
  let off := s.rf Pg.MGMT Rg.MGMT_ETH_STATUS 31 16
  let s := s.wb Pg.MGMT Rg.MGMT_ETH_STATUS 1 false
  (s.irq Pg.MGMT 1).log Pg.MGMT Ev.MGMT_PTP_LOST [.v 2 off]

/-- GPIO_EDGE (17 R659): GPIO `i` takes `level`; an enabled edge sets its bit and the interrupt. -/
def execGpioEdge (i : Nat) (level : Bool) (s : State) : Res := actIf s (decide (i < 32)) fun s =>
  let old := bitOf s.pins.gpioIn i
  if old = level then s
  else
    let s := { s with pins := { s.pins with gpioIn := (s.pins.gpioIn ^^^ 2 ^ i) % 2 ^ 32 } }
    if s.rb Pg.MGMT Rg.MGMT_GPIO_EDGE_EN i then (s.wb Pg.MGMT Rg.MGMT_GPIO_EDGE i true).irq Pg.MGMT 2 else s

end Sys2Proof.Machine
end

