-- ==== Sys2Proof/Machine/PowerOps.lean ====
section
/-! DEFINITION. The power sequencer's domains: requests, grants, switches and latched requests (15 R591 to R596). -/
namespace Sys2Proof.Machine

/-- Domains 5 and 6 are one pair (15 R592). -/
def domGroup (d : Nat) : List Nat := if d = 5 ∨ d = 6 then [5, 6] else [d]

/-- A domain of 15 R591. -/
def isDomain (d : Nat) : Bool := decide (d ≤ 29) || (decide (32 ≤ d) && decide (d ≤ 63))

/-- Priority of a domain (15 R591). -/
def domPrio (d : Nat) : Nat :=
  if d = 0 then 1 else if d ≤ 4 then 4 else if d ≤ 6 then 3 else if d = 7 then 2 else if d ≤ 13 then 5 else if d ≤ 29 then 6 else 7

/-- The bit of PWR_EN that switches a domain, if it is a rail. -/
def domRail (d : Nat) : Option Nat :=
  if d = 0 then some 1 else if d ≤ 4 then some (d + 1) else if d ≤ 6 then some 6 else if d = 7 then some 7 else none

/-- Inrush of a domain in 0.1 A; a module's is its STITCH_MOD_CFG.icc, the HBM pair's the sum (15 R592, R609). -/
def State.iccOf (s : State) (d : Nat) : Nat :=
  ((domGroup d).map fun d => if 32 ≤ d then s.rf (Pg.STITCH + (d - 32) / 8) Rg.STITCH_MOD_CFG 15 8 ((d - 32) % 8)
    else s.rf Pg.PWRSEQ Rg.PWRSEQ_DOM_ICC 11 0 d).sum

/-- Change a domain, both of the pair. -/
def State.modDom (s : State) (d : Nat) (f : Domain → Domain) : State :=
  (domGroup d).foldl (fun s d => s.setDom d (f (s.dom d))) s

/-- The domain's state code. -/
def State.domSt (s : State) (d : Nat) : Nat := (s.dom d).st

/-- Set a domain's switch (15 R591). -/
def State.setSwitch (s : State) (d : Nat) (on : Bool) : State :=
  let set := fun (n b : Nat) => if on then n ||| 2 ^ b else n - (n &&& 2 ^ b)
  match domRail d with
  | some b => { s with pins := { s.pins with pwrEn := set s.pins.pwrEn b } }
  | none => if 32 ≤ d then { s with pins := { s.pins with modPwren := set s.pins.modPwren (d - 32) } } else s

/-- Set a domain's power-good. -/
def State.setGood (s : State) (d : Nat) (on : Bool) : State :=
  match domRail d with
  | some b => { s with pins := { s.pins with pwrGood := if on then s.pins.pwrGood ||| 2 ^ b else s.pins.pwrGood - (s.pins.pwrGood &&& 2 ^ b) } }
  | none => s

/-- A request whose domain's inrush exceeds the budget is never granted (15 R594). -/
def State.refuseGrant (s : State) (d : Nat) : State :=
  let s := (s.irq Pg.PWRSEQ 3).log Pg.PWRSEQ Ev.PWRSEQ_GRANT_REFUSED
    [.v 1 d, .v 2 (s.iccOf d), .v 2 (s.rf Pg.PWRSEQ Rg.PWRSEQ_ICC_BUDGET 11 0)]
  s.wrN Pg.PWRSEQ Rg.PWRSEQ_CMD_STATUS 0 (256 * St.LOCKED)

/-- A domain's inrush lies within the budget. -/
def State.withinBudget (s : State) (d : Nat) : Bool := decide (s.iccOf d ≤ s.rf Pg.PWRSEQ Rg.PWRSEQ_ICC_BUDGET 11 0)

/-- A request against the direction under way: latched, one per domain, and recorded (15 R596). -/
def State.reverse (s : State) (d : Nat) (on : Bool) : State :=
  let step := s.domSt d
  (s.modDom d fun x => { x with latch := some on }).log Pg.PWRSEQ Ev.PWRSEQ_REVERSED [.v 1 d, .v 1 step, .v 1 (b2n on)]

/-- A domain is asked for power (15 R595, R596). A failed domain asked again may be granted again (DESIGN CHOICE, log 22). -/
def State.requestOn (s : State) (d : Nat) : State :=
  let st := s.domSt d
  if !s.withinBudget d then s.refuseGrant d
  else if st = 0 then s.modDom d fun x => { x with st := 1, latch := none, failed := false }
  else if st ≤ 4 then s.modDom d fun x => { x with latch := none }
  else s.reverse d true

/-- A domain is asked to go off (15 R592, R595, R596): the pair leaves ON only when both domains have asked. -/
def State.requestOff (s : State) (d : Nat) : State :=
  let st := s.domSt d
  if st = 0 then s
  else if st = 1 then s.modDom d fun x => { x with st := 0, latch := none }
  else if st ≤ 3 then s.reverse d false
  else if st = 4 then
    let s := s.setDom d { s.dom d with latch := some false }
    if (domGroup d).all fun d => (s.dom d).latch == some false then s.modDom d fun x => { x with st := 5, latch := none } else s
  else s.modDom d fun x => { x with latch := none }

/-- The queued domain that comes first: lowest priority number, then lowest domain number (15 R591, R593). -/
def State.nextGrant (s : State) : Option Nat :=
  s.queued.foldl (fun best d => match best with
    | none => some d
    | some b => if domPrio d < domPrio b ∨ (domPrio d = domPrio b ∧ d < b) then some d else some b) none

/-- The first queued domain is granted: its switch is set and it ramps (15 R593, R595). -/
def State.grant (s : State) : State :=
  if s.ramping.isSome || !s.rb Pg.PWRSEQ Rg.PWRSEQ_CFG 0 then s
  else match s.nextGrant with
  | none => s
  | some d =>
    if !s.withinBudget d then (s.modDom d fun x => { x with st := 0 }).refuseGrant d
    else (s.modDom d fun x => { x with st := 2 }).setSwitch d true

/-- A service-core cluster a master belongs to. -/
def svcCluster (m : Nat) : Option Nat := if whoOf m = .svc then some ((m - Ms.SVC) / 8) else none

/-- PWRSEQ_DOM_CTRL_ON (15 R587): any master, in P0 to P2, a service-core cluster; any other domain is recorded in ERR_INFO. -/
def execPwrseqDomCtrlOn (master value : Nat) (s : State) : Res := actIf s (bitOf value 0) fun s =>
  let w : RegW := { page := Pg.PWRSEQ, off := Rg.PWRSEQ_DOM_CTRL, master, value }
  s.regCmd w fun s _ =>
    let d := s.rf Pg.PWRSEQ Rg.PWRSEQ_DOM_SEL 5 0
    if d < 8 ∨ 13 < d then s.ignoreW w
    else if 2 < s.headState then s.err Pg.PWRSEQ master true false St.LOCKED (regAddr Pg.PWRSEQ Rg.PWRSEQ_DOM_CTRL)
    else s.requestOn d

/-- PWRSEQ_DOM_CTRL_OFF (15 R587): a service core for its own cluster, or the MP; another master is refused. -/
def execPwrseqDomCtrlOff (master value : Nat) (s : State) : Res := actIf s (bitOf value 1 && !bitOf value 0) fun s =>
  let w : RegW := { page := Pg.PWRSEQ, off := Rg.PWRSEQ_DOM_CTRL, master, value }
  let d := s.rf Pg.PWRSEQ Rg.PWRSEQ_DOM_SEL 5 0
  if s.pageReady Pg.PWRSEQ && !(svcCluster master == some (d - 8)) && !(whoOf master == .mp) && decide (8 ≤ d) && decide (d ≤ 13) then
    s.refuseAt w 2
  else s.regCmd w fun s _ =>
    if d < 8 ∨ 13 < d then s.ignoreW w
    else if 2 < s.headState then s.err Pg.PWRSEQ master true false St.LOCKED (regAddr Pg.PWRSEQ Rg.PWRSEQ_DOM_CTRL)
    else s.requestOff d

/-- A command of the sequencer, which runs whenever VDD_AON is good: Thimble asks for the first domain (15 R586, 18 R689). -/
def actAon (s : State) (b : Bool) (f : State → State) : Res := if s.power.aon && b then .next (f s) else .next s

/-- RAMP_END (15 R593, R595): the ramp of the domain that ramps ends after `us`; a latched off request then begins its quiesce. -/
def execRampEnd (us : Nat) (s : State) : Res := actAon s true fun s =>
  match s.ramping with
  | none => s
  | some d =>
    let off := (s.dom d).latch == some false
    (s.modDom d fun x => { x with st := if off then 5 else 3, latch := none, rampUs := min us 65535 }).setGood d true

/-- QUIESCED (15 R595): the domain's work has stopped; its outputs are clamped. -/
def execQuiesced (d : Nat) (s : State) : Res := actAon s (isDomain d && s.domSt d == 5) fun s =>
  s.modDom d fun x => { x with st := 6 }

/-- A bead cluster that has lost power holds nothing (15 R578). -/
def State.loseDomain (s : State) (d : Nat) : State :=
  if 14 ≤ d ∧ d ≤ 29 then
    { s with bd := { s.bd with beads := s.bd.beads.filter fun e => e.1 / 64 != d - 14 } }
  else s

/-- CLAMPED (15 R595): the switch is cleared. -/
def execClamped (d : Nat) (s : State) : Res := actAon s (isDomain d && s.domSt d == 6) fun s =>
  ((s.modDom d fun x => { x with st := 7, retention := false }).setSwitch d false).loseDomain d

/-- DISCHARGE_DONE (15 R595): the domain is off, and queued again where an on request was latched. -/
def execDischargeDone (d : Nat) (s : State) : Res := actAon s (isDomain d && s.domSt d == 7) fun s =>
  let on := (s.dom d).latch == some true
  (s.modDom d fun x => { x with st := if on then 1 else 0, latch := none }).setGood d false

end Sys2Proof.Machine
end

