-- ==== Sys2Proof/Machine/StitchOps.lean ====
section
/-! DEFINITION. The Stitchline host and its modules, what their commands share (11): module states, commands sent and outstanding,
what a module does with one, holds. -/
namespace Sys2Proof.Machine

/-- Modules in ATTACHED. -/
def State.attachedMods (s : State) : List Nat := (List.range 32).filter fun n => s.modState n == 4

/-- Those of them that the array's membership record names (11 R477). -/
def State.memberMods (s : State) : List Nat := s.attachedMods.filter fun n => decide (ofLE (s.module n).serial ∈ s.pair.members)

/-- Change a module's state. IRQ bits 0 and 1 (11 R481). When fewer than half of the array's modules stay ATTACHED the head
yields (13 R540, BACKEND), except while it enters standby. -/
def State.setModState (s : State) (n st : Nat) : State :=
  let old := s.modState n
  let s := (s.wf (stPage n) Rg.STITCH_MOD_STATUS 2 0 st (n % 8)).irq (stPage n) 0
  let s := if st = 5 then s.irq (stPage n) 1 else s
  if old = 4 ∧ st ≠ 4 ∧ s.power.standby = 0 ∧ 2 * s.memberMods.length < s.pair.members.length then s.yield 0x06 else s

/-- The role epoch of this head for a role (11 R449, R480): the committed pair, kept beside the halves as written. -/
def State.roleEpoch (s : State) (r : Nat) : Nat := s.rd64 Pg.STITCH Rg.STITCH_ROLE_EPOCH_LO (r + 8)

/-- Commit a role epoch. -/
def State.setRoleEpoch (s : State) (r e : Nat) : State := s.wr64 Pg.STITCH Rg.STITCH_ROLE_EPOCH_LO e (r + 8)

/-- This head holds a role. -/
def State.roleHeld (s : State) (r : Nat) : Bool := decide (r < 3) && s.rb Pg.STITCH Rg.STITCH_ROLE_HELD r

/-! ### Pins and power -/

/-- Release or assert a module's MOD_PERST_N. -/
def State.setPerst (s : State) (n : Nat) (released : Bool) : State :=
  let v := s.pins.modPerstN
  { s with pins := { s.pins with modPerstN := if released then v ||| 2 ^ n else v - (v &&& 2 ^ n) } }

/-- Set a module's presence pin (low when present) and its alert pin. -/
def State.setPresent (s : State) (n : Nat) (present : Bool) : State :=
  let v := s.pins.modPrsntN
  let s := { s with pins := { s.pins with modPrsntN := if present then v - (v &&& 2 ^ n) else v ||| 2 ^ n } }
  s.wb (stPage n) Rg.STITCH_MOD_STATUS 3 present (n % 8)
def State.setAlert (s : State) (n : Nat) (alert : Bool) : State :=
  let v := s.pins.modAlertN
  let s := { s with pins := { s.pins with modAlertN := if alert then v - (v &&& 2 ^ n) else v ||| 2 ^ n } }
  s.wb (stPage n) Rg.STITCH_MOD_STATUS 11 alert (n % 8)

/-- The head deasserts its MOD_PWREN bit of a module (11 R474): its domain discharges; a ramp under way is finished first
(15 R596). -/
def State.unpower (s : State) (n : Nat) : State :=
  let st := s.domSt (32 + n)
  if st = 0 ∨ st = 1 ∨ st = 2 ∨ st = 3 then s.requestOff (32 + n)
  else if st = 4 then (s.modDom (32 + n) fun x => { x with st := 7, latch := none }).setSwitch (32 + n) false
  else s

/-! ### Commands -/

/-- The outstanding counts of a module and of the head. -/
def State.bumpFlight (s : State) (n : Nat) (up : Bool) : State :=
  let f := fun x => if up then x + 1 else x - 1
  let s := s.wrN (stPage n) Rg.STITCH_MOD_INFLIGHT (n % 8) (f (s.rdN (stPage n) Rg.STITCH_MOD_INFLIGHT (n % 8)))
  s.wrN Pg.STITCH Rg.STITCH_INFLIGHT 0 (f (s.rdN Pg.STITCH Rg.STITCH_INFLIGHT))

/-- A command goes to its module (11 R441, R444): the next entry of its queue. -/
def State.sendMod (s : State) (c : ModCmd) : State :=
  let m := s.module c.module
  let entry := mgetD 0 m.tails c.queue
  let c := { c with entry }
  let s := s.setModule c.module { m with tails := mputD 0 m.tails c.queue ((entry + 1) % 1024) }
  let s := { s with stitch := { s.stitch with cmds := mput s.stitch.cmds (freshKey s.stitch.cmds 0) c } }
  (s.bumpFlight c.module true).emit (.module c.module c.opcode
    ([c.queue * 1024 + entry, c.role, c.epoch] ++ c.args.map (·.toNat)))

/-- A command is no longer outstanding. -/
def State.dropCmd (s : State) (id : Nat) (c : ModCmd) : State :=
  ({ s with stitch := { s.stitch with cmds := mdel s.stitch.cmds id } }).bumpFlight c.module false

/-- End a command of a job with a result; the host's own commands just end. -/
def State.endCmd (s : State) (id : Nat) (c : ModCmd) (r : JobRes) : State :=
  let s := s.dropCmd id c
  match c.job with
  | some j => s.setRes j r
  | none => s

/-- Every outstanding command that `sel` picks ends with ABORTED_BY_RESET (11 R450); the number of jobs. -/
def State.abortCmds (s : State) (sel : ModCmd → Bool) : State × Nat :=
  let l := s.stitch.cmds.filter fun e => sel e.2
  (l.foldl (fun s e => s.endCmd e.1 e.2 { status := St.ABORTED_BY_RESET, counts := 8 * 2 ^ 32 }) s,
    (l.filter fun e => e.2.job.isSome).length)

/-- The queue of a command (11 R440, R441). -/
def State.queueOf (s : State) (n opcode die : Nat) : Nat :=
  if 0x10 ≤ opcode then 0 else 1 + die % s.rf (stPage n) Rg.STITCH_CFG 6 1

/-- Fields of a module command's bytes 16 to 63 (11 R444). -/
def ModCmd.f (c : ModCmd) (a n : Nat) : Nat := leAt c.args (a - 16) n
def ModCmd.block (c : ModCmd) : Nat := c.f 16 4 % 2 ^ 19
def ModCmd.offset (c : ModCmd) : Nat := c.f 20 4
def ModCmd.length (c : ModCmd) : Nat := c.f 24 4
def ModCmd.die (c : ModCmd) : Nat := c.f 28 1
def ModCmd.arg (c : ModCmd) : Nat := c.f 29 1
def ModCmd.addr (c : ModCmd) : Nat := c.f 32 8
def ModCmd.addr2 (c : ModCmd) : Nat := c.f 40 8

/-- Flash commands of this head outstanding on a die. -/
def State.onDie (s : State) (n d : Nat) : Nat :=
  (s.stitch.cmds.filter fun e => e.2.module == n && decide (1 ≤ e.2.opcode) && decide (e.2.opcode ≤ 4) && e.2.die == d).length

/-- The job's fields beside them (11 R448). -/
def Job.module (j : Job) : Nat := j.f 12 1 % 32
def Job.role (j : Job) : Nat := j.f 13 1 / 4 % 4

/-- The command of a job. -/
def State.cmdOf (s : State) (id : Nat) (j : Job) : ModCmd :=
  let n := j.module
  { job := some id, module := n, queue := s.queueOf n j.opcode (j.f 28 1), entry := 0, opcode := j.opcode, role := j.role
    epoch := s.roleEpoch j.role, args := (j.desc.drop 16).take 48, list := bitOf (j.f 14 1) 0, owner := j.owner }

/-! ### What a module does (11 R442, R445, R453, R459, R460, R464 to R469) -/

/-- Change of the other port. -/
def Module.peer (m : Module) (p : PeerOp) : Module :=
  match p with
  | .cas i ee eh ne nh =>
    if m.slots.getD i (0, 0) = (ee, eh) ∧ ee < ne then { m with slots := m.slots.set i (ne, nh) } else m
  | .setEpoch r e => if m.roles.getD r 0 < e then { m with roles := m.roles.set r e } else m
  | .pointer d b v => { m with wptr := mput m.wptr (d * 2 ^ 19 + b) v }

/-- A profile is well-formed (11 R453). -/
def profileOk (p : List Byte) : Bool :=
  let cell := leAt p 3 1
  let levels := leAt p 4 2
  let z := leAt p 6 2
  let mb := leAt p 8 1
  let nb := leAt p 9 1
  (nb - mb) * z / 8 == 4096 && decide (mb * nb ≤ 2016) && ((cell == 3 && levels == 7) || (cell == 4 && levels == 15))

/-- What a module reports of a command: its status, a 64-bit value, a holder and the swapped bit (11 R446). -/
structure ModRes where
  mstatus : Nat
  value : Nat := 0
  holder : Nat := 0
  swapped : Bool := false
  deriving DecidableEq, Repr

/-- A command's operands are of the form its opcode asks for; otherwise INVALID. -/
def ModCmd.valid (m : Module) (c : ModCmd) : Bool :=
  let known := m.dies.isEmpty || decide (c.die < m.dies.length)
  match c.opcode with
  | 1 => known && c.offset % 64 == 0 && c.length % 64 == 0 && decide (64 ≤ c.length) && decide (c.length ≤ 65536) &&
      c.offset / 65536 == (c.offset + c.length - 1) / 65536
  | 2 => known && c.offset % 4096 == 0 && c.length == 4096
  | 3 => known && c.length % 65536 == 0 && decide (0 < c.length) && decide (c.length ≤ 2 ^ 20)
  | 4 => known
  | 0x13 => decide (c.arg < 8)
  | 0x14 => known
  | 0x17 => decide (c.arg < 4)
  | 0x18 => decide (c.arg < 4)
  | _ => true

/-- The module executes a command: what its own state decides, and otherwise what the flash answers (`a`); `mem` is the
profile a LOAD_PROFILE names. -/
def Module.run (m : Module) (c : ModCmd) (a : ModAns) (mem : List Byte) : Module × ModRes :=
  let key := c.die * 2 ^ 19 + c.block
  let ptr := mget m.wptr key
  if !c.valid m then (m, { mstatus := 5 })
  else match c.opcode with
  | 1 | 2 =>
    (m, { mstatus := match ptr with
      | some p => if p < c.offset + c.length then 6 else a.mstatus
      | none => a.mstatus })
  | 3 =>
    if c.epoch ≠ m.roles.getD c.role 0 then (m, { mstatus := 4 })
    else if ptr.any (· != c.offset) then (m, { mstatus := 5 })
    else if a.mstatus = 0 then ({ m with wptr := mput m.wptr key (c.offset + c.length) }, { mstatus := 0, value := c.offset + c.length })
    else (m, { mstatus := a.mstatus })
  | 4 =>
    if c.epoch ≠ m.roles.getD c.role 0 then (m, { mstatus := 4 })
    else if a.mstatus = 0 then ({ m with wptr := mput m.wptr key 0 }, { mstatus := 0 })
    else (m, { mstatus := a.mstatus })
  | 0x11 => ({ m with qps := m.qps.filter (· != c.arg) }, { mstatus := a.mstatus })
  | 0x13 =>
    if profileOk mem then ({ m with profiles := mput m.profiles c.arg mem }, { mstatus := a.mstatus }) else (m, { mstatus := 5 })
  | 0x17 =>
    let old := m.slots.getD c.arg (0, 0)
    let ne := c.f 48 8
    if old = (c.addr2, c.f 56 2) ∧ old.1 < ne then
      ({ m with slots := m.slots.set c.arg (ne, c.f 58 2) }, { mstatus := 0, value := old.1, holder := old.2, swapped := true })
    else (m, { mstatus := 0, value := old.1, holder := old.2 })
  | 0x18 =>
    let m := m.peer (.setEpoch c.arg c.addr2)
    (m, { mstatus := 0, value := m.roles.getD c.arg 0 })
  | _ => (m, { mstatus := a.mstatus })

/-- The 96 bytes of GET_WITNESS (11 R445). -/
def Module.witness (m : Module) : List Byte :=
  (m.slots.flatMap fun x => leBytes 8 x.1 ++ leBytes 2 x.2 ++ List.replicate 6 0) ++ m.roles.flatMap (leBytes 8)

/-- A role this head holds stands at a higher epoch at module `n`: the head has been fenced, and yields (11 R470, 13 R540). -/
def State.checkFence (s : State) (n : Nat) : State :=
  (List.range 3).foldl (fun s r =>
    let e := (s.module n).roles.getD r 0
    if s.roleHeld r && decide (s.roleEpoch r < e) then
      ((s.wb Pg.STITCH Rg.STITCH_STATUS 2 true).irq Pg.STITCH 2).logI Pg.STITCH (n / 8) Ev.STITCH_FENCED [.v 1 r, .v 1 n, .v 8 e] |>.yield 0x08
    else s) s

/-! ### Holds (11 R461 to R463) -/

/-- Write the hold bits of a module. -/
def State.writeHold (s : State) (n mask : Nat) : State :=
  let m := s.module n
  let slm := mputD 0 (mputD 0 m.slm 0x28 (BitVec.ofNat 32 mask)) 0x2C (BitVec.ofNat 32 (mask / 2 ^ 32))
  (s.setModule n { m with slm }).emit (.module n 0x100 [mask])

/-- The mask a hold sets: every queue, or every queue but 63 once the dump has begun. -/
def State.holdMask (s : State) : Nat := if s.rb Pg.STITCH Rg.STITCH_STATUS 1 then 2 ^ 63 - 1 else 2 ^ 64 - 1

/-- PROGRAM_HOLD: every attached module holds programs and erases. -/
def State.programHold (s : State) : State :=
  let l := s.attachedMods
  let s := { s with stitch := { s.stitch with holdSince := s.gts } }
  let s := l.foldl (fun s n => s.writeHold n s.holdMask) ((s.wb Pg.STITCH Rg.STITCH_STATUS 0 true).irq Pg.STITCH 3)
  s.log Pg.STITCH Ev.STITCH_HOLD [.v 1 1, .v 1 l.length, .v 4 0]

/-- The hold is released. -/
def State.programRelease (s : State) : State :=
  let l := s.attachedMods
  let s := l.foldl (fun s n => s.writeHold n 0) ((s.wb Pg.STITCH Rg.STITCH_STATUS 0 false).wb Pg.STITCH Rg.STITCH_STATUS 1 false)
  s.log Pg.STITCH Ev.STITCH_HOLD [.v 1 0, .v 1 l.length, .v 4 ((s.gts - s.stitch.holdSince) / 1000)]

/-! ### Module registers (11 R437, R439) -/

/-- A module register of a port whose link is up. -/
def State.slmRead (s : State) (n off : Nat) : Nat :=
  if off = 0 then 1 + 2 ^ 16 * (Config.moduleMaker n).toNat
  else if off = 4 then 1
  else if off < 0x30 then (mgetD 0 (s.module n).slm off).toNat
  else 0

/-- A write of a module register: SLM_CTRL.abort_all deletes every queue, SLM_ALERT bits clear when 1 is written. -/
def State.slmWrite (s : State) (n off v : Nat) : State :=
  let m := s.module n
  let put := fun (v : Nat) => s.setModule n { m with slm := mputD 0 m.slm off (BitVec.ofNat 32 v) }
  if off = 8 then
    let s := put (v % 2)
    if bitOf v 1 then ((s.setModule n { s.module n with qps := [] }).abortCmds fun c => c.module == n).1 else s
  else if off = 0xC then
    let old := (mgetD 0 m.slm off).toNat
    let new := old - (old &&& v)
    let s := put new
    if new = 0 then s.setAlert n false else s
  else if off = 0x10 then put (v / 64 * 64)
  else if off = 0x18 then put (v / 32 * 32)
  else if off = 0x14 ∨ off = 0x1C then put (v % 2 ^ 16)
  else if off = 0x20 then put (v % 2 ^ 10)
  else if off = 0x28 ∨ off = 0x2C then put v
  else s

end Sys2Proof.Machine
end

