-- ==== Sys2Proof/Machine/MemCtl.lean ====
section
/-! DEFINITION. Memory controllers and the system cache: retirement, initialisation, scrubbing, cache ways (05 R213 to R221,
R225 to R230), and reads and writes of memory by a master (01 R63, R64, 05 R193 to R196). -/
namespace Sys2Proof.Machine

/-- The number of free Spool pages of a pseudo-channel. -/
def State.freeOfPc (s : State) (pc : Nat) : Nat :=
  (s.spoolPages + 63 - pc) / 64 -
    (s.mem.pages.filter fun e => e.2.owner != 0 && decide (e.1 < s.spoolPages) && e.1 % 64 == pc).length

/-- The free count has fallen below SPOOL_LOW_WATER: the interrupt and the record, when it was not below before
(05 R223). -/
def State.lowWater (s : State) (before : Nat) : State :=
  let lim := s.rf Pg.SPOOL Rg.SPOOL_LOW_WATER 23 0
  if lim ≤ before ∧ s.spoolFree < lim then (s.irq Pg.SPOOL 0).log Pg.SPOOL Ev.SPOOL_LOW_WATER [.v 4 s.spoolFree] else s

/-- Retire an HBM pseudo-channel (05 R205, R218): `cause` 0 limit, 1 software, 2 stack failed. -/
def State.retirePc (s : State) (pc cause : Nat) : State :=
  if s.rb (Pg.HBMC + pc / 32) Rg.HBMC_PC_FAILED (pc % 32) then s
  else
    let n := s.freeOfPc pc
    let before := s.spoolFree
    ((s.wb (Pg.HBMC + pc / 32) Rg.HBMC_PC_FAILED (pc % 32) true).log (Pg.HBMC + pc / 32) Ev.HBMC_PC_RETIRED
      [.v 1 (pc / 32), .v 1 (pc % 32), .v 1 cause, .v 4 n]).lowWater before

/-- Retire a DDR5 channel (05 R218, R219): `cause` 0 limit, 1 software. The mirror is served while the pair keeps one
channel. -/
def State.retireCh (s : State) (c cause : Nat) : State :=
  if s.chFailed c then s
  else
    let s := s.wb (Pg.DDRC + c) Rg.DDRC_STATUS 3 true
    (s.log (Pg.DDRC + c) Ev.DDRC_CHANNEL_RETIRED
      [.v 1 c, .v 1 cause, .v 1 (b2n (s.chFailed (if c % 2 = 0 then c + 1 else c - 1)))]).checkMapMode

/-- Retirement by count: uncorrectable errors within one hour reach UNCORR_LIMIT, when that is not 0 (05 R218). -/
def State.checkRetire (s : State) (a : Nat) : State :=
  let lim := s.rf (s.homeOf a) Rg.HBMC_UNCORR_LIMIT 7 0
  let k := if hbmBase ≤ a then hbmPc a else 64 + (s.homeOf a - Pg.DDRC)
  if lim ≠ 0 ∧ lim ≤ (mgetD [] s.mem.uncorr k).length then
    if hbmBase ≤ a then s.retirePc (hbmPc a) 0 else s.retireCh (s.homeOf a - Pg.DDRC) 0
  else s

/-- The system-cache slice of a line (05 R210). -/
def sliceOf (a : Nat) : Nat :=
  bits a 10 6 ^^^ bits a 15 11 ^^^ bits a 20 16 ^^^ bits a 25 21 ^^^ bits a 30 26 ^^^ bits a 35 31 ^^^ bits a 40 36 ^^^
    bits a 45 41 ^^^ bits a 47 46

/-- The page and slice register of a slice. -/
def slicePage (sl : Nat) : Nat := Pg.SYSCACHE + sl / 4

/-- Disable a way (05 R213, R214, R226): `cause` 0 threshold, 1 uncorrectable, 2 a write of SYSCACHE_WAY_DIS, which the
4-way limit does not bind. A fifth way disabled by hardware puts the slice in bypass. -/
def State.disableWay (s : State) (sl way cause : Nat) : State :=
  let p := slicePage sl
  let j := 4 * (sl % 4)
  let n := mgetD 0 s.mem.wayErrs (sl * 16 + way)
  if s.rf p (Rg.SYSCACHE_SLICE_STATUS + j) 19 17 ≥ 4 ∧ cause ≠ 2 then
    if s.rb p (Rg.SYSCACHE_SLICE_STATUS + j) 16 then s
    else (s.wb p (Rg.SYSCACHE_SLICE_STATUS + j) 16 true).log p Ev.SYSCACHE_SLICE_BYPASS [.v 1 sl]
  else
    let s := s.wb p (Rg.SYSCACHE_WAY_DIS + j) way true
    let s := s.wb p (Rg.SYSCACHE_SLICE_STATUS + j) way false
    let s := if cause = 2 then s else s.fieldSat p (Rg.SYSCACHE_SLICE_STATUS + j) 19 17 1
    s.log p Ev.SYSCACHE_WAY_DISABLED [.v 1 sl, .v 1 way, .v 1 cause, .v 4 n]

/-- An error found in way `way` of the line's slice: corrected ones count toward the way's threshold, an uncorrectable one
disables it and leaves the line poisoned (05 R213). -/
def State.cacheError (s : State) (a way : Nat) (u : Upset) : State :=
  let sl := sliceOf a
  let p := slicePage sl
  match u with
  | .oneSym | .checkSym =>
    let n := mgetD 0 s.mem.wayErrs (sl * 16 + way) + 1
    let s := { s with mem := { s.mem with wayErrs := mputD 0 s.mem.wayErrs (sl * 16 + way) n } }
    let s := s.countSat p Rg.SYSCACHE_CORR 1
    if s.rf p Rg.SYSCACHE_ERR_CFG 7 0 ≤ n then s.disableWay sl way 0 else s
  | .twoSym =>
    let s := (s.countSat p Rg.SYSCACHE_UNCORR 1).setLine a { (s.line a) with poison := true }
    s.disableWay sl way 1
  | _ => s

/-- A line's first byte. -/
def lineBase (a : Nat) : Nat := a / 64 * 64

/-- Count a hit or a miss of the system cache in the slice's page (05 R225); which it is comes with the command. -/
def State.cacheCount (s : State) (a : Nat) (hit : Bool) : State :=
  s.count (slicePage (sliceOf a)) (if hit then Rg.SYSCACHE_HITS else Rg.SYSCACHE_MISSES) 1

/-- The owner an access carries: SYSTEM from the MP, a service core or JTAG, the strand's from a strand, otherwise the
owner the command names (05 R192). -/
def State.ownerOf (s : State) (master owner : Nat) : Nat :=
  match whoOf master with
  | .mp | .svc | .jtag => sysOwner
  | _ => if Ms.STRAND ≤ master ∧ master < Ms.STRAND + 64 then (s.strand (master - Ms.STRAND)).owner else owner

/-- The bead and word address of an address in the bead windows (01 R60). -/
def beadWord (a : Nat) : Nat × Nat := ((a - 0x030000000000) / 0x40000, a % 0x40000 / 4)

/-- The data bytes of the bead windows from `a` (02 R72). -/
def State.beadBytes (s : State) (a n : Nat) : List Byte :=
  (List.range n).map fun i =>
    let w := beadWord (a + i)
    BitVec.ofNat 8 (((s.bead w.1).word? w.2).d.toNat / 256 ^ ((a + i) % 4))

/-- Write bytes through the bead windows: each word they touch is stored as by 02 R69 (02 R72). -/
def State.beadWrite (s : State) (a : Nat) (data : List Byte) : State :=
  (List.range ((a + data.length - 1) / 4 - a / 4 + 1)).foldl (fun s k =>
    let wa := (a / 4 + k) * 4
    let w := beadWord wa
    let b := s.bead w.1
    let old := leBytes 4 (b.word? w.2).d.toNat
    let new := (List.range 4).map fun i =>
      if a ≤ wa + i ∧ wa + i < a + data.length then data.getD (wa + i - a) 0 else old.getD i 0
    s.setBead w.1 { b with mem := mput b.mem w.2 (LW.mk' (BitVec.ofNat 32 (ofLE new)) false true) }) s

/-- A master may read, or write, a region that is not DDR5, HBM or register pages (01 R63). -/
def mayReach (r : Region) (master : Nat) (write : Bool) : Bool :=
  let w := whoOf master
  match r with
  | .bead => w == .mp || w == .jtag || master == Ms.STRANDLD || (w == .svc && !write)
  | .rom => (w == .mp || w == .jtag) && !write
  | .sram => w == .mp || w == .jtag
  | _ => true

/-- A read that reached no data: it answers zeros. -/
def State.answerZero (s : State) (master addr n : Nat) : State := s.emit (.readData master addr (List.replicate n 0) false)

/-- A read of PWRSEQ_MON_STATUS starts the lowest sample afresh, from the present one (15 R609). -/
def State.afterRead (s : State) (p off : Nat) : State :=
  if p = Pg.PWRSEQ ∧ off = Rg.PWRSEQ_MON_STATUS then
    let i := s.shown p off
    s.wf p off 31 16 (s.rdN p Rg.PWRSEQ_MON_NOW i) i
  else s

/-- MEMORY_READ (05 R193, R194, R201, R202, 01 R63, R64): `n` bytes at `addr`. In DDR5 and HBM the bytes lie in one line, the
command says what the check finds in error (`u`), in which cache way when the line is cached (`way`), and whether it hits.
A register page answers 4- and 8-byte reads; the partner's pages are read through the Seam. -/
def execMemoryRead (master owner addr n : Nat) (u : Upset) (way : Option Nat) (hit : Bool) (s : State) : Res := act s fun s =>
  if n = 0 then s
  else if !s.sameRegion addr (addr + n - 1) then (s.accessRefused addr master false 1).answerZero master addr n
  else match s.region addr with
  | .unmapped | .beadTop => (s.accessRefused addr master false 0).answerZero master addr n
  | .ddr | .hbm =>
    if lineBase addr ≠ lineBase (addr + n - 1) then s
    else
      let w : Acc := { master, owner := s.ownerOf master owner }
      let s := s.cacheCount addr hit
      let r := match way with
        | none => s.readLine w (lineBase addr) u
        | some k => (s.cacheError (lineBase addr) k u).readLine w (lineBase addr) (if u = Upset.badTag then Upset.badTag else Upset.clean)
      let core := whoOf master == .mp || whoOf master == .svc
      let bad := r.status == St.POISON || r.status == St.TAG_FAIL
      (r.st.emit (.readData master addr ((r.data.drop (addr % 64)).take n) (core && bad))).checkRetire addr
  | .bead =>
    if mayReach .bead master false then s.emit (.readData master addr (s.beadBytes addr n) false)
    else (s.accessRefused addr master false 2).answerZero master addr n
  | .rom =>
    if mayReach .rom master false then
      s.emit (.readData master addr ((List.range n).map fun i => Config.romByte (addr + i - 0x0FF000000000)) false)
    else (s.accessRefused addr master false 2).answerZero master addr n
  | .sram =>
    if mayReach .sram master false then s.emit (.readData master addr (s.peek addr n) false)
    else (s.accessRefused addr master false 2).answerZero master addr n
  | .pcie =>
    let b := bar0 addr
    if s.modState b.1 < 3 ∨ 4 < s.modState b.1 then s.answerZero master addr n
    else if n = 4 ∧ addr % 4 = 0 ∧ b.2 < 0x1000 then s.emit (.readData master addr (leBytes 4 (s.slmRead b.1 b.2)) false)
    else
      let r := s.freeBytes n
      r.2.emit (.readData master addr r.1 false)
  | .page p =>
    let off := addr % 0x10000
    if (n = 4 ∧ off % 4 = 0) ∨ (n = 8 ∧ off % 8 = 0) then
      if !s.pageReady p then (s.notReady p off master false false).answerZero master addr n
      else
        let s' := s.emit (.readData master addr
          (leBytes 4 (s.viewFor master p off) ++ if n = 8 then leBytes 4 (s.viewFor master p (off + 4)) else []) false)
        let s' := s'.afterRead p off
        if n = 8 then s'.afterRead p (off + 4) else s'
    else (s.err p master false false St.BAD_INPUT addr).answerZero master addr n
  | .partner _ => s.partnerAccess master addr false 0

/-- A write that is not a full line of DDR5 or HBM, where it lands (01 R63, R64, 02 R72, 05 R195). -/
def State.writeAt (s : State) (master owner addr : Nat) (data : List Byte) (u : Upset) (hit : Bool) : State :=
  let n := data.length
  if n = 0 then s
  else if !s.sameRegion addr (addr + n - 1) then s.accessRefused addr master true 1
  else match s.region addr with
  | .unmapped | .beadTop => s.accessRefused addr master true 0
  | .ddr | .hbm =>
    if lineBase addr ≠ lineBase (addr + n - 1) then s
    else
      let w : Acc := { master, owner := s.ownerOf master owner }
      (((s.cacheCount addr hit).writeLine w (lineBase addr) (addr % 64) data u).1).checkRetire addr
  | .bead => if mayReach .bead master true then s.beadWrite addr data else s.accessRefused addr master true 2
  | .rom => s.accessRefused addr master true 2
  | .sram => if mayReach .sram master true then s.poke addr data else s.accessRefused addr master true 2
  | .pcie =>
    let b := bar0 addr
    if s.modState b.1 < 3 ∨ 4 < s.modState b.1 then s
    else
      let s := s.emit (.module b.1 0x101 (addr :: data.map (·.toNat)))
      if n = 4 ∧ addr % 4 = 0 ∧ b.2 < 0x1000 then s.slmWrite b.1 b.2 (ofLE data) else s
  | .page _ | .partner _ => s

/-- PARTIAL_WRITE (05 R195): fewer than 64 bytes. -/
def execPartialWrite (master owner addr : Nat) (data : List Byte) (u : Upset) (hit : Bool) (s : State) : Res :=
  actIf s (decide (data.length < 64)) fun s => s.writeAt master owner addr data u hit

/-- FULL_LINE_WRITE (05 R196): 64 bytes, a whole line. -/
def execFullLineWrite (master owner addr : Nat) (data : List Byte) (hit : Bool) (s : State) : Res :=
  actIf s (data.length == 64 && addr % 64 == 0) fun s => s.writeAt master owner addr data .clean hit

/-! ### Controller events -/

/-- SCRUB (05 R221): the scrub reads every line of controller `ctl` (0, 1 HBM stacks; 2 to 9 DDR5 channels); `found` gives
the lines it finds in error, which it handles as any read does. -/
def execScrub (ctl : Nat) (found : List (Nat × Upset)) (s : State) : Res := act s fun s =>
  found.foldl (fun s f =>
    let a := lineBase f.1
    if s.inMemory a 64 && s.ctlOf a == ctl && !s.lineRetired a && s.lineInit a then
      (s.readLine { master := 0, owner := sysOwner } a f.2).st.checkRetire a
    else s) s

/-- The largest multiple of 4 GiB, in units of it, whose double fits in the DDR5 fitted (05 R229). -/
def State.mirrorFits (s : State) (m : Nat) : Bool := decide (2 * m * 2 ^ 32 ≤ s.ddrFitted)

/-- Initialisation starts with a mirror that does not fit: the controller takes the largest that does and records the
change (05 R229). -/
def State.fixMirror (s : State) : State :=
  if s.mirrorFits (s.rf Pg.DDRC Rg.DDRC_MAP_CFG 15 8) then s
  else
    let s := s.wf Pg.DDRC Rg.DDRC_MAP_CFG 15 8 (s.ddrFitted / 2 ^ 33)
    s.err Pg.DDRC 0 true false St.BAD_INPUT (regAddr Pg.DDRC Rg.DDRC_MAP_CFG)

/-- The lines of a controller outside the Spool are zeros with a valid side band (05 R220); with `mirror` only those of the
mirrored region. -/
def State.zeroCtl (s : State) (ctl : Nat) (mirror : Bool) : State :=
  let mine := fun a : Nat => decide (a < 0x010C00000000) && (spoolPageOf a).isNone && s.ctlOf a == ctl &&
    (!mirror || decide (a < s.mirrorBytes))
  { s with mem := { s.mem with
      cells := s.mem.cells.filter fun c => !mine c.1
      lines := s.mem.lines.filter fun l => !mine (l.1 * 64)
      initKey := if mirror then s.mem.initKey else mput s.mem.initKey ctl s.mem.key } }

/-- MEMORY_INIT_DONE (05 R220): controller `ctl` has written its lines; with `mirror`, a DDR5 controller has written the
mirrored region. `dimms` are fitted on the channel and it took `ms`. -/
def execMemoryInitDone (ctl : Nat) (mirror : Bool) (dimms ms : Nat) (s : State) : Res := actIf s (decide (ctl < 10)) fun s =>
  if ctl < 2 then
    let s := s.zeroCtl ctl false
    s.wf (Pg.HBMC + ctl) Rg.HBMC_STATUS 1 0 3
  else
    let c := ctl - 2
    let s := s.fixMirror
    let p := Pg.DDRC + c
    let s := ((s.wb p Rg.DDRC_STATUS 0 true).wf p Rg.DDRC_STATUS 5 4 dimms).wf p Rg.DDRC_STATUS 23 8 (s.pins.ddrGiB.getD c 0)
    let s := s.zeroCtl ctl mirror
    if mirror then s.wb p Rg.DDRC_STATUS 2 true
    else ((s.wb p Rg.DDRC_STATUS 2 true).wb p Rg.DDRC_STATUS 1 true).log p Ev.DDRC_INIT_DONE
      [.v 1 c, .v 4 (s.pins.ddrGiB.getD c 0), .v 4 ms]

/-- CACHE_ERR_WINDOW_END (05 R213): a way's 24-hour window ends; a way at its threshold is disabled. -/
def execCacheErrWindowEnd (sl way : Nat) (s : State) : Res := actIf s (decide (sl < 32) && decide (way < 16)) fun s =>
  let n := mgetD 0 s.mem.wayErrs (sl * 16 + way)
  let off := Rg.SYSCACHE_WAY_DIS + 4 * (sl % 4)
  let s := if s.rf (slicePage sl) Rg.SYSCACHE_ERR_CFG 7 0 ≤ n ∧ !s.rb (slicePage sl) off way then s.disableWay sl way 0 else s
  { s with mem := { s.mem with wayErrs := mputD 0 s.mem.wayErrs (sl * 16 + way) 0 } }

/-- SYSCACHE_WAY_DIS_WRITE (05 R226): register `j` of SYSCACHE page `k`. -/
def execSyscacheWayDisWrite (master k j value : Nat) (s : State) : Res := actIf s (decide (k < 8) && decide (j < 4)) fun s =>
  s.regCmd { page := Pg.SYSCACHE + k, off := Rg.SYSCACHE_WAY_DIS + 4 * j, master, value } fun s old =>
    ((setBitsOf 16 value).filter fun w => !bitOf old w).foldl (fun s w => s.disableWay (4 * k + j) w 2) s

/-- DDRC_FAIL_WRITE (05 R218). -/
def execDdrcFailWrite (master ch value : Nat) (s : State) : Res := actIf s (decide (ch < 8)) fun s =>
  s.regCmd { page := Pg.DDRC + ch, off := Rg.DDRC_FAIL, master, value } fun s _ =>
    if bitOf value 0 then s.retireCh ch 1 else s

/-- HBMC_PC_RETIRE_WRITE (05 R205, R218). -/
def execHbmcPcRetireWrite (master stack value : Nat) (s : State) : Res := actIf s (decide (stack < 2)) fun s =>
  s.regCmd { page := Pg.HBMC + stack, off := Rg.HBMC_PC_RETIRE, master, value } fun s _ =>
    (setBitsOf 32 value).foldl (fun s i => s.retirePc (32 * stack + i) 1) s

/-- HBM_STACK_FAILURE (05 R218, 13 R540): every pseudo-channel of the stack is retired and the head yields. -/
def execHbmStackFailure (stack : Nat) (s : State) : Res := actIf s (decide (stack < 2)) fun s =>
  let s := (List.range 32).foldl (fun s i => s.retirePc (32 * stack + i) 2) s
  (s.wb (Pg.HBMC + stack) Rg.HBMC_STATUS 2 true).yield 0x02

/-- HBM_TEMPERATURE_HIGH (05 R227): the hottest die of a stack is at `temp`; above 95 °C the refresh is doubled. -/
def execHbmTemperatureHigh (stack temp : Nat) (s : State) : Res := actIf s (decide (stack < 2)) fun s =>
  let p := Pg.HBMC + stack
  let s := s.wf p Rg.HBMC_TEMP 7 0 (min temp 255)
  if 95 < temp then (s.wb p Rg.HBMC_STATUS 3 true).log p Ev.HBMC_HOT [.v 1 stack, .v 1 (min temp 255)]
  else s.wb p Rg.HBMC_STATUS 3 false

/-- DDRC_MAP_CFG_WRITE (05 R228, R229): it acts in instance 0 only; a mirror that does not fit is ignored and recorded. -/
def execDdrcMapCfgWrite (master inst value : Nat) (s : State) : Res := actIf s (decide (inst < 8)) fun s =>
  let w : RegW := { page := Pg.DDRC + inst, off := Rg.DDRC_MAP_CFG, master, value }
  s.regCmd w fun s old =>
    if inst ≠ 0 then s.wrN (Pg.DDRC + inst) Rg.DDRC_MAP_CFG 0 old
    else if s.mirrorFits (bits value 15 8) then s
    else (s.wf Pg.DDRC Rg.DDRC_MAP_CFG 15 8 (bits old 15 8)).ignoreW w

end Sys2Proof.Machine
end

