-- ==== Sys2Proof/Machine/Rings.lean ====
section
/-! DEFINITION. Commands of the descriptor and completion rings (01 R27 to R37, R693 to R697). -/
namespace Sys2Proof.Machine

/-- An instance number an engine has. -/
def Engine.has (e : Engine) (inst : Nat) : Bool := decide (inst < e.count) && decide (e ≠ .urt)

/-- A descriptor ring is bound to a running strand (02 R82): the strand, if one. -/
def State.boundTo (s : State) (page ring : Nat) : Option Nat :=
  (s.bd.strands.find? fun e =>
    (e.2.st == 2 || e.2.st == 3 || e.2.st == 4) && e.2.rings.any fun r => r == some { page, ring }).map (·.1)

/-- The address of descriptor `i` of a ring. -/
def State.descAddr (s : State) (e : Engine) (inst ring i : Nat) : Nat :=
  s.ringReg e inst 4 ring + 2 ^ 32 * s.ringReg e inst 8 ring + 64 * i

/-- The header of the descriptor a ring would serve next, as it lies in memory (01 R27). -/
def State.nextHeader (s : State) (e : Engine) (inst ring : Nat) : Nat :=
  ofLE (s.peek (s.descAddr e inst ring (s.ringCi e inst ring)) 8)

/-- Jobs of a ring fetched and not completed. -/
def State.jobsOf (s : State) (page ring : Nat) : List (Nat × Job) :=
  s.eng.jobs.filter fun e => e.2.engine.page e.2.inst == page && e.2.ring == ring

/-- A ring can be served: it holds a descriptor, its next one's completion ring holds no record back, and no fence holds
it (01 R31, R33). -/
def State.servable (s : State) (e : Engine) (inst ring : Nat) : Bool :=
  let h := s.nextHeader e inst ring
  s.ringOn e inst ring && s.ringPi e inst ring % s.ringSize e inst ring != s.ringCi e inst ring &&
    !s.heldFor e inst (bits h 39 28) && !(bitOf h 9 && (s.jobsOf (e.page inst) ring).length != 0)

/-- The ring served next: round robin in ascending ring number, from the one after the ring served last (01 R31; before
any has been served, from ring 0, log 9). -/
def State.nextRing (s : State) (e : Engine) (inst : Nat) : Option Nat :=
  let last := (mget s.eng.lastServed (e.page inst)).getD 63
  ((List.range 64).map fun k => (last + 1 + k) % 64).find? fun n => s.servable e inst n

/-- RING_CI advances and the ring counts as served. -/
def State.consume (s : State) (e : Engine) (inst ring : Nat) : State :=
  let s := s.wrN (e.page inst) (e.ringBase + 0x14) ring ((s.ringCi e inst ring + 1) % s.ringSize e inst ring)
  { s with eng := { s.eng with lastServed := mput s.eng.lastServed (e.page inst) ring } }

/-- A completion written to the ring paired with the descriptor's own, when that is enabled; otherwise only the event. -/
def State.pairedRecord (s : State) (e : Engine) (inst ring tag : Nat) (r : JobRes) (event : Nat) (fs : List Pf) : State :=
  if s.cringOn e inst ring then
    s.sendRecord { engine := e, inst, cring := ring, tag, source := e.source inst, irq := false, res := r }
  else s.logI (e.page inst) inst (e.event inst event) fs

/-- The status of a descriptor that cannot be read, from the status of its line (01 R695). -/
def unreadable (st : Nat) : Bool := st == St.POISON || st == St.TAG_FAIL || st == St.BAD_INPUT || st == St.NOT_READY

/-- DESCRIPTOR_FETCH (01 R31, R32, R37, R695): engine instance `inst` takes the next descriptor of its page. A descriptor with
owner 0 or an opcode outside the table becomes a job that has ended with BAD_INPUT. -/
def execDescriptorFetch (e : Engine) (inst : Nat) (s : State) : Res :=
  actIf s (e.has inst && s.engEnabled e inst) fun s =>
  match s.nextRing e inst with
  | none => s
  | some ring =>
    let ci := s.ringCi e inst ring
    let r := s.readBytes { master := e.master inst, owner := sysOwner } (s.descAddr e inst ring ci) 64
    let s := r.1.consume e inst ring
    if unreadable r.2.2 then
      s.pairedRecord e inst ring 0 { status := r.2.2, counts := ci } Ev.DESC_UNREADABLE [.v 1 ring, .v 2 ci, .v 1 r.2.2]
    else
      let h := leAt r.2.1 0 8
      let tag := leAt r.2.1 8 4
      let cring := bits h 39 28
      if 63 < cring ∨ !s.cringOn e inst cring then
        s.pairedRecord e inst ring tag (stRes St.BAD_INPUT) Ev.BAD_CRING [.v 1 ring, .v 2 cring, .v 4 tag]
      else
        let j : Job := {
          engine := e, inst, ring, cring, tag, owner := bits h 27 16, opcode := bits h 7 0, irq := bitOf h 8,
          fence := bitOf h 9, desc := r.2.1,
          res := if bits h 27 16 = 0 ∨ bits h 7 0 ∉ e.opcodes then some (stRes St.BAD_INPUT) else none }
        { s with eng := { s.eng with jobs := mput s.eng.jobs (freshKey s.eng.jobs 0) j } }

/-- JOB_COMPLETE (01 R33): the record of a job that has ended is sent. -/
def execJobComplete (job : Nat) (s : State) : Res :=
  match mget s.eng.jobs job with
  | some j => match j.res with
    | some r => act s fun s => s.endJob job j r
    | none => .next s
  | none => .next s

/-- HELD_RECORD_WRITE (01 R33): a slot is free in a completion ring that has a record held: the oldest is written. -/
def execHeldRecordWrite (e : Engine) (inst cring : Nat) (s : State) : Res :=
  actIf s (e.has inst && s.cringOn e inst cring && !s.cringFull e inst cring) fun s =>
  match s.eng.held.find? fun h => h.engine.page h.inst == e.page inst && h.cring == cring with
  | none => s
  | some h => { s with eng := { s.eng with held := s.eng.held.erase h } }.putRecord h

/-- The ring a page's RING_SEL selects. -/
def State.ringSel (s : State) (e : Engine) (inst : Nat) : Nat := s.rf (e.page inst) e.ringBase 5 0

/-- RING_PI_WRITE (01 R697, 02 R82): ignored and recorded while the ring is disabled or bound to a running strand. -/
def execRingPiWrite (e : Engine) (inst master value : Nat) (s : State) : Res := actIf s (e.has inst) fun s =>
  let w : RegW := { page := e.page inst, off := e.ringBase + 0x10, master, value }
  match s.regWrite w with
  | (s', none) => s'
  | (s', some _) =>
    let n := s.ringSel e inst
    if !s.ringOn e inst n || (s.boundTo (e.page inst) n).isSome then s.ignoreW w else s'

/-- CRING_HEAD_WRITE (01 R36): a slot outside the span from the present head to the tail is ignored and recorded. -/
def execCringHeadWrite (e : Engine) (inst master value : Nat) (s : State) : Res := actIf s (e.has inst) fun s =>
  let w : RegW := { page := e.page inst, off := 0x800, master, value }
  match s.regWrite w with
  | (s', none) => s'
  | (s', some old) =>
    let n := s.ringSel e inst
    let size := s.cringSize e inst n
    let tail := s.rf (e.page inst) 0x804 15 0 n
    let new := bits value 15 0
    if decide (new < size) && decide ((new + size - old) % size ≤ (tail + size - old) % size) then s' else s.ignoreW w

/-- A write of RING_CFG (01 R33, R34, R36, R697): what each change of enable and cring_enable does. -/
def State.ringCfgEffect (s : State) (e : Engine) (inst n old new : Nat) : State :=
  let p := e.page inst
  -- cring_enable set: head and tail to 0, phase to 1
  let s := if !bitOf old 16 && bitOf new 16 then (s.wrN p 0x800 n 0).wrN p 0x804 n 0x10000 else s
  -- enable cleared: the ring's jobs end with ABORTED_BY_RESET, then the indices return to 0
  let s := if bitOf old 0 && !bitOf new 0 then
      let s := (s.jobsOf p n).foldl (fun s j => s.endJob j.1 j.2 (stRes St.ABORTED_BY_RESET)) s
      (s.wrN p (e.ringBase + 0x10) n 0).wrN p (e.ringBase + 0x14) n 0
    else s
  -- enable set: the ring starts empty
  let s := if !bitOf old 0 && bitOf new 0 then (s.wrN p (e.ringBase + 0x10) n 0).wrN p (e.ringBase + 0x14) n 0 else s
  -- cring_enable cleared: held records are dropped
  if bitOf old 16 && !bitOf new 16 then
    let mine := s.eng.held.filter fun h => h.engine.page h.inst == p && h.cring == n
    let s := { s with eng := { s.eng with held := s.eng.held.filter fun h => !(h.engine.page h.inst == p && h.cring == n) } }
    mine.foldl (fun s h => s.dropRecord h) s
  else s

/-- A write of RING_CFG of the selected ring that makes the change `ch` from the old value to the new. -/
def State.ringCfgCmd (s : State) (e : Engine) (inst master value : Nat) (ch : Nat → Nat → Bool) : State :=
  let n := s.ringSel e inst
  if ch (s.ringCfg e inst n).toNat (value % 2 ^ 32) then
    s.regCmd { page := e.page inst, off := e.ringBase + 0xC, master, value } fun s' old =>
      s'.ringCfgEffect e inst n old (value % 2 ^ 32)
  else s

/-- RING_ENABLE_SET (01 R697). -/
def execRingEnableSet (e : Engine) (inst master value : Nat) (s : State) : Res := actIf s (e.has inst) fun s =>
  s.ringCfgCmd e inst master value fun o n => !bitOf o 0 && bitOf n 0

/-- RING_ENABLE_CLEAR (01 R34, R697). -/
def execRingEnableClear (e : Engine) (inst master value : Nat) (s : State) : Res := actIf s (e.has inst) fun s =>
  s.ringCfgCmd e inst master value fun o n => bitOf o 0 && !bitOf n 0

/-- CRING_ENABLE_SET (01 R36). -/
def execCringEnableSet (e : Engine) (inst master value : Nat) (s : State) : Res := actIf s (e.has inst) fun s =>
  s.ringCfgCmd e inst master value fun o n => !bitOf o 16 && bitOf n 16

/-- CRING_ENABLE_CLEAR (01 R33). -/
def execCringEnableClear (e : Engine) (inst master value : Nat) (s : State) : Res := actIf s (e.has inst) fun s =>
  s.ringCfgCmd e inst master value fun o n => bitOf o 16 && !bitOf n 16

/-- CRING_IRQ_CLEAR (01 R694): a W1C write of CRING_IRQ_LO, or of CRING_IRQ_HI with `hi`; ring_done is set again at once
while any bit stays set. -/
def execCringIrqClear (e : Engine) (inst : Nat) (hi : Bool) (master value : Nat) (s : State) : Res := actIf s (e.has inst) fun s =>
  s.regCmd { page := e.page inst, off := if hi then 0x814 else 0x810, master, value } fun s _ =>
    s.persistIrq (e.page inst)

/-- A write of an engine page's configuration register that makes the change `ch` to its enable field (01 R696). -/
def State.engineCfgCmd (s : State) (e : Engine) (inst master value : Nat) (ch : Bool → Bool → Bool) : State :=
  let p := e.page inst
  if ch (s.rb p 0x100 (enableBit p)) (bitOf value (enableBit p)) then
    (s.regWrite { page := p, off := 0x100, master, value }).1
  else s

/-- ENGINE_ENABLE_SET (01 R696): fetching resumes where it stopped. -/
def execEngineEnableSet (e : Engine) (inst master value : Nat) (s : State) : Res :=
  actIf s (e.has inst && decide (e ≠ .spool)) fun s => s.engineCfgCmd e inst master value fun o n => !o && n

/-- ENGINE_ENABLE_CLEAR (01 R696): fetching stops; jobs already fetched run on. -/
def execEngineEnableClear (e : Engine) (inst master value : Nat) (s : State) : Res :=
  actIf s (e.has inst && decide (e ≠ .spool)) fun s => s.engineCfgCmd e inst master value fun o n => o && !n

end Sys2Proof.Machine
end

