-- ==== Sys2Proof/Machine/Operands.lean ====
section
/-! DEFINITION. Operand forms of engine jobs: contiguous areas and gather lists (07 R277, R702), and descriptor flags. -/
namespace Sys2Proof.Machine

/-- The engine-specific flags of a descriptor, bits [15:10] of its header (01 R27). -/
def Job.eflag (j : Job) (b : Nat) : Bool := bitOf (j.f 0 2) b

/-- Source and destination fields, where Pleat and Cipher have them (07 R291, R309). -/
def Job.src (j : Job) : Nat := j.f 24 8
def Job.dst (j : Job) : Nat := j.f 32 8

/-- A status with which a read or a write has succeeded. -/
def fine (c : Nat) : Bool := c == St.OK || c == St.CHECK_ONLY_FIXED

/-- A gather list as far as it has been read: the areas so far, the bytes still to be covered, and what has ended it. -/
structure ListScan where
  st : State
  areas : List (Nat × Nat) := []
  left : Nat
  err : Option Nat := none
  deriving DecidableEq, Repr

/-- One entry: an address and a length from 1 to 65,536; entries beyond those needed are not looked at. -/
def ListScan.entry (x : ListScan) (addr len : Nat) : ListScan :=
  if x.err.isSome || x.left == 0 then x
  else if len = 0 ∨ 65536 < len then { x with err := some St.BAD_INPUT }
  else { x with areas := x.areas ++ [(addr, min len x.left)], left := x.left - len }

/-- One line of a list, of four entries. -/
def ListScan.line (w : Acc) (x : ListScan) (addr : Nat) : ListScan :=
  if x.err.isSome || x.left == 0 then x
  else
    let r := x.st.readBytes w addr 64
    if !fine r.2.2 then { x with st := r.1, err := some r.2.2 }
    else (List.range 4).foldl (fun x i => x.entry (leAt r.2.1 (16 * i) 8) (leAt r.2.1 (16 * i + 8) 4)) { x with st := r.1 }

/-- The areas a job reads or writes `need` bytes through: one area, or the entries of a gather list, in order until they cover
`need` (07 R702). The second part is the areas, or the status that ends the job. -/
def State.areas (s : State) (w : Acc) (isList : Bool) (addr need : Nat) : State × Except Nat (List (Nat × Nat)) :=
  if !isList then (s, .ok [(addr, need)])
  else if addr % 64 ≠ 0 then (s, .error St.BAD_INPUT)
  else
    let x : ListScan := (List.range 16).foldl (fun x k => ListScan.line w x (addr + 64 * k)) { st := s, left := need }
    match x.err with
    | some e => (x.st, .error e)
    | none => (x.st, if x.left = 0 then .ok x.areas else .error St.BAD_INPUT)

/-- Read through areas. -/
def State.readAreas (s : State) (w : Acc) (as : List (Nat × Nat)) : State × List Byte × Nat :=
  as.foldl (fun acc a =>
    let r := acc.1.readBytes w a.1 a.2
    (r.1, acc.2.1 ++ r.2.1, worse acc.2.2 r.2.2)) (s, [], St.OK)

/-- Write through areas, as many bytes as there are. -/
def State.writeAreas (s : State) (w : Acc) (as : List (Nat × Nat)) (data : List Byte) : State × Nat :=
  let r := as.foldl (fun (acc : (State × Nat) × List Byte) a =>
    let x := acc.1.1.writeBytes w a.1 (acc.2.take a.2)
    ((x.1, worse acc.1.2 x.2), acc.2.drop a.2)) ((s, St.OK), data)
  r.1

/-- Bytes `a` to `a + n - 1` of a descriptor are 0. -/
def Job.zero (j : Job) (a n : Nat) : Bool := j.f a n == 0

end Sys2Proof.Machine
end

