-- ==== Sys2Proof/Machine/Beads.lean ====
section
/-! DEFINITION. Commands of the BEAD family: the stitch operations and what ends their waits (02 R66 to R86). -/
namespace Sys2Proof.Machine

/-! ### Arithmetic and logic (02 R81) -/

/-- ADD, SUB, AND, OR, XOR. -/
def execAdd (bead : Nat) (s : State) : Res := alu 0x00 bead s fun a b => a + b
def execSub (bead : Nat) (s : State) : Res := alu 0x01 bead s fun a b => a - b
def execAnd (bead : Nat) (s : State) : Res := alu 0x02 bead s fun a b => a &&& b
def execOr (bead : Nat) (s : State) : Res := alu 0x03 bead s fun a b => a ||| b
def execXor (bead : Nat) (s : State) : Res := alu 0x04 bead s fun a b => a ^^^ b

/-- SHL, SHR, SRA: by wt[4:0]. -/
def execShl (bead : Nat) (s : State) : Res := alu 0x05 bead s fun a b => a <<< fld b 4 0
def execShr (bead : Nat) (s : State) : Res := alu 0x06 bead s fun a b => a >>> fld b 4 0
def execSra (bead : Nat) (s : State) : Res := alu 0x07 bead s fun a b => a.sshiftRight (fld b 4 0)

/-- SLT, SLTU. -/
def execSlt (bead : Nat) (s : State) : Res := alu 0x08 bead s fun a b => if a.toInt < b.toInt then 1 else 0
def execSltu (bead : Nat) (s : State) : Res := alu 0x09 bead s fun a b => if a.toNat < b.toNat then 1 else 0

/-- ADDI (immediate sign-extended), ANDI (zero-extended). -/
def execAddi (bead : Nat) (s : State) : Res := aluImm 0x0A bead s fun a i => BitVec.ofInt 32 (a.toNat + sext 16 i)
def execAndi (bead : Nat) (s : State) : Res := aluImm 0x0B bead s fun a i => a &&& BitVec.ofNat 32 i

/-- LUI. -/
def execLui (bead : Nat) (s : State) : Res := beadOp 0x0C bead s fun b i =>
  .ok (b.setReg (dOf i) { v := BitVec.ofNat 32 (immOf i * 65536) })

/-- MUL, MULHU, DIVU. -/
def execMul (bead : Nat) (s : State) : Res := alu 0x0D bead s fun a b => a * b
def execMulhu (bead : Nat) (s : State) : Res := alu 0x0E bead s fun a b => BitVec.ofNat 32 (a.toNat * b.toNat / 2 ^ 32)
def execDivu (bead : Nat) (s : State) : Res := alu 0x0F bead s fun a b =>
  if b = 0 then 0xFFFFFFFF else BitVec.ofNat 32 (a.toNat / b.toNat)

/-- Leading zeros of the low `n` bits. -/
def clz : Nat → Nat → Nat
  | 0, _ => 0
  | n + 1, x => if bitOf x n then 0 else 1 + clz n x

/-- POPC, CLZ: of ws alone. -/
def execPopc (bead : Nat) (s : State) : Res := beadOp 0x10 bead s fun b i =>
  .ok (b.setReg (dOf i) { v := BitVec.ofNat 32 (popCount 32 (b.reg (sOf i)).v.toNat), p := (b.reg (sOf i)).p })
def execClz (bead : Nat) (s : State) : Res := beadOp 0x11 bead s fun b i =>
  .ok (b.setReg (dOf i) { v := BitVec.ofNat 32 (clz 32 (b.reg (sOf i)).v.toNat), p := (b.reg (sOf i)).p })

/-- CRCW: the remainder ws advanced over the bytes of wt, byte 0 first. -/
def execCrcw (bead : Nat) (s : State) : Res := alu 0x12 bead s fun a b =>
  BitVec.ofNat 32 (crcStep a.toNat (leBytes 4 b.toNat))

/-! ### Local memory (02 R68 to R71) -/

/-- LDW (02 R68): `flip` is what an upset has changed in the stored data since it was written. A parity mismatch poisons the
word in memory and the value loaded, and is recorded. -/
def execLdw (bead : Nat) (flip : Word) (s : State) : Res := beadAct 0x13 bead s fun s b i =>
  match b.localAddr i with
  | .error c => .error (s, c)
  | .ok a =>
    let x := b.word? a
    let x := { x with d := x.d ^^^ flip }
    let bad := parity x.d != x.tag % 4
    let x := if bad then { x with tag := x.tag % 8 + 8 } else x
    let b := (b.setWord a x).setReg (dOf i) { v := x.d, p := bitOf x.tag 3 }
    .ok (if bad then s.logI (Pg.BEADC + bead / 64) (bead / 64) Ev.BEAD_PARITY [.v 2 bead, .v 2 a] else s, b.next)

/-- STW (02 R69, R71). -/
def execStw (bead : Nat) (s : State) : Res := beadOp 0x14 bead s fun b i =>
  match b.localAddr i with
  | .error c => .error (if (wrap32 ((b.reg (sOf i)).v.toNat + sext 16 (immOf i))) < b.codeLen then St.BAD_INPUT else c)
  | .ok a =>
    if a < b.codeLen then .error St.BAD_INPUT
    else .ok (b.setWord a (LW.mk' (b.reg (dOf i)).v (b.reg (dOf i)).p true))

/-- LDT: the tag nibble. -/
def execLdt (bead : Nat) (s : State) : Res := beadOp 0x15 bead s fun b i =>
  match b.localAddr i with
  | .error c => .error c
  | .ok a => .ok (b.setReg (dOf i) { v := BitVec.ofNat 32 ((b.word? a).tag % 16) })

/-! ### Control flow -/

/-- A branch, relative to its own address (log 40); a poisoned operand is a fault (02 R84). -/
def branch (op n : Nat) (s : State) (cond : Word → Word → Bool) : Res := beadAct op n s fun s b i =>
  let x := b.reg (dOf i)
  let y := b.reg (sOf i)
  if x.p || y.p then .error (s, St.POISON)
  else .ok (s, if cond x.v y.v then { b with pc := wrap32 (b.pc + offB i) } else b.next)

/-- BEQ, BNE, BLT, BLTU. -/
def execBeq (bead : Nat) (s : State) : Res := branch 0x16 bead s fun a b => a == b
def execBne (bead : Nat) (s : State) : Res := branch 0x17 bead s fun a b => a != b
def execBlt (bead : Nat) (s : State) : Res := branch 0x18 bead s fun a b => decide (a.toInt < b.toInt)
def execBltu (bead : Nat) (s : State) : Res := branch 0x19 bead s fun a b => decide (a.toNat < b.toNat)

/-- JAL: wd ← next address; the offset counts from the jump's own address (log 40). -/
def execJal (bead : Nat) (s : State) : Res := beadAct 0x1A bead s fun s b i =>
  .ok (s, { b.setReg (dOf i) { v := BitVec.ofNat 32 (b.pc + 1) } with pc := wrap32 (b.pc + offJ i) })

/-- JR. -/
def execJr (bead : Nat) (s : State) : Res := beadAct 0x1B bead s fun s b i =>
  let r := b.reg (sOf i)
  if r.p then .error (s, St.POISON) else .ok (s, { b with pc := r.v.toNat })

/-! ### Messages (02 R73 to R75, R80) -/

/-- Deliver a whole message to queue `q` of the bead with number `p`. -/
def State.sendTo (s : State) (p q : Nat) (m : List PW) : State :=
  let t := s.bead p
  s.setBead p (t.setQueue q (t.queue q ++ [m]))

/-- The physical bead of a logical one of the sender's strand (02 R80). -/
def State.routeOf (s : State) (b : Bead) (l : Nat) : Option Nat :=
  match b.strand with
  | some n => (s.strand n).beads[l]?
  | none => none

/-- SND: the message goes whole, or the bead stalls. A logical bead the strand does not have is a fault (DESIGN CHOICE,
log 10). -/
def execSnd (bead : Nat) (s : State) : Res := beadAct 0x1C bead s fun s b i =>
  let r := b.reg (sOf i)
  let l := fld r.v 7 0
  let q := tOf i
  if r.p then .error (s, St.POISON)
  else match s.routeOf b l with
  | none => .error (s, St.BAD_INPUT)
  | some p =>
    if 6 < q then .error (s, St.LOCKED)
    else
      let m := (b.lanes (dOf i)).take (xOf i % 8 + 1)
      if (s.bead p).room q m.length then
        if p = bead then .ok (s, (b.setQueue q (b.queue q ++ [m])).next) else .ok (s.sendTo p q m, b.next)
      else .ok (s, { b with wait := .snd l q m s.gts false })

/-- SND_UNSTALL (02 R73). -/
def execSndUnstall (bead : Nat) (s : State) : Res :=
  let b := s.bead bead
  match b.wait with
  | .snd l q m _ _ =>
    match s.routeOf b l with
    | some p => actIf s (s.clusterRuns (bead / 64) && b.run == 1 && (s.bead p).room q m.length) fun s =>
        (s.setBead bead { b.next with wait := .none }).sendTo p q m
    | none => .next s
  | _ => .next s

/-- SEND_STALL_TIMEOUT (02 R74): one record for a stall of 1 ms; the stall goes on. -/
def execSendStallTimeout (bead : Nat) (s : State) : Res :=
  let b := s.bead bead
  match b.wait with
  | .snd l q m since false => actIf s (b.run == 1) fun s =>
      (s.setBead bead { b with wait := .snd l q m since true }).logI (Pg.BEADC + bead / 64) (bead / 64)
        Ev.BEAD_SEND_STALL [.v 2 bead, .v 1 l, .v 1 q]
  | _ => .next s

/-- A message moved into vd, its word count into ws. -/
def Bead.receive (b : Bead) (m : List PW) (vd ws : Nat) : Bead :=
  ((b.setLanes vd fun k => m.getD k {}).setReg ws { v := BitVec.ofNat 32 m.length }).next

/-- RCV. -/
def execRcv (bead : Nat) (s : State) : Res := beadAct 0x1D bead s fun s b i =>
  if 7 < tOf i then .error (s, St.LOCKED)
  else match b.pop (tOf i) with
  | some (m, b) => .ok (s, b.receive m (dOf i) (sOf i))
  | none => .ok (s, { b with wait := .rcv (tOf i) (dOf i) (sOf i) })

/-- RCV_WAKE: a message has reached the queue waited on. -/
def execRcvWake (bead : Nat) (s : State) : Res :=
  let b := s.bead bead
  match b.wait with
  | .rcv q vd ws =>
    match b.pop q with
    | some (m, b') => actIf s (s.clusterRuns (bead / 64) && b.run == 1) fun s =>
        s.setBead bead { b'.receive m vd ws with wait := .none }
    | none => .next s
  | _ => .next s

/-- The lowest queue of a mask that holds a message. -/
def Bead.lowest (b : Bead) (mask : Nat) : Option Nat := (List.range 8).find? fun q => bitOf mask q && b.count q != 0

/-- QWAIT. -/
def execQwait (bead : Nat) (s : State) : Res := beadAct 0x1E bead s fun s b i =>
  match b.lowest (immOf i % 256) with
  | some q => .ok (s, (b.setReg (dOf i) { v := BitVec.ofNat 32 q }).next)
  | none => .ok (s, { b with wait := .qwait (immOf i % 256) (dOf i) })

/-- QWAIT_WAKE. -/
def execQwaitWake (bead : Nat) (s : State) : Res :=
  let b := s.bead bead
  match b.wait with
  | .qwait mask wd =>
    match b.lowest mask with
    | some q => actIf s (s.clusterRuns (bead / 64) && b.run == 1) fun s =>
        s.setBead bead { (b.setReg wd { v := BitVec.ofNat 32 q }).next with wait := .none }
    | none => .next s
  | _ => .next s

/-- QCNT. -/
def execQcnt (bead : Nat) (s : State) : Res := beadOp 0x1F bead s fun b i =>
  .ok (b.setReg (dOf i) { v := BitVec.ofNat 32 (b.count (immOf i % 8)) })

/-! ### Timers and edge detectors (02 R76, R77). A slot number above 3 is a fault (DESIGN CHOICE, log 10). -/

/-- TSET: a running timer is loaded afresh. -/
def execTset (bead : Nat) (s : State) : Res := beadAct 0x20 bead s fun s b i =>
  let r := b.reg (sOf i)
  if 3 < dOf i then .error (s, St.BAD_INPUT)
  else if r.p then .error (s, St.POISON)
  else .ok (s, (b.setTimer (dOf i) { b.timer (dOf i) with
    running := true, deadline := s.gts + 10 * r.v.toNat, count := r.v.toNat, periodic := bitOf (xOf i) 0 }).next)

/-- TSTOP: the timer stops and its waiting event goes. -/
def Bead.stopTimer (b : Bead) (i : Nat) : Bead :=
  { b.setTimer i { overrun := (b.timer i).overrun } with events := b.events.filter fun e => !isEvent 0 i e }
def execTstop (bead : Nat) (s : State) : Res := beadOp 0x21 bead s fun b i =>
  if 3 < dOf i then .error St.BAD_INPUT else .ok (b.stopTimer (dOf i))

/-- TRD. -/
def execTrd (bead : Nat) (s : State) : Res := beadAct 0x22 bead s fun s b i =>
  if 3 < sOf i then .error (s, St.BAD_INPUT)
  else .ok (s, (b.setReg (dOf i) { v := BitVec.ofNat 32 ((b.timer (sOf i)).left s.gts) }).next)

/-- EARM (02 R77). -/
def State.armed (s : State) (n : Nat) (b : Bead) (slot line mode : Nat) : Bead :=
  b.setEdge slot { b.edge slot with line, mode, last := if mode = 0 then (b.edge slot).last else s.lineLevel (n / 64) line }
def execEarm (bead : Nat) (s : State) : Res := beadAct 0x23 bead s fun s b i =>
  if 3 < dOf i then .error (s, St.BAD_INPUT)
  else .ok (s, (s.armed bead b (dOf i) (bits (immOf i) 5 0) (bits (immOf i) 7 6)).next)

/-- ERD: the overrun count is shown in 8 bits, saturated (DESIGN CHOICE, log 10). -/
def execErd (bead : Nat) (s : State) : Res := beadOp 0x24 bead s fun b i =>
  if 3 < sOf i then .error St.BAD_INPUT
  else
    let e := b.edge (sOf i)
    .ok (b.setReg (dOf i) { v := BitVec.ofNat 32 (b2n e.last + 2 * b2n (e.mode != 0) + 4 * min e.overrun 255) })

/-! ### Fabric operations (02 R82, R83, R88) -/

/-- The fabric address w(s+1)[15:0]:ws and its poison; the register after w31 is w0 (DESIGN CHOICE, log 10). -/
def Bead.fabricAddr (b : Bead) (r : Nat) : Nat × Bool :=
  let lo := b.reg r
  let hi := b.reg ((r + 1) % 32)
  (lo.v.toNat + 2 ^ 32 * fld hi.v 15 0, lo.p || hi.p)

/-- The access a bead makes: the strand's master and owner (02 R82, R88). -/
def State.beadAcc (s : State) (b : Bead) : Acc :=
  match b.strand with
  | some n => { master := Ms.STRAND + n, owner := (s.strand n).owner }
  | none => { master := Ms.STRAND, owner := 0 }

/-- FLD: the line at the address, aligned down (DESIGN CHOICE, log 10); its data arrive with FLD_DATA_RETURN. -/
def execFld (bead : Nat) (s : State) : Res := beadAct 0x25 bead s fun s b i =>
  let a := b.fabricAddr (sOf i)
  let l := a.1 / 64 * 64
  if dOf i % 2 = 1 then .error (s, St.BAD_INPUT)
  else if a.2 then .error (s, St.POISON)
  else match s.offLimits l 64 with
  | some c => .error (s.accessRefused l (s.beadAcc b).master false c, St.BAD_INPUT)
  | none => .ok (s, { b.next with flds := b.flds ++ [(dOf i, l)] })

/-- Bytes of a line as 16 words. -/
def lineWords (l : List Byte) : List Word := (List.range 16).map fun i => BitVec.ofNat 32 (leAt l (4 * i) 4)

/-- FLD_DATA_RETURN (02 R83): the data of the oldest fld arrive; `u` is what the check finds, `ext` what a flash module answers
for an address in a PCIe window. A line not owned, or a register page, answers zeros. -/
def execFldDataReturn (bead : Nat) (u : Upset) (ext : List Byte) (s : State) : Res :=
  let b := s.bead bead
  match b.flds with
  | [] => .next s
  | (d, a) :: t => actIf s (s.clusterRuns (bead / 64)) fun s =>
    let b := { b with flds := t }
    let fill := fun (s : State) (ws : List Word) (p : Bool) =>
      let b := b.setLanes d fun k => { v := if p then 0 else ws.getD k 0, p }
      s.setBead bead (b.setLanes (d + 1) fun k => { v := if p then 0 else ws.getD (k + 8) 0, p })
    match s.region a with
    | .ddr | .hbm =>
      let r := s.readLine (s.beadAcc b) a u
      fill r.st (lineWords r.data) (r.status == St.POISON || r.status == St.TAG_FAIL)
    | .pcie => fill s (lineWords ext) false
    | .page p => fill (s.err p (s.beadAcc b).master false false St.BAD_INPUT a) [] false
    | _ => fill s [] false

/-- The 64 bytes of vd and vd+1, and whether a lane is poisoned. -/
def Bead.line16 (b : Bead) (d : Nat) : List Byte × Bool :=
  let ws := b.lanes d ++ b.lanes (d + 1)
  (ws.flatMap fun w => leBytes 4 w.v.toNat, ws.any (·.p))

/-- FST (02 R83). -/
def execFst (bead : Nat) (s : State) : Res := beadAct 0x26 bead s fun s b i =>
  let a := b.fabricAddr (sOf i)
  let l := a.1 / 64 * 64
  if dOf i % 2 = 1 then .error (s, St.BAD_INPUT)
  else if a.2 then .error (s, St.POISON)
  else match s.offLimits l 64 with
  | some c => .error (s.accessRefused l (s.beadAcc b).master true c, St.BAD_INPUT)
  | none =>
      let x := b.line16 (dOf i)
      let b' := { b.next with stores := b.stores + 1 }
      match s.region l with
      | .ddr | .hbm =>
        let r := s.writeLine (s.beadAcc b) l 0 x.1
        .ok (if x.2 && r.2 == St.OK then r.1.setLine l { (r.1.line l) with poison := true } else r.1, b')
      | .pcie => .ok (s.emit (.module (bar0 l).1 0x101 (l :: x.1.map (·.toNat))), b')
      | .page p => .ok (s.err p (s.beadAcc b).master true false St.BAD_INPUT l, b')
      | _ => .ok (s, b')

/-- Ring `n` of engine page `p`: enabled, its size, and full (01 R697). -/
def State.pRingOn (s : State) (p n : Nat) : Bool := s.rb p (ringBaseOf p + 0xC) 0 n
def State.pRingSize (s : State) (p n : Nat) : Nat := 2 ^ s.rf p (ringBaseOf p + 0xC) 8 4 n
def State.pRingFull (s : State) (p n : Nat) : Bool :=
  (s.rdN p (ringBaseOf p + 0x10) n + 1) % s.pRingSize p n == s.rdN p (ringBaseOf p + 0x14) n

/-- A descriptor written at the ring's producer index, which advances, in one step (02 R82). -/
def State.pushDesc (s : State) (master p n : Nat) (desc : List Byte) : State :=
  let pi := s.rdN p (ringBaseOf p + 0x10) n
  let a := s.rdN p (ringBaseOf p + 4) n + 2 ^ 32 * s.rdN p (ringBaseOf p + 8) n + 64 * pi
  let s := (s.writeBytes { master, owner := sysOwner } a desc).1
  s.wrN p (ringBaseOf p + 0x10) n ((pi + 1) % s.pRingSize p n)

/-- The ring bound to a handle of the bead's strand. -/
def State.handle (s : State) (b : Bead) (h : Nat) : Option Binding :=
  match b.strand with
  | some n => (s.strand n).rings.getD h none
  | none => none

/-- The descriptor with its owner field, bits [27:16] of its header, replaced (02 R82). -/
def ownDesc (desc : List Byte) (owner : Nat) : List Byte :=
  let h := leAt desc 0 4
  leBytes 4 (h - bits h 27 16 * 65536 + owner % 4096 * 65536) ++ desc.drop 4

/-- JSUB: submitted at once, or the bead stalls while the ring is full or disabled. -/
def execJsub (bead : Nat) (s : State) : Res := beadAct 0x27 bead s fun s b i =>
  let r := b.reg (sOf i)
  if r.p then .error (s, St.POISON)
  else match s.handle b (fld r.v 3 0) with
  | none => .error (s, St.BAD_INPUT)
  | some k =>
    let x := b.line16 (dOf i)
    if x.2 then .error (s, St.POISON)
    else
      let desc := ownDesc x.1 (s.beadAcc b).owner
      if s.pRingOn k.page k.ring && !s.pRingFull k.page k.ring then
        .ok (s.pushDesc (s.beadAcc b).master k.page k.ring desc, { b.next with stores := b.stores + 1 })
      else .ok (s, { b with wait := .jsub (fld r.v 3 0) desc })

/-- JSUB_UNSTALL (02 R82). -/
def execJsubUnstall (bead : Nat) (s : State) : Res :=
  let b := s.bead bead
  match b.wait with
  | .jsub h desc =>
    match s.handle b h with
    | some k => actIf s (s.clusterRuns (bead / 64) && b.run == 1 && s.pRingOn k.page k.ring && !s.pRingFull k.page k.ring) fun s =>
        (s.pushDesc (s.beadAcc b).master k.page k.ring desc).setBead bead { b.next with wait := .none, stores := b.stores + 1 }
    | none => .next s
  | _ => .next s

/-- FNC. -/
def execFnc (bead : Nat) (s : State) : Res := beadAct 0x28 bead s fun s b _ =>
  .ok (s, if b.stores = 0 then b.next else { b with wait := .fnc })

/-- FNC_ACCEPT: the last outstanding fst or jsub is accepted. -/
def execFncAccept (bead : Nat) (s : State) : Res :=
  let b := s.bead bead
  actIf s (s.clusterRuns (bead / 64) && b.stores != 0) fun s =>
    let b := { b with stores := 0 }
    s.setBead bead (if b.wait = .fnc then { b.next with wait := .none } else b)

/-! ### Vectors -/

/-- vd ← f vs vt, lane by lane. -/
def vecOp (op n : Nat) (s : State) (f : Word → Word → Word) : Res := beadOp op n s fun b i =>
  .ok (b.setLanes (dOf i) fun k => (b.lane (sOf i) k).map2 (b.lane (tOf i) k) f)

/-- VADD, VXOR, VAND. -/
def execVadd (bead : Nat) (s : State) : Res := vecOp 0x29 bead s fun a b => a + b
def execVxor (bead : Nat) (s : State) : Res := vecOp 0x2A bead s fun a b => a ^^^ b
def execVand (bead : Nat) (s : State) : Res := vecOp 0x2B bead s fun a b => a &&& b

/-- VBC, VEXT, VINS. -/
def execVbc (bead : Nat) (s : State) : Res := beadOp 0x2C bead s fun b i =>
  .ok (b.setLanes (dOf i) fun _ => b.reg (sOf i))
def execVext (bead : Nat) (s : State) : Res := beadOp 0x2D bead s fun b i =>
  .ok (b.setReg (dOf i) (b.lane (sOf i) (immOf i % 8)))
def execVins (bead : Nat) (s : State) : Res := beadOp 0x2E bead s fun b i =>
  .ok (b.setLane (dOf i) (immOf i % 8) (b.reg (sOf i)))

/-- VSHUF: lane k of vd ← lane wt[3k+2:3k] of vs. -/
def execVshuf (bead : Nat) (s : State) : Res := beadOp 0x2F bead s fun b i =>
  let sel := b.reg (tOf i)
  .ok (b.setLanes (dOf i) fun k =>
    let x := b.lane (sOf i) (fld sel.v (3 * k + 2) (3 * k))
    { v := x.v, p := x.p || sel.p })

/-- A word whose bytes are those of `x` multiplied by `m` in GF(2^8) with polynomial 0x11D. -/
def gfWord (x : Word) (m : Nat) : Word := BitVec.ofNat 32 (ofLE ((leBytes 4 x.toNat).map fun b =>
  BitVec.ofNat 8 (gfMul 0x11D b.toNat m)))

/-- GFMAC. -/
def execGfmac (bead : Nat) (s : State) : Res := beadOp 0x30 bead s fun b i =>
  let m := b.reg (tOf i)
  .ok (b.setLanes (dOf i) fun k =>
    let x := b.lane (sOf i) k
    let d := b.lane (dOf i) k
    { v := d.v ^^^ gfWord x.v (fld m.v 7 0), p := d.p || x.p || m.p })

/-! ### Epoch boundary and stopping -/

/-- EBND (02 R98): an exchange is pending from the moment the strand drains (DEDUCED, log 41). -/
def execEbnd (bead : Nat) (s : State) : Res := beadAct 0x31 bead s fun s b _ =>
  let pending := match b.strand with | some n => (s.strand n).st == 3 | none => false
  .ok (s, if pending && (List.range 7).all (fun q => b.count q == 0) && b.flds.isEmpty && b.stores == 0
    then { b with run := 2 } else b.next)

/-- HALT. -/
def execHalt (bead : Nat) (s : State) : Res := beadAct 0x32 bead s fun s b _ => .ok (s, { b with run := 0 })

/-- UNDEFINED_OPCODE (02 R84): opcode 0x33 to 0x3F, or a pc past local memory. -/
def execUndefinedOpcode (bead : Nat) (s : State) : Res :=
  let b := s.bead bead
  actIf s (s.issues bead && (decide (localWords ≤ b.pc) || decide (0x33 ≤ opOf b.instr))) fun s => s.beadFault bead St.BAD_INPUT

/-! ### Events -/

/-- Time moves on to GTS `t`, if it lies ahead. -/
def State.advanceTo (s : State) (t : Nat) : State :=
  let n := s.cal.ns + (t - s.gts)
  { s with gts := max s.gts t, cal := { s.cal with seconds := (s.cal.seconds + n / 1000000000) % 2 ^ 40, ns := n % 1000000000 } }

/-- TIMER_EXPIRY (02 R76): GTS reaches the timer's deadline; the timer posts and, if periodic, reloads. A count of 0 does not
reload (DESIGN CHOICE, log 10). -/
def execTimerExpiry (bead slot : Nat) (s : State) : Res :=
  let b := s.bead bead
  let t := b.timer slot
  actIf s (decide (slot < 4) && t.running && t.kept.isNone && s.clusterRuns (bead / 64)) fun s =>
    let s := s.advanceTo t.deadline
    let b := b.setTimer slot (if t.periodic && t.count != 0 then { t with deadline := t.deadline + 10 * t.count }
      else { overrun := t.overrun })
    s.setBead bead (b.post 0 slot (eventWord 0 slot false (s.exchanging b) s.gts))

/-- EDGE_EVENT (02 R77): an enabled event line of a cluster takes a level, and the detectors armed on it sample it. -/
def execEdgeEvent (cluster line : Nat) (level : Bool) (s : State) : Res :=
  actIf s (decide (cluster < 16) && decide (line < 64) && s.rb (Pg.BEADC + cluster) (Rg.BEADC_EVSEL + 4 * line) 31) fun s =>
    s.setLine' cluster line level

end Sys2Proof.Machine
end

