-- ==== Sys2Proof/Machine/Hallmark.lean ====
section
/-! DEFINITION. Hallmark: digest contexts, snoop streams, chunk lists and seal units (06 R231 to R245, R268 to R270). -/
namespace Sys2Proof.Machine

/-- A context in use. -/
def State.hctx (s : State) (n : Nat) : Option HCtx := mget s.hall.ctxs n

/-- Hold or free a context; HALLMARK_CTX_FREE counts. -/
def State.setHctx (s : State) (n : Nat) (c : Option HCtx) : State :=
  let m := match c with | some c => mput s.hall.ctxs n c | none => mdel s.hall.ctxs n
  { s with hall := { s.hall with ctxs := m } }.wrN Pg.HALLMARK Rg.HALLMARK_CTX_FREE 0 (4096 - m.length)

/-- The Gear table: bytes 0 to 7, little-endian, of the SHA-256 digest of the one-byte message (06 R245). -/
def gearTable : Array Nat := ((List.range 256).map fun b => leAt (sha256 [BitVec.ofNat 8 b]) 0 8).toArray

/-- The gear hash after one byte. -/
def gearStep (h : Nat) (b : Byte) : Nat := (2 * h + gearTable.getD b.toNat 0) % 2 ^ 64

/-- A boundary after a chunk has `n` bytes with hash `h` (06 R245): 1 content, 2 forced. -/
def gearCut (n h : Nat) : Nat :=
  if 4096 ≤ n ∧ n < 16384 ∧ h &&& 0xFFFE000000000000 = 0 then 1
  else if 16384 ≤ n ∧ h &&& 0xFFF8000000000000 = 0 then 1
  else if n = 65536 then 2 else 0

/-- The bytes up to the next gear boundary: how many, the hash after them, and the kind of boundary (0: none yet). -/
def gearScan : Nat → Nat → Nat → List Byte → Nat × Nat × Nat
  | k, _, h, [] => (k, h, 0)
  | k, n, h, b :: t =>
    let h := gearStep h b
    let c := gearCut (n + 1) h
    if c = 0 then gearScan (k + 1) (n + 1) h t else (k + 1, h, c)

/-- A digest under the context's algorithm and key (06 R231). -/
def HCtx.digest (c : HCtx) (m : List Byte) : List Byte :=
  match c.key with
  | some k => hmac c.alg k m
  | none => digestOf c.alg m

/-- Bytes to the next boundary in grain mode (06 R244). -/
def HCtx.grainLeft (c : HCtx) : Nat :=
  if c.total < c.phase then c.phase - c.total else 16384 - (c.total - c.phase) % 16384

/-- A chunk ends: its entry of the chunk list is written (06 R243), unless the list is full. -/
def State.endChunk (s : State) (n : Nat) (c : HCtx) (forced last : Bool) : State × HCtx :=
  let partial' := c.mode == 1 && c.msg.length != 16384
  let next := { c with
    msg := [], start := c.total, gear := 0, poison := false, anyPoison := c.anyPoison || c.poison }
  if c.cap ≤ c.entries then
    let s := if c.full then s else s.log Pg.HALLMARK Ev.HALLMARK_CHUNK_LIST_FULL
      [.v 2 n, .v 2 ((c.bound.map (·.stream)).getD 0), .v 4 c.entries]
    (s, { next with full := true })
  else
    let fp := if partial' || c.poison then List.replicate 32 0 else c.digest c.msg
    let entry := leBytes 8 c.start ++ leBytes 4 c.msg.length ++
      leBytes 4 (b2n partial' + 2 * b2n c.poison + 4 * b2n forced + 8 * b2n last) ++ fp ++ List.replicate 16 0
    let w := s.writeBytes { master := c.master, owner := c.owner } (c.list + 64 * c.entries) entry
    (w.1, { next with entries := c.entries + 1 })

/-- Bytes enter a context in order (06 R234, R244, R245); `poisoned` marks every chunk they touch; `fuel` bounds the chunks. -/
def State.feed (n : Nat) : Nat → State → HCtx → List Byte → Bool → State × HCtx
  | 0, s, c, _, _ => (s, c)
  | fuel + 1, s, c, l, poisoned =>
    if l.isEmpty then (s, c)
    else if c.mode = 0 then
      (s, { c with msg := c.msg ++ l, total := c.total + l.length, poison := c.poison || poisoned, anyPoison := c.anyPoison || poisoned })
    else
      let g := if c.mode = 2 then gearScan 0 c.msg.length c.gear l
        else
          let k := min c.grainLeft l.length
          (k, 0, if k = c.grainLeft then 1 else 0)
      let c := { c with
        msg := c.msg ++ l.take g.1, total := c.total + g.1, gear := g.2.1, poison := c.poison || poisoned }
      if g.2.2 = 0 then (s, c)
      else
        let r := s.endChunk n c (g.2.2 == 2) false
        State.feed n fuel r.1 r.2 (l.drop g.1) poisoned

/-- Feed bytes and count them. -/
def State.take (s : State) (n : Nat) (c : HCtx) (l : List Byte) (poisoned : Bool) : State × HCtx :=
  State.feed n (l.length + 1) (s.count64 Pg.HALLMARK Rg.HALLMARK_BYTES_LO l.length) c l poisoned

/-- The counts of a completion (06 R242). -/
def HCtx.counts (c : HCtx) (catchups : Nat) : Nat :=
  (c.total - c.jobStart) % 2 ^ 32 + 2 ^ 32 * ((c.entries - c.jobEntries) % 65536) + 2 ^ 48 * (catchups % 65536)

/-- The sealed compare of unit `u` with a digest (06 R239): the outcome is set in SEAL_STATUS, a mismatch recorded. -/
def State.sealCompare (s : State) (u ctx : Nat) (d : List Byte) : State × Nat :=
  let ok := d == mgetD (List.replicate 32 0) s.hall.seals u
  let s := (s.wb Pg.HALLMARK Rg.HALLMARK_SEAL_STATUS (2 * u) true).wb Pg.HALLMARK Rg.HALLMARK_SEAL_STATUS (2 * u + 1) ok
  if ok then (s, St.OK) else (s.log Pg.HALLMARK Ev.HALLMARK_SEAL_MISMATCH [.v 1 u, .v 2 ctx], St.AUTH_FAIL)

/-- The digest ends (06 R235, R238, R239): the last chunk ends, a sealed context compares, an open whole-mode digest is the
result. Answers the state, the context, the status, and the open digest. -/
def State.finish (s : State) (n : Nat) (c : HCtx) : State × HCtx × Nat × Option (List Byte) :=
  let e := if c.mode ≠ 0 ∧ c.msg.length ≠ 0 then s.endChunk n c false true else (s, c)
  let c := { e.2 with finished := true }
  let st := if c.anyPoison then St.POISON else if c.full then St.OUT_FULL else St.OK
  if c.sealed then
    let r := e.1.sealCompare c.unit n (c.digest c.msg)
    (r.1, c, worse st r.2, none)
  else (e.1, c, st, if c.mode = 0 then some (c.digest c.msg) else none)

/-- HALLMARK_INIT (06 R231, R232, R241). A sealed context is in whole mode: in the others its digests would be written to memory
(DESIGN CHOICE, log 37). -/
def execHallmarkInit (job : Nat) (s : State) : Res := jobAct s .hallmark 1 job fun s j =>
  let n := j.f 12 2
  let a := j.f 14 1
  let mode := bits a 5 4
  let slot := j.f 16 2
  let list := j.f 24 8
  if 4096 ≤ n ∨ a % 4 = 3 ∨ mode = 3 ∨ (bitOf a 2 ∧ 4095 < slot) ∨ (mode ≠ 0 ∧ (list % 64 ≠ 0 ∨ bitOf a 3)) ∨
      (mode = 1 ∧ 16383 < j.f 32 4) then (s, stRes St.BAD_INPUT)
  else if (s.hctx n).isSome then (s, stRes St.LOCKED)
  else
    let start := fun (k : Option (List Byte)) =>
      s.setHctx n (some {
        alg := a % 4, key := k, sealed := bitOf a 3, mode, unit := a / 64, phase := if mode = 1 then j.f 32 4 else 0,
        list, cap := j.f 20 4, owner := j.owner, master := j.engine.master j.inst })
    if bitOf a 2 then
      match s.keyFor slot Us.hmac with
      | .error c => (s, stRes c)
      | .ok k => (start (some k), stRes St.OK)
    else (start none, stRes St.OK)

/-- A context that a job may work on: in use and not finished (06 R232). -/
def State.openCtx (s : State) (n : Nat) : Option HCtx :=
  match s.hctx n with
  | some c => if c.finished then none else some c
  | none => none

/-- BIND (06 R233, R241): the context is attached to a producer's stream; the job completes at the stream's end. -/
def execBind (job : Nat) (s : State) : Res := jobActM s .hallmark 2 job fun s j =>
  let n := j.f 12 2
  match s.openCtx n with
  | none => (s, some (stRes St.BAD_INPUT))
  | some c =>
    let p := j.f 15 1
    if c.bound.isSome then (if (c.bound.map (·.job)) = some job then (s, none) else (s, some (stRes St.BAD_INPUT)))
    else if p ∉ [0x17, 0x18, 0x1E, 0x20] then (s, some (stRes St.BAD_INPUT))
    else
      (s.setHctx n (some { c with
        bound := some { producer := p, stream := j.f 18 2, job }, jobStart := c.total, jobEntries := c.entries, catchups := 0 }), none)

/-- The context bound to a stream. -/
def State.streamCtx (s : State) (producer stream : Nat) : Option (Nat × HCtx) :=
  match s.hall.ctxs.find? fun e => (e.2.bound.map fun b => (b.producer, b.stream)) == some (producer, stream) with
  | some e => if e.2.finished then none else some e
  | none => none

/-- SNOOP_BEAT (06 R234, R236): a beat of 1 to 32 enabled bytes at offset `off` of a stream lands in Spool at `addr`. One ahead of a
missing beat is not captured. -/
def execSnoopBeat (producer stream off addr : Nat) (data : List Byte) (poisoned : Bool) (s : State) : Res :=
  match s.streamCtx producer stream with
  | none => .next s
  | some (n, c) => actIf s (decide (0 < data.length) && decide (data.length ≤ 32) && decide (c.total ≤ off)) fun s =>
    let s := if poisoned then s.log Pg.HALLMARK Ev.HALLMARK_SNOOP_POISON [.v 2 n, .v 2 stream, .v 8 off] else s
    if off = c.total then
      let r := s.take n c data poisoned
      r.1.setHctx n (some r.2)
    else s.setHctx n (some { c with ahead := c.ahead ++ [(off, addr, data.length, poisoned)] })

/-- CATCHUP_READ (06 R234): the bytes that landed ahead and are now next in order are read back from Spool. -/
def execCatchupRead (producer stream : Nat) (s : State) : Res :=
  match s.streamCtx producer stream with
  | none => .next s
  | some (n, c) =>
    match c.ahead.find? fun a => a.1 == c.total with
    | none => .next s
    | some a => act s fun s =>
      let rd := s.readBytes { master := c.master, owner := c.owner } a.2.1 a.2.2.1
      let s := rd.1.countSat Pg.HALLMARK Rg.HALLMARK_CATCHUP_BYTES a.2.2.1
      let r := s.take n { c with ahead := c.ahead.erase a, catchups := c.catchups + 1 } rd.2.1
        (a.2.2.2 || rd.2.2 == St.POISON || rd.2.2 == St.TAG_FAIL)
      r.1.setHctx n (some r.2)

/-- STREAM_END (06 R235, R236): the producer ends the stream; the BIND job completes. -/
def execStreamEnd (producer stream : Nat) (s : State) : Res :=
  match s.streamCtx producer stream with
  | none => .next s
  | some (n, c) => actIf s c.ahead.isEmpty fun s =>
    let f := s.finish n c
    let id := (c.bound.map (·.job)).getD 0
    let done := fun (s : State) (st : Nat) =>
      s.setRes id { status := st, counts := f.2.1.counts f.2.1.catchups }
    let s := f.1.setHctx n (some { f.2.1 with bound := none })
    match mget s.eng.jobs id, f.2.2.2 with
    | some j, some d =>
      let w := s.writeBytes j.acc (j.f 24 8) d
      done w.1 (worse f.2.2.1 w.2)
    | _, _ => done s f.2.2.1

/-- DIGEST (06 R237): bytes from memory; a failed read leaves the context as it was. -/
def execDigest (job : Nat) (s : State) : Res := jobAct s .hallmark 3 job fun s j =>
  let n := j.f 12 2
  let len := j.f 20 4
  match s.openCtx n with
  | none => (s, stRes St.BAD_INPUT)
  | some c =>
    if len % 32 ≠ 0 then (s, stRes St.BAD_INPUT)
    else
      let rd := s.readBytes j.acc (j.f 24 8) len
      if !fine rd.2.2 then (rd.1, stRes rd.2.2)
      else
        let r := rd.1.take n { c with jobStart := c.total, jobEntries := c.entries } rd.2.1 false
        (r.1.setHctx n (some r.2),
          { status := worse rd.2.2 (if r.2.full then St.OUT_FULL else St.OK), counts := r.2.counts 0 })

/-- FINISH (06 R237 to R239): the last word, then the result. -/
def execFinish (job : Nat) (s : State) : Res := jobAct s .hallmark 4 job fun s j =>
  let n := j.f 12 2
  let k := j.f 15 1
  match s.openCtx n with
  | none => (s, stRes St.BAD_INPUT)
  | some c =>
    if 32 < k then (s, stRes St.BAD_INPUT)
    else
      let r := s.take n { c with jobStart := c.total, jobEntries := c.entries } (sliceB j.desc 32 k) false
      let f := r.1.finish n r.2
      let s := f.1.setHctx n (some f.2.1)
      let counts := f.2.1.counts 0
      match f.2.2.2 with
      | some d =>
        let w := s.writeBytes j.acc (j.f 24 8) d
        (w.1, { status := worse f.2.2.1 w.2, counts })
      | none => (s, { status := f.2.2.1, counts })

/-- HALLMARK_RELEASE (06 R232). -/
def execHallmarkRelease (job : Nat) (s : State) : Res := jobAct s .hallmark 5 job fun s j =>
  match s.hctx (j.f 12 2) with
  | none => (s, stRes St.BAD_INPUT)
  | some _ => (s.setHctx (j.f 12 2) none, stRes St.OK)

/-- HALLMARK_LW_CMD (06 R237 to R239, R270): the register path finishes the context of HALLMARK_LW_CTX. -/
def execHallmarkLwCmd (master value : Nat) (s : State) : Res := act s fun s =>
  s.regCmd { page := Pg.HALLMARK, off := Rg.HALLMARK_LW_CMD, master, value } fun s _ =>
    if !bitOf value 0 then s
    else
      let n := s.rf Pg.HALLMARK Rg.HALLMARK_LW_CTX 11 0
      let k := s.rf Pg.HALLMARK Rg.HALLMARK_LW_VALID_BYTES 5 0
      let status := fun (s : State) (c : Nat) => s.wrN Pg.HALLMARK Rg.HALLMARK_LW_STATUS 0 (256 * c)
      match s.openCtx n with
      | none => status s St.BAD_INPUT
      | some c =>
        if 32 < k then status s St.BAD_INPUT
        else
          let lw := ((List.range 8).flatMap fun i => leBytes 4 (s.rdN Pg.HALLMARK (Rg.HALLMARK_LW_DATA + 4 * i))).take k
          let r := s.take n c lw false
          let f := r.1.finish n r.2
          let s := status (f.1.setHctx n (some f.2.1)) f.2.2.1
          match f.2.2.2 with
          | some d => (List.range 8).foldl (fun s i => s.wrN Pg.HALLMARK (Rg.HALLMARK_LW_RESULT + 4 * i) 0 (leAt d (4 * i) 4)) s
          | none => s

/-- HALLMARK_SEAL_EXP_WRITE (06 R240): word `i` of the selected unit's expected value; unit 3 is refused by master. -/
def execHallmarkSealExpWrite (master i value : Nat) (s : State) : Res := actIf s (decide (i < 8)) fun s =>
  let w : RegW := { page := Pg.HALLMARK, off := Rg.HALLMARK_SEAL_EXP + 4 * i, master, value }
  let u := s.rf Pg.HALLMARK Rg.HALLMARK_SEAL_SEL 1 0
  if s.pageReady Pg.HALLMARK && u == 3 then s.refuseAt w 2
  else s.regCmd w fun s _ =>
    let e := mgetD (List.replicate 32 0) s.hall.seals u
    let s := { s with hall := { s.hall with seals := mput s.hall.seals u (e.take (4 * i) ++ leBytes 4 value ++ e.drop (4 * i + 4)) } }
    s.wb Pg.HALLMARK Rg.HALLMARK_SEAL_STATUS (2 * u) false

end Sys2Proof.Machine
end

