-- ==== Sys2Proof/Machine/Clasp.lean ====
section
/-! DEFINITION. Clasp mailboxes (14 R550 to R559). -/
namespace Sys2Proof.Machine

/-- Registers of channel `c`. -/
def outGo (c : Nat) : Nat := Rg.CLASP_OUT_GO + 0x80 * c
def outStatus (c : Nat) : Nat := Rg.CLASP_OUT_STATUS + 0x80 * c
def inStatus (c : Nat) : Nat := Rg.CLASP_IN_STATUS + 0x80 * c
def outMsg (c i : Nat) : Nat := Rg.CLASP_OUT_MSG + 0x80 * c + 4 * i
def inMsg (c i : Nat) : Nat := Rg.CLASP_IN_MSG + 0x80 * c + 4 * i
def bindReg (c : Nat) : Nat := Rg.CLASP_BIND + 4 * c

/-- Bits of OUT_STATUS: 0 busy, 1 delivered, 2 awaiting, 3 replied, 4 crossed, 5 waking. -/
def State.ostat (s : State) (c b : Nat) : Bool := s.rb Pg.CLASP (outStatus c) b
def State.setOstat (s : State) (c b : Nat) (v : Bool) : State := s.wb Pg.CLASP (outStatus c) b v

/-- A channel is bound; it is bound to the partner (14 R554); a latch wakes its receiver (14 R557). -/
def State.chBound (s : State) (c : Nat) : Bool := s.rb Pg.CLASP (bindReg c) 31
def State.chRemote (s : State) (c : Nat) : Bool := s.rb Pg.CLASP (bindReg c) 21
def State.chWakeOk (s : State) (c : Nat) : Bool := s.rb Pg.CLASP (bindReg c) 20

/-- The message of a channel's outbox. -/
def State.outWords (s : State) (c : Nat) : List Nat := (List.range 16).map fun i => s.rdN Pg.CLASP (outMsg c i)

/-- Set or end go, with its copy in the status (14 R551). -/
def State.endGo (s : State) (c code : Nat) : State :=
  ((s.wrN Pg.CLASP (outGo c) 0 0).setOstat c 0 false).wf Pg.CLASP (outStatus c) 15 8 code

/-- The power domains whose loss puts a master to sleep (14 R557): its service-core cluster, or its strand's bead
clusters. -/
def State.masterDomains (s : State) (m : Nat) : List Nat :=
  match svcCluster m with
  | some c => [8 + c]
  | none => if Ms.STRAND ≤ m ∧ m < Ms.STRAND + 64 then (s.strand (m - Ms.STRAND)).beads.map fun b => 14 + b / 64 else []

/-- The domains a sleeping receiver of a channel waits for. -/
def State.asleep (s : State) (c : Nat) : List Nat :=
  match s.bankMaster (s.claspBank c) with
  | some m => (s.masterDomains m).filter fun d => !s.domOn d
  | none => []

/-- A latch, or a GO on a full inbox, wakes a sleeping receiver on a wake_ok channel; the record gives the time the wake
takes, `us` (14 R557). One to the MP in P1 to P3 wakes the head (15 R581). -/
def State.wakeReceiver (s : State) (c us : Nat) : State :=
  let s := if s.chWakeOk c && s.bankMaster (s.claspBank c) == some Ms.MP && decide (1 ≤ s.headState) && decide (s.headState ≤ 3) then
      { s with power := { s.power with wakePend := true } }
    else s
  if s.chWakeOk c && !(s.asleep c).isEmpty && !s.ostat c 5 then
    let s := (s.asleep c).foldl (fun s d => s.requestOn d) s
    (s.setOstat c 5 true).log Pg.CLASP Ev.CLASP_WAKE [.v 1 c, .v 1 (s.claspBank c), .v 4 us]
  else s

/-- Channels that are the reverse of `c`: bound from its receiver's master back to its sender (14 R555). -/
def State.reverseOf (s : State) (c : Nat) : List Nat :=
  match s.claspSender c, s.bankMaster (s.claspBank c) with
  | some snd, some rcv => (List.range 64).filter fun d =>
      s.claspSender d == some rcv && s.bankMaster (s.claspBank d) == some snd
  | _, _ => []

/-- A message latches into inbox `c`: its words, its sender, the doorbell bit (14 R551). -/
def State.latchIn (s : State) (c sender : Nat) (words : List Nat) : State :=
  let s := (List.range 16).foldl (fun s i => s.wrN Pg.CLASP (inMsg c i) 0 (words.getD i 0)) s
  let s := s.wrN Pg.CLASP (inStatus c) 0 (1 + 2 ^ 16 * sender)
  s.wb Pg.CLASP (Rg.CLASP_DB_PEND + 4 * s.claspBank c) (s.rf Pg.CLASP (bindReg c) 19 15) true

/-- A message without await that latches on `c` is the reply every reverse channel that is awaiting waits for (14 R555).
A message sent with await is a request, not a reply, as the worked crossed wait shows (DEDUCED, log 34). -/
def State.reply (s : State) (c : Nat) : State :=
  (s.reverseOf c).foldl (fun s d => if s.ostat d 2 then (s.setOstat d 2 false).setOstat d 3 true else s) s

/-- Two reverse channels are awaiting at once: crossed in both, doorbell bit 31 in both banks (14 R556). -/
def State.checkCrossed (s : State) (c : Nat) : State :=
  (s.reverseOf c).foldl (fun s d =>
    if s.ostat c 2 && s.ostat d 2 && !(s.ostat c 4 && s.ostat d 4) then
      let s := (s.setOstat c 4 true).setOstat d 4 true
      let s := s.wb Pg.CLASP (Rg.CLASP_DB_PEND + 4 * s.claspBank c) 31 true
      let s := s.wb Pg.CLASP (Rg.CLASP_DB_PEND + 4 * s.claspBank d) 31 true
      let s := (s.countSat Pg.CLASP Rg.CLASP_CROSSED 1).irq Pg.CLASP 1
      s.log Pg.CLASP Ev.CLASP_CROSSED
        [.v 1 c, .v 1 d, .v 2 ((s.claspSender c).getD 0), .v 2 ((s.claspSender d).getD 0)]
    else s) s

/-- Delivery of an on-chip channel's message: latching (14 R551). -/
def State.deliver (s : State) (c wakeUs : Nat) : State :=
  let await := s.rb Pg.CLASP (outGo c) 1
  let s := s.latchIn c ((s.claspSender c).getD 0) (s.outWords c)
  let s := (s.endGo c St.OK).setOstat c 1 true
  let s := if await then s else s.reply c
  s.wakeReceiver c wakeUs

/-- A GO on a bound, enabled channel (14 R551, R552, R554, R555). -/
def State.go (s : State) (c wakeUs : Nat) : State :=
  let await := s.rb Pg.CLASP (outGo c) 1
  let s := (((s.setOstat c 0 true).setOstat c 1 false).setOstat c 4 false).wf Pg.CLASP (outStatus c) 15 8 St.OK
  let s := if await then (s.setOstat c 2 true).setOstat c 3 false else s
  let s :=
    if s.chRemote c then s.emit (.seam 25 0 (c :: (s.claspSender c).getD 0 :: s.outWords c))
    else if (s.bankMaster (s.claspBank c)).isNone then s.endGo c St.NOT_READY
    else if s.rb Pg.CLASP (inStatus c) 0 then s.wakeReceiver c wakeUs
    else s.deliver c wakeUs
  if await then s.checkCrossed c else s

/-- CLASP_GO (14 R551): GO of channel `c` is written. `wakeUs` is the time a wake it asks for takes. A GO while go is set
changes nothing; one on a channel that is not bound, or while the page is disabled, ends with NOT_READY. -/
def execClaspGo (master c value wakeUs : Nat) (s : State) : Res := actIf s (decide (c < 64)) fun s =>
  let w : RegW := { page := Pg.CLASP, off := outGo c, master, value }
  let s0 := s
  match s.regWrite w with
  | (s, none) => if s.pageReady Pg.CLASP && !s.chBound c then s.wf Pg.CLASP (outStatus c) 15 8 St.NOT_READY else s
  | (s, some old) =>
    if bitOf old 0 then s0
    else if !bitOf value 0 then s
    else if !s.rb Pg.CLASP Rg.CLASP_CFG 0 then s.endGo c St.NOT_READY
    else s.go c wakeUs

/-- A partner message that latches is acknowledged to the partner's Clasp (14 R554). -/
def State.deliverRemote (s : State) (c sender : Nat) (words : List Nat) (wakeUs : Nat) : State :=
  let s := (s.latchIn c sender words).emit (.seam 25 1 [c, St.OK])
  ((s.reply c).wakeReceiver c wakeUs)

/-- CLASP_IN_REL (14 R552): the receiver frees the inbox; the message that waits for it latches. -/
def execClaspInRel (master c value wakeUs : Nat) (s : State) : Res := actIf s (decide (c < 64)) fun s =>
  s.regCmd { page := Pg.CLASP, off := Rg.CLASP_IN_REL + 0x80 * c, master, value } fun s _ =>
    if !bitOf value 0 then s
    else
      let s := s.wb Pg.CLASP (inStatus c) 0 false
      match mget s.clasp.waiting c with
      | some (snd, ws) => ({ s with clasp := { s.clasp with waiting := mdel s.clasp.waiting c } }).deliverRemote c snd ws wakeUs
      | none => if s.rb Pg.CLASP (outGo c) 0 && !s.chRemote c then s.deliver c wakeUs else s

/-- CLASP_TIMEOUT_EXPIRY (14 R553): the message of channel `c` has not latched within its timeout, which does not run while a
wake is in progress (14 R557). -/
def execClaspTimeoutExpiry (c : Nat) (s : State) : Res :=
  actIf s (decide (c < 64) && s.rb Pg.CLASP (outGo c) 0 && !s.ostat c 5) fun s =>
    let s := (s.endGo c St.TIMEOUT).countSat Pg.CLASP Rg.CLASP_TIMEOUTS 1
    (s.irq Pg.CLASP 0).log Pg.CLASP Ev.CLASP_TIMEOUT
      [.v 1 c, .v 2 ((s.claspSender c).getD 0), .v 1 (s.claspBank c), .v 1 (b2n (s.chRemote c))]

/-- REMOTE_CLASP_MESSAGE (14 R554): a message of the partner's master `sender` on channel `c`. It latches only where this head's
channel is bound with sender 0x200 + `sender`; it waits for a full inbox; any other binding discards it with LOCKED. -/
def execRemoteClaspMessage (c sender : Nat) (words : List Nat) (wakeUs : Nat) (s : State) : Res :=
  actIf s (decide (c < 64)) fun s =>
    if s.claspSender c ≠ some (Ms.PARTNER + sender) then s.emit (.seam 25 1 [c, St.LOCKED])
    else if s.rb Pg.CLASP (inStatus c) 0 then
      ({ s with clasp := { s.clasp with waiting := mput s.clasp.waiting c (Ms.PARTNER + sender, words) } }).wakeReceiver c wakeUs
    else s.deliverRemote c (Ms.PARTNER + sender) words wakeUs

/-- REMOTE_LATCH_ACK (14 R554): the partner's answer for a remote channel: latched, or LOCKED. -/
def execRemoteLatchAck (c : Nat) (latched : Bool) (s : State) : Res :=
  actIf s (decide (c < 64) && s.chRemote c && s.rb Pg.CLASP (outGo c) 0) fun s =>
    if latched then
      let await := s.rb Pg.CLASP (outGo c) 1
      let s := (s.endGo c St.OK).setOstat c 1 true
      if await then s else s.reply c
    else s.endGo c St.LOCKED

end Sys2Proof.Machine
end

