-- ==== Sys2Proof/Machine/Locket.lean ====
section
/-! DEFINITION. Locket's commands and the GTS page's (14 R562 to R575, 01 R55 to R57). -/
namespace Sys2Proof.Machine

/-- Set Locket's entry of the state. -/
def State.setLocket (s : State) (L : Locket) : State := { s with locket := L }

/-- LOCKET_RECORD (14 R562): a source hands over a record it took at `gts`. -/
def execLocketRecord (gts source code : Nat) (payload : List Byte) (s : State) : Res := act s fun s =>
  s.accept gts source code payload

/-- LOCKET_HANDOVER_TIMEOUT (14 R564): a record not accepted within 100 ns is dropped and counted. -/
def execLocketHandoverTimeout (s : State) : Res := act s fun s =>
  let s := (s.countSat Pg.LOCKET Rg.LOCKET_DROPPED 1).irq Pg.LOCKET 0
  s.setLocket { s.locket with dropPend := s.locket.dropPend + 1 }

/-- Records held and not yet spilled. -/
def State.unspilled (s : State) : List LkRec := s.locket.recs.filter fun r => decide (s.locket.spilled ≤ r.seq)

/-- The vault's Locket area holds 1,048,576 records; the oldest page is overwritten first (14 R566). -/
def vaultDepth : Nat := 1048576

/-- Append a page to the vault area. -/
def State.toVault (s : State) (page : List LkRec) : State :=
  let v := s.locket.vault ++ page
  s.setLocket { s.locket with vault := if vaultDepth < v.length then v.drop 64 else v }

/-- SPILL_PAGE (14 R566, R567, R572): the oldest records not yet spilled, 64 at most, go to the vault; a gap left by records
overwritten before is then recorded. -/
def execSpillPage (s : State) : Res :=
  actIf s (s.locket.based && s.rb Pg.LOCKET Rg.LOCKET_CFG 0 && bitOf s.boot.ready Pg.LOCKET) fun s =>
    let page := s.unspilled.take 64
    match page.getLast? with
    | none => s
    | some l =>
      let s := s.toVault page
      let gap := s.locket.gap
      let s := s.setLocket { s.locket with spilled := l.seq + 1, gap := none }
      match gap with
      | none => s
      | some (a, b) => s.log Pg.LOCKET Ev.LOCKET_SPILL_GAP [.v 8 a, .v 8 b]

/-- Add the base to the seq fields of a record: its own, and those in the payload of LOCKET_SPILL_GAP and LOCKET_CLEARED
(14 R565). -/
def LkRec.rebase (r : LkRec) (base : Nat) : LkRec :=
  let add := fun (a : Nat) (p : List Byte) => p.take a ++ leBytes 8 (leAt p a 8 + base) ++ p.drop (a + 8)
  { r with
    seq := r.seq + base
    payload := if r.code = Ev.LOCKET_SPILL_GAP then add 8 (add 0 r.payload)
      else if r.code = Ev.LOCKET_CLEARED then add 16 (add 8 r.payload) else r.payload }

/-- LOCKET_SEQ_BASE_HI_WRITE (14 R565, R700): the base is added to every record held; spill and ring copying begin. After a
reset that kept the store, the write is ignored and recorded in ERR_INFO. -/
def execLocketSeqBaseHiWrite (master value : Nat) (s : State) : Res := act s fun s =>
  s.regCmd { page := Pg.LOCKET, off := Rg.LOCKET_SEQ_BASE_HI, master, value } fun s _ =>
    let base := s.rd64 Pg.LOCKET Rg.LOCKET_SEQ_BASE_LO
    let L := s.locket
    s.setLocket { L with
      recs := L.recs.map (·.rebase base), next := L.next + base, spilled := L.spilled + base
      gap := L.gap.map fun g => (g.1 + base, g.2 + base), based := true }

/-- LOCKET_SEQ_NEXT_LO_READ (14 R572): latches the high half. -/
def execLocketSeqNextLoRead (master : Nat) (s : State) : Res := act s fun s =>
  s.readCmd Pg.LOCKET Rg.LOCKET_SEQ_NEXT_LO master fun s =>
    s.wrN Pg.LOCKET Rg.LOCKET_SEQ_NEXT_HI 0 (s.locket.next / 2 ^ 32)

/-- The window takes a record, or reads 0 (14 R568). -/
def State.setWindow (s : State) (r : Option LkRec) : State :=
  let b := match r with | some r => r.bytes | none => List.replicate 64 0
  let s := (List.range 16).foldl (fun s i => s.wrN Pg.LOCKET (Rg.LOCKET_WIN_DATA + 4 * i) 0 (leAt b (4 * i) 4)) s
  s.wb Pg.LOCKET Rg.LOCKET_WIN_STATUS 0 r.isNone

/-- LOCKET_WIN_DATA0_READ (14 R568): latches the record at the cursor; in ring mode the window reads 0 (14 R569). -/
def execLocketWinData0Read (master : Nat) (s : State) : Res := act s fun s =>
  s.readCmd Pg.LOCKET Rg.LOCKET_WIN_DATA master fun s =>
    if s.rb Pg.LOCKET Rg.LOCKET_CFG 1 then s
    else
      let cur := s.rd64 Pg.LOCKET Rg.LOCKET_WIN_CURSOR_LO
      let old := s.oldestSeq
      let s := if cur < old then
          (s.wr64 Pg.LOCKET Rg.LOCKET_WIN_CURSOR_LO old).wb Pg.LOCKET Rg.LOCKET_WIN_STATUS 1 true
        else s
      s.setWindow (s.locket.recs.find? fun r => r.seq == max cur old)

/-- LOCKET_WIN_DATA15_READ (14 R568): advances the cursor unless the window is empty (or off, in ring mode). -/
def execLocketWinData15Read (master : Nat) (s : State) : Res := act s fun s =>
  if s.pageReady Pg.LOCKET && !s.rb Pg.LOCKET Rg.LOCKET_WIN_STATUS 0 && !s.rb Pg.LOCKET Rg.LOCKET_CFG 1 then
    let s := s.readCmd Pg.LOCKET (Rg.LOCKET_WIN_DATA + 60) master id
    s.wr64 Pg.LOCKET Rg.LOCKET_WIN_CURSOR_LO (s.rd64 Pg.LOCKET Rg.LOCKET_WIN_CURSOR_LO + 1)
  else s.readCmd Pg.LOCKET (Rg.LOCKET_WIN_DATA + 60) master id

/-- A new challenge from the random source (14 R570): a free value. -/
def State.newChallenge (s : State) : State :=
  let a := s.free
  let b := a.2.free
  b.2.setLocket { b.2.locket with chal := a.1.toNat + 2 ^ 32 * b.1.toNat }

/-- LOCKET_CLEAR_CHAL_LO_READ (14 R570): latches the challenge's high half and the present LOCKET_SEQ_NEXT. -/
def execLocketClearChalLoRead (master : Nat) (s : State) : Res := act s fun s =>
  s.readCmd Pg.LOCKET Rg.LOCKET_CLEAR_CHAL_LO master fun s =>
    (s.wrN Pg.LOCKET Rg.LOCKET_CLEAR_CHAL_HI 0 (s.locket.chal / 2 ^ 32)).wr64 Pg.LOCKET Rg.LOCKET_CLEAR_SEQ_LO s.locket.next

/-- The status of a clear attempt (14 R570, R571): a refused one within the last second bars it without a check; a slot
without hmac usage is AUTH_FAIL, since R571 names no other code (DEDUCED, log 35). -/
def State.clearCode (s : State) : Nat :=
  let barred := match s.locket.refusedAt with | some t => decide (s.gts < t + 1000000000) | none => false
  if barred then St.AUTH_FAIL
  else match s.keyFor (s.rf Pg.LOCKET Rg.LOCKET_CFG 27 16) Us.hmac with
    | .error c => if c = St.KEY_EMPTY then c else St.AUTH_FAIL
    | .ok k =>
      let msg := leBytes 8 s.locket.chal ++ leBytes 8 (s.rd64 Pg.LOCKET Rg.LOCKET_CLEAR_SEQ_LO)
      if ofLE ((hmac 0 k msg).take 8) = s.rd64 Pg.LOCKET Rg.LOCKET_CLEAR_TOKEN_LO then St.OK else St.AUTH_FAIL

/-- A clear that passes (14 R571): LOCKET_CLEARED, with seq C, then every record below C is erased from SRAM, ring and vault. -/
def State.clearRecords (s : State) (master : Nat) : State :=
  let c := s.locket.next
  let first := match s.locket.vault, s.locket.recs with
    | v :: _, _ => v.seq
    | [], r :: _ => r.seq
    | [], [] => c
  let gone := s.locket.recs.filter fun r => decide (r.seq < c) && decide (c < r.seq + 65536)
  let ring := s.locket.based && s.rb Pg.LOCKET Rg.LOCKET_CFG 0 && s.rb Pg.LOCKET Rg.LOCKET_CFG 1
  let s := s.log Pg.LOCKET Ev.LOCKET_CLEARED [.v 2 master, .v 8 first, .v 8 (c - 1)]
  let s := if ring then gone.foldl (fun s r =>
      s.poke (s.rd64 Pg.LOCKET Rg.LOCKET_RING_BASE_LO + r.seq % 65536 * 64) (List.replicate 64 0)) s else s
  let L := s.locket
  (s.setLocket { L with
    recs := L.recs.filter fun r => decide (c ≤ r.seq), vault := L.vault.filter fun r => decide (c ≤ r.seq)
    spilled := max L.spilled c, gap := none }).irq Pg.LOCKET 2

/-- LOCKET_CLEAR_CMD (14 R570, R571). -/
def execLocketClearCmd (master value : Nat) (s : State) : Res := act s fun s =>
  s.regCmd { page := Pg.LOCKET, off := Rg.LOCKET_CLEAR_CMD, master, value } fun s _ =>
    if !bitOf value 0 then s
    else
      let code := s.clearCode
      let s := if code = St.OK then s.clearRecords master
        else
          let s := (s.log Pg.LOCKET Ev.LOCKET_CLEAR_REFUSED [.v 2 master, .v 1 code]).irq Pg.LOCKET 3
          s.setLocket { s.locket with refusedAt := some s.gts }
      s.newChallenge.wrN Pg.LOCKET Rg.LOCKET_CLEAR_STATUS 0 (256 * code)

/-! ### GTS page -/

/-- GTS_NOW_LO_READ (14 R573): latches GTS_NOW_HI. -/
def execGtsNowLoRead (master : Nat) (s : State) : Res := act s fun s =>
  s.readCmd Pg.GTS Rg.GTS_NOW_LO master fun s => s.wrN Pg.GTS Rg.GTS_NOW_HI 0 (s.gts / 2 ^ 32)

/-- GTS_CAL_SECONDS_LO_READ (14 R573): latches the high seconds, CAL_NS and unsync from the same instant. -/
def execGtsCalSecondsLoRead (master : Nat) (s : State) : Res := act s fun s =>
  s.readCmd Pg.GTS Rg.GTS_CAL_SECONDS_LO master fun s =>
    (s.wrN Pg.GTS Rg.GTS_CAL_SECONDS_HI 0 (s.cal.seconds / 2 ^ 32 % 256)).wrN Pg.GTS Rg.GTS_CAL_NS 0
      (s.cal.ns % 2 ^ 30 + 2 ^ 31 * b2n s.cal.unsync)

/-- GTS_CAL_CMD (01 R56, 14 R573, R574): the MP sets calendar time; nanoseconds out of range are ignored and recorded. -/
def execGtsCalCmd (master value : Nat) (s : State) : Res := act s fun s =>
  let w : RegW := { page := Pg.GTS, off := Rg.GTS_CAL_CMD, master, value }
  s.regCmd w fun s _ =>
    let ns := s.rf Pg.GTS Rg.GTS_CAL_SET_NS 29 0
    if !bitOf value 0 then s
    else if 999999999 < ns then s.ignoreW w
    else
      let new := s.rd64 Pg.GTS Rg.GTS_CAL_SET_LO % 2 ^ 40
      let old := s.cal
      { s with cal := { seconds := new, ns, unsync := false } }.log Pg.GTS Ev.GTS_CAL_SET
        [.v 8 old.seconds, .v 8 new, .v 4 ns, .v 1 (b2n old.unsync)]

/-- CAL_SECOND_ROLLOVER (01 R55, R57): the time until CAL_NS passes 999,999,999 has gone by. In P4 Thimble keeps the
seconds. -/
def execCalSecondRollover (s : State) : Res :=
  if s.headState = 4 ∧ s.power.aon then
    .next (s.wr64 Pg.THIMBLE Rg.THIMBLE_SECONDS_LO ((s.rd64 Pg.THIMBLE Rg.THIMBLE_SECONDS_LO + 1) % 2 ^ 40))
  else act s fun s =>
    { s with
      gts := s.gts + (1000000000 - s.cal.ns)
      cal := { s.cal with seconds := (s.cal.seconds + 1) % 2 ^ 40, ns := 0 } }

end Sys2Proof.Machine
end

