-- ==== Sys2Proof/Machine/Stitch.lean ====
section
/-! DEFINITION. Commands of the STITCH and PCIE families: jobs, module completions, attach and removal (11 R433 to R485). -/
namespace Sys2Proof.Machine

/-! ### Jobs (11 R448 to R450) -/

/-- The access a module makes to head memory for a command: under the descriptor's owner (11 R438). -/
def ModCmd.acc (c : ModCmd) : Acc := { master := Ms.MODULE + c.module, owner := c.owner }

/-- A job's command is outstanding already. -/
def State.sent (s : State) (id : Nat) : Bool := s.stitch.cmds.any fun e => e.2.job == some id

/-- A Stitchline job sends its command to a module that is ATTACHED; it ends when the module's completion arrives. At 65,536
outstanding commands it waits (11 R443), as it does at PATTERN_DIE_QD commands on its die (12 R499). A gather list is read before
anything is sent (07 R702, 11 R444). -/
def modJob (op id : Nat) (s : State) : Res := jobActM s .stitch op id fun s j =>
  if s.sent id then (s, none)
  else if bitOf (j.f 14 1) 0 ∧ op ≤ 3 ∧ j.f 32 8 % 64 ≠ 0 then (s, some (stRes St.BAD_INPUT))
  else if s.modState j.module ≠ 4 ∨ (s.module j.module).detaching then (s, some (stRes St.NOT_READY))
  else if (op = 3 ∨ op = 4) ∧ !s.roleHeld j.role then (s, some (stRes St.LOCKED))
  else if 65536 ≤ s.rdN Pg.STITCH Rg.STITCH_INFLIGHT then (s, none)
  else if op ≤ 4 ∧ s.rf Pg.PATTERN Rg.PATTERN_DIE_QD 5 0 ≤ s.onDie j.module (j.f 28 1) then (s, none)
  else
    let c := s.cmdOf id j
    let a := s.areas c.acc (c.list && decide (op ≤ 3)) c.addr c.length
    match a.2 with
    | .error e => (a.1, some (stRes e))
    | .ok _ => (a.1.sendMod c, none)

/-- READ, SOFT_READ, PROGRAM, ERASE, IDENTIFY, LOAD_PROFILE, DEFECT_MAP, TELEMETRY, GET_WITNESS, W_CAS, SET_EPOCH: one job each of
11 R445. -/
def execRead (job : Nat) (s : State) : Res := modJob 0x01 job s
def execSoftRead (job : Nat) (s : State) : Res := modJob 0x02 job s
def execProgram (job : Nat) (s : State) : Res := modJob 0x03 job s
def execErase (job : Nat) (s : State) : Res := modJob 0x04 job s
def execIdentify (job : Nat) (s : State) : Res := modJob 0x12 job s
def execLoadProfile (job : Nat) (s : State) : Res := modJob 0x13 job s
def execDefectMap (job : Nat) (s : State) : Res := modJob 0x14 job s
def execTelemetry (job : Nat) (s : State) : Res := modJob 0x15 job s
def execGetWitness (job : Nat) (s : State) : Res := modJob 0x16 job s
def execWCas (job : Nat) (s : State) : Res := modJob 0x17 job s
def execSetEpoch (job : Nat) (s : State) : Res := modJob 0x18 job s

/-- CREATE_QP, DELETE_QP: refused as jobs (11 R448). -/
def execCreateQp (job : Nat) (s : State) : Res := jobAct s .stitch 0x10 job fun s _ => (s, stRes St.BAD_INPUT)
def execDeleteQp (job : Nat) (s : State) : Res := jobAct s .stitch 0x11 job fun s _ => (s, stRes St.BAD_INPUT)

/-! ### Completions (11 R446, R447, R451) -/

/-- The job status of a module status. A value outside the table counts as INVALID (DESIGN CHOICE, log 44). -/
def statusOf (ms : Nat) : Nat :=
  if ms = 0 then St.OK else if ms = 2 ∨ ms = 3 ∨ ms = 7 then St.POISON else if ms = 4 then St.STALE_EPOCH
  else if ms = 8 then St.ABORTED_BY_RESET else St.BAD_INPUT

/-- Write data through a command's buffer, an area or a gather list; the status the accesses give. -/
def State.modWrite (s : State) (c : ModCmd) (addr : Nat) (isList : Bool) (data : List Byte) : State × Nat :=
  if data.isEmpty then (s, St.OK)
  else
    let a := s.areas c.acc isList addr data.length
    match a.2 with
    | .ok l => a.1.writeAreas c.acc l data
    | .error e => (a.1, e)

/-- What a module reads from head memory for a command: the profile of LOAD_PROFILE, the data of PROGRAM. -/
def State.modRead (s : State) (c : ModCmd) : State × List Byte × Nat :=
  if c.opcode = 0x13 then s.readBytes c.acc c.addr 4096
  else if c.opcode = 3 then
    let a := s.areas c.acc c.list c.addr c.length
    match a.2 with
    | .ok l => a.1.readAreas c.acc l
    | .error e => (a.1, [], e)
  else (s, [], St.OK)

/-- The range [lo, hi) of a codeword of a READ within its data: offset and length (11 R445, Reading). -/
def ModCmd.part (c : ModCmd) (i : Nat) : Nat × Nat :=
  let base := c.offset / 65536 * 65536 + 4096 * i
  let lo := max base c.offset
  let hi := min (base + 4096) (c.offset + c.length)
  (lo - c.offset, hi - lo)

/-- Codewords a READ covers. -/
def ModCmd.words (c : ModCmd) : List Nat := (List.range 16).filter fun i => (c.part i).2 != 0

/-- Write the bytes of one codeword of a READ at its place, poisoned or not (11, Reading). A gather list's bytes keep their
order. The status the accesses give. -/
def State.putWord (s : State) (c : ModCmd) (i : Nat) (data : List Byte) (poison : Bool) : State × Nat :=
  let p := c.part i
  let a := s.areas c.acc c.list c.addr c.length
  match a.2 with
  | .error e => (a.1, e)
  | .ok l =>
    -- the areas of the bytes [p.1, p.1 + p.2)
    let cut := l.foldl (fun (acc : List (Nat × Nat) × Nat) x =>
      let lo := max acc.2 p.1
      let hi := min (acc.2 + x.2) (p.1 + p.2)
      (if lo < hi then acc.1 ++ [(x.1 + (lo - acc.2), hi - lo)] else acc.1, acc.2 + x.2)) ([], 0)
    let w := a.1.writeAreas c.acc cut.1 (padTo p.2 data)
    if poison && fine w.2 then
      (cut.1.foldl (fun s x => (linesOf x.1 x.2).foldl (fun s q => s.setLine q.1 { (s.line q.1) with poison := true }) s) w.1, w.2)
    else w

/-- Write several codewords, each with its data; the worst status. -/
def State.putWords (s : State) (c : ModCmd) (ws : List (Nat × List Byte)) : State × Nat :=
  ws.foldl (fun acc w =>
    let r := acc.1.putWord c w.1 w.2 false
    (r.1, worse acc.2 r.2)) (s, St.OK)

/-- Counts of a completion record (11 R451), by bit of the counts field. -/
def modCounts (c : ModCmd) (r : ModRes) (bytes : Nat) (a : ModAns) (failed : Nat) : Nat :=
  (if c.opcode = 0x17 then r.holder + 2 ^ 16 * b2n r.swapped else bytes) + 2 ^ 32 * (r.mstatus % 256) +
    2 ^ 40 * (c.softReads % 256) +
    2 ^ 48 * (if c.opcode = 1 then failed else if c.opcode = 3 ∨ c.opcode = 4 then a.temp % 256 else 0) + 2 ^ 64 * r.value

/-- The hottest of a list of signed temperature bytes, 0x80 for none. -/
def hottest (l : List Nat) : Nat :=
  l.foldl (fun m t => if t = 0x80 then m else if m = 0x80 ∨ sext 8 m < sext 8 t then t else m) 0x80

/-- A TELEMETRY result (11 R445, R478): bytes 0 to 255 the dies, byte 256 the hottest sensor. -/
def State.takeTemps (s : State) (n : Nat) (data : List Byte) : State :=
  let t := (padTo 257 data).map (·.toNat)
  let s := s.setModule n { s.module n with temps := t }
  let s := s.wf (stPage n) Rg.STITCH_MOD_TEMP 7 0 (hottest (t.take 256)) (n % 8)
  { s with stitch := { s.stitch with tempAt := mput s.stitch.tempAt n s.gts } }

/-- The effect of a successful command at the host beside its data: what the command reads back. -/
def State.noteResult (s : State) (c : ModCmd) (a : ModAns) : State :=
  if c.opcode = 0x15 then s.takeTemps c.module a.data
  else if c.opcode = 0x16 then s.checkFence c.module
  else if c.opcode = 0x11 then
    -- a timed-out queue's commands have completed with ABORTED, and the queue is created anew (11 R471)
    let s := (s.abortCmds fun x => x.module == c.module && x.queue == c.arg).1
    let m := s.module c.module
    (s.setModule c.module { m with deleting := none, qps := insertNew c.arg m.qps }).emit (.module c.module 0x10 [c.arg])
  else s

/-- Data a successful command returns at addr, and at addr2. -/
def State.returned (s : State) (c : ModCmd) (a : ModAns) : List Byte × List Byte :=
  match c.opcode with
  | 1 => (padTo c.length a.data, [])
  | 2 => (a.data, a.data2)
  | 0x12 => (padTo 4096 a.data, [])
  | 0x14 => (a.data.take 4096, [])
  | 0x15 => (padTo 512 a.data, [])
  | 0x16 => ((s.module c.module).witness, [])
  | _ => ([], [])

/-- First decodes are counted (09 R397, 11 R458). -/
def State.countDecode (s : State) (failed : Bool) : State :=
  s.count Pg.MAPPER (if failed then Rg.MAPPER_THR_FIRST_FAIL else Rg.MAPPER_THR_FIRST_OK) 1

/-- MODULE_COMPLETION (11 R446, R447): the module's answer to outstanding command `id`. Its own state decides what it can; the
rest is the answer `a`. A READ whose hard decode failed on some codewords delivers the others and goes on to soft reads. -/
def execModuleCompletion (id : Nat) (a : ModAns) (s : State) : Res :=
  match mget s.stitch.cmds id with
  | none => .next s
  | some c => actIf s c.soft.isEmpty fun s =>
    let m := a.peer.foldl Module.peer (s.module c.module)
    let src := s.modRead c
    let r := m.run c a src.2.1
    let s := src.1.setModule c.module r.1
    let ms := r.2.mstatus
    let s := if ms = 4 then
        (s.countSat (stPage c.module) Rg.STITCH_MOD_STALE 1 (c.module % 8)).logI Pg.STITCH (c.module / 8) Ev.STITCH_STALE_EPOCH
          [.v 1 c.module, .v 1 c.role, .v 8 c.epoch, .v 8 (m.roles.getD c.role 0)]
      else if ms = 7 then
        (s.logI Pg.STITCH (c.module / 8) Ev.STITCH_DIE_FAIL [.v 1 c.module, .v 1 c.die]).retireDie c.module c.die
      else if ms = 0 ∧ c.opcode = 3 then s.noteProgram c.module c.die c.block c.offset c.length a.temp
      else if ms ≤ 1 ∧ (c.opcode = 1 ∨ c.opcode = 2) then s.noteRead c.module c.die c.block
      else s
    if c.opcode = 1 ∧ ms = 1 then
      let bad := c.words.filter fun i => bitOf a.failed i
      let s := s.countDecode (!bad.isEmpty)
      let w := s.putWords c ((c.words.filter fun i => decide (i ∉ bad)).map fun i => (i, (padTo c.length a.data).drop (c.part i).1))
      let s := w.1.fieldSat (stPage c.module) Rg.STITCH_MOD_DECODE 15 0 bad.length (c.module % 8)
      let s := bad.foldl (fun s i => s.emit (.module c.module 2 [i])) s
      if bad.isEmpty then s.endCmd id c { status := worse w.2 St.OK, counts := modCounts c r.2 c.length a 0 }
      else { s with stitch := { s.stitch with
              cmds := mput s.stitch.cmds id { c with soft := bad, softReads := bad.length, maxBits := a.maxBits, access := w.2 } } }
    else
      let ok := ms == 0
      let d := if ok then s.returned c a else ([], [])
      let s := if ok && c.opcode == 1 then s.countDecode false else s
      let w := s.modWrite c c.addr (c.list && decide (c.opcode ≤ 3)) d.1
      let w2 := w.1.modWrite c c.addr2 false d.2
      let s := if ok then w2.1.noteResult c a else w2.1
      let bytes := if !ok then 0 else if c.opcode = 3 then c.length else d.1.length + d.2.length
      let access := worse (worse src.2.2 w.2) w2.2
      s.endCmd id c { status := worse (statusOf ms) access, counts := modCounts c r.2 bytes a 0 }

/-- Learn a byte position at which the deep decoder has corrected 4 or more bits in 8 codewords of one plane of one die within
one hour (11 R457). -/
def Module.learn (m : Module) (gts die plane : Nat) (positions : List Nat) : Module :=
  positions.foldl (fun m p =>
    let fixes := (die, p, plane, gts) :: m.fixes.filter fun f => gts < f.2.2.2 + 3600000000000
    let n := (fixes.filter fun f => f.1 == die && f.2.1 == p && f.2.2.1 == plane).length
    let old := mgetD [] m.defects die
    let e := p + plane * 65536
    { m with
      fixes
      defects := if 8 ≤ n ∧ e ∉ old ∧ old.length < 1024 then mput m.defects die (old ++ [e]) else m.defects }) m

/-- DEEP_DECODE_DONE (11 R456, Reading): the deep decoder ends with codeword `cw` of READ `id`: the 4,096 user bytes, or none when
it gives up; `fixed` are the byte positions it corrected 4 or more bits at, on plane `plane`. -/
def execDeepDecodeDone (id cw : Nat) (user : Option (List Byte)) (plane : Nat) (fixed : List Nat) (s : State) : Res :=
  match mget s.stitch.cmds id with
  | none => .next s
  | some c => actIf s (decide (cw ∈ c.soft)) fun s =>
    let base := c.offset / 65536 * 65536 + 4096 * cw
    let w := match user with
      | some u => s.putWord c cw ((padTo 4096 u).drop (max base c.offset - base)) false
      | none => s.putWord c cw zeroLine true
    let s := match user with
      | some _ => w.1.setModule c.module ((w.1.module c.module).learn s.gts c.die plane fixed)
      | none =>
        let s := w.1.fieldSat (stPage c.module) Rg.STITCH_MOD_DECODE 31 16 1 (c.module % 8)
        s.logI Pg.STITCH (c.module / 8) Ev.STITCH_DEEP_FAIL [.v 1 c.module, .v 1 c.die, .v 4 c.block, .v 1 cw]
    let c := { c with soft := c.soft.filter (· != cw), lost := if user.isSome then c.lost else c.lost + 2 ^ cw, access := worse c.access w.2 }
    if c.soft.isEmpty then
      s.endCmd id c {
        status := worse c.access (if c.lost = 0 then St.OK else St.POISON)
        counts := modCounts c { mstatus := 1 } c.length {} c.lost }
    else { s with stitch := { s.stitch with cmds := mput s.stitch.cmds id c } }

/-! ### Attach (11 R471, R475, R476) -/

/-- A module enters FAILED (11 R471, R472): its jobs end, MOD_PERST_N is asserted. `cause`: 0 removal, 1 link, 2 fatal,
3 configuration, 4 fence. -/
def State.modFail (s : State) (n cause : Nat) : State :=
  let r := s.abortCmds fun c => c.module == n
  let s := (r.1.setPerst n false).setModState n 5
  let s := s.setModule n { s.module n with detaching := false, deleting := none, failedOnce := true, qps := [], tails := [] }
  (s.logI Pg.STITCH (n / 8) Ev.STITCH_MOD_FAILED [.v 1 n, .v 1 cause, .v 4 r.2]).moduleFailed n

/-- The link of a module's port is down. -/
def State.linkDown (s : State) (n : Nat) (surprise : Bool) : State :=
  let s := s.wrN (pciePage n) Rg.PCIE_PORT_STATUS (n % 8) 0
  let s := if surprise then s.wb (pciePage n) Rg.PCIE_PORT_ERR 4 true (n % 8) else s
  s.logI Pg.PCIE (n / 8) Ev.PCIE_LINK_DOWN [.v 1 (n / 8), .v 1 (n % 8), .v 1 (b2n surprise)]

/-- Jobs end and the module's link trains again (11 R450, R471). -/
def State.toLinking (s : State) (n : Nat) : State :=
  let s := (s.abortCmds fun c => c.module == n).1
  (s.setModule n { s.module n with deleting := none, qps := [], tails := [] }).setModState n 2

/-- Ask for power for an absent module. -/
def State.askPower (s : State) (n : Nat) : State :=
  let s := s.requestOn (32 + n)
  if s.domSt (32 + n) = 0 then s else s.setModState n 1

/-- MODULE_PRESENT (11 R471): MOD_PRSNT_N of module `n` has been low for 50 ms. -/
def execModulePresent (n : Nat) (s : State) : Res := actIf s (decide (n < 32)) fun s =>
  let s := s.setPresent n true
  if s.modState n = 0 ∧ s.rb (stPage n) Rg.STITCH_MOD_CFG 4 (n % 8) then s.askPower n else s

/-- The module a STITCH page's registers show. -/
def State.selMod (s : State) (inst : Nat) : Nat := 8 * inst + s.rf (Pg.STITCH + inst) Rg.STITCH_MOD_SEL 2 0

/-- A command of STITCH_MOD_CTRL, bit `b` the lowest written: in a state that does not allow it, it is ignored and recorded
(11 R482). -/
def modCtrl (inst master value b : Nat) (s : State) (okIn : Nat → Bool) (f : State → Nat → State) : Res :=
  actIf s (decide (inst < 4) && bitOf value b && value % 2 ^ b == 0) fun s =>
    let w : RegW := { page := Pg.STITCH + inst, off := Rg.STITCH_MOD_CTRL, master, value }
    s.regCmd w fun s _ =>
      let n := s.selMod inst
      if okIn (s.modState n) then f s n else s.ignoreW w

/-- STITCH_MOD_ATTACH: an absent module asks for power; a failed one is cleared. -/
def execStitchModAttach (inst master value : Nat) (s : State) : Res :=
  modCtrl inst master value 0 s (fun st => st == 0 || st == 5) fun s n =>
    if s.modState n = 5 then s.setModState n 0 else s.askPower n

/-- STITCH_MOD_DETACH: new jobs stop. -/
def execStitchModDetach (inst master value : Nat) (s : State) : Res :=
  modCtrl inst master value 1 s (fun st => st == 4) fun s n => s.setModule n { s.module n with detaching := true }

/-- STITCH_MOD_POWER_OFF (11 R474): this head's MOD_PWREN bit is deasserted, in any state (DESIGN CHOICE, log 44). -/
def execStitchModPowerOff (inst master value : Nat) (s : State) : Res :=
  modCtrl inst master value 2 s (fun _ => true) fun s n => s.unpower n

/-- STITCH_MOD_HOT_RESET: the link of an attached module is reset and trains again. -/
def execStitchModHotReset (inst master value : Nat) (s : State) : Res :=
  modCtrl inst master value 3 s (fun st => st == 4) fun s n => s.toLinking n

/-- MODULE_POWER_GRANT (11 R471, R475, 15 R593): the queued module that comes first is granted and its MOD_PWREN asserted. -/
def execModulePowerGrant (s : State) : Res := actAon s (s.nextGrant.any fun d => decide (32 ≤ d)) State.grant

/-- PERST_RELEASE_TIMER: 100 ms after MOD_PWREN. -/
def execPerstReleaseTimer (n : Nat) (s : State) : Res :=
  actIf s (decide (n < 32) && s.modState n == 1 && bitOf s.pins.modPwren n) fun s => (s.setPerst n true).setModState n 2

/-- MODULE_LINK_UP (11 R436, R437, R471): the port has trained to `width` lanes at generation `gen`; `ltssm` is the LTSSM state
it shows. -/
def execModuleLinkUp (n width gen : Nat) (flit : Bool) (ltssm : Nat) (s : State) : Res :=
  actIf s (decide (n < 32) && s.modState n == 2 && bitOf s.pins.modPerstN n && s.rb (pciePage n) Rg.PCIE_CFG 0) fun s =>
    let s := s.wrN (pciePage n) Rg.PCIE_PORT_STATUS (n % 8) (1 + 2 * (gen % 8) + 2 ^ 4 * (width % 8) + 2 ^ 7 * b2n flit + 2 ^ 8 * (ltssm % 256))
    let p := stPage n
    let s := s.wf p Rg.STITCH_MOD_STATUS 7 5 width (n % 8)
    let s := s.wf p Rg.STITCH_MOD_STATUS 10 8 gen (n % 8)
    let s := s.wb p Rg.STITCH_MOD_STATUS 4 (decide (width < 4 ∨ gen < 6)) (n % 8)
    (s.setModule n { s.module n with slm := [(8, 1)], qps := [], tails := [] }).setModState n 3

/-- LINK_TRAIN_TIMEOUT. -/
def execLinkTrainTimeout (n : Nat) (s : State) : Res :=
  actIf s (decide (n < 32) && s.modState n == 2) fun s => s.modFail n 1

/-- CONFIGURE_COMPLETE (11 R454, R457, R470, R471, R477): every configuration command has succeeded; the operands are what they
returned. -/
def execConfigureComplete (n : Nat) (serial : List Byte) (dies : List (Nat × Nat)) (profiles : List (List Byte))
    (defects : List (Nat × List Nat)) (slots : List (Nat × Nat)) (roles : List Nat) (s : State) : Res :=
  actIf s (decide (n < 32) && s.modState n == 3 && slots.length == 4 && roles.length == 4 && profiles.all profileOk &&
      decide (dies.length ≤ 256)) fun s =>
    let old := s.module n
    let serial := padTo 16 serial
    let isNew := old.failedOnce || decide (ofLE serial ∉ s.pair.members)
    let m : Module := { old with
      slots, roles, serial, dies, failedOnce := false, wptr := []
      profiles := profiles.foldl (fun t p => mput t (leAt p 2 1) p) old.profiles
      defects := defects.foldl (fun t d => mputD [] t d.1 (d.2.take 1024)) []
      qps := (List.range (s.rf (stPage n) Rg.STITCH_CFG 6 1)).map (· + 1) ++ [63] }
    let s := (s.setModule n m).setModState n 4
    let p := stPage n
    let s := (s.wrN p Rg.STITCH_MOD_SERIAL_LO (n % 8) (leAt serial 0 4)).wrN p Rg.STITCH_MOD_SERIAL_HI (n % 8) (leAt serial 4 4)
    let s := (s.wb p Rg.STITCH_MOD_STATUS 12 isNew (n % 8)).wf p Rg.STITCH_MOD_STATUS 24 16 dies.length (n % 8)
    let s := s.wb Pg.QUILT Rg.QUILT_MOD_FAILED n false
    let s := if isNew && (s.pairState == 3 || s.pairState == 5) then
        { s with quilt := { s.quilt with added := insertNew n s.quilt.added } } else s
    let s := s.logI Pg.STITCH (n / 8) Ev.STITCH_MOD_ATTACHED
      [.v 1 n, .str serial, .v 1 (s.rf p Rg.STITCH_MOD_STATUS 7 5 (n % 8)), .v 1 (s.rf p Rg.STITCH_MOD_STATUS 10 8 (n % 8)), .v 2 dies.length]
    let s := if s.rb Pg.STITCH Rg.STITCH_STATUS 0 then s.writeHold n s.holdMask else s
    s.checkFence n

/-- CONFIGURE_TIMEOUT. -/
def execConfigureTimeout (n : Nat) (s : State) : Res :=
  actIf s (decide (n < 32) && s.modState n == 3) fun s => s.modFail n 3

/-- COMMAND_TIMEOUT_EXPIRY (11 R471): the command's queue is deleted; DELETE_QP goes to the module. -/
def execCommandTimeoutExpiry (id : Nat) (s : State) : Res :=
  match mget s.stitch.cmds id with
  | none => .next s
  | some c => actIf s (s.modState c.module == 4 && (s.module c.module).deleting.isNone && c.queue != 0) fun s =>
    let s := s.logI Pg.STITCH (c.module / 8) Ev.STITCH_CMD_TIMEOUT
      [.v 1 c.module, .v 1 c.queue, .v 2 (c.queue * 1024 + c.entry), .v 1 c.opcode]
    let s := s.setModule c.module { s.module c.module with deleting := some c.queue }
    s.sendMod {
      module := c.module, queue := 0, entry := 0, opcode := 0x11
      args := (List.replicate 48 (0 : Byte)).set 13 (BitVec.ofNat 8 c.queue) }

/-- DELETE_QP_TIMEOUT (11 R471): hot reset. -/
def execDeleteQpTimeout (n : Nat) (s : State) : Res :=
  actIf s (decide (n < 32) && s.modState n == 4 && (s.module n).deleting.isSome) fun s => s.toLinking n

/-- MODULE_LINK_DOWN (11 R471): the link is down while the module is present. -/
def execModuleLinkDown (n : Nat) (s : State) : Res :=
  actIf s (decide (n < 32) && s.modState n == 4 && !bitOf s.pins.modPrsntN n) fun s => (s.linkDown n false).toLinking n

/-- SURPRISE_REMOVAL (11 R471): MOD_PRSNT_N goes high. A failed module is cleared. -/
def execSurpriseRemoval (n : Nat) (s : State) : Res := actIf s (decide (n < 32)) fun s =>
  let st := s.modState n
  let s := s.setPresent n false
  if st = 5 then s.setModState n 0
  else if st = 4 then ((s.linkDown n true).modFail n 0).unpower n
  else s

/-- MODULE_FATAL: SLM_ALERT.fatal or SLM_STATUS.fatal. -/
def execModuleFatal (n : Nat) (s : State) : Res := actIf s (decide (n < 32) && s.modState n == 4) fun s =>
  let m := s.module n
  let s := s.setModule n { m with slm := mput m.slm 0xC (mgetD 0 m.slm 0xC ||| 1) }
  (s.setAlert n true).modFail n 2

/-- MODULE_ALERT: MOD_ALERT_N falls; `bits` are those of SLM_ALERT. -/
def execModuleAlert (n bits : Nat) (s : State) : Res := actIf s (decide (n < 32) && bits % 16 != 0) fun s =>
  let m := s.module n
  let s := s.setModule n { m with slm := mput m.slm 0xC (mgetD 0 m.slm 0xC ||| BitVec.ofNat 32 (bits % 16)) }
  s.setAlert n true

/-- DETACH_COMPLETE (11 R471, R476): the last outstanding command has ended. -/
def execDetachComplete (n : Nat) (s : State) : Res :=
  actIf s (decide (n < 32) && s.modState n == 4 && (s.module n).detaching && !s.stitch.cmds.any fun e => e.2.module == n) fun s =>
    let s := (s.module n).qps.foldl (fun s q => s.emit (.module n 0x11 [q])) s
    let s := s.setModule n { s.module n with detaching := false, qps := [], tails := [] }
    let s := ((s.setPerst n false).unpower n).setModState n 0
    s.logI Pg.STITCH (n / 8) Ev.STITCH_MOD_DETACHED [.v 1 n]

/-- TELEMETRY_TIMER (11 R478): every attached module is asked. -/
def execTelemetryTimer (s : State) : Res := act s fun s =>
  s.attachedMods.foldl (fun s n =>
    s.sendMod { module := n, queue := 0, entry := 0, opcode := 0x15, args := List.replicate 48 0 }) s

/-- PCIE_COMPLETION_TIMEOUT (11 R484): the port takes the link-down row. -/
def execPcieCompletionTimeout (n : Nat) (s : State) : Res := actIf s (decide (n < 32)) fun s =>
  let s := s.wb (pciePage n) Rg.PCIE_PORT_ERR 3 true (n % 8)
  if s.modState n = 4 ∧ !bitOf s.pins.modPrsntN n then (s.linkDown n false).toLinking n else s

/-- PCIE_ERROR (11 R483): a port reports `bits` of PCIE_PORT_ERR (correctable, non-fatal, fatal) and `replays` FLIT replays. -/
def execPcieError (n bits replays : Nat) (s : State) : Res := actIf s (decide (n < 32)) fun s =>
  let p := pciePage n
  let s := s.wrN p Rg.PCIE_PORT_ERR (n % 8) (s.rdN p Rg.PCIE_PORT_ERR (n % 8) ||| bits % 8)
  let s := s.countSat p Rg.PCIE_FLIT_REPLAY replays (n % 8)
  let s := if bitOf bits 0 then s.countSat p Rg.PCIE_CORR_COUNT 1 (n % 8) else s
  if bitOf bits 2 then s.logI Pg.PCIE (n / 8) Ev.PCIE_FATAL [.v 1 (n / 8), .v 1 (n % 8), .v 1 (bits % 8)] else s

/-- STITCH_ROLE_EPOCH_HI_WRITE (11 R480): both halves are committed, unless the value is lower than the present one. -/
def execStitchRoleEpochHiWrite (master value : Nat) (s : State) : Res := act s fun s =>
  let w : RegW := { page := Pg.STITCH, off := Rg.STITCH_ROLE_EPOCH_HI, master, value }
  s.regCmd w fun s _ =>
    let r := s.rf Pg.STITCH Rg.STITCH_ROLE_SEL 1 0
    let new := s.rdN Pg.STITCH Rg.STITCH_ROLE_EPOCH_LO r + 2 ^ 32 * (value % 2 ^ 32)
    if new < s.roleEpoch r then s.ignoreW w else s.setRoleEpoch r new

end Sys2Proof.Machine
end

