-- ==== Sys2Proof/Machine/Strands.lean ====
section
/-! DEFINITION. Commands of the STRAND family: load, start, exchange, drain, abort (02 R87 to R104, 12 R500). -/
namespace Sys2Proof.Machine

/-- One bead's part of a strand image (02 R90). -/
structure BeadImg where
  codeLen : Nat
  words : List Word
  entry : Nat
  timerDecl : Nat
  edgeDecl : Nat
  edgeCfg : List Byte
  deriving DecidableEq, Repr

/-- Fields of the image header (02 R89). -/
def imgBeads (im : List Byte) : Nat := leAt im 6 2
def imgVersion (im : List Byte) : Nat := leAt im 8 4
def imgBodyLen (im : List Byte) : Nat := leAt im 12 4
def imgDigest (im : List Byte) : List Byte := sliceB im 16 32
def imgFamily (im : List Byte) : Nat := leAt im 48 4
def imgBody (im : List Byte) : List Byte := im.drop 256

/-- Words of a byte string. -/
def wordsOf : Nat → List Byte → List Word
  | 0, _ => []
  | n + 1, l => BitVec.ofNat 32 (leAt l 0 4) :: wordsOf n (l.drop 4)

/-- The body's bead descriptors, `k` of them from logical index `i` on; none when a length is wrong, or an index out of order
(02 R90). -/
def parseBody : Nat → Nat → List Byte → Option (List BeadImg)
  | 0, _, l => if l.isEmpty then some [] else none
  | k + 1, i, l =>
    let c := leAt l 2 2
    let d := leAt l 4 2
    if l.length < 32 + 4 * (c + d) ∨ c = 0 ∨ localWords < c + d ∨ c ≤ leAt l 6 2 ∨ leAt l 0 2 ≠ i then none
    else
      match parseBody k (i + 1) (l.drop (32 + 4 * (c + d))) with
      | none => none
      | some t => some ({
          codeLen := c, words := wordsOf (c + d) (l.drop 32), entry := leAt l 6 2, timerDecl := leAt l 8 1 % 16
          edgeDecl := leAt l 9 1 % 16, edgeCfg := sliceB l 12 4 } :: t)

/-- A whole image of `len` bytes: its header and lengths are right (02, Loading). -/
def parseImg (im : List Byte) (len : Nat) : Option (List BeadImg) :=
  if leAt im 0 4 = 0x4E525453 ∧ leAt im 4 2 = 1 ∧ 1 ≤ imgBeads im ∧ imgBeads im ≤ 256 ∧ imgBodyLen im + 256 = len ∧
      im.length = len then parseBody (imgBeads im) 0 (imgBody im)
  else none

/-- The ring bindings (02 R89): a valid binding to an engine page with descriptor rings. -/
def imgRings (im : List Byte) : List (Option Binding) :=
  (List.range 16).map fun i =>
    let v := leAt im (64 + 4 * i) 4
    let page := (List.range 75).find? fun p => srcOf p == bits v 7 0 * 256 + bits v 15 8 && irqBits p == 8
    if bitOf v 31 ∧ bits v 27 16 < 64 then page.map fun p => { page := p, ring := bits v 27 16 } else none

/-! ### Placement (12 R500) -/

/-- Local indices of a cluster in the order of mesh rows, even rows rising in x and odd rows falling. -/
def meshOrder : List Nat :=
  (List.range 8).flatMap fun y => (List.range 8).map fun x => 8 * y + (if y % 2 = 0 then x else 7 - x)

/-- Free beads of a cluster, in mesh order. -/
def State.freeBeads (s : State) (c : Nat) : List Nat :=
  (meshOrder.map fun l => 64 * c + l).filter fun n => (s.bead n).strand.isNone

/-- The least element under an order given by a key, the first of equals. -/
def leastBy (key : Nat → Nat × Nat) (l : List Nat) : Option Nat :=
  l.foldl (fun best c => match best with
    | none => some c
    | some b => if (key c).1 < (key b).1 ∨ ((key c).1 = (key b).1 ∧ (key c).2 < (key b).2) then some c else some b) none

/-- Clusters in the order of most free beads, ties to the lower busy percentage, then the lower number. -/
def State.byFree (s : State) (busy : List Nat) : Nat → List Nat → List Nat
  | 0, _ => []
  | k + 1, cs =>
    match leastBy (fun c => (64 - (s.freeBeads c).length, busy.getD c 0)) cs with
    | none => []
    | some c => c :: s.byFree busy k (cs.filter (· != c))

/-- The physical beads chosen for `n` logical ones; `busy` gives each cluster's busy percentage over the last 10 ms. -/
def State.chooseBeads (s : State) (n : Nat) (busy : List Nat) : List Nat :=
  match leastBy (fun c => ((s.freeBeads c).length, busy.getD c 0)) ((List.range 16).filter fun c => n ≤ (s.freeBeads c).length) with
  | some c => (s.freeBeads c).take n
  | none => ((s.byFree busy 16 (List.range 16)).flatMap s.freeBeads).take n

/-! ### Loading -/

/-- Local memory as the loader writes it (02 R70, R91). -/
def loadedMem (ws : List Word) : SMap LW :=
  ((List.range ws.length).zip (ws.map fun d => LW.mk' d false false)).filter fun e => e.2 ≠ {}

/-- The line and mode an image's edge slot asks for (02 R90). -/
def BeadImg.line (x : BeadImg) (i : Nat) : Nat := bits (x.edgeCfg.getD i 0).toNat 5 0
def BeadImg.mode (x : BeadImg) (i : Nat) : Nat := bits (x.edgeCfg.getD i 0).toNat 7 6

/-- Arm the declared edge slots that are not carried (02 R77, R100). -/
def State.armDeclared (s : State) (n : Nat) (b : Bead) (x : BeadImg) : Bead :=
  (List.range 4).foldl (fun b i =>
    if bitOf x.edgeDecl i ∧ (b.edge i).mode = 0 then s.armed n b i (x.line i) (x.mode i) else b) b

/-- A bead as loaded for logical index `l` of strand `k`. -/
def State.loadBead (s : State) (n k l : Nat) (x : BeadImg) : State :=
  let b : Bead := {
    mem := loadedMem x.words, strand := some k, logical := l, codeLen := x.codeLen, timerDecl := x.timerDecl
    edgeDecl := x.edgeDecl, edgeCfg := x.edgeCfg }
  s.setBead n (s.armDeclared n b x)

/-- Physical bead and image of each logical bead of a strand. -/
def pairUp (beads : List Nat) (xs : List BeadImg) : List (Nat × Nat × BeadImg) :=
  (List.range beads.length).zip (beads.zip xs)

/-- Place and write a strand's beads; the clusters they lie in are powered (12 R500, 02 R91). -/
def State.placeStrand (s : State) (k owner : Nat) (im : List Byte) (xs : List BeadImg) (busy : List Nat) : State :=
  let beads := s.chooseBeads xs.length busy
  let clusters := (List.range 16).filter fun c => beads.any fun n => n / 64 == c
  let s := clusters.foldl (fun s c => if s.domOn (14 + c) then s else s.requestOn (14 + c)) s
  let s := s.setStrand k {
    beads, owner, family := imgFamily im, version := imgVersion im, rings := imgRings im, image := im }
  let s := s.log Pg.PATTERN Ev.PATTERN_BEADS_PLACED [.v 1 k, .v 1 clusters.length, .v 2 (beads.headD 0)]
  (pairUp beads xs).foldl (fun s e => s.loadBead e.2.1 k e.1 e.2.2) s

/-- Beads in no strand. -/
def State.freeCount (s : State) : Nat := ((List.range 16).map fun c => (s.freeBeads c).length).sum

/-- The image the STRAND registers name, read by the loader under SYSTEM (DESIGN CHOICE, log 42): its bytes and the status of
the read, or a wrong length at once. -/
def State.readImage (s : State) : State × List Byte × Nat :=
  let a := s.rdN Pg.STRAND Rg.STRAND_LD_SRC_LO + 2 ^ 32 * s.rdN Pg.STRAND Rg.STRAND_LD_SRC_HI
  let len := s.rdN Pg.STRAND Rg.STRAND_LD_LEN
  let w : Acc := { master := Ms.STRANDLD, owner := sysOwner }
  if len < 256 then (s, [], St.BAD_INPUT)
  else
    let h := s.readBytes w a 256
    if !fine h.2.2 then (h.1, [], h.2.2)
    else if imgBodyLen h.2.1 + 256 ≠ len ∨ 256 * (32 + 4 * localWords) < imgBodyLen h.2.1 then (h.1, [], St.BAD_INPUT)
    else
      let b := h.1.readBytes w (a + 256) (len - 256)
      (b.1, h.2.1 ++ b.2.1, if fine b.2.2 then St.OK else b.2.2)

/-- The loader's sealed compare of a body with its digest, on seal unit 3 (02, Loading; 06 R239; DESIGN CHOICE, log 42). -/
def State.sealBody (s : State) (im : List Byte) : State × Nat :=
  ({ s with hall := { s.hall with seals := mput s.hall.seals 3 (imgDigest im) } }).sealCompare 3 0xFFFF (sha256 (imgBody im))

/-- A command of STRAND_LD_CMD of code `k` that may act on strand `n`: while another is in progress it completes with LOCKED and
changes nothing else (02 R92, R104); an ABORT of the strand whose exchange is in progress is taken (DEDUCED, log 42). -/
def State.ldCmd (s : State) (master value k : Nat) (f : State → Nat → State) : Res := actIf s (bits value 3 0 == k) fun s =>
  s.regCmd { page := Pg.STRAND, off := Rg.STRAND_LD_CMD, master, value } fun s _ =>
    let n := s.rf Pg.STRAND Rg.STRAND_LD_SEL 5 0
    if s.rb Pg.STRAND Rg.STRAND_LD_STATUS 31 && !(k == 4 && s.ldBusy n && (s.strand n).st != 0) then
      s.wf Pg.STRAND Rg.STRAND_LD_STATUS 15 8 St.LOCKED
    else f s n

/-- STRAND_LOAD (02, Loading; R92): `busy` gives each cluster's busy percentage over the last 10 ms (12 R500). -/
def execStrandLoad (master value : Nat) (busy : List Nat) (s : State) : Res := s.ldCmd master value 1 fun s n =>
  if (s.strand n).st ≠ 0 then s.ldStatus 5 St.LOCKED n false
  else
    let r := s.readImage
    let s := r.1
    if r.2.2 ≠ St.OK then s.ldStatus 5 r.2.2 n false
    else match parseImg r.2.1 (s.rdN Pg.STRAND Rg.STRAND_LD_LEN) with
    | none => s.ldStatus 5 St.BAD_INPUT n false
    | some xs =>
      if s.freeCount < xs.length then s.ldStatus 5 St.NOT_READY n false
      else (s.placeStrand n (s.rf Pg.STRAND Rg.STRAND_LD_OWNER 11 0) r.2.1 xs busy).ldStatus 2 St.OK n true

/-- Free the beads of a strand: local memory is zeroed and they return to the free pool. -/
def State.freeStrand (s : State) (n : Nat) : State :=
  let s := (s.strand n).beads.foldl (fun s b => s.setBead b {}) s
  s.setStrand n {}

/-- The strand whose command is in progress, with the phase it is in. -/
def State.inPhase (s : State) (phase st : Nat) : Option Nat :=
  let n := s.rf Pg.STRAND Rg.STRAND_LD_STATUS 21 16
  if s.rb Pg.STRAND Rg.STRAND_LD_STATUS 31 && s.rf Pg.STRAND Rg.STRAND_LD_STATUS 2 0 == phase && (s.strand n).st == st then some n
  else none

/-- STRAND_LOAD_DONE (02 R92): the sealed compare of the load completes. -/
def execStrandLoadDone (s : State) : Res :=
  match s.inPhase 2 0 with
  | none => .next s
  | some n => actIf s ((s.strand n).beads.all fun b => s.domOn (14 + b / 64)) fun s =>
    let x := s.strand n
    let r := s.sealBody x.image
    if r.2 = St.OK then
      ((r.1.setStrand n { x with st := 1 }).ldStatus 5 St.OK n false).log Pg.STRAND Ev.STRAND_LOADED
        [.v 1 n, .v 4 x.version, .v 4 x.family]
    else
      ((r.1.freeStrand n).ldStatus 5 St.AUTH_FAIL n false).log Pg.STRAND Ev.STRAND_AUTH_FAIL
        [.v 1 n, .str ((imgDigest x.image).take 16)]

/-- The image's beads of a strand as loaded. -/
def Strand.imgs (x : Strand) (im : List Byte) : List (Nat × Nat × BeadImg) :=
  pairUp x.beads ((parseImg im im.length).getD [])

/-- Start a loaded strand (02 R92). -/
def State.startStrand (s : State) (n : Nat) : State :=
  let x := s.strand n
  let s := (x.imgs x.image).foldl (fun s e => s.setBead e.2.1 { s.bead e.2.1 with run := 1, pc := e.2.2.entry }) s
  s.setStrand n { x with st := 2, epoch := 1, intakeClosed := false }

/-- STRAND_START (02 R92). -/
def execStrandStart (master value : Nat) (s : State) : Res := s.ldCmd master value 2 fun s n =>
  if (s.strand n).st = 1 then (s.startStrand n).ldStatus 5 St.OK n false else s.ldStatus 5 St.LOCKED n false

/-- STRAND_EXCHANGE (02 R92, R94): the new image must carry the running one's family and bead count. -/
def execStrandExchange (master value : Nat) (s : State) : Res := s.ldCmd master value 3 fun s n =>
  let x := s.strand n
  if x.st ≠ 2 then s.ldStatus 5 St.LOCKED n false
  else
    let r := s.readImage
    let s := r.1.ldStatus 1 St.OK n true
    if r.2.2 ≠ St.OK then s.endExchange n r.2.2
    else match parseImg r.2.1 (s.rdN Pg.STRAND Rg.STRAND_LD_LEN) with
    | none => s.endExchange n St.BAD_INPUT
    | some xs =>
      if xs.length ≠ x.beads.length ∨ imgFamily r.2.1 ≠ x.family then s.endExchange n St.BAD_INPUT
      else s.setStrand n { x with next := r.2.1 }

/-- EXCHANGE_VERIFIED (02 R94, R96): the sealed compare of the new image completes. -/
def execExchangeVerified (s : State) : Res :=
  match s.inPhase 1 2 with
  | none => .next s
  | some n => act s fun s =>
    let x := s.strand n
    let r := s.sealBody x.next
    if r.2 = St.OK then
      (r.1.setStrand n { x with st := 3, intakeClosed := true }).ldStatus 3 St.OK n true
    else
      ((r.1.setStrand n { x with next := [] }).log Pg.STRAND Ev.STRAND_AUTH_FAIL
        [.v 1 n, .str ((imgDigest x.next).take 16)]).endExchange n St.AUTH_FAIL

/-- A ring has no descriptor, job or held record left (02 R97). -/
def State.ringIdle (s : State) (k : Binding) : Bool :=
  s.rdN k.page (ringBaseOf k.page + 0x10) k.ring == s.rdN k.page (ringBaseOf k.page + 0x14) k.ring &&
    (s.jobsOf k.page k.ring).isEmpty

/-- Every bead is parked and every job submitted has its record written (02 R97). -/
def State.drained (s : State) (n : Nat) : Bool :=
  let x := s.strand n
  (x.beads.all fun b => (s.bead b).run == 2) &&
    x.rings.all (fun r => match r with | some k => s.ringIdle k | none => true) &&
    !s.eng.held.any fun h => x.rings.any fun r => match r with
      | some k => h.engine.page h.inst == k.page && h.cring == k.ring
      | none => false

/-- Add one to count `i` of a strand's last exchange: timers carried, cancelled, edges carried, re-armed. -/
def bump (l : List Nat) (i : Nat) : List Nat := l.set i (min (l.getD i 0 + 1) 2047)

/-- The waiting event of a slot. -/
def Bead.waiting (b : Bead) (kind slot : Nat) : Option Word := b.events.find? (isEvent kind slot)

/-- Discard the waiting event of a slot. -/
def Bead.discard (b : Bead) (kind slot : Nat) : Bead := { b with events := b.events.filter fun e => !isEvent kind slot e }

/-- Settle timer slot `i` of bead `n` (02 R99). -/
def State.settleTimer (s : State) (c : List Nat) (n i : Nat) (x : BeadImg) : State × List Nat :=
  let b := s.bead n
  let t := b.timer i
  let ev := (b.waiting 0 i).isSome
  if !t.running && !ev then (s, c)
  else if bitOf x.timerDecl i then (s, bump c 0)
  else ((s.setBead n (b.stopTimer i)).log Pg.STRAND Ev.STRAND_TIMER_CANCELLED
      [.v 2 n, .v 1 i, .v 4 (t.left s.gts), .v 1 (b2n ev)], bump c 1)

/-- Discard the waiting event of edge slot `i` of bead `n`, with a record. -/
def State.dropEdge (s : State) (n i : Nat) : State :=
  match (s.bead n).waiting 1 i with
  | none => s
  | some e => (s.setBead n ((s.bead n).discard 1 i)).log Pg.STRAND Ev.STRAND_EDGE_DISCARDED [.v 2 n, .v 1 i, .v 4 e.toNat]

/-- Settle edge slot `i` of bead `n` (02 R100): only a carried slot keeps sampling through the exchange. -/
def State.settleEdge (s : State) (c : List Nat) (n i : Nat) (x : BeadImg) : State × List Nat :=
  let b := s.bead n
  let e := b.edge i
  if e.mode = 0 then (s, c)
  else if bitOf x.edgeDecl i then
    if x.line i = e.line ∧ x.mode i = e.mode then (s, bump c 2)
    else (s.setBead n (b.setEdge i { e with mode := 0 }), bump c 3)
  else ((s.setBead n (b.setEdge i { e with mode := 0 })).dropEdge n i, c)

/-- DRAIN_COMPLETE (02 R97, R99, R100). -/
def execDrainComplete (s : State) : Res :=
  match s.inPhase 3 3 with
  | none => .next s
  | some n => actIf s (s.drained n) fun s =>
    let x := s.strand n
    let s := x.beads.foldl (fun s b => s.setBead b { s.bead b with run := 0 }) s
    let r := (x.imgs x.next).foldl (fun (a : State × List Nat) e =>
      let a := (List.range 4).foldl (fun a i => a.1.settleTimer a.2 e.2.1 i e.2.2) a
      (List.range 4).foldl (fun a i => a.1.settleEdge a.2 e.2.1 i e.2.2) a) (s, [0, 0, 0, 0])
    (r.1.setStrand n { x with st := 4, counts := r.2 }).ldStatus 4 St.OK n true

/-- DRAIN_LIMIT_EXPIRY (02 R92): the exchange is abandoned; parked beads go on at their ebnd. -/
def execDrainLimitExpiry (s : State) : Res :=
  match s.inPhase 3 3 with
  | none => .next s
  | some n => act s fun s =>
    let x := s.strand n
    let s := x.beads.foldl (fun s b => if (s.bead b).run = 2 then s.setBead b { s.bead b with run := 1 } else s) s
    (s.setStrand n { x with st := 2, intakeClosed := false, next := [] }).endExchange n St.TIMEOUT

/-- A bead takes the new program (02 R99 to R102): only carried slots, their events, and overrun counts stay. -/
def State.reloadBead (s : State) (n k l : Nat) (x : BeadImg) : State :=
  let old := s.bead n
  let kept := (List.range 4).filter fun i => bitOf x.edgeDecl i && (old.edge i).mode != 0
  let s := (List.range 4).foldl (fun s i => if i ∈ kept then s else s.dropEdge n i) s
  let b : Bead := {
    mem := loadedMem x.words, strand := some k, logical := l, codeLen := x.codeLen, timerDecl := x.timerDecl
    edgeDecl := x.edgeDecl, edgeCfg := x.edgeCfg, timers := old.timers, edges := old.edges, events := (s.bead n).events
    pc := x.entry, run := 1 }
  s.setBead n (s.armDeclared n b x)

/-- EXCHANGE_LOAD_COMPLETE (02 R92, R102). -/
def execExchangeLoadComplete (s : State) : Res :=
  match s.inPhase 4 4 with
  | none => .next s
  | some n => act s fun s =>
    let x := s.strand n
    let s := (x.imgs x.next).foldl (fun s e => s.reloadBead e.2.1 n e.1 e.2.2) s
    let y : Strand := { x with
      st := 2, epoch := (x.epoch + 1) % 2 ^ 32, version := imgVersion x.next, rings := imgRings x.next, image := x.next
      next := [], intakeClosed := false }
    ((s.setStrand n y).ldStatus 5 St.OK n false).log Pg.STRAND Ev.STRAND_EXCHANGED
      ([.v 1 n, .v 4 x.version, .v 4 y.version, .v 4 y.epoch] ++ x.counts.map fun c => .v 2 c)

/-- Messages waiting in a strand's queues 0 to 6. -/
def State.queuedMsgs (s : State) (x : Strand) : Nat :=
  (x.beads.map fun b => ((List.range 7).map fun q => (s.bead b).count q).sum).sum

/-- A strand is aborted (02 R92, R93). -/
def State.abortStrand (s : State) (n : Nat) : State :=
  let m := s.queuedMsgs (s.strand n)
  (s.freeStrand n).log Pg.STRAND Ev.STRAND_ABORTED [.v 1 n, .v 4 m]

/-- STRAND_ABORT (02 R92). -/
def execStrandAbort (master value : Nat) (s : State) : Res := s.ldCmd master value 4 fun s n =>
  if (s.strand n).st = 0 then s.ldStatus 5 St.LOCKED n false
  else
    let s := if s.ldBusy n then s.endExchange n St.ABORTED_BY_RESET else s
    (s.abortStrand n).ldStatus 5 St.ABORTED_BY_RESET n false

end Sys2Proof.Machine
end

