-- ==== Sys2Proof/Machine/PowerStates.lean ====
section
/-! DEFINITION. Head states, standby, Thimble, Selvedge, brownout and the power-fail dump (15). -/
namespace Sys2Proof.Machine

/-! ### Head states (15 R576 to R581) -/

/-- Change the head state: shown, interrupted and recorded. Causes of the records: 0 idle timer, 1 capsule, 2 controllers'
permission, 3 interrupt or Clasp wake, 4 standby (DESIGN CHOICE, log 45). The interrupt a change raises is no wake. -/
def State.setHeadState (s : State) (new cause : Nat) : State :=
  let old := s.headState
  let wake := s.power.wakePend
  let s := (s.wf Pg.PWRSEQ Rg.PWRSEQ_STATE 2 0 new).irq Pg.PWRSEQ 0
  let s := { s with power := { s.power with wakePend := wake && new != 0 } }
  let s := s.log Pg.PWRSEQ Ev.PWRSEQ_STATE [.v 1 old, .v 1 new, .v 1 cause]
  if new ≤ 3 ∧ old ≤ 3 then s.log Pg.HOSTQ Ev.HOSTQ_PWR_STEP [.v 1 old, .v 1 new, .v 1 cause] else s

/-- Bead clusters of which a bead is assigned. -/
def State.clusterUsed (s : State) (c : Nat) : Bool := s.bd.beads.any fun e => e.1 / 64 == c && e.2.strand.isSome

/-- Change every bead of a cluster. -/
def State.mapCluster (s : State) (c : Nat) (f : Nat → Bead → Bead) : State :=
  { s with bd := { s.bd with beads := mmapD {} s.bd.beads fun n b => if n / 64 = c then f n b else b } }

/-- A bead's timers stop counting and keep what is left (15 R578). -/
def Bead.freeze (b : Bead) (gts : Nat) : Bead :=
  { b with timers := mmapD {} b.timers fun _ t => if t.running then { t with kept := some (t.left gts) } else t }

/-- They resume. -/
def Bead.thaw (b : Bead) (gts : Nat) : Bead :=
  { b with timers := mmapD {} b.timers fun _ t => match t.kept with
      | some k => { t with kept := none, deadline := gts + 10 * k }
      | none => t }

/-- The lowest `n` set bits of a 16-bit mask. -/
def lowestBits (n mask : Nat) : Nat := (((setBitsOf 16 mask).take n).map fun i => 2 ^ i).sum

/-- Set the powered ways of the slices of SYSCACHE page `k` from the ways that are not disabled. -/
def State.setWays (s : State) (k : Nat) (f : Nat → Nat) : State :=
  (List.range 4).foldl (fun s j =>
    let p := Pg.SYSCACHE + k
    s.wf p (Rg.SYSCACHE_SLICE_STATUS + 4 * j) 15 0 (f (0xFFFF - s.rf p (Rg.SYSCACHE_WAY_DIS + 4 * j) 15 0))) s

/-- In P2 the lowest SYSCACHE_P2_CFG.ways enabled ways stay powered; outside it every enabled way (05 R212). -/
def State.closeWays (s : State) (k : Nat) : State :=
  s.setWays k (lowestBits (s.rf (Pg.SYSCACHE + k) Rg.SYSCACHE_P2_CFG 4 0))
def State.openWays (s : State) (k : Nat) : State := s.setWays k id

/-- Entry to P2 (15 R578, 05 R212): clusters with an assigned bead in retention, the others off; the cache keeps its lowest ways. -/
def State.enterP2 (s : State) : State :=
  let s := (List.range 16).foldl (fun s c =>
    if !s.domOn (14 + c) then s
    else if s.clusterUsed c then
      (s.modDom (14 + c) fun x => { x with retention := true }).mapCluster c fun _ b => b.freeze s.gts
    else s.requestOff (14 + c)) s
  (List.range 8).foldl (fun s k => s.closeWays k) s

/-- Leaving P2: retention ends, timers resume, each armed detector samples its line once (15 R578); the ways power up empty. -/
def State.leaveP2 (s : State) : State :=
  let s := (List.range 16).foldl (fun s c =>
    if (s.dom (14 + c)).retention then
      let s := (s.modDom (14 + c) fun x => { x with retention := false }).mapCluster c fun _ b => b.thaw s.gts
      (List.range 64).foldl (fun s i => s.sampleLine c i) s
    else s) s
  (List.range 8).foldl (fun s k => s.openWays k) s

/-- Domains that P3 powers off: compute dies, service-core clusters, bead clusters. -/
def p3Domains : List Nat := [1, 2, 3, 4, 8, 9, 10, 11, 12, 13] ++ (List.range 16).map (· + 14)

/-- Entry to P3 (15 R579): the running strands, drained by now, are aborted and remembered (log 45); the domains go off. -/
def State.enterP3 (s : State) : State :=
  let run := s.bd.strands.filter fun e => e.2.st == 2 || e.2.st == 3
  let s := { s with power := { s.power with p3Strands := run.map fun e => (e.1, e.2.owner, e.2.image) } }
  let s := run.foldl (fun s e => s.abortStrand e.1) s
  p3Domains.foldl (fun s d =>
    s.requestOff d |>.modDom d fun x => { x with retention := false }) s

/-- Load and start a strand again from the image it used (15 R579). -/
def State.restartStrand (s : State) (k owner : Nat) (im : List Byte) : State :=
  match parseImg im im.length with
  | none => s
  | some xs => (s.placeStrand k owner im xs []).startStrand k

/-- A wake from P3 ends once every domain is on, or has failed or been refused (15 R579, R594): the strands run again, and the
head reports P0. -/
def State.finishWake (s : State) : State :=
  if s.headState = 3 ∧ s.rb Pg.PWRSEQ Rg.PWRSEQ_STATE 3 ∧ p3Domains.all (fun d => s.domSt d == 4 || s.domSt d == 0) then
    let s := s.power.p3Strands.foldl (fun s e => s.restartStrand e.1 e.2.1 e.2.2) s
    let s := { s with power := { s.power with p3Strands := [] } }
    let s := s.wb Pg.PWRSEQ Rg.PWRSEQ_STATE 3 false
    (List.range 8).foldl (fun s k => s.openWays k) (s.setHeadState 0 s.power.wakeCauses)
  else s

/-- A wake in P1, P2 or P3 (15 R581). -/
def State.wakeP0 (s : State) (cause : Nat) : State :=
  let h := s.headState
  if h = 1 then s.setHeadState 0 cause
  else if h = 2 then
    let s := s.leaveP2
    let s := (List.range 16).foldl (fun s c => if s.domOn (14 + c) then s else s.requestOn (14 + c)) s
    s.setHeadState 0 cause
  else if h = 3 ∧ !s.rb Pg.PWRSEQ Rg.PWRSEQ_STATE 3 then
    let s := s.wb Pg.PWRSEQ Rg.PWRSEQ_STATE 3 true
    let s := { s with power := { s.power with wakeCauses := cause, wakePend := false } }
    (p3Domains.foldl (fun s d => s.requestOn d) s).finishWake
  else s

/-- One nanosecond without a command: while the head runs, time passes, and a pending wake takes effect (15 R581). -/
def State.idle (s : State) : State :=
  if s.alive then
    let s := s.tick
    if s.power.wakePend && decide (1 ≤ s.headState) && decide (s.headState ≤ 3) then s.wakeP0 3 else s
  else s

/-- The idle timers of 03 R144 that the step from P0, P1 or P2 and every shallower one use, are set. -/
def State.idleAllows (s : State) (h : Nat) : Bool :=
  (List.range (h + 1)).all fun i => s.rf Pg.HOSTQ (Rg.HOSTQ_IDLE_P1 + 4 * i) 23 0 != 0

/-- IDLE_TIMER_EXPIRY (03 R143 to R147): one step deeper, within what the connected controllers permit. -/
def execIdleTimerExpiry (s : State) : Res :=
  let h := s.headState
  actIf s (decide (h < 3) && s.power.standby == 0 && decide (h < s.permitted) && !s.heldInP0 && s.idleAllows h) fun s =>
    let s := s.setHeadState (h + 1) 0
    if h = 1 then s.enterP2 else if h = 2 then s.enterP3 else s

/-! ### Domains (15 R593 to R595) -/

/-- DOMAIN_GRANT (15 R593); a module's grant is MODULE_POWER_GRANT. -/
def execDomainGrant (s : State) : Res :=
  actAon s (!(s.nextGrant.any fun d => decide (32 ≤ d))) fun s => s.grant.finishWake

/-- RAMP_TIMEOUT (15 R592, R594): no power-good within the bound; a wake completes without the domain. -/
def execRampTimeout (us : Nat) (s : State) : Res := actAon s true fun s =>
  match s.ramping with
  | none => s
  | some d =>
    let s := (s.modDom d fun x => { x with st := 0, latch := none, failed := true, rampUs := min us 65535 }).setSwitch d false
    ((s.irq Pg.PWRSEQ 4).log Pg.PWRSEQ Ev.PWRSEQ_DOMAIN_FAILED [.v 1 d, .v 2 (min us 65535)]).finishWake

/-- Channels whose receiver is awake no longer wait for it (14 R557). -/
def State.endWaking (s : State) : State :=
  (List.range 64).foldl (fun s c => if s.ostat c 5 && (s.asleep c).isEmpty then s.setOstat c 5 false else s) s

/-- DOMAIN_READY (15 R592, R595): a released domain, or the pair, is on. -/
def execDomainReady (d : Nat) (s : State) : Res := actAon s (isDomain d && s.domSt d == 3) fun s =>
  let off := (s.dom d).latch == some false
  ((s.modDom d fun x => { x with st := if off then 5 else 4, latch := none }).endWaking).finishWake

/-! ### Losing power and being reset -/

/-- Registers of some pages. -/
def keepPages (m : SMap Word) (ps : List Nat) : SMap Word := m.filter fun e => decide (e.1 / 2 ^ 32 ∈ ps)

/-- A module as it is when this head's port of it starts afresh: what both ports share stays. -/
def Module.unplug (m : Module) : Module :=
  { slots := m.slots, roles := m.roles, wptr := m.wptr, serial := m.serial, dies := m.dies, profiles := m.profiles }

/-- What no reset and no loss of power touches: the NOR, the OTP and the settings, the Locket vault, a dump, the modules, the
array's membership record, what the Mapper, Pattern, Quilt, the dedup engine and SNAPREP hold on flash (log 55), sequence numbers,
which are never used again (01 R43, 09 R361); the pins as the board drives them; and the model's own record, counter and queue. -/
def State.ground (s : State) : State := {
  pending := s.pending
  pins := { ({} : Pins) with
    headSel := s.pins.headSel, recoveryN := s.pins.recoveryN, peerYieldN := s.pins.peerYieldN, pwrFailN := s.pins.pwrFailN
    wakeN := s.pins.wakeN, sysRstN := s.pins.sysRstN, modPrsntN := s.pins.modPrsntN, modAlertN := s.pins.modAlertN
    gpioIn := s.pins.gpioIn, ddrGiB := s.pins.ddrGiB }
  boot := { ctl := s.boot.ctl, slots := s.boot.slots, otp := s.boot.otp, svnFloor := s.boot.svnFloor, loader := s.boot.loader
            firmware := s.boot.firmware }
  locket := { vault := s.locket.vault }
  power := { dump := s.power.dump }
  mem := { key := s.mem.key + 1 }
  pair := { members := s.pair.members }
  stitch := { mods := s.stitch.mods.map fun e => (e.1, e.2.unplug) }
  hq := { jseq := s.hq.jseq }
  map := { s.map with lru := [], order := [], recs := [], gc := [], parts := [], thr := [], reads := s.map.ckptReads }
  pat := { used := s.pat.used, erases := s.pat.erases, deadDies := s.pat.deadDies }
  dedup := { mans := s.dedup.mans, nextMan := s.dedup.nextMan, log := s.dedup.log }
  quilt := { vault := s.quilt.vault, frozen := s.quilt.frozen, frozenBolts := s.quilt.frozenBolts, unprot := s.quilt.unprot }
  repl := { vault := s.repl.vault, sess := s.repl.sess.map fun e => (e.1, { base := e.2.base }) }
  out := s.out
  fresh := s.fresh }

/-- VDD_AON stays, every other rail goes: Thimble, Selvedge and the THERMTRIP_N latch keep what they hold (15 R576, R582, R588,
R606, 18 R682). -/
def State.dark (s : State) : State :=
  let g := s.ground
  { g with
    regs := keepPages s.regs [Pg.THIMBLE, Pg.SELVEDGE]
    pins := { g.pins with
      thermtripN := s.pins.thermtripN
      modPwren := s.power.held.getD 0 0 &&& s.power.level.getD 0 0
      modPerstN := s.power.held.getD 1 0 &&& s.power.level.getD 1 0
      headYieldN := if bitOf (s.power.held.getD 3 0) 0 then some (bitOf (s.power.level.getD 3 0) 0) else none }
    power := { g.power with aon := s.power.aon, held := s.power.held, level := s.power.level, p4Start := s.power.p4Start } }

/-- A reset of the head (18 R678): the power domains stay as they are, and Thimble and Selvedge; Locket's record store is kept
(14 R700), memory is without its integrity key (05 R190) and MP SRAM is zero. Fetched jobs end with ABORTED_BY_RESET (01 R34).
`cause` is the bit of TOP_RESET_CAUSE; none for SYS_RST_N (DESIGN CHOICE, log 38). -/
def State.resetHead (s : State) (cause : Option Nat) : State :=
  let s := s.eng.jobs.foldl (fun s e => s.endJob e.1 e.2 { status := St.ABORTED_BY_RESET }) s
  let g := s.ground
  let r : State := { g with
    regs := keepPages s.regs [Pg.THIMBLE, Pg.SELVEDGE]
    mem := {
      cells := s.mem.cells.filter fun c => c.1 < 0x0FF000100000
      lines := s.mem.lines, key := s.mem.key + 1, ddrLost := s.mem.ddrLost }
    locket := { s.locket with cold := false, based := true, boot := [], bootDropped := 0, chal := 0, refusedAt := none }
    pins := { g.pins with
      thermtripN := s.pins.thermtripN, modPwren := s.pins.modPwren, pwrEn := s.pins.pwrEn, pwrGood := s.pins.pwrGood
      modPerstN := s.power.held.getD 1 0 &&& s.power.level.getD 1 0
      headYieldN := if bitOf (s.power.held.getD 3 0) 0 then some (bitOf (s.power.level.getD 3 0) 0) else none }
    power := { g.power with
      aon := s.power.aon, doms := s.power.doms, held := s.power.held, level := s.power.level, wakeCauses := s.power.wakeCauses } }
  match cause with
  | some b => r.wrN Pg.TOP Rg.TOP_RESET_CAUSE 0 (2 ^ b)
  | none => r

/-! ### Standby and wake (15 R582 to R586) -/

/-- PWRSEQ_STANDBY (15 R582): module power goes, the domains are asked off. -/
def execPwrseqStandby (master value : Nat) (s : State) : Res := actIf s (bitOf value 0) fun s =>
  s.regCmd { page := Pg.PWRSEQ, off := Rg.PWRSEQ_CMD, master, value } fun s _ =>
    let ps := s.pairState
    let anaHome := (List.range 128).any fun g => s.homeGroup (g + 1)
    if !s.rb Pg.PWRSEQ Rg.PWRSEQ_CFG 1 || !(ps == 6 || ps == 5) || (ps == 6 && anaHome) || s.dirtyBytes != 0 ||
        !s.pair.shadow.isEmpty || s.power.standby != 0 then
      s.wf Pg.PWRSEQ Rg.PWRSEQ_CMD_STATUS 15 8 St.LOCKED
    else
      let s := if ps = 5 then s.setAnaWhere s.homeGroup 3 else s
      let s := (s.wrN Pg.PWRSEQ Rg.PWRSEQ_CMD_STATUS 0 1).wb Pg.PWRSEQ Rg.PWRSEQ_STATE 3 true
      let s := { s with power := { s.power with standby := 1 } }
      let s := (s.abortCmds fun _ => true).1
      let s := (List.range 32).foldl (fun s n =>
        let s := (s.setPerst n false).unpower n
        if s.modState n = 0 ∨ s.modState n = 5 then s else s.setModState n 0) s
      ((List.range 29).map (· + 1)).foldl (fun s d => s.requestOff d) s

/-- Pads of a Selvedge group (15 R588). -/
def groupMask (g : Nat) : Nat := if g = 3 then 0xF else 0xFFFFFFFF

/-- STANDBY_COMMIT (15 R582, R588): every other domain is off; Selvedge latches, Thimble takes the wake bus and the time. -/
def execStandbyCommit (s : State) : Res :=
  actIf s (s.power.standby == 1 && s.power.doms.all fun e => e.1 == 0 || e.2.st == 0) fun s =>
    let on := s.rb Pg.SELVEDGE Rg.SELVEDGE_CFG 0
    let level := if on then (List.range 4).map fun g => s.coreLevel g &&& groupMask g else s.power.level
    let held := if on then (List.range 4).map groupMask else s.power.held
    let s := s.wr64 Pg.THIMBLE Rg.THIMBLE_SECONDS_LO s.cal.seconds
    let s := (s.wrN Pg.THIMBLE Rg.THIMBLE_STATE 0 1).wrN Pg.THIMBLE Rg.THIMBLE_NACKS 0 0
    let s := s.wrN Pg.THIMBLE Rg.THIMBLE_P4_COUNT 0 ((s.rdN Pg.THIMBLE Rg.THIMBLE_P4_COUNT + 1) % 65536)
    let s := s.wf Pg.PWRSEQ Rg.PWRSEQ_STATE 2 0 4
    { s with power := { s.power with held, level, standby := 2, p4Start := s.cal.seconds } }

/-- A cause of a wake (15 R583 to R586), bit `b` of THIMBLE_WAKE_CAUSE; it counts when its bit of THIMBLE_CFG is set and
Thimble is armed or wakes already. The I/O die's domain is asked on. -/
def State.thimbleWake (s : State) (b : Nat) : State :=
  let st := s.rdN Pg.THIMBLE Rg.THIMBLE_STATE
  if s.rb Pg.THIMBLE Rg.THIMBLE_CFG (7 + b) && (st == 2 || st == 3) then
    let s := (s.wb Pg.THIMBLE Rg.THIMBLE_WAKE_CAUSE b true).wrN Pg.THIMBLE Rg.THIMBLE_STATE 0 3
    if st = 2 then s.requestOn 0 else s
  else s

/-- THIMBLE_ARM (15 R582, R584): Thimble is armed and samples WAKE_N; the other rails go. The head is in P4. -/
def execThimbleArm (s : State) : Res :=
  if s.power.aon && s.power.standby == 2 && s.rdN Pg.THIMBLE Rg.THIMBLE_STATE == 1 then
    let s := (s.dark.wrN Pg.THIMBLE Rg.THIMBLE_STATE 0 2).wf Pg.PWRSEQ Rg.PWRSEQ_STATE 2 0 4
    let s := { s with power := { s.power with standby := 3 } }
    .next (if s.pins.wakeN then s else s.thimbleWake 1)
  else .next s

/-- WAKE_ADDRESS_MATCH (15 R583, R584): an address byte on the wake bus; Thimble answers only in P4. -/
def execWakeAddressMatch (addr : Nat) (s : State) : Res :=
  let st := s.rdN Pg.THIMBLE Rg.THIMBLE_STATE
  if !s.power.aon || st == 0 || addr % 128 != s.rf Pg.THIMBLE Rg.THIMBLE_CFG 6 0 then .next s
  else if st = 1 then
    .next ((s.wrN Pg.THIMBLE Rg.THIMBLE_NACKS 0 (satAdd 16 (s.rdN Pg.THIMBLE Rg.THIMBLE_NACKS) 1)).emit (.bus false))
  else if st = 2 ∧ s.rb Pg.THIMBLE Rg.THIMBLE_CFG 7 then .next ((s.thimbleWake 0).emit (.bus true))
  else .next (s.emit (.bus false))

/-- WAKE_N_LOW (15 R584): WAKE_N goes low; `held` says whether it stays low. -/
def execWakeNLow (held : Bool) (s : State) : Res :=
  let s := { s with pins := { s.pins with wakeN := !held } }
  if s.power.aon then .next (s.thimbleWake 1) else .next s

/-- PWR_FAIL_N_RISE (15 R585): PWR_FAIL_N has risen and held high for the debounce. -/
def execPwrFailNRise (s : State) : Res :=
  let s := { s with pins := { s.pins with pwrFailN := true } }
  if s.power.aon then .next (s.thimbleWake 2) else .next s

/-- AON_POWER_ON (15 R590, 18 R689): VDD_AON enters tolerance; Thimble leaves reset and asks for the I/O die's domain. -/
def execAonPowerOn (s : State) : Res :=
  if s.power.aon then .next s
  else
    let s := { s with power := { s.power with aon := true }, pins := { s.pins with pwrEn := s.pins.pwrEn ||| 1 } }
    .next (s.requestOn 0)

/-- XTAL_AON_RUNNING (15 R607). -/
def execXtalAonRunning (s : State) : Res := actAon s true fun s => s.wb Pg.THIMBLE Rg.THIMBLE_XTAL 0 true

/-- VDD_AON_REMOVAL (18 R679, R682): the whole head loses power, Thimble, Selvedge and the THERMTRIP_N latch with it. -/
def execVddAonRemoval (s : State) : Res := .next s.ground

/-- SELVEDGE_RELEASE (15 R589): held pads of the selected group go to the core. -/
def execSelvedgeRelease (master value : Nat) (s : State) : Res := act s fun s =>
  s.regCmd { page := Pg.SELVEDGE, off := Rg.SELVEDGE_RELEASE, master, value } fun s _ =>
    let g := s.rf Pg.SELVEDGE Rg.SELVEDGE_GROUP_SEL 1 0
    let held := s.power.held.getD g 0
    let mask := value % 2 ^ 32 &&& held
    let mis := (s.power.level.getD g 0 ^^^ s.coreLevel g) &&& mask
    if mask = 0 then s
    else ({ s with power := { s.power with held := s.power.held.set g (held - mask) } }).log Pg.SELVEDGE
      Ev.SELVEDGE_RELEASED [.v 1 g, .v 4 mask, .v 4 mis]

/-! ### Monitors and brownout (15 R597 to R599) -/

/-- A monitor's sample in mV. -/
def State.sample (s : State) (mon mv : Nat) : State :=
  let low := s.rf Pg.PWRSEQ Rg.PWRSEQ_MON_STATUS 31 16 mon
  let s := s.wrN Pg.PWRSEQ Rg.PWRSEQ_MON_NOW mon (mv % 65536)
  s.wf Pg.PWRSEQ Rg.PWRSEQ_MON_STATUS 31 16 (if low = 0 ∨ mv < low then mv else low) mon

/-- A sample below a monitor's warning level (15 R597): a brownout starts, or goes on. -/
def State.brownout (s : State) (mon mv : Nat) : State :=
  let s := (s.sample mon mv).wb Pg.PWRSEQ Rg.PWRSEQ_MON_STATUS 0 true mon
  match s.power.brown with
  | some b =>
    let b := { b with below := b.below ||| 2 ^ mon }
    { s with power := { s.power with brown := some (if mv < b.lowest then { b with mon, lowest := mv } else b) } }
  | none =>
    let s := { s with power := { s.power with brown := some { below := 2 ^ mon, since := s.gts, mon, lowest := mv } } }
    let s := ((s.countSat Pg.PWRSEQ Rg.PWRSEQ_BROWNOUTS 1).wb Pg.PWRSEQ Rg.PWRSEQ_STATE 4 true).irq Pg.PWRSEQ 1
    s.programHold

/-- BROWNOUT_START (15 R597): monitor `mon` samples `mv` mV, below its warning level. -/
def execBrownoutStart (mon mv : Nat) (s : State) : Res := actIf s (decide (mon < 6)) fun s => s.brownout mon mv

/-- A dump runs, or waits after its commit (15 R604). -/
def State.dumpHolds (s : State) : Bool := s.rb Pg.PWRSEQ Rg.PWRSEQ_STATE 5 || s.rb Pg.PWRSEQ Rg.PWRSEQ_STATE 6

/-- BROWNOUT_END (15 R598): every monitor has stayed above warning plus hysteresis for 50 µs. A dump keeps its hold. -/
def execBrownoutEnd (s : State) : Res :=
  match s.power.brown with
  | none => .next s
  | some b => act s fun s =>
    let s := (List.range 6).foldl (fun s m => s.wb Pg.PWRSEQ Rg.PWRSEQ_MON_STATUS 0 false m) s
    let s := { s with power := { s.power with brown := none } }.wb Pg.PWRSEQ Rg.PWRSEQ_STATE 4 false
    let s := s.log Pg.PWRSEQ Ev.PWRSEQ_BROWNOUT [.v 1 b.mon, .v 2 b.lowest, .v 4 ((s.gts - b.since) / 1000)]
    if s.dumpHolds then s else s.programRelease

/-! ### Power-fail dump (15 R600 to R604) -/

/-- A power failure (15 R599, R601): admission stops, every queue but 63 is held, and NV staging streams into the reserve. -/
def State.startDump (s : State) : State :=
  if s.dumpHolds then s
  else
    let j := s.pair.journal.filter fun r => !r.recorded
    let d : Dump := {
      dumping := true, started := s.gts, firstJ := (j.head?.map (·.jseq)).getD 0, lastJ := (j.getLast?.map (·.jseq)).getD 0
      journal := j, dirty := s.quilt.dirty, deltas := s.dedup.deltas
      recs := s.locket.recs.filter fun r => decide (s.locket.spilled ≤ r.seq) }
    let s := { s with power := { s.power with dump := d } }
    let s := (s.wb Pg.PWRSEQ Rg.PWRSEQ_STATE 5 true).wrN Pg.PWRSEQ Rg.PWRSEQ_DUMP_STATUS 0 1
    (s.wb Pg.STITCH Rg.STITCH_STATUS 1 true).programHold

/-- POWER_FAIL (15 R601): PWR_FAIL_N has been low for 2 µs. -/
def execPowerFail (s : State) : Res :=
  let s := { s with pins := { s.pins with pwrFailN := false } }
  act s State.startDump

/-- MONITOR_TRIP (15 R599): a sample below a monitor's trip level. -/
def execMonitorTrip (mon mv : Nat) (s : State) : Res := actIf s (decide (mon < 6)) fun s => (s.brownout mon mv).startDump

/-- DUMP_COMMIT (15 R601, R602, R604): the commit record is written, `us` after the power failure; `bytes` were dumped. -/
def execDumpCommit (bytes us : Nat) (s : State) : Res := actIf s s.power.dump.dumping fun s =>
  let d := { s.power.dump with dumping := false, committed := true, bytes }
  let s := { s with power := { s.power with dump := d } }
  let s := ((s.wb Pg.PWRSEQ Rg.PWRSEQ_STATE 5 false).wb Pg.PWRSEQ Rg.PWRSEQ_STATE 6 true).wrN Pg.PWRSEQ Rg.PWRSEQ_DUMP_STATUS 0 2
  let s := (s.wr64 Pg.PWRSEQ Rg.PWRSEQ_DUMP_BYTES_LO bytes).wrN Pg.PWRSEQ Rg.PWRSEQ_DUMP_US 0 (us % 2 ^ 24)
  (s.irq Pg.PWRSEQ 2).log Pg.PWRSEQ Ev.PWRSEQ_DUMP_DONE [.v 8 bytes, .v 4 us, .v 8 d.firstJ, .v 8 d.lastJ]

/-- DUMP_RESUME (15 R603, R604): PWR_FAIL_N has been high for the debounce and no monitor is below its warning level. -/
def execDumpResume (s : State) : Res :=
  actIf s (s.rb Pg.PWRSEQ Rg.PWRSEQ_STATE 6 && s.pins.pwrFailN && s.power.brown.isNone) fun s =>
    let d := { s.power.dump with superseded := true }
    let s := { s with power := { s.power with dump := d } }
    let s := (s.wb Pg.PWRSEQ Rg.PWRSEQ_STATE 6 false).wb Pg.PWRSEQ Rg.PWRSEQ_DUMP_STATUS 2 true
    s.programRelease.log Pg.PWRSEQ Ev.PWRSEQ_DUMP_RESUMED [.v 4 ((s.gts - d.started) / 1000)]

end Sys2Proof.Machine
end

