-- ==== Sys2Proof/Machine/CipherJobs.lean ====
section
/-! DEFINITION. Cipher's jobs and registers (07 R293 to R310, R313, R314). -/
namespace Sys2Proof.Machine

/-- The descriptor's fields (07 R309). -/
def Job.keySlot (j : Job) : Nat := j.f 12 2 % 4096
def Job.aadLen (j : Job) : Nat := j.f 14 2
def Job.len (j : Job) : Nat := j.f 16 4
def Job.duLog (j : Job) : Nat := j.f 20 1
def Job.usage (j : Job) : Nat := j.f 21 1
def Job.kekSlot (j : Job) : Nat := j.f 22 2 % 4096
def Job.iv (j : Job) : List Byte := sliceB j.desc 48 16

/-- Reserved bits that every Cipher job checks, and the fields its opcode does not use (01 R28, R32). -/
def Job.cipherBad (j : Job) : Bool :=
  j.f 0 2 / 2 ^ 13 != 0 || j.f 12 2 / 4096 != 0 || j.f 22 2 / 4096 != 0 ||
    (if j.opcode = 3 ∨ j.opcode = 4 then decide (j.duLog < 9 ∨ 16 < j.duLog) else j.duLog != 0) ||
    decide (2 ^ 28 < j.len) || (j.opcode ≤ 2 && decide (4096 < j.aadLen)) || j.usage / 64 != 0 ||
    (j.eflag 11 && j.src % 64 != 0) || (j.eflag 12 && j.dst % 64 != 0)

/-- An AUTH_FAIL is counted and recorded (07 R297). -/
def State.authFail (s : State) (j : Job) : State :=
  let s := (s.countSat Pg.CIPHER Rg.CIPHER_AUTH_FAIL 1).irq Pg.CIPHER 2
  s.logI Pg.CIPHER j.inst Ev.CIPHER_AUTH_FAIL [.v 1 j.inst, .v 2 j.keySlot, .v 1 j.opcode, .v 4 j.len]

/-- A pending block becomes current (07 R306, R307). -/
def State.takeBlock (s : State) (e : Nat) : State :=
  let x := s.nonceEng e
  match x.pend with
  | none => s.setNonceEng e { x with cur := none }
  | some b =>
    ((s.setNonceEng e { cur := some (b, 0), pend := none, starved := false }).irq Pg.CIPHER 0).log Pg.CIPHER
      Ev.CIPHER_NONCE_BLOCK_TAKEN [.v 1 e, .v 4 b]

/-- The nonce of the next GCM_SEAL of engine `e` (07 R304, R305, R307), or none where the engine has no block: then the refusal
is counted, and the first of a starvation recorded. -/
def State.takeNonce (s : State) (e : Nat) : State × Option (List Byte) :=
  let x := s.nonceEng e
  match x.cur with
  | none =>
    let s := (s.countSat Pg.CIPHER Rg.CIPHER_NONCE_STARVED 1).irq Pg.CIPHER 1
    if x.starved then (s, none)
    else ((s.setNonceEng e { x with starved := true }).logI Pg.CIPHER e Ev.CIPHER_NONCE_STARVED [.v 1 e, .v 8 s.gts], none)
  | some (b, c) =>
    let n := leBytes 1 e ++ leBytes 1 s.headId ++ [0, 0] ++ beBytes 8 (b * 2 ^ 32 + c)
    if c = 2 ^ 32 - 1 then (s.takeBlock e, some n)
    else (s.setNonceEng e { x with cur := some (b, c + 1) }, some n)

/-- What every data job reads: its source of `need` bytes and its AAD, or the status that ends it. -/
def State.cipherSrc (s : State) (j : Job) (need : Nat) : State × Except Nat (List Byte × List Byte) :=
  let a := s.areas j.acc (j.eflag 11) j.src need
  match a.2 with
  | .error c => (a.1, .error c)
  | .ok as =>
    let r := a.1.readAreas j.acc as
    let q := r.1.readBytes j.acc (j.f 40 8) (if j.opcode ≤ 2 then j.aadLen else 0)
    let st := worse r.2.2 q.2.2
    if fine st then (q.1, .ok (r.2.1, q.2.1)) else (q.1, .error st)

/-- Write a data job's result through its destination. -/
def State.cipherDst (s : State) (j : Job) (data : List Byte) (counts : Nat) : State × JobRes :=
  let a := s.areas j.acc (j.eflag 12) j.dst data.length
  match a.2 with
  | .error c => (a.1, stRes c)
  | .ok as =>
    let w := a.1.writeAreas j.acc as data
    (w.1, { status := w.2, counts })

/-- The destination list is checked before anything is read or written (07 R702). -/
def State.dstOk (s : State) (j : Job) (need : Nat) : State × Option Nat :=
  let a := s.areas j.acc (j.eflag 12) j.dst need
  match a.2 with
  | .error c => (a.1, some c)
  | .ok _ => (a.1, none)

/-- GCM_SEAL (07 R296, R305, R307). -/
def execGcmSeal (job : Nat) (s : State) : Res := jobAct s .cipher 1 job fun s j =>
  if j.cipherBad then (s, stRes St.BAD_INPUT)
  else match s.keyFor j.keySlot Us.gcm with
  | .error c => (s, stRes c)
  | .ok k =>
    match s.dstOk j (j.len + if j.eflag 10 then 28 else 16) with
    | (s, some c) => (s, stRes c)
    | (s, none) =>
      match s.takeNonce j.inst with
      | (s, none) => (s, stRes St.NOT_READY)
      | (s, some n) =>
        match s.cipherSrc j j.len with
        | (s, .error c) => (s, stRes c)
        | (s, .ok (data, aad)) =>
          let c := gcmCrypt k n data
          s.cipherDst j ((if j.eflag 10 then n else []) ++ c ++ gcmTag k n aad c) (j.len + 2 ^ 32 * ofLE n)

/-- Every line of areas that have been written is marked poisoned (07 R297). -/
def State.poisonAreas (s : State) (as : List (Nat × Nat)) : State :=
  as.foldl (fun s a => (linesOf a.1 a.2).foldl (fun s l => s.setLine l.1 { s.line l.1 with poison := true }) s) s

/-- GCM_OPEN (07 R296, R297): of more than 64 KiB, plaintext is written as it goes, and poisoned if the tag fails. -/
def execGcmOpen (job : Nat) (s : State) : Res := jobAct s .cipher 2 job fun s j =>
  if j.cipherBad then (s, stRes St.BAD_INPUT)
  else match s.keyFor j.keySlot Us.gcm with
  | .error c => (s, stRes c)
  | .ok k =>
    match s.dstOk j j.len with
    | (s, some c) => (s, stRes c)
    | (s, none) =>
      let env := j.eflag 10
      match s.cipherSrc j (j.len + if env then 28 else 16) with
      | (s, .error c) => (s, stRes c)
      | (s, .ok (data, aad)) =>
        let n := if env then data.take 12 else j.iv.take 12
        let body := if env then data.drop 12 else data
        let c := body.take j.len
        let plain := gcmCrypt k n c
        if body.drop j.len = gcmTag k n aad c then s.cipherDst j plain j.len
        else
          let s := if j.len ≤ 65536 then s
            else
              let a := s.areas j.acc (j.eflag 12) j.dst j.len
              match a.2 with
              | .error _ => a.1
              | .ok as => (a.1.writeAreas j.acc as plain).1.poisonAreas as
          (s.authFail j, { status := St.AUTH_FAIL, counts := j.len })

/-- An XTS job (07 R294, R300). -/
def State.xtsJob (s : State) (j : Job) (enc : Bool) : State × JobRes :=
  let u := 2 ^ j.duLog
  if j.cipherBad || decide (j.len < 16) || (j.len % u != 0 && decide (j.len % u < 16)) || j.keySlot % 2 != 0 then (s, stRes St.BAD_INPUT)
  else match s.keyFor j.keySlot Us.xts, s.keyFor (j.keySlot + 1) Us.xts with
  | .error a, .error b => (s, stRes (worse a b))
  | .error c, .ok _ => (s, stRes c)
  | .ok _, .error c => (s, stRes c)
  | .ok k, .ok k2 =>
    match s.dstOk j j.len with
    | (s, some c) => (s, stRes c)
    | (s, none) =>
      match s.cipherSrc j j.len with
      | (s, .error c) => (s, stRes c)
      | (s, .ok (data, _)) =>
        let units := chunksOf u ((j.len + u - 1) / u) data
        s.cipherDst j ((units.zip (List.range units.length)).flatMap fun e => xtsUnit enc k k2 (ofLE j.iv + e.2) e.1) j.len

/-- XTS_ENC (07 R294). -/
def execXtsEnc (job : Nat) (s : State) : Res := jobAct s .cipher 3 job fun s j => s.xtsJob j true

/-- XTS_DEC (07 R294). -/
def execXtsDec (job : Nat) (s : State) : Res := jobAct s .cipher 4 job fun s j => s.xtsJob j false

/-- CTR (07 R295). -/
def execCtr (job : Nat) (s : State) : Res := jobAct s .cipher 5 job fun s j =>
  if j.cipherBad || j.len == 0 then (s, stRes St.BAD_INPUT)
  else match s.keyFor j.keySlot Us.ctr with
  | .error c => (s, stRes c)
  | .ok k =>
    match s.dstOk j j.len with
    | (s, some c) => (s, stRes c)
    | (s, none) =>
      match s.cipherSrc j j.len with
      | (s, .error c) => (s, stRes c)
      | (s, .ok (data, _)) => s.cipherDst j (aesCtr k j.iv data) j.len

/-! ### Keys -/

/-- A slot has changed: the record gives the operation, 0 LOAD, 1 CLEAR, 2 KEY_GEN, 3 KEY_UNWRAP, 4 KEY_CLEAR, and the new KCV
(07 R315). -/
def State.keyChanged (s : State) (slot op : Nat) : State :=
  s.log Pg.CIPHER Ev.CIPHER_KEY_CHANGED [.v 2 slot, .v 1 op, .v 4 (s.slot slot).kcv]

/-- A key job's result gives the slot's KCV in bits [119:96] (07 R310). -/
def State.keyRes (s : State) (slot : Nat) : JobRes := { status := St.OK, counts := 2 ^ 32 * (s.slot slot).kcv }

/-- `n` words of the random source, as bytes: free values. -/
def State.randBytes : Nat → State → State × List Byte
  | 0, s => (s, [])
  | n + 1, s =>
    let a := s.free
    let r := State.randBytes n a.2
    (r.1, leBytes 4 a.1.toNat ++ r.2)

/-- KEY_GEN (07 R303). -/
def execKeyGen (job : Nat) (s : State) : Res := jobAct s .cipher 0x10 job fun s j =>
  if j.cipherBad then (s, stRes St.BAD_INPUT)
  else
    let r := State.randBytes 8 s
    let s := (r.1.setSlot j.keySlot { key := some r.2, usage := j.usage % 32, exportable := bitOf j.usage 5 }).keyChanged j.keySlot 2
    (s, s.keyRes j.keySlot)

/-- KEY_WRAP (07 R303). -/
def execKeyWrap (job : Nat) (s : State) : Res := jobAct s .cipher 0x11 job fun s j =>
  if j.cipherBad then (s, stRes St.BAD_INPUT)
  else match s.keyFor j.kekSlot Us.kek, (s.slot j.keySlot).key with
  | .error c, some _ => (s, stRes c)
  | .error _, none | .ok _, none => (s, stRes St.KEY_EMPTY)
  | .ok kek, some k =>
    if !(s.slot j.keySlot).exportable then (s, stRes St.LOCKED)
    else
      let r := s.cipherDst j (kwWrap kek k) (2 ^ 32 * (s.slot j.keySlot).kcv)
      r

/-- KEY_UNWRAP (07 R303). -/
def execKeyUnwrap (job : Nat) (s : State) : Res := jobAct s .cipher 0x12 job fun s j =>
  if j.cipherBad then (s, stRes St.BAD_INPUT)
  else match s.keyFor j.kekSlot Us.kek with
  | .error c => (s, stRes c)
  | .ok kek =>
    match s.cipherSrc j 40 with
    | (s, .error c) => (s, stRes c)
    | (s, .ok (w, _)) =>
      match kwUnwrap kek w with
      | none => (s.authFail j, stRes St.AUTH_FAIL)
      | some k =>
        let s := (s.setSlot j.keySlot { key := some k, usage := j.usage % 32, exportable := bitOf j.usage 5 }).keyChanged j.keySlot 3
        (s, s.keyRes j.keySlot)

/-- KEY_CLEAR (07 R303). -/
def execKeyClear (job : Nat) (s : State) : Res := jobAct s .cipher 0x13 job fun s j =>
  if j.cipherBad then (s, stRes St.BAD_INPUT)
  else
    let s := (s.setSlot j.keySlot {}).keyChanged j.keySlot 4
    (s, s.keyRes j.keySlot)

/-- The key data registers read back as 0 after a LOAD or CLEAR, and the status shows the code (07 R314). -/
def State.endKeyCmd (s : State) (code : Nat) : State :=
  ((List.range 8).foldl (fun s i => s.wrN Pg.CIPHER (Rg.CIPHER_KEY_DATA + 4 * i) 0 0) s).wrN Pg.CIPHER Rg.CIPHER_KEY_CMD_STATUS 0 (256 * code)

/-- KEY_CMD_LOAD (07 R302, R314). -/
def execKeyCmdLoad (master value : Nat) (s : State) : Res := actIf s (value % 4 == 1) fun s =>
  let w : RegW := { page := Pg.CIPHER, off := Rg.CIPHER_KEY_CMD, master, value }
  s.regCmd w fun s _ =>
    if s.rb Pg.CIPHER Rg.CIPHER_CFG 1 then (s.refuseAt w 0).wrN Pg.CIPHER Rg.CIPHER_KEY_CMD_STATUS 0 (256 * St.LOCKED)
    else
      let n := s.rf Pg.CIPHER Rg.CIPHER_KEY_SEL 11 0
      let k := (List.range 8).flatMap fun i => leBytes 4 (s.rdN Pg.CIPHER (Rg.CIPHER_KEY_DATA + 4 * i))
      let at' := s.rdN Pg.CIPHER Rg.CIPHER_KEY_ATTR
      ((s.setSlot n { key := some k, usage := at' % 32, exportable := bitOf at' 5 }).keyChanged n 0).endKeyCmd St.OK

/-- KEY_CMD_CLEAR (07 R314). -/
def execKeyCmdClear (master value : Nat) (s : State) : Res := actIf s (value % 4 == 2) fun s =>
  s.regCmd { page := Pg.CIPHER, off := Rg.CIPHER_KEY_CMD, master, value } fun s _ =>
    let n := s.rf Pg.CIPHER Rg.CIPHER_KEY_SEL 11 0
    ((s.setSlot n {}).keyChanged n 1).endKeyCmd St.OK

/-- CIPHER_NONCE_FLOOR_WRITE (07 R306). -/
def execCipherNonceFloorWrite (master value : Nat) (s : State) : Res := act s fun s =>
  s.regCmd { page := Pg.CIPHER, off := Rg.CIPHER_NONCE_FLOOR, master, value } fun s _ =>
    { s.wrN Pg.CIPHER Rg.CIPHER_NONCE_NEXT 0 value with cipher := { s.cipher with floored := true } }

/-- CIPHER_NONCE_GRANT_WRITE (07 R306): taken, or ignored and recorded. -/
def execCipherNonceGrantWrite (master value : Nat) (s : State) : Res := act s fun s =>
  let w : RegW := { page := Pg.CIPHER, off := Rg.CIPHER_NONCE_GRANT, master, value }
  s.regCmd w fun s _ =>
    let e := s.rf Pg.CIPHER Rg.CIPHER_NONCE_ENG 3 0
    let next := s.rdN Pg.CIPHER Rg.CIPHER_NONCE_NEXT
    let b := value % 2 ^ 32
    let x := s.nonceEng e
    if !s.cipher.floored || decide (b < next) || x.pend.isSome then
      (s.ignoreW w).log Pg.CIPHER Ev.CIPHER_GRANT_REFUSED [.v 1 e, .v 4 b, .v 4 next]
    else
      let s := (s.setNonceEng e { x with pend := some b }).wrN Pg.CIPHER Rg.CIPHER_NONCE_NEXT 0 (b + 1)
      if x.cur.isNone then s.takeBlock e else s

end Sys2Proof.Machine
end

