-- ==== Sys2Proof/Machine/UrtOps.lean ====
section
/-! DEFINITION. URT's shared operations: packets as bytes, flows, congestion control, resending, event queues (04 R160 to R181). -/
namespace Sys2Proof.Machine

/-! ### Fractions -/

/-- The fraction n / d in lowest terms. -/
def Frac.of (n d : Nat) : Frac := { num := n / max 1 (Nat.gcd n d), den := max 1 (d / max 1 (Nat.gcd n d)) }
def Frac.add (a b : Frac) : Frac := Frac.of (a.num * b.den + b.num * a.den) (a.den * b.den)
/-- The difference, or 0. -/
def Frac.sub (a b : Frac) : Frac := Frac.of (a.num * b.den - b.num * a.den) (a.den * b.den)
def Frac.mul (a b : Frac) : Frac := Frac.of (a.num * b.num) (a.den * b.den)
def Frac.div (a b : Frac) : Frac := Frac.of (a.num * b.den) (a.den * b.num)
def Frac.lt (a b : Frac) : Bool := decide (a.num * b.den < b.num * a.den)
def Frac.max (a b : Frac) : Frac := if a.lt b then b else a
def Frac.min (a b : Frac) : Frac := if a.lt b then a else b
def Frac.nat (n : Nat) : Frac := { num := n }

/-! ### Flows -/

/-- A flow's key: Seam flows are apart from Ethernet's. -/
def fkey (seam : Bool) (n : Nat) : Nat := n % 65536 + 65536 * b2n seam
def isSeam (k : Nat) : Bool := decide (65536 ≤ k)

def State.flow (s : State) (k : Nat) : UFlow := mgetD {} s.urt.flows k
def State.qp (s : State) (n : Nat) : Qp := mgetD {} s.urt.qps n

/-- URT_FLOWS and URT_QPS show the flows open and the queue pairs not in reset (04 R185). -/
def State.showFlows (s : State) : State :=
  (s.wrN Pg.URT Rg.URT_FLOWS 0 (s.urt.flows.filter fun e => e.2.st == 2).length).wrN Pg.URT Rg.URT_QPS 0
    (s.urt.qps.filter fun e => e.2.st != 0).length

def State.setFlow (s : State) (k : Nat) (f : UFlow) : State :=
  ({ s with urt := { s.urt with flows := mputD {} s.urt.flows k f } }).showFlows
def State.setQp (s : State) (n : Nat) (q : Qp) : State :=
  ({ s with urt := { s.urt with qps := mputD {} s.urt.qps n q } }).showFlows

/-- The engine takes jobs and packets: enabled, and not stopped by DEVICE_FATAL (04 R182). -/
def State.urtOn (s : State) : Bool := s.pageReady Pg.URT && s.rb Pg.URT Rg.URT_CFG 0 && !s.urt.fatal

/-- PSN arithmetic modulo 2^24: how far `a` is after `b`. -/
def psnDist (a b : Nat) : Nat := (a + 2 ^ 24 - b % 2 ^ 24) % 2 ^ 24
def psnAdd (a n : Nat) : Nat := (a + n) % 2 ^ 24

/-- The target round trip of a flow, ns (04 R176). -/
def State.targetRtt (s : State) (k : Nat) : Nat :=
  1000 * s.rf Pg.URT (if isSeam k then Rg.URT_SEAM_TARGET_RTT else Rg.URT_TARGET_RTT) 7 0

/-- A flow opens with fresh numbers (04 R166, R177). -/
def State.openFlow (s : State) (k : Nat) (f : UFlow) (peer txPsn rxPsn epoch payload : Nat) (enc : Bool) : State :=
  s.setFlow k { f with
    st := 2, peer, epoch, payload, enc
    txNext := txPsn, txCum := psnDist txPsn 1, txNo := 0, sent := [], queue := [], msgs := [], nextMsg := 0
    cwnd := Frac.nat (s.rf Pg.URT Rg.URT_CC_PARAMS 31 24), srtt := Frac.nat (s.targetRtt k), lastDec := none
    rxNext := rxPsn, held := [], asm := [], ready := [], rxCount := 0, echo := 0 }

/-- The payload size of a flow (04 R165): the largest of 1,024, 2,048 and 4,096 that the path and both ends allow. -/
def payloadFor (mtu offer : Nat) : Nat :=
  let top := min offer (mtu - 120)
  if 4096 ≤ top then 4096 else if 2048 ≤ top then 2048 else 1024

/-! ### Packets as bytes (04 R162 to R164) -/

/-- The base header. -/
def urtHeader (ty flags dst src psn len msg ts epoch : Nat) : List Byte :=
  beBytes 1 (0x10 + ty) ++ beBytes 1 flags ++ beBytes 2 dst ++ beBytes 2 src ++ beBytes 3 psn ++ [0] ++ beBytes 2 len ++
    beBytes 4 msg ++ beBytes 4 ts ++ beBytes 4 epoch

/-- The packet closed by its CRC-32C. -/
def urtClose (b : List Byte) : List Byte := b ++ beBytes 4 (crc32c b)

/-- Send one packet of a flow; a payload on a flow with enc is sealed under the flow's key slot with a hardware nonce. False
where no nonce or key is to be had: nothing is sent. -/
def State.urtEmit (s : State) (k : Nat) (p : UPkt) : State × Bool :=
  let f := s.flow k
  let enc := f.enc && p.data.length != 0
  let flags := 128 * b2n p.ackReq + 64 * b2n p.first + 32 * b2n p.last + 16 * b2n enc + 8 * b2n p.urgent
  let h := urtHeader p.ty flags f.peer (k % 65536) p.psn p.data.length p.msg (s.gts % 2 ^ 32) f.epoch ++ p.ext
  if !enc then (s.emit (.packet k (urtClose (h ++ p.data))), true)
  else match s.keyFor f.slot Us.gcm with
  | .error _ => (s, false)
  | .ok key =>
    match s.takeNonce (k % 16) with
    | (s, none) => (s, false)
    | (s, some n) =>
      let c := gcmCrypt key n p.data
      (s.emit (.packet k (urtClose (h ++ n ++ c ++ gcmTag key n [] c))), true)

/-- A packet as it arrives. -/
structure UIn where
  ty : Nat
  dst : Nat
  src : Nat
  psn : Nat
  len : Nat
  msg : Nat
  ts : Nat
  epoch : Nat
  flags : Nat
  ext : List Byte
  nonce : List Byte
  body : List Byte
  tag : List Byte
  crcOk : Bool
  deriving DecidableEq, Repr

/-- Read a packet's bytes; one whose size is not that of its type, flags and length fails its check. -/
def parseUrt (b : List Byte) : UIn :=
  let be := fun (a n : Nat) => ofBE (sliceB b a n)
  let ty := be 0 1 % 16
  let flags := be 1 1
  let enc := bitOf flags 4
  let extLen := if ty = 3 ∨ (ty = 2 ∧ bitOf flags 6) then 16 else if ty = 5 then 40 else 0
  let len := be 10 2
  let o := 24 + extLen + 12 * b2n enc
  let total := o + len + 16 * b2n enc + 4
  { ty, flags, dst := be 2 2, src := be 4 2, psn := be 6 3, len, msg := be 12 4, ts := be 16 4, epoch := be 20 4
    ext := sliceB b 24 extLen, nonce := sliceB b (24 + extLen) 12, body := sliceB b o len, tag := sliceB b (o + len) 16
    crcOk := be 0 1 / 16 == 1 && b.length == total && crc32c (b.take (total - 4)) == be (total - 4) 4 }

/-- The payload of a packet in the clear; none where its tag fails, or enc is not the flow's. -/
def State.urtOpenBody (s : State) (f : UFlow) (p : UIn) : Option (List Byte) :=
  if p.len = 0 then some []
  else if bitOf p.flags 4 != f.enc then none
  else if !f.enc then some p.body
  else match s.keyFor f.slot Us.gcm with
  | .error _ => none
  | .ok key => if gcmTag key p.nonce [] p.body = p.tag then some (gcmCrypt key p.nonce p.body) else none

/-! ### Event queues (04 R180, R181) -/

/-- Event types. -/
abbrev Et.PORT_UP : Nat := 1
abbrev Et.PORT_DOWN : Nat := 2
abbrev Et.PORT_DEGRADED : Nat := 3
abbrev Et.PFC_STORM : Nat := 4
abbrev Et.FLOW_ERROR : Nat := 5
abbrev Et.FLOW_RESET : Nat := 6
abbrev Et.QP_FATAL : Nat := 7
abbrev Et.EQ_OVERFLOW : Nat := 8
abbrev Et.DEVICE_FATAL : Nat := 9

/-- An event queue accepts events: enabled with a size of the table. -/
def State.eqOn (s : State) (q : Nat) : Bool :=
  let z := s.rf Pg.URT Rg.URT_EQ_CFG 8 4 q
  s.rb Pg.URT Rg.URT_EQ_CFG 0 q && decide (4 ≤ z) && decide (z ≤ 16)
def State.eqSize (s : State) (q : Nat) : Nat := 2 ^ s.rf Pg.URT Rg.URT_EQ_CFG 8 4 q
def State.eqFull (s : State) (q : Nat) : Bool :=
  (s.rf Pg.URT Rg.URT_EQ_TAIL 15 0 q + 1) % s.eqSize q == s.rf Pg.URT Rg.URT_EQ_HEAD 15 0 q

/-- The 32 bytes of an event record. -/
def eventBytes (ty phase source subject detail gts : Nat) : List Byte :=
  leBytes 1 ty ++ leBytes 1 phase ++ leBytes 2 source ++ leBytes 4 subject ++ leBytes 16 detail ++ leBytes 8 gts

/-- Write a record to an event queue with space; the engine writes its queues under SYSTEM (log 33). -/
def State.putEvent (s : State) (q ty source subject detail : Nat) : State :=
  let t := s.rf Pg.URT Rg.URT_EQ_TAIL 15 0 q
  let ph := mgetD false s.urt.phases q
  let s := (s.writeBytes { master := Ms.URT, owner := sysOwner } (s.rd64 Pg.URT Rg.URT_EQ_BASE_LO q + 32 * t)
    (eventBytes ty (b2n (!ph)) source subject detail s.gts)).1
  let next := (t + 1) % s.eqSize q
  let s := s.wrN Pg.URT Rg.URT_EQ_TAIL q next
  if next = 0 then { s with urt := { s.urt with phases := mputD false s.urt.phases q (!ph) } } else s

/-- An event for one queue: written, or lost and counted while the queue is full, the first loss recorded. -/
def State.event (s : State) (q ty source subject detail : Nat) : State :=
  if !s.eqOn q then s
  else if s.eqFull q || s.rdN Pg.URT Rg.URT_EQ_LOST q != 0 then
    let first := s.rdN Pg.URT Rg.URT_EQ_LOST q == 0
    let s := s.countSat Pg.URT Rg.URT_EQ_LOST 1 q
    if first then s.log Pg.URT Ev.URT_EQ_OVERFLOW [.v 1 q, .v 1 ty] else s
  else s.putEvent q ty source subject detail

/-- A port or device event goes to every enabled queue whose port_events bit is set. -/
def State.portEvent (s : State) (ty source subject detail : Nat) : State :=
  (List.range 64).foldl (fun s q => if s.rb Pg.URT Rg.URT_EQ_CFG 1 q then s.event q ty source subject detail else s) s

/-! ### Connections and messages that end -/

/-- Every NVMe queue of transport connection `c` is lost (03 R133, R137): flows by key, queue pairs from 131,072. -/
def State.connLost (s : State) (c : Nat) : State :=
  (s.hq.queues.filter fun e => e.2.conn == c).foldl (fun s e => s.queueReset (e.1 / 256) (e.1 % 256) 1 true) s
def qpConn (n : Nat) : Nat := 131072 + n

/-- A URT job ends with a status, bytes transferred and packets resent (04 R179). -/
def State.endUrtJob (s : State) (id status bytes retx : Nat) : State :=
  match mget s.eng.jobs id with
  | some j => s.endJob id j { status, counts := bytes + 2 ^ 32 * (retx % 65536) }
  | none => s

/-- Jobs outstanding on a flow: its messages, its posted buffers, its OPEN. -/
def UFlow.jobs (f : UFlow) : List Nat := f.msgs.map (·.2.job) ++ f.recvs ++ f.job.toList

/-- Every job outstanding on a flow ends with `status`. -/
def State.endFlowJobs (s : State) (k status : Nat) : State :=
  let f := s.flow k
  let s := f.jobs.foldl (fun s j => s.endUrtJob j status 0 0) s
  s.setFlow k { f with msgs := [], recvs := [], job := none, sent := [], queue := [], held := [], asm := [], ready := [] }

/-- A flow enters error (04 R175). -/
def State.flowError (s : State) (k psn : Nat) : State :=
  let f := s.flow k
  let n := f.jobs.length
  let s := s.endFlowJobs k St.TIMEOUT
  let s := s.setFlow k { s.flow k with st := 3 }
  let s := s.event f.eq Et.FLOW_ERROR (srcOf Pg.URT) (k % 65536) psn
  let s := s.log Pg.URT Ev.URT_FLOW_ERROR [.v 4 (k % 65536), .v 4 psn, .v 4 n]
  s.connLost k

/-! ### Sending -/

/-- Packets sent and not acknowledged. -/
def UFlow.unacked (f : UFlow) : Nat := (f.sent.filter fun x => !x.got).length

/-- Send the packet at the front of a flow's queue. -/
def State.urtSendHead (s : State) (k : Nat) : State × Bool :=
  let f := s.flow k
  match f.queue with
  | [] => (s, false)
  | p :: rest =>
    let p := { p with psn := f.txNext }
    let r := s.urtEmit k p
    if r.2 then
      (r.1.setFlow k { f with
        queue := rest, txNext := psnAdd f.txNext 1, txNo := f.txNo + 1, sent := f.sent ++ [{ pkt := p, txNo := f.txNo }] }, true)
    else (r.1, false)

/-- The window lets the front packet go (04 R170, R177). -/
def UFlow.maySend (f : UFlow) : Bool :=
  f.st == 2 && decide (psnDist f.txNext f.txCum ≤ 256) &&
    match f.queue with
    | [] => false
    | p :: _ => p.urgent || !(f.cwnd.lt (Frac.nat (f.unacked + 1)))

/-- Send what the window allows. -/
def State.urtPump : Nat → State → Nat → State
  | 0, s, _ => s
  | n + 1, s, k =>
    if (s.flow k).maySend then
      let r := s.urtSendHead k
      if r.2 then State.urtPump n r.1 k else r.1
    else s
def State.pump (s : State) (k : Nat) : State := State.urtPump 257 s k

/-- Queue packets behind what waits; urgent ones go ahead of the others (04 R177). -/
def State.urtQueue (s : State) (k : Nat) (l : List UPkt) : State :=
  let f := s.flow k
  (s.setFlow k { f with queue := l.filter (·.urgent) ++ f.queue ++ l.filter fun p => !p.urgent }).pump k

/-- Resend a PSN, or put the flow in error after retry_max resends (04 R174, R175). -/
def State.urtResend (s : State) (k psn : Nat) : State :=
  let f := s.flow k
  match f.sent.find? fun x => x.pkt.psn == psn && !x.got with
  | none => s
  | some x =>
    if s.rf Pg.URT Rg.URT_RETRY 3 0 ≤ x.resends then s.flowError k psn
    else
      let r := s.urtEmit k x.pkt
      if !r.2 then r.1
      else
        let f := { f with
          txNo := f.txNo + 1
          sent := f.sent.map fun y => if y.pkt.psn = psn then { y with txNo := f.txNo, resends := y.resends + 1 } else y
          msgs := mmod f.msgs x.pkt.msg fun m => { m with retx := m.retx + 1 } }
        (r.1.setFlow k f).count Pg.URT Rg.URT_RETX 1

/-- The packets of a message of `ty` cut to the flow's payload size. -/
def cutMsg (payload ty msg : Nat) (ext data : List Byte) (urgent : Bool) : List UPkt :=
  let n := max 1 ((data.length + payload - 1) / payload)
  (List.range n).map fun i =>
    { ty, msg, first := i == 0, last := i + 1 == n, ackReq := i + 1 == n, urgent, ext := if i = 0 then ext else []
      data := (data.drop (i * payload)).take payload }

/-- The extension header. -/
def extHeader (raddr rkey len : Nat) : List Byte := beBytes 8 raddr ++ beBytes 4 rkey ++ beBytes 4 len

/-! ### Acknowledging -/

/-- Send an ACK of what has arrived (04 R162, R172). -/
def State.urtAck (s : State) (k : Nat) : State :=
  let f := s.flow k
  let sack := (f.held.map fun e => 2 ^ psnDist e.1 f.rxNext).sum
  let b := urtHeader 5 0 f.peer (k % 65536) 0 0 0 (s.gts % 2 ^ 32) f.epoch ++ beBytes 3 (psnDist f.rxNext 1) ++ [0] ++
    beBytes 4 f.echo ++ leBytes 32 sack
  (s.setFlow k { f with rxCount := 0 }).emit (.packet k (urtClose b))

/-- Congestion control on an ACK (04 R176): `n` packets newly acknowledged. -/
def State.urtControl (s : State) (k rtt n : Nat) (f : UFlow) : UFlow :=
  let target := s.targetRtt k
  let cc := fun hi lo => s.rf Pg.URT Rg.URT_CC_PARAMS hi lo
  let srtt := (f.srtt.mul (Frac.of 7 8)).add (Frac.of rtt 8)
  let r : Frac × Option Nat :=
    if rtt < target then (f.cwnd.add ((Frac.of (cc 23 16 * n) 16).div f.cwnd), f.lastDec)
    else if f.lastDec.all fun t => !((Frac.nat (s.gts - t)).lt srtt) then
      (f.cwnd.mul (((Frac.nat 1).sub (Frac.of (cc 7 0 * (rtt - target)) (256 * rtt))).max ((Frac.nat 1).sub (Frac.of (cc 15 8) 256))),
        some s.gts)
    else (f.cwnd, f.lastDec)
  { f with srtt, cwnd := (r.1.max (Frac.of 1 16)).min (Frac.nat 256), lastDec := r.2 }

/-- Messages of a flow every packet of which is acknowledged are done (04 R179); a READ is done when its data has come. -/
def State.urtSettle (s : State) (k : Nat) : State :=
  let f := s.flow k
  let done := f.msgs.filter fun e => !e.2.read && !(f.queue.any fun p => p.ty != 4 && p.msg == e.1) &&
    !(f.sent.any fun x => x.pkt.ty != 4 && x.pkt.msg == e.1 && !x.got)
  let s := s.setFlow k { f with msgs := f.msgs.filter fun e => !done.contains e }
  done.foldl (fun s e => s.endUrtJob e.2.job St.OK e.2.len e.2.retx) s

end Sys2Proof.Machine
end

