-- ==== Sys2Proof/Machine/Urt.lean ====
section
/-! DEFINITION. URT flows, RoCEv2 queue pairs and the Ethernet ports: packets that arrive, timers, jobs, link events (04). -/
namespace Sys2Proof.Machine

/-! ### Data packets (04 R169 to R173) -/

/-- The access a flow's packets make to this head's memory: under the owner of the flow's OPEN (DEDUCED, log 46). -/
def UFlow.acc (f : UFlow) : Option Acc := f.owner.map fun o => { master := Ms.URT, owner := o }

/-- A complete SEND message goes into the oldest posted buffer; without one it waits. -/
def State.takeSend (s : State) (k : Nat) (data : List Byte) : State :=
  let f := s.flow k
  match f.recvs with
  | [] => s.setFlow k { f with ready := f.ready ++ [data] }
  | id :: rest =>
    let s := s.setFlow k { f with recvs := rest }
    match mget s.eng.jobs id with
    | none => s
    | some j =>
      let n := min data.length (j.f 32 4)
      let r := s.writeBytes j.acc (j.f 16 8) (data.take n)
      r.1.endUrtJob id (if n < data.length then St.OUT_FULL else r.2) n 0

/-- A message whose last packet has been taken in order completes: its data is placed, and its consumer told (04 R173). -/
def State.urtComplete (s : State) (k ty msg : Nat) (ext data : List Byte) : State :=
  let f := s.flow k
  if ty = 1 then s.takeSend k data
  else if ty = 2 then
    match f.acc with
    | some w => (s.writeBytes w (ofBE (ext.take 8)) data).1
    | none => s
  else match mget f.msgs msg with
  | none => s
  | some m =>
    let s := s.setFlow k { f with msgs := mdel f.msgs msg }
    match mget s.eng.jobs m.job with
    | none => s
    | some j =>
      let r := s.writeBytes j.acc (j.f 16 8) (data.take m.len)
      r.1.endUrtJob m.job r.2 (min data.length m.len) m.retx

/-- A read request is answered with the data at the address (04 R162). -/
def State.urtAnswer (s : State) (k msg : Nat) (ext : List Byte) : State :=
  let f := s.flow k
  let n := min (ofBE ((ext.drop 12).take 4)) (2 ^ 30)
  let r := match f.acc with
    | some w => (let r := s.readBytes w (ofBE (ext.take 8)) n; (r.1, r.2.1))
    | none => (s, List.replicate n 0)
  r.1.urtQueue k (cutMsg f.payload 4 msg [] r.2 false)

/-- One packet is taken in PSN order. -/
def State.urtTake (s : State) (k : Nat) (p : UPkt) : State :=
  let f := s.flow k
  let f := { f with rxNext := psnAdd f.rxNext 1 }
  if p.ty = 3 then (s.setFlow k f).urtAnswer k p.msg p.ext
  else
    let key := p.ty * 2 ^ 32 + p.msg
    let old := if p.first then (p.ext, []) else mgetD ([], []) f.asm key
    let new := (old.1, old.2 ++ p.data)
    if p.last then (s.setFlow k { f with asm := mdel f.asm key }).urtComplete k p.ty p.msg new.1 new.2
    else s.setFlow k { f with asm := mput f.asm key new }

/-- cum_psn advances over every packet held that is next (04 R171). -/
def State.urtAdvance : Nat → State → Nat → State
  | 0, s, _ => s
  | n + 1, s, k =>
    let f := s.flow k
    match mget f.held f.rxNext with
    | none => s
    | some p => State.urtAdvance n ((s.setFlow k { f with held := mdel f.held f.rxNext }).urtTake k p) k

/-- A data packet arrives at its flow (04 R171, R172). -/
def State.urtData (s : State) (k : Nat) (p : UIn) (body : List Byte) : State :=
  let f := s.flow k
  let u : UPkt := { psn := p.psn, ty := p.ty, msg := p.msg, first := bitOf p.flags 6, last := bitOf p.flags 5, ext := p.ext, data := body }
  let d := psnDist p.psn f.rxNext
  if d = 0 then
    if p.ty = 1 ∧ u.first ∧ f.recvs = [] then s
    else
      let s := s.setFlow k { f with rxCount := f.rxCount + 1, echo := p.ts }
      let s := State.urtAdvance 256 (s.urtTake k u) k
      if bitOf p.flags 7 then s.urtAck k else s
  else if d ≤ 255 then
    (s.setFlow k { f with held := mput f.held p.psn u, rxCount := f.rxCount + 1, echo := p.ts }).urtAck k
  else if d < 2 ^ 23 then s.countSat Pg.URT Rg.URT_DROP_WINDOW 1
  else (s.setFlow k { f with echo := p.ts }).urtAck k

/-- A packet of type `ty` arrives at an open flow: discards of R169, then `f`. -/
def urtIn (seam : Bool) (pkt : List Byte) (ty : Nat) (f : State → Nat → UIn → List Byte → State) (s : State) : Res :=
  actIf s s.urtOn fun s =>
    let p := parseUrt pkt
    let k := fkey seam p.dst
    if !p.crcOk then s.countSat Pg.URT Rg.URT_DROP_CRC 1
    else if p.ty ≠ ty ∨ (s.flow k).st ≠ 2 then s
    else if p.epoch ≠ (s.flow k).epoch then s.countSat Pg.URT Rg.URT_DROP_EPOCH 1
    else match s.urtOpenBody (s.flow k) p with
    | none => s.countSat Pg.URT Rg.URT_DROP_AUTH 1
    | some body => f s k p body

/-- URT_SEND_PACKET (04 R171): into the posted buffer; with none posted it is discarded, as a packet lost. -/
def execUrtSendPacket (seam : Bool) (pkt : List Byte) (s : State) : Res := urtIn seam pkt 1 State.urtData s
/-- URT_WRITE_PACKET (04 R171, R173). -/
def execUrtWritePacket (seam : Bool) (pkt : List Byte) (s : State) : Res := urtIn seam pkt 2 State.urtData s
/-- READ_REQ (04 R162). -/
def execReadReq (seam : Bool) (pkt : List Byte) (s : State) : Res := urtIn seam pkt 3 State.urtData s
/-- READ_RESP (04 R171). -/
def execReadResp (seam : Bool) (pkt : List Byte) (s : State) : Res := urtIn seam pkt 4 State.urtData s

/-! ### ACKs and timers (04 R172 to R176) -/

/-- PSNs the reorder rule calls lost (04 R174): still missing, while `r` packets after them, sent after their own last
transmission, have been received. -/
def UFlow.lost (f : UFlow) (r : Nat) : List Nat :=
  (f.sent.filter fun x => !x.got && decide (r ≤ (f.sent.filter fun y =>
    y.got && decide (psnDist y.pkt.psn x.pkt.psn < 2 ^ 23) && decide (x.txNo < y.txNo)).length)).map (·.pkt.psn)

/-- URT_ACK (04 R162, R174, R176). -/
def execUrtAck (seam : Bool) (pkt : List Byte) (s : State) : Res := urtIn seam pkt 5 (fun s k p _ =>
  let f := s.flow k
  let cum := ofBE (p.ext.take 3)
  let sack := ofLE ((p.ext.drop 8).take 32)
  let shown := fun n => decide (psnDist cum n < 2 ^ 23) || (decide (psnDist n cum ≤ 256) && bitOf sack (psnDist n cum - 1))
  let newly := (f.sent.filter fun x => !x.got && shown x.pkt.psn).length
  let fwd := decide (psnDist cum f.txCum < 2 ^ 23)
  let sent := (f.sent.map fun x => if shown x.pkt.psn then { x with got := true } else x).filter fun x =>
    !(fwd && decide (psnDist cum x.pkt.psn < 2 ^ 23))
  let rtt := (s.gts + 2 ^ 32 - ofBE ((p.ext.drop 4).take 4)) % 2 ^ 32
  let f := s.urtControl k rtt newly { f with sent, txCum := if fwd then cum else f.txCum }
  let s := (s.setFlow k f).urtSettle k
  let s := ((s.flow k).lost (s.rf Pg.URT Rg.URT_RETRY 11 8)).foldl (fun s n => s.urtResend k n) s
  s.pump k) s

/-- ACK_TIMER (04 R172): 16 accepted packets, or 2 µs, without an ACK. -/
def execAckTimer (seam : Bool) (flow : Nat) (s : State) : Res :=
  let k := fkey seam flow
  actIf s (s.urtOn && (s.flow k).st == 2 && (s.flow k).rxCount != 0) fun s => s.urtAck k

/-- Pairs whose session runs on a flow: the state of each is DIFFING or SENDING (10 R430). -/
def State.sessionsOn (s : State) (k : Nat) : List Nat :=
  (List.range 256).filter fun i =>
    let st := s.rf Pg.SNAPREP Rg.SNAPREP_PAIR_STATE 2 0 i
    (st == 1 || st == 2) && s.rf Pg.SNAPREP Rg.SNAPREP_PAIR_CFG 31 16 i == k

/-- A replication session whose flow fails goes to RESUMING (10 R425). -/
def State.linkLost (s : State) (k : Nat) : State :=
  (s.sessionsOn k).foldl (fun s i =>
    let s := (s.wf Pg.SNAPREP Rg.SNAPREP_PAIR_STATE 2 0 3 i).fieldSat Pg.SNAPREP Rg.SNAPREP_PAIR_STATE 31 16 1 i
    (s.irq Pg.SNAPREP 1).log Pg.SNAPREP Ev.REPL_LINK_LOST
      [.v 4 i, .v 8 (s.rd64 Pg.SNAPREP Rg.SNAPREP_PAIR_CURSOR_LO i), .v 4 (s.flow k).epoch]) s

/-- RTO_EXPIRY (04 R174, R175): PSN `psn` has stayed unacknowledged for RTO. -/
def execRtoExpiry (seam : Bool) (flow psn : Nat) (s : State) : Res :=
  let k := fkey seam flow
  actIf s (s.urtOn && (s.flow k).st == 2) fun s =>
    let s := s.urtResend k psn
    if (s.flow k).st = 3 then s.linkLost k else s

/-- PACED_SEND (04 R176): with cwnd below 1, one packet is sent. -/
def execPacedSend (seam : Bool) (flow : Nat) (s : State) : Res :=
  let k := fkey seam flow
  actIf s (s.urtOn && (s.flow k).st == 2 && (s.flow k).cwnd.lt (Frac.nat 1) &&
      decide (psnDist (s.flow k).txNext (s.flow k).txCum ≤ 256)) fun s => (s.urtSendHead k).1

/-! ### Opening and closing flows (04 R165 to R168) -/

/-- A CONNECT, its acceptance, or a CLOSE; an offered payload size stands in the two payload bytes (DESIGN CHOICE, log 47). -/
def State.emitSetup (s : State) (k ty dst psn epoch offer : Nat) (enc : Bool) : State :=
  let body := if ty = 8 then [] else beBytes 2 offer
  s.emit (.packet k (urtClose (urtHeader ty (16 * b2n (enc && ty != 8)) dst (k % 65536) psn body.length 0 (s.gts % 2 ^ 32) epoch ++ body)))

/-- What a set-up packet says: its offer of a payload size is in the bytes before the CRC. -/
def setupOffer (pkt : List Byte) : Nat := ofBE ((pkt.drop 24).take 2)
def setupOk (pkt : List Byte) : Bool :=
  pkt.length == 30 && crc32c (pkt.take 26) == ofBE ((pkt.drop 26).take 4) && ofBE (pkt.take 1) / 16 == 1

/-- The OPEN job of a flow, once the flow is open, completes. -/
def State.opened (s : State) (k : Nat) : State :=
  let f := s.flow k
  match f.job with
  | some id => ((s.setFlow k { f with job := none }).endUrtJob id St.OK 0 0)
  | none => s

/-- URT_CONNECT (04 R165, R167, R168): the path's IP MTU, this end's initial PSN, and whether its IP address is the lower
come with the command. -/
def execUrtConnect (seam : Bool) (pkt : List Byte) (mtu psn : Nat) (lower : Bool) (s : State) : Res := actIf s s.urtOn fun s =>
  if !setupOk pkt then s.countSat Pg.URT Rg.URT_DROP_CRC 1
  else
    let p := parseUrt pkt
    let k := fkey seam p.dst
    let f := s.flow k
    let enc := bitOf p.flags 4
    let size := payloadFor (if seam then 65536 else mtu) (setupOffer pkt)
    let keep := if seam then s.headId == 0 else lower
    if p.ty ≠ 6 then s
    else if f.st = 1 ∧ keep then
      (s.setFlow k { f with peer := p.src }).emitSetup k 7 p.src f.txNext f.epoch f.payload f.enc
    else
      let epoch := if f.st = 2 then f.epoch + 1 else p.epoch
      let n := f.jobs.length
      let s := if f.st = 2 then s.endFlowJobs k St.ABORTED_BY_RESET else s
      let s := s.openFlow k (s.flow k) p.src (psn % 2 ^ 24) p.psn (epoch % 2 ^ 32) size enc
      let s := s.emitSetup k 7 p.src (psn % 2 ^ 24) (epoch % 2 ^ 32) size enc
      let s := s.opened k
      if f.st = 2 then
        (s.event f.eq Et.FLOW_RESET (srcOf Pg.URT) (k % 65536) epoch).log Pg.URT Ev.URT_FLOW_RESET
          [.v 4 (k % 65536), .v 4 f.epoch, .v 4 epoch, .v 4 n]
      else s

/-- CONNECT_ACK (04 R167). -/
def execConnectAck (seam : Bool) (pkt : List Byte) (s : State) : Res := actIf s s.urtOn fun s =>
  if !setupOk pkt then s.countSat Pg.URT Rg.URT_DROP_CRC 1
  else
    let p := parseUrt pkt
    let k := fkey seam p.dst
    let f := s.flow k
    if p.ty ≠ 7 ∨ f.st ≠ 1 then s
    else (s.openFlow k f p.src f.txNext p.psn f.epoch (payloadFor 65536 (min f.payload (setupOffer pkt))) (f.enc && bitOf p.flags 4)).opened k

/-- A flow closes: its messages end with ABORTED_BY_RESET, and the NVMe queues it carries lose their connection. -/
def State.closeFlow (s : State) (k : Nat) : State :=
  let s := s.endFlowJobs k St.ABORTED_BY_RESET
  (s.setFlow k { epoch := (s.flow k).epoch }).connLost k

/-- URT_CLOSE_PACKET (04 R162). -/
def execUrtClosePacket (seam : Bool) (pkt : List Byte) (s : State) : Res := urtIn seam pkt 8 (fun s k _ _ => s.closeFlow k) s

/-! ### Jobs (04 R179) -/

/-- Fields of a URT descriptor. -/
def Job.uFlow (j : Job) : Nat := j.f 12 2
def Job.uQp (j : Job) : Bool := bitOf (j.f 14 1) 0
def Job.uLocal (j : Job) : Nat := j.f 16 8
def Job.uRaddr (j : Job) : Nat := j.f 24 8
def Job.uLen (j : Job) : Nat := j.f 32 4
def Job.uRkey (j : Job) : Nat := j.f 36 4
def Job.uImm (j : Job) : Nat := j.f 40 4

/-- A job as its descriptor gives it. -/
def urtJobOf (desc : List Byte) : Job :=
  let h := leAt desc 0 8
  { engine := .urt, inst := 0, ring := 0, cring := bits h 39 28, tag := leAt desc 8 4, owner := bits h 27 16, opcode := bits h 7 0
    irq := bitOf h 8, fence := bitOf h 9, desc := padTo 64 desc }

/-- The flow of a job: on the Seam with `seam`. -/
def Job.key (j : Job) (seam : Bool) : Nat := fkey seam j.uFlow

/-- There is room for one more message of the job (04 R157, R166); without it the engine does not take the job yet. -/
def State.urtRoom (s : State) (seam : Bool) (j : Job) : Bool :=
  if j.uQp then !(j.opcode == 5) || decide ((s.qp j.uFlow).reads.length < 16)
  else if j.opcode = 6 then decide ((s.flow (j.key seam)).recvs.length < 256)
  else decide ((s.flow (j.key seam)).msgs.length < 256)

/-- The engine takes a job of opcode `op`. -/
def urtJob (seam : Bool) (desc : List Byte) (op : Nat) (f : State → Nat → Job → State) (s : State) : Res :=
  let j := urtJobOf desc
  actIf s (s.urtOn && j.opcode == op && s.urtRoom seam j) fun s =>
    let id := freshKey s.eng.jobs 0
    let s := { s with eng := { s.eng with jobs := mput s.eng.jobs id j } }
    if j.owner = 0 then s.endUrtJob id St.BAD_INPUT 0 0 else f s id j

/-- URT_OPEN (04 R165, R167, R179). The far end's index, the path's MTU, this end's initial PSN and whether enc is asked for,
which the descriptor does not give, come with the command. -/
def execUrtOpen (seam : Bool) (desc : List Byte) (peer mtu psn : Nat) (enc : Bool) (s : State) : Res := urtJob seam desc 1 (fun s id j =>
  if j.uQp then
    let n := j.uFlow
    let q := { s.qp n with eq := j.f 46 2 % 64, owner := some j.owner }
    if q.st = 2 then (s.setQp n q).endUrtJob id St.OK 0 0
    else if q.st = 1 then s.endUrtJob id St.LOCKED 0 0
    else
      (s.setQp n { eq := q.eq, owner := q.owner, st := 1, peer, mtu, sq := psn % 2 ^ 24, job := some id }).emit
        (.roce n (.cmReq (psn % 2 ^ 24) mtu))
  else
    let k := j.key seam
    let f : UFlow := { s.flow k with slot := j.f 44 2 % 4096, eq := j.f 46 2 % 64, owner := some j.owner }
    if f.st = 2 then (s.setFlow k f).endUrtJob id St.OK 0 0
    else if f.st = 1 then s.endUrtJob id St.LOCKED 0 0
    else
      let size := payloadFor (if seam then 65536 else mtu) 4096
      let f : UFlow := { st := 1, peer, epoch := f.epoch + 1, payload := size, enc, slot := f.slot, eq := f.eq, owner := f.owner
                         job := some id, txNext := psn % 2 ^ 24 }
      (s.setFlow k f).emitSetup k 6 peer f.txNext f.epoch size enc) s

/-- Every job outstanding on a queue pair ends with `status`. -/
def State.endQpJobs (s : State) (n status : Nat) : State :=
  let q := s.qp n
  let jobs := (q.sent.filter (·.2.2)).map (·.2.1) ++ q.reads.map (·.2.2.1) ++ q.recvs ++ q.job.toList
  let s := jobs.foldl (fun s j => s.endUrtJob j status 0 0) s
  s.setQp n { q with sent := [], reads := [], recvs := [], job := none, asm := [] }

/-- URT_CLOSE (04 R179). -/
def execUrtClose (seam : Bool) (desc : List Byte) (s : State) : Res := urtJob seam desc 2 (fun s id j =>
  if j.uQp then
    if (s.qp j.uFlow).st = 0 then s.endUrtJob id St.NOT_READY 0 0
    else
      let s := s.endQpJobs j.uFlow St.ABORTED_BY_RESET
      ((s.setQp j.uFlow {}).connLost (qpConn j.uFlow)).endUrtJob id St.OK 0 0
  else
    let k := j.key seam
    let f := s.flow k
    if f.st = 0 then s.endUrtJob id St.NOT_READY 0 0
    else ((s.emitSetup k 8 f.peer f.txNext f.epoch 0 false).closeFlow k).endUrtJob id St.OK 0 0) s

/-- A RoCEv2 message goes out, cut to the path MTU (04 R156). -/
def State.roceSend (s : State) (n id : Nat) (l : List RocePkt) : State :=
  let q := s.qp n
  let s := s.setQp n { q with
    sq := psnAdd q.sq l.length
    sent := q.sent ++ (l.zip (List.range l.length)).map fun e => (e.1, id, e.2 + 1 == l.length) }
  l.foldl (fun s p => s.emit (.roce n p)) s

/-- The pieces of a message of `len` bytes. -/
def pieces (mtu : Nat) (data : List Byte) : List (Nat × List Byte) :=
  let m := max 1 mtu
  (List.range (max 1 ((data.length + m - 1) / m))).map fun i => (i, (data.drop (i * m)).take m)

/-- A job that sends data: SEND and WRITE. -/
def State.urtOut (s : State) (seam : Bool) (id : Nat) (j : Job) (ty : Nat) : State :=
  let limit := if j.uQp then 2 ^ 31 else 2 ^ 30
  let ready := if j.uQp then (s.qp j.uFlow).st == 2 else (s.flow (j.key seam)).st == 2
  if !ready then s.endUrtJob id St.NOT_READY 0 0
  else if limit < j.uLen then s.endUrtJob id St.BAD_INPUT 0 0
  else
    let r := s.readBytes j.acc j.uLocal j.uLen
    if !fine r.2.2 then r.1.endUrtJob id r.2.2 0 0
    else if j.uQp then
      let q := r.1.qp j.uFlow
      let ps := pieces q.mtu r.2.1
      let imm := if j.uImm = 0 then none else some j.uImm
      r.1.roceSend j.uFlow id (ps.map fun e =>
        let first := e.1 == 0
        let last := e.1 + 1 == ps.length
        let imm := if last then imm else none
        if ty = 1 then .send (psnAdd q.sq e.1) first last imm e.2
        else .write (psnAdd q.sq e.1) first last imm j.uRaddr j.uRkey j.uLen e.2)
    else
      let k := j.key seam
      let f := r.1.flow k
      match (if f.enc then (r.1.keyFor f.slot Us.gcm) else .ok []) with
      | .error c => r.1.endUrtJob id c 0 0
      | .ok _ =>
        let m := f.nextMsg
        let s := r.1.setFlow k { f with nextMsg := (m + 1) % 2 ^ 32, msgs := mput f.msgs m { job := id, len := j.uLen } }
        s.urtQueue k (cutMsg f.payload ty m (if ty = 2 then extHeader j.uRaddr j.uRkey j.uLen else []) r.2.1 false)

/-- URT_SEND (04 R179). -/
def execUrtSend (seam : Bool) (desc : List Byte) (s : State) : Res := urtJob seam desc 3 (fun s id j => s.urtOut seam id j 1) s

/-- URT_WRITE (04 R179). -/
def execUrtWrite (seam : Bool) (desc : List Byte) (s : State) : Res := urtJob seam desc 4 (fun s id j => s.urtOut seam id j 2) s

/-- URT_READ (04 R179). -/
def execUrtRead (seam : Bool) (desc : List Byte) (s : State) : Res := urtJob seam desc 5 (fun s id j =>
  if j.uQp then
    let q := s.qp j.uFlow
    if q.st ≠ 2 then s.endUrtJob id St.NOT_READY 0 0
    else if 2 ^ 31 < j.uLen then s.endUrtJob id St.BAD_INPUT 0 0
    else
      let n := max 1 ((j.uLen + q.mtu - 1) / max 1 q.mtu)
      (s.setQp j.uFlow { q with reads := q.reads ++ [(q.sq, j.uLen, id, [])], sq := psnAdd q.sq n }).emit
        (.roce j.uFlow (.readReq q.sq j.uRaddr j.uRkey j.uLen))
  else
    let k := j.key seam
    let f := s.flow k
    if f.st ≠ 2 then s.endUrtJob id St.NOT_READY 0 0
    else if 2 ^ 30 < j.uLen then s.endUrtJob id St.BAD_INPUT 0 0
    else
      let m := f.nextMsg
      let s := s.setFlow k { f with nextMsg := (m + 1) % 2 ^ 32, msgs := mput f.msgs m { job := id, len := j.uLen, read := true } }
      s.urtQueue k [{ ty := 3, msg := m, ackReq := true, ext := extHeader j.uRaddr j.uRkey j.uLen }]) s

/-- URT_RECV (04 R179): a buffer is posted; a message that waits for one goes into it. -/
def execUrtRecv (seam : Bool) (desc : List Byte) (s : State) : Res := urtJob seam desc 6 (fun s id j =>
  if j.uQp then
    let q := s.qp j.uFlow
    if q.st ≠ 2 then s.endUrtJob id St.NOT_READY 0 0 else s.setQp j.uFlow { q with recvs := q.recvs ++ [id] }
  else
    let k := j.key seam
    let f := s.flow k
    if f.st ≠ 2 then s.endUrtJob id St.NOT_READY 0 0
    else
      let s := s.setFlow k { f with recvs := f.recvs ++ [id], ready := f.ready.drop 1 }
      match f.ready with
      | [] => s
      | d :: _ => s.takeSend k d) s

/-! ### RoCEv2 (04 R156 to R159) -/

/-- A queue pair enters error: its jobs end with `status`, and QP_FATAL is posted. -/
def State.qpError (s : State) (n status : Nat) : State :=
  let s := s.endQpJobs n status
  (s.setQp n { s.qp n with st := 3 }).event (s.qp n).eq Et.QP_FATAL (srcOf Pg.URT) n 0

/-- ROCE_CM_REQUEST (04 R157, R158): a connection request for `service` (0 reliable connection) to queue pair `n`. -/
def execRoceCmRequest (n service peer mtu psn own : Nat) (s : State) : Res := actIf s (s.urtOn && decide (n < 65536)) fun s =>
  if service ≠ 0 ∨ (s.qp n).st ≠ 0 ∨ (mtu ≠ 1024 ∧ mtu ≠ 2048 ∧ mtu ≠ 4096) then s.emit (.roce n .cmRej)
  else
    (s.setQp n { s.qp n with st := 2, peer, mtu, sq := own % 2 ^ 24, rq := psn % 2 ^ 24 }).emit (.roce n (.cmRep (own % 2 ^ 24) mtu))

/-- ROCE_ATOMIC_REQUEST (04 R158). -/
def execRoceAtomicRequest (n psn : Nat) (s : State) : Res := actIf s (s.urtOn && (s.qp n).st == 2) fun s =>
  (s.emit (.roce n (.nakInvalid (psn % 2 ^ 24)))).qpError n St.ABORTED_BY_RESET

/-- The PSN a packet of a request carries. -/
def RocePkt.psn : RocePkt → Nat
  | .send p .. | .write p .. | .readReq p .. | .readResp p .. | .ack p | .nakSeq p | .nakInvalid p | .rnr p | .cmReq p _ |
    .cmRep p _ => p
  | .cmRej | .cnp => 0

/-- Requests up to a PSN are acknowledged: jobs whose last packet is among them complete. -/
def State.roceAcked (s : State) (n psn : Nat) : State :=
  let q := s.qp n
  let old := fun (e : RocePkt × Nat × Bool) => decide (psnDist psn e.1.psn < 2 ^ 23)
  let s := s.setQp n { q with sent := q.sent.filter fun e => !old e }
  (q.sent.filter fun e => old e && e.2.2).foldl (fun s e =>
    s.endUrtJob e.2.1 St.OK (match mget s.eng.jobs e.2.1 with | some j => j.uLen | none => 0) 0) s

/-- Everything from a PSN on is sent again (go-back-N). -/
def State.roceResend (s : State) (n psn : Nat) : State :=
  let s := s.roceAcked n (psnDist psn 1)
  let q := s.qp n
  let s := q.sent.foldl (fun s e => s.emit (.roce n e.1)) s
  (q.reads.filter fun r => decide (psnDist r.1 psn < 2 ^ 23)).foldl (fun s r =>
    match mget s.eng.jobs r.2.2.1 with
    | some j => s.emit (.roce n (.readReq r.1 j.uRaddr j.uRkey j.uLen))
    | none => s) s

/-- The oldest posted buffer takes a message, or the bare immediate of a WRITE. -/
def State.roceRecv (s : State) (n : Nat) (data : List Byte) : State :=
  let q := s.qp n
  match q.recvs with
  | [] => s
  | id :: rest =>
    let s := s.setQp n { q with recvs := rest }
    match mget s.eng.jobs id with
    | none => s
    | some j =>
      let m := min data.length j.uLen
      let r := s.writeBytes j.acc j.uLocal (data.take m)
      r.1.endUrtJob id (if m < data.length then St.OUT_FULL else r.2) m 0

/-- The access of a queue pair's packets. -/
def Qp.acc (q : Qp) : Option Acc := q.owner.map fun o => { master := Ms.URT, owner := o }

/-- The data a read request names, in responses (04 R157). -/
def State.roceAnswer (s : State) (n psn raddr len : Nat) : State :=
  let q := s.qp n
  let r := match q.acc with
    | some w => (let r := s.readBytes w raddr (min len (2 ^ 31)); (r.1, r.2.1))
    | none => (s, List.replicate (min len (2 ^ 31)) 0)
  let ps := pieces q.mtu r.2
  ps.foldl (fun s e => s.emit (.roce n (.readResp (psnAdd psn e.1) (e.1 + 1 == ps.length) e.2))) r.1

/-- A request arrives in order: SEND, WRITE or READ. -/
def State.roceTake (s : State) (n : Nat) (p : RocePkt) : State :=
  let q := s.qp n
  let q := { q with rq := psnAdd q.rq 1, nakSent := false }
  match p with
  | .send psn first last _ data =>
    let all := (if first then [] else q.asm) ++ data
    if last ∧ q.recvs = [] then s.emit (.roce n (.rnr psn))
    else if last then ((s.setQp n { q with asm := [] }).roceRecv n all).emit (.roce n (.ack psn))
    else (s.setQp n { q with asm := all }).emit (.roce n (.ack psn))
  | .write psn first last imm raddr _ _ data =>
    let all := (if first then [] else q.asm) ++ data
    let addr := if first then raddr else q.waddr
    if last ∧ imm.isSome ∧ q.recvs = [] then s.emit (.roce n (.rnr psn))
    else if last then
      let s := s.setQp n { q with asm := [], waddr := addr }
      let s := match q.acc with
        | some w => (s.writeBytes w addr all).1
        | none => s
      let s := if imm.isSome then s.roceRecv n [] else s
      s.emit (.roce n (.ack psn))
    else (s.setQp n { q with asm := all, waddr := addr }).emit (.roce n (.ack psn))
  | .readReq psn raddr _ len =>
    let k := max 1 ((len + q.mtu - 1) / max 1 q.mtu)
    (s.setQp n { q with rq := psnAdd (s.qp n).rq k }).roceAnswer n psn raddr len
  | _ => s

/-- A response of a READ: the next piece of the oldest read; it acknowledges what went before. -/
def State.roceResp (s : State) (n psn : Nat) (last : Bool) (data : List Byte) : State :=
  let s := s.roceAcked n (psnDist psn 1)
  let q := s.qp n
  match q.reads with
  | [] => s
  | (p0, len, id, got) :: rest =>
    if psn ≠ psnAdd p0 (got.length / max 1 q.mtu) then s
    else if last then
      let s := s.setQp n { q with reads := rest }
      match mget s.eng.jobs id with
      | none => s
      | some j =>
        let r := s.writeBytes j.acc j.uLocal ((got ++ data).take len)
        r.1.endUrtJob id r.2 (min (got ++ data).length len) 0
    else s.setQp n { q with reads := (p0, len, id, got ++ data) :: rest }

/-- ROCE_PACKET (04 R156, R157): a packet of queue pair `n`; one marked ECN-CE draws a CNP. Requests out of order draw one NAK;
duplicates are acknowledged, a duplicate READ answered again. -/
def execRocePacket (n : Nat) (p : RocePkt) (ce : Bool) (s : State) : Res :=
  actIf s (s.urtOn && ((s.qp n).st == 2 || (s.qp n).st == 1)) fun s =>
    let q := s.qp n
    let s := if ce then s.emit (.roce n .cnp) else s
    if q.st = 1 then
      match p with
      | .cmRep psn mtu =>
        let s := s.setQp n { q with st := 2, rq := psn % 2 ^ 24, mtu, job := none }
        q.job.toList.foldl (fun s j => s.endUrtJob j St.OK 0 0) s
      | .cmRej =>
        let s := s.setQp n {}
        q.job.toList.foldl (fun s j => s.endUrtJob j St.NOT_READY 0 0) s
      | _ => s
    else
      let d := psnDist p.psn q.rq
      let request := fun (dup : State) =>
        if d = 0 then s.roceTake n p
        else if d < 2 ^ 23 then
          if q.nakSent then s else (s.setQp n { q with nakSent := true }).emit (.roce n (.nakSeq q.rq))
        else dup
      match p with
      | .send .. | .write .. => request (s.emit (.roce n (.ack (psnDist q.rq 1))))
      | .readReq psn raddr _ len => request (s.roceAnswer n psn raddr len)
      | .readResp psn last data => s.roceResp n psn last data
      | .ack psn => s.roceAcked n psn
      | .nakSeq psn => s.roceResend n psn
      | .rnr psn => s.roceResend n psn
      | .nakInvalid _ => s.qpError n St.ABORTED_BY_RESET
      | .cmReq _ _ | .cmRep _ _ | .cmRej | .cnp => s

/-- CNP_RECEIVE (04 R156): the queue pair sends at a lower rate; by how much is not stated (a free value, log 1). -/
def execCnpReceive (n : Nat) (s : State) : Res := actIf s (s.urtOn && (s.qp n).st == 2) fun s =>
  let r := s.free
  let q := r.2.qp n
  r.2.setQp n { q with rate := if q.rate = 0 then 0 else r.1.toNat % q.rate }

/-- ROCE_RETRY_EXHAUSTED (04 R159). -/
def execRoceRetryExhausted (n : Nat) (s : State) : Res := actIf s (s.urtOn && (s.qp n).st == 2) fun s =>
  (s.qpError n St.TIMEOUT).connLost (qpConn n)

/-! ### Ports (04 R155, R180, R187) -/

/-- The Ethernet page of a port. -/
def ethPage (port : Nat) : Nat := Pg.ETH + port

/-- SUBPORT_LINK_UP (04 R180): not while the head has yielded and its ports are disabled (13 R539). -/
def execSubportLinkUp (port sub : Nat) (s : State) : Res :=
  actIf s (decide (port < 2) && decide (sub < 4) && !s.pair.portsOff && s.rb (ethPage port) Rg.ETH_CFG 0) fun s =>
    let s := s.wb (ethPage port) Rg.ETH_LINK_STATUS sub true
    let s := s.portEvent Et.PORT_UP (srcOf (ethPage port)) sub 0
    s.log (ethPage port) Ev.ETH_LINK_UP [.v 1 port, .v 1 sub, .v 1 (s.rf (ethPage port) Rg.ETH_CFG 2 1)]

/-- SUBPORT_LINK_DOWN (04 R180). -/
def execSubportLinkDown (port sub : Nat) (s : State) : Res := actIf s (decide (port < 2) && decide (sub < 4)) fun s =>
  let s := s.wb (ethPage port) Rg.ETH_LINK_STATUS sub false
  let s := s.portEvent Et.PORT_DOWN (srcOf (ethPage port)) sub 0
  s.log (ethPage port) Ev.ETH_LINK_DOWN [.v 1 port, .v 1 sub]

/-- FEC_SECOND_END (04 R180, R186): the second's corrected and uncorrectable codewords of a sub-port, and frames dropped. -/
def execFecSecondEnd (port sub corr uncorr dropped : Nat) (s : State) : Res := actIf s (decide (port < 2) && decide (sub < 4)) fun s =>
  let p := ethPage port
  let s := ((s.countSat p Rg.ETH_FEC_CORR corr).countSat p Rg.ETH_FEC_UNCORR uncorr).countSat p Rg.ETH_RX_DROP dropped
  if s.rdN p Rg.ETH_FEC_WARN < corr then
    let s := (s.wb p Rg.ETH_LINK_STATUS (4 + sub) true).portEvent Et.PORT_DEGRADED (srcOf p) sub corr
    s.log p Ev.ETH_DEGRADED [.v 1 port, .v 1 sub, .v 4 corr]
  else s.wb p Rg.ETH_LINK_STATUS (4 + sub) false

/-- PFC_PAUSE_TIMEOUT (04 R180): the priority's PFC is disabled. -/
def execPfcPauseTimeout (port sub prio : Nat) (s : State) : Res :=
  let p := ethPage port
  actIf s (decide (port < 2) && decide (sub < 4) && decide (prio < 8) && s.rb p Rg.ETH_CFG 3 && s.rb p Rg.ETH_PFC_PRIO prio) fun s =>
    let s := (s.wb p Rg.ETH_PFC_PRIO prio false).wb p Rg.ETH_LINK_STATUS (8 + sub) true
    (s.portEvent Et.PFC_STORM (srcOf p) sub prio).log p Ev.ETH_PFC_STORM [.v 1 port, .v 1 prio]

/-- An open or opening flow, or queue pair, in error. -/
def UFlow.fail (f : UFlow) : UFlow := if f.st = 1 ∨ f.st = 2 then { f with st := 3 } else f
def Qp.fail (q : Qp) : Qp := if q.st = 1 ∨ q.st = 2 then { q with st := 3 } else q

/-- URT_INTERNAL_ERROR (04 R180, R182, 13 R540): every flow and queue pair enters error; jobs wait for the reset. -/
def execUrtInternalError (ty : Nat) (s : State) : Res := actIf s (!s.urt.fatal) fun s =>
  let open' := (s.urt.flows.filter fun e => e.2.st == 1 || e.2.st == 2)
  let qps := (s.urt.qps.filter fun e => e.2.st == 1 || e.2.st == 2)
  let n := open'.length + qps.length
  let u : Urt := { s.urt with
    fatal := true, flows := s.urt.flows.map fun e => (e.1, e.2.fail), qps := s.urt.qps.map fun e => (e.1, e.2.fail) }
  let s := ({ s with urt := u }).showFlows
  let s := s.portEvent Et.DEVICE_FATAL (srcOf Pg.URT) 0 ty
  let s := s.log Pg.URT Ev.URT_DEVICE_FATAL [.v 4 ty, .v 4 n]
  let s := open'.foldl (fun s e => s.connLost e.1) s
  let s := qps.foldl (fun s e => s.connLost (qpConn e.1)) s
  s.yield 0x07

/-- URT_CTRL_RESET (04 R182): after DEVICE_FATAL, the engine starts again; jobs fetched before end with ABORTED_BY_RESET. -/
def execUrtCtrlReset (master value : Nat) (s : State) : Res := act s fun s =>
  s.regCmd { page := Pg.URT, off := Rg.URT_CTRL, master, value } fun s _ =>
    if !bitOf value 0 || !s.urt.fatal then s
    else
      let s := (s.eng.jobs.filter fun e => e.2.engine == .urt).foldl (fun s e => s.endUrtJob e.1 St.ABORTED_BY_RESET 0 0) s
      ({ s with urt := { phases := s.urt.phases } }).showFlows

/-- URT_EQ_HEAD_WRITE (04 R181): space frees; after losses the first record is EQ_OVERFLOW. -/
def execUrtEqHeadWrite (master value : Nat) (s : State) : Res := act s fun s =>
  s.regCmd { page := Pg.URT, off := Rg.URT_EQ_HEAD, master, value } fun s _ =>
    let q := s.rf Pg.URT Rg.URT_EQ_SEL 5 0
    let lost := s.rdN Pg.URT Rg.URT_EQ_LOST q
    if lost = 0 || !s.eqOn q || s.eqFull q then s
    else (s.putEvent q Et.EQ_OVERFLOW (srcOf Pg.URT) 0 lost).wrN Pg.URT Rg.URT_EQ_LOST q 0

/-- ETH_CFG_WRITE (04 R155). -/
def execEthCfgWrite (master port value : Nat) (s : State) : Res := actIf s (decide (port < 2)) fun s =>
  let w : RegW := { page := ethPage port, off := Rg.ETH_CFG, master, value }
  match s.regWrite w with
  | (s', none) => s'
  | (s', some old) => if bitOf old 0 && bits old 2 1 != bits value 2 1 then s.ignoreW w else s'

end Sys2Proof.Machine
end

