-- ==== Sys2Proof/Machine/HeadPair.lean ====
section
/-! DEFINITION. The Seam's links and the pair of heads (13). -/
namespace Sys2Proof.Machine

/-! ### Links (13 R511 to R519) -/

/-- The SEAM page of a link, its state (0 DOWN, 1 TRAINING, 2 PROBATION, 3 ACTIVE, 4 CAUTIONED, 5 RETIRED) and counters. -/
def seamPage (l : Nat) : Nat := Pg.SEAM + l
def State.linkState (s : State) (l : Nat) : Nat := s.rf (seamPage l) Rg.SEAM_STATUS 2 0
def State.rxCount (s : State) (l : Nat) : Nat := s.rf (seamPage l) Rg.SEAM_ERR 7 0
def State.txCount (s : State) (l : Nat) : Nat := s.rf (seamPage l) Rg.SEAM_ERR 15 8

/-- A link's entry. -/
def State.link (s : State) (l : Nat) : Link := s.pair.links.getD l {}
def State.setLink (s : State) (l : Nat) (x : Link) : State := { s with pair := { s.pair with links := s.pair.links.set l x } }
def State.setPair (s : State) (p : Pair) : State := { s with pair := p }

/-- A link number. -/
def isLink (l : Nat) : Bool := decide (l < 2)

/-- Change a link's state: interrupts and record (13 R547, R549). -/
def State.setLinkState (s : State) (l st : Nat) : State :=
  let old := s.linkState l
  let s := (s.wf (seamPage l) Rg.SEAM_STATUS 2 0 st).irq (seamPage l) 0
  let s := if st = 4 then s.irq (seamPage l) 1 else if st = 5 then s.irq (seamPage l) 2 else s
  s.log (seamPage l) Ev.SEAM_STATE [.v 1 l, .v 1 old, .v 1 st, .v 1 (s.rxCount l), .v 1 (s.txCount l)]

/-- Both links carry flows: ACTIVE or CAUTIONED. -/
def State.carries (s : State) (l : Nat) : Bool := s.linkState l == 3 || s.linkState l == 4

/-- The link a Seam flow is bound to (13 R519). -/
def State.flowLink (s : State) (f : Nat) : Nat :=
  if s.carries 0 && s.carries 1 then f % 2 else if s.carries 0 then 0 else if s.carries 1 then 1 else f % 2

/-- Unacknowledged packets of a flow count as lost and are resent (13 R519, 04 R174). -/
def State.resendAll (s : State) (k : Nat) : State :=
  ((s.flow k).sent.filter fun x => !x.got).foldl (fun s x => s.urtResend k x.pkt.psn) s

/-- A link retires (13 R518, R519): its flows move to the other link. No urgent message waits, since the model sends each at
once (log 50). `cause` 0 a counter, 1 the register. -/
def State.retireLink (s : State) (l cause : Nat) : State :=
  let moved := (s.urt.flows.filter fun e => isSeam e.1 && s.flowLink (e.1 % 65536) == l && e.2.st == 2).map (·.1)
  let s := s.setLinkState l 5
  let s := s.log (seamPage l) Ev.SEAM_RETIRED [.v 1 l, .v 1 cause, .v 4 0]
  moved.foldl (fun s k => s.resendAll k) s

/-- A link follows its counters (13 R518). -/
def State.checkLink (s : State) (l : Nat) : State :=
  let st := s.linkState l
  let hi := max (s.rxCount l) (s.txCount l)
  if st = 2 then (if 128 ≤ hi then s.retireLink l 0 else s)
  else if st = 3 then (if hi = 255 then s.retireLink l 0 else if 128 ≤ hi then s.setLinkState l 4 else s)
  else if st = 4 then (if hi = 255 then s.retireLink l 0 else if hi < 96 then s.setLinkState l 3 else s)
  else s

/-- Set the RX or the TX counter, kept within 0 to 255. -/
def State.setRx (s : State) (l n : Nat) : State := s.wf (seamPage l) Rg.SEAM_ERR 7 0 (min n 255)
def State.setTx (s : State) (l n : Nat) : State := s.wf (seamPage l) Rg.SEAM_ERR 15 8 (min n 255)

/-- A link starts to train. -/
def State.train (s : State) (l : Nat) : State := s.setLinkState l 1

/-- SEAM_ENABLE (13 R518). -/
def execSeamEnable (master l value : Nat) (s : State) : Res := actIf s (isLink l && bitOf value 0) fun s =>
  s.regCmd { page := seamPage l, off := Rg.SEAM_CFG, master, value } fun s old =>
    if !bitOf old 0 && s.linkState l == 0 then s.train l else s

/-- LANES_ALIGNED (13 R518): every lane is aligned and four heartbeats have gone each way. -/
def execLanesAligned (l : Nat) (s : State) : Res := actIf s (isLink l && s.linkState l == 1) fun s =>
  let s := (s.wrN (seamPage l) Rg.SEAM_ERR 0 0).setLink l { s.link l with rx1024 := 0, tx1024 := 0 }
  ((s.wf (seamPage l) Rg.SEAM_STATUS 19 4 0xFFFF).wb (seamPage l) Rg.SEAM_STATUS 20 true).setLinkState l 2

/-- TRAINING_TIMEOUT (13 R518). -/
def execTrainingTimeout (l : Nat) (s : State) : Res := actIf s (isLink l && s.linkState l == 1) fun s => s.setLinkState l 0

/-- PROBATION_END (13 R518). -/
def execProbationEnd (l : Nat) (s : State) : Res :=
  actIf s (isLink l && s.linkState l == 2 && decide (max (s.rxCount l) (s.txCount l) < 128)) fun s => s.setLinkState l 3

/-- SEAM_RETRAIN_TIMER (13 R518): SEAM_RETRAIN_MS has passed in DOWN, or in RETIRED. -/
def execSeamRetrainTimer (l : Nat) (s : State) : Res :=
  actIf s (isLink l && s.rb (seamPage l) Rg.SEAM_CFG 0 && (s.linkState l == 0 || s.linkState l == 5)) fun s => s.train l

/-- SEAM_CTRL_RETIRE (13 R518, R519). -/
def execSeamCtrlRetire (master l value : Nat) (s : State) : Res := actIf s (isLink l && bitOf value 0) fun s =>
  s.regCmd { page := seamPage l, off := Rg.SEAM_CTRL, master, value } fun s _ =>
    if s.carries l then s.retireLink l 1 else s

/-- SEAM_CTRL_RETRAIN (13 R518). -/
def execSeamCtrlRetrain (master l value : Nat) (s : State) : Res := actIf s (isLink l && bitOf value 1 && !bitOf value 0) fun s =>
  s.regCmd { page := seamPage l, off := Rg.SEAM_CTRL, master, value } fun s _ =>
    if s.linkState l = 5 then s.train l else s

/-- Frames lost raise a counter by 8 each; 1,024 delivered lower it by 1 (13 R514, R517). -/
def counted (c part lost good : Nat) : Nat × Nat := (min 255 (c + 8 * lost) - (part + good) / 1024, (part + good) % 1024)

/-- A frame is delivered with number `fseq`: those skipped were missed (13 R514, R517). -/
def State.frameIn (s : State) (l fseq : Nat) : State :=
  let x := s.link l
  let n := match x.lastSeq with
    | some q => (fseq + 2 ^ 32 - q % 2 ^ 32 + 2 ^ 32 - 1) % 2 ^ 32
    | none => 0
  let c := counted (s.rxCount l) x.rx1024 n 1
  let s := (s.countSat (seamPage l) Rg.SEAM_MISSED n).count (seamPage l) Rg.SEAM_FRAMES_RX 1
  let s := s.setLink l { x with
    lastSeq := some (fseq % 2 ^ 32), rx1024 := c.2, lost := x.lost + n, good := x.good + 1
    resync := x.resync || n != 0 }
  (s.setRx l c.1).checkLink l

/-- A link that takes frames: TRAINING and beyond. -/
def State.linkOn (s : State) (l : Nat) : Bool := isLink l && s.linkState l != 0

/-- SEAM_DATA_FRAME (13 R514, R515): a frame whose crc and kind are good (`ok`) is delivered, and its URT packets follow as
commands of their own, from `first` on where a frame was lost; any other is dropped. `corr` and `uncorr` codewords came with it. -/
def execSeamDataFrame (l fseq first corr uncorr : Nat) (ok : Bool) (s : State) : Res := actIf s (s.linkOn l) fun s =>
  let p := seamPage l
  let s := (s.countSat p Rg.SEAM_FEC_CORR corr).countSat p Rg.SEAM_FEC_UNCORR uncorr
  if ok then
    let s := s.frameIn l fseq
    if first = 0xFFFF then s else s.setLink l { s.link l with resync := false }
  else
    let x := s.link l
    let s := (s.countSat p Rg.SEAM_CRC_DROP 1).setLink l { x with lost := x.lost + 1, resync := true }
    (s.setRx l (s.rxCount l + 8)).checkLink l

/-- LANE_LOCK_LOSS (13 R517). -/
def execLaneLockLoss (l lane : Nat) (s : State) : Res := actIf s (s.linkOn l && decide (lane < 16)) fun s =>
  let s := (s.wb (seamPage l) Rg.SEAM_STATUS (4 + lane) false).wb (seamPage l) Rg.SEAM_STATUS 20 false
  (s.setRx l 255).checkLink l

/-- NO_FRAME_TIMEOUT (13 R517): 200 µs without a frame on an ACTIVE or CAUTIONED link. -/
def execNoFrameTimeout (l : Nat) (s : State) : Res := actIf s (isLink l && s.carries l) fun s => (s.setRx l 255).checkLink l

/-! ### Journal and mirror (13 R525 to R535) -/

/-- Writes that wait for their mirror acknowledgement, of those `sel` picks, are acknowledged to their hosts (01 R38). -/
def State.ackWrites (s : State) (sel : Nat → Bool) : State :=
  { s with hq := { s.hq with cmds := s.hq.cmds.map fun e =>
      if e.2.phase = 1 ∧ (e.2.jseq.any sel) then (e.1, { e.2 with phase := 2 }) else e } }

/-- DIRTY_SET jobs that wait for the partner end, since this head acknowledges on its own from here on (13 R534; DEDUCED, log 54). -/
def State.ackDirty (s : State) : State :=
  let l := s.quilt.acks
  l.foldl (fun s e => s.setRes e.1 (stRes St.OK)) { s with quilt := { s.quilt with acks := [] } }

/-- Highest own record the partner has acknowledged, and highest partner record this head has. -/
def State.ackedJ (s : State) : Nat := s.rd64 Pg.HEADPAIR Rg.HEADPAIR_JSEQ_ACKED_LO
def State.shadowJ (s : State) : Nat := s.rd64 Pg.HEADPAIR Rg.HEADPAIR_SHADOW_LO

/-- The role of a head: HEAD_A is 0, HEAD_B is 1; ARRAY is 2 (11 R465). -/
def State.peerRole (s : State) : Nat := 1 - s.headId

/-- The survivor of a join that is in step closes the joiner's role and hands it over (13, Joining steps 3 and 4). -/
def State.catchUp (s : State) : State :=
  let s := s.setPair { s.pair with inStep := true }
  let s := s.control 4 0 s.ackedJ
  let r := s.peerRole
  let s := (s.wb Pg.STITCH Rg.STITCH_ROLE_HELD r false).wb Pg.PATTERN Rg.PATTERN_BLOCK_USE 0 false
  s.control 5 r (s.roleEpoch r)

/-- A join is under way at its survivor. -/
def State.joining (s : State) : Bool := s.pairState == 5 && s.pair.joinSince != 0 && !s.pair.inStep

/-- The partner has acknowledged records up to `n` (13 R528, 01 R38). -/
def State.mirrorAcked (s : State) (n : Nat) : State :=
  let s := if s.ackedJ < n then s.wr64 Pg.HEADPAIR Rg.HEADPAIR_JSEQ_ACKED_LO n else s
  let s := s.ackWrites fun q => decide (q ≤ n)
  if s.joining && s.pair.journal.all fun r => decide (r.jseq ≤ n) then s.catchUp else s

/-- Records of a list that follow `n` without a gap, up to its last. -/
def contiguous (n : Nat) : List JRec → Nat
  | [] => n
  | r :: t => if r.jseq ≤ n then contiguous n t else if r.jseq = n + 1 then contiguous (n + 1) t else n

/-- MIRROR_ACK for what is held, unless acknowledgements have stopped (13 R528, R533). -/
def State.ackShadow (s : State) : State :=
  let n := contiguous (max s.pair.base s.shadowJ) s.pair.shadow
  if s.rb Pg.HEADPAIR Rg.HEADPAIR_STATE 6 || n ≤ s.shadowJ || !(s.pairState == 2 || s.pairState == 3) then s
  else (s.wr64 Pg.HEADPAIR Rg.HEADPAIR_SHADOW_LO n).emit (.seam (1 + n % 16) 2 [n])

/-- A record as its bytes give it. -/
def parseRec (h data : List Byte) : JRec :=
  { jseq := leAt h 0 7, kind := leAt h 7 1, ns := leAt h 8 2, domain := leAt h 10 2 % 1024, count := leAt h 12 4, loc := leAt h 16 8
    keyHi := leAt h 24 8, keyLen := leAt h 32 1, admGts := leAt h 40 8, epoch := leAt h 48 8, data }

/-- JOURNAL_RECORD (13 R527, R528, R533): a partner record and its data arrive. One that fails its check is discarded and named
in a NACK; one of a barred epoch is discarded. -/
def execJournalRecord (hdr data : List Byte) (s : State) : Res := actIf s (s.rb Pg.HEADPAIR Rg.HEADPAIR_CFG 0) fun s =>
  let r := parseRec hdr data
  let good := decide (64 ≤ hdr.length) && crc32c (hdr.take 60) == leAt hdr 60 4 && crc32c data == leAt hdr 36 4 &&
    decide (1 ≤ r.kind) && decide (r.kind ≤ 7)
  if !good then s.control 7 0 r.jseq
  else if s.pair.barred.any fun e => decide (r.epoch ≤ e) then s
  else (s.setPair { s.pair with shadow := insertRec r s.pair.shadow }).ackShadow

/-- MIRROR_ACK (13 R528). -/
def execMirrorAck (n : Nat) (s : State) : Res := act s fun s => s.mirrorAcked n

/-- NACK (13 R528): the record named is sent again. -/
def execNack (n : Nat) (s : State) : Res := act s fun s =>
  match s.pair.journal.find? fun r => r.jseq == n with
  | some r => s.shipRec r
  | none => s

/-- The retain horizon (13 R530). -/
def State.retainHorizon (s : State) : Nat :=
  (s.dedup.deltas.map (·.seq)).foldl min s.seqPersist

/-- RETAIN_SEND (13 R530): the horizon goes to the partner, and the records below it, with their slots, are let go. -/
def execRetainSend (s : State) : Res := actIf s (s.rb Pg.HEADPAIR Rg.HEADPAIR_CFG 0) fun s =>
  let h := s.retainHorizon
  let s := s.setPair { s.pair with journal := s.pair.journal.filter fun r => decide (h ≤ r.jseq) }
  (s.control 6 0 h).showMirror.dirtyBp

/-- RETAIN (13 R530). -/
def execRetain (h : Nat) (s : State) : Res := act s fun s =>
  (s.setPair { s.pair with shadow := s.pair.shadow.filter fun r => decide (h ≤ r.jseq), base := max s.pair.base (h - 1) }).ackShadow

/-! ### Pair states (13 R536, R537) -/

/-- Acknowledgements stop, and the partner's present epoch is barred (13 R533). -/
def State.barPartner (s : State) : State :=
  let s := s.stopAcks
  s.setPair { s.pair with barred := some (max (s.pair.barred.getD 0) (s.roleEpoch s.peerRole)) }

/-- The head arbitrates (13 R533, R536, R542): the partner's groups are in ANA Change. -/
def State.arbitrate (s : State) (trigger : Nat) : State :=
  let from' := s.pairState
  let s := (s.barPartner).setPairState 1
  let s := s.setPair { s.pair with arbRounds := 0, trigger, takeSince := s.gts }
  if from' = 3 then
    (s.setAnaWhere (fun g => !s.homeGroup g) 0xF).log Pg.HEADPAIR Ev.HEADPAIR_TAKEOVER_START [.v 1 trigger, .v 8 s.shadowJ]
  else s

/-- Later sequence numbers stand above every record of the partner that this head applies (09 R361, R364; DEDUCED, log 57). -/
def State.passSeq (s : State) : State :=
  { s with hq := { s.hq with jseq := (s.pair.shadow.map fun r => r.jseq + 1).foldl max s.hq.jseq } }

/-- The head takes over on a yield (13 R533, R534, R536): it reports every group as Optimized and acknowledges on its own. -/
def State.takeOver (s : State) (trigger : Nat) : State :=
  let s := (s.barPartner).setPairState 4
  let s := s.wb Pg.HEADPAIR Rg.HEADPAIR_STATE 3 false
  let s := s.setPair { s.pair with arbRounds := 0, trigger, takeSince := s.gts }
  let s := s.log Pg.HEADPAIR Ev.HEADPAIR_TAKEOVER_START [.v 1 trigger, .v 8 s.shadowJ]
  ((s.passSeq.setAnaWhere (fun _ => true) 1).ackWrites fun _ => true).ackDirty

/-- The head joins (13, Joining step 1): its GTS steps forward to the reference's (01 R50, R53), and JOIN is sent. -/
def State.sendJoin (s : State) : State :=
  let off := (sext 16 (s.rf Pg.HEADPAIR Rg.HEADPAIR_GTS_STATUS 31 16)).toNat
  let s := if off = 0 then s
    else { s with gts := s.gts + off }.log Pg.GTS Ev.GTS_STEPPED [.v 8 s.gts, .v 8 (s.gts + off)]
  ((s.setPair { s.pair with joinSince := s.gts, inStep := false, shipped := 0 }).setPairState 2).control 3 0 0

/-- What this head reports of each group in PAIRED (03 R139). -/
def State.reportPaired (s : State) : State :=
  let away := if s.rb Pg.HOSTQ Rg.HOSTQ_CFG 1 then 2 else 3
  (s.setAnaWhere s.homeGroup 1).setAnaWhere (fun g => !s.homeGroup g) away

/-- The join ends: PAIRED (13 R537), recorded with what was shipped and how long it took. -/
def State.joined (s : State) : State :=
  let s := (s.setPairState 3).wb Pg.HEADPAIR Rg.HEADPAIR_STATE 6 false
  let s := s.log Pg.HEADPAIR Ev.HEADPAIR_JOINED [.v 8 s.pair.shipped, .v 4 ((s.gts - s.pair.joinSince) / 1000000)]
  (s.setPair { s.pair with joinSince := 0 }).showMirror

/-! ### Heartbeats (13 R509, R520 to R523) -/

/-- The median of the last offsets; of an even number, the mean of the middle two, rounded down (DESIGN CHOICE, log 50). -/
def median (l : List Int) : Int :=
  let t := l.mergeSort (fun a b => decide (a ≤ b))
  let n := t.length
  if n = 0 then 0 else if n % 2 = 1 then t.getD (n / 2) 0 else (t.getD (n / 2 - 1) 0 + t.getD (n / 2) 0) / 2

/-- A signed value saturated to 16 bits, as its bits. -/
def sat16 (x : Int) : Nat := ((max (-32768) (min 32767 x)) % 65536).toNat

/-- A heartbeat's fields, big-endian (13 R520). -/
def hbF (rec : List Byte) (a n : Nat) : Nat := ofBE (sliceB rec a n)

/-- The offset of R522 enters the median; alignment gained or lost is recorded. -/
def State.takeOffset (s : State) (l : Nat) (rec : List Byte) : State :=
  let echo := hbF rec 16 8
  if echo = 0 then s
  else
    let rtt : Int := s.gts - echo - hbF rec 24 8
    let off : Int := hbF rec 8 8 + rtt / 2 - s.gts
    let offs := (off :: s.pair.offsets).take 16
    let m := median offs
    let was := s.rb Pg.HEADPAIR Rg.HEADPAIR_GTS_STATUS 0
    let now := decide (-8 ≤ m) && decide (m ≤ 8)
    let s := (s.setPair { s.pair with offsets := offs }).wrN (seamPage l) Rg.SEAM_RTT 0 (rtt.toNat % 65536)
    let s := s.wrN Pg.HEADPAIR Rg.HEADPAIR_GTS_STATUS 0 (b2n now + 65536 * sat16 m)
    if was = now then s
    else
      let s := if now then s else s.irq Pg.HEADPAIR 2
      s.log Pg.HEADPAIR Ev.HEADPAIR_GTS [.v 1 (b2n now), .v 4 ((m % 2 ^ 32).toNat)]

/-- The partner's counts of frames lost and delivered move the TX counters, each report once (13 R517). -/
def State.takeCounts (s : State) (rec : List Byte) : State :=
  let tx := hbF rec 8 8
  if tx ≤ s.pair.counted then s
  else
    let s := s.setPair { s.pair with counted := tx }
    (List.range 2).foldl (fun s l =>
      let x := s.link l
      let c := counted (s.txCount l) x.tx1024 (hbF rec (48 + 4 * l) 4) (hbF rec (56 + 4 * l) 4)
      ((s.setLink l { x with tx1024 := c.2 }).setTx l c.1).checkLink l) s

/-- The read lease, in PAIRED (13 R523). -/
def State.renewLease (s : State) (rec : List Byte) : State :=
  let flags := hbF rec 2 2
  let heard := hbF rec 4 4
  if s.pairState = 3 ∧ heard < 1000 * s.rf Pg.HEADPAIR Rg.HEADPAIR_READ_LEASE 15 0 ∧ !bitOf flags 1 ∧ !bitOf flags 2 then
    let had := s.rb Pg.HEADPAIR Rg.HEADPAIR_STATE 3
    let s := s.wb Pg.HEADPAIR Rg.HEADPAIR_STATE 3 true
    if had then s else s.log Pg.HEADPAIR Ev.HEADPAIR_LEASE [.v 1 1, .v 4 heard]
  else s

/-- What a heartbeat makes of the pair state (13 R537). -/
def State.followPeer (s : State) : State :=
  let st := s.pairState
  let peer := s.pair.peerState
  if st = 0 ∧ peer = 5 then s.sendJoin
  else if st = 0 ∧ peer = 0 ∧ s.headId = 0 then s.arbitrate 3
  else if st = 5 ∧ s.pair.inStep ∧ s.pair.joinSince ≠ 0 ∧ peer = 3 then s.joined
  else s

/-- HEARTBEAT (13 R509, R517, R520 to R523, R537): a heartbeat frame is delivered on link `l`. -/
def execHeartbeat (l fseq : Nat) (rec : List Byte) (s : State) : Res :=
  actIf s (s.linkOn l && s.rb Pg.HEADPAIR Rg.HEADPAIR_CFG 0) fun s =>
    let s := s.frameIn l fseq
    let flags := hbF rec 2 2
    let s := (s.wr64 (seamPage l) Rg.SEAM_HB_GTS_LO s.gts).setLink l { s.link l with echo := hbF rec 8 8, echoAt := s.gts }
    let s := (s.takeCounts rec).wb Pg.HEADPAIR Rg.HEADPAIR_STATE 5 false
    let s := s.setPair { s.pair with
      lastHb := some s.gts, heard := hbF rec 4 4, peerState := hbF rec 1 1, peerPortsUp := bitOf flags 3 }
    if hbF rec 0 1 % 2 = s.headId then
      if s.rb Pg.HEADPAIR Rg.HEADPAIR_STATE 4 then s
      else (s.wb Pg.HEADPAIR Rg.HEADPAIR_STATE 4 true).log Pg.HEADPAIR Ev.HEADPAIR_ID_CONFLICT [.v 1 (hbF rec 0 1 % 2)]
    else
      let s := if bitOf flags 2 then s else { s with pins := { s.pins with peerYieldN := true } }
      let k := hbF rec 40 8
      let s := if s.rd64 Pg.HEADPAIR Rg.HEADPAIR_KEEPER_LO < k then s.wr64 Pg.HEADPAIR Rg.HEADPAIR_KEEPER_LO k else s
      (((s.takeOffset l rec).renewLease rec).mirrorAcked (hbF rec 32 8)).followPeer

/-- A port of this head is up. -/
def State.portsUp (s : State) : Bool := (List.range 2).any fun p => s.rf (Pg.ETH + p) Rg.ETH_LINK_STATUS 3 0 != 0

/-- This head releases read data (13 R523, R536). -/
def State.releases (s : State) : Bool :=
  let st := s.pairState
  (st == 3 && s.rb Pg.HEADPAIR Rg.HEADPAIR_STATE 3) || st == 4 || st == 5

/-- HEARTBEAT_SEND (13 R519, R520): on each link but those DOWN, and on RETIRED ones while both are. Outside as flow 256 + link. -/
def execHeartbeatSend (s : State) : Res := actIf s (s.rb Pg.HEADPAIR Rg.HEADPAIR_CFG 0) fun s =>
  let st := s.pairState
  let age := match s.pair.lastHb with | some t => min (s.gts - t) (2 ^ 32 - 1) | none => 2 ^ 32 - 1
  let flags := b2n s.releases + 2 * b2n (st == 4) + 4 * b2n (st == 6) + 8 * b2n s.portsUp
  let both := s.linkState 0 == 5 && s.linkState 1 == 5
  let a := s.link 0
  let b := s.link 1
  let send := fun (s : State) (l : Nat) =>
    let ls := s.linkState l
    if (1 ≤ ls ∧ ls ≤ 4) ∨ (ls = 5 ∧ both) then
      let x := s.link l
      let hold := if x.echo = 0 then 0 else min (s.gts - x.echoAt) (2 ^ 32 - 1)
      (s.emit (.seam (256 + l) 0x02 [x.txSeq, s.headId, st, flags, age, s.gts, x.echo, hold, s.shadowJ,
        s.rd64 Pg.HEADPAIR Rg.HEADPAIR_KEEPER_LO, a.lost, b.lost, a.good, b.good])).setLink l
        { x with txSeq := (x.txSeq + 1) % 2 ^ 32, lost := 0, good := 0 }
    else s.setLink l { s.link l with lost := 0, good := 0 }
  send (send s 0) 1

/-- PARTNER_SILENT (13 R521, R537): no heartbeat for HEADPAIR_SILENCE. -/
def execPartnerSilent (s : State) : Res :=
  actIf s (s.rb Pg.HEADPAIR Rg.HEADPAIR_CFG 0 && !s.rb Pg.HEADPAIR Rg.HEADPAIR_STATE 5) fun s =>
    let s := (s.wb Pg.HEADPAIR Rg.HEADPAIR_STATE 5 true).irq Pg.HEADPAIR 3
    let st := s.pairState
    if (st = 0 ∧ !s.rb Pg.HEADPAIR Rg.HEADPAIR_STATE 4) ∨ st = 3 then (s.wb Pg.HEADPAIR Rg.HEADPAIR_STATE 3 false).arbitrate 2 else s

/-- LEASE_LAPSE (13 R523): HEADPAIR_READ_LEASE has passed since the last renewal; read data is held. -/
def execLeaseLapse (s : State) : Res := actIf s (s.rb Pg.HEADPAIR Rg.HEADPAIR_STATE 3) fun s =>
  ((s.wb Pg.HEADPAIR Rg.HEADPAIR_STATE 3 false).irq Pg.HEADPAIR 1).log Pg.HEADPAIR Ev.HEADPAIR_LEASE [.v 1 0, .v 4 s.pair.heard]

/-! ### Control messages and the pin (13 R532, R537, R538) -/

/-- YIELD_MESSAGE (13 R537). -/
def execYieldMessage (cause : Nat) (s : State) : Res := act s fun s =>
  let s := s.wf Pg.HEADPAIR Rg.HEADPAIR_YIELD_CAUSE 15 8 cause
  if s.pairState = 3 then s.takeOver 0 else s

/-- PEER_YIELD_SEEN (13 R537, R538): PEER_YIELD_N has been low for three samples. -/
def execPeerYieldSeen (s : State) : Res :=
  let s := { s with pins := { s.pins with peerYieldN := false } }
  actIf s (s.rb Pg.HEADPAIR Rg.HEADPAIR_CFG 0) fun s =>
    if s.pairState = 3 then s.takeOver 1
    else if s.pairState = 0 ∧ !s.rb Pg.HEADPAIR Rg.HEADPAIR_STATE 4 then s.arbitrate 1 else s

/-- A role's epoch is raised at modules (11 R467, R468): both ports see it. -/
def State.raiseRole (s : State) (role epoch : Nat) (mods : List Nat) : State :=
  mods.foldl (fun s n => s.setModule n ((s.module n).peer (.setEpoch role epoch))) s

/-- FENCE_MESSAGE (13 R532): the epoch the partner has set for a role at the modules. -/
def execFenceMessage (role epoch : Nat) (s : State) : Res := actIf s (decide (role < 4)) fun s =>
  s.raiseRole role epoch s.attachedMods

/-- JOIN (13, Joining step 2): the survivor ships every retained record. -/
def execJoin (s : State) : Res := actIf s (s.pairState == 5) fun s =>
  let s := s.setPair { s.pair with joinSince := max 1 s.gts, inStep := false, shipped := s.pair.journal.length }
  let s := s.pair.journal.foldl (fun s r => s.shipRec r) s
  if s.pair.journal = [] then s.catchUp else s

/-- CATCHUP_DONE (13 R532, Joining step 3): mirroring is in step. -/
def execCatchupDone (n : Nat) (s : State) : Res := actIf s (s.pairState == 2) fun s =>
  (s.setPair { s.pair with inStep := true, base := max s.pair.base (min n s.shadowJ) })

/-- ROLE_RELEASE (13 R537, Joining step 5): the joiner raises its role's epoch at every module, and pairs. -/
def execRoleRelease (role epoch : Nat) (s : State) : Res := actIf s (s.pairState == 2 && role == s.headId) fun s =>
  let s := (s.raiseRole role (epoch + 1) s.attachedMods).setRoleEpoch role (epoch + 1)
  (s.wb Pg.STITCH Rg.STITCH_ROLE_HELD role true).joined.reportPaired

/-- HEADPAIR_CMD_YIELD (13 R539, R540). -/
def execHeadpairCmdYield (master value : Nat) (s : State) : Res := actIf s (bitOf value 0) fun s =>
  s.regCmd { page := Pg.HEADPAIR, off := Rg.HEADPAIR_CMD, master, value } fun s _ => s.yield 0x01

/-! ### Arbitration (13 R542, R543) -/

/-- What the partner has had executed at a module. -/
def State.peerOps (s : State) (ops : List (Nat × List PeerOp)) : State :=
  ops.foldl (fun s e => s.setModule e.1 (e.2.foldl Module.peer (s.module e.1))) s

/-- W_CAS of a slot at each module of a list (11 R466, R467): the modules at which it swaps. -/
def State.casAll (s : State) (slot : Nat) (expect : List (Nat × Nat × Nat)) (ne nh : Nat) : State × List Nat :=
  expect.foldl (fun (acc : State × List Nat) x =>
    let m := acc.1.module x.1
    if m.slots.getD slot (0, 0) = x.2 ∧ x.2.1 < ne then
      (acc.1.setModule x.1 { m with slots := m.slots.set slot (ne, nh) }, acc.2 ++ [x.1])
    else acc) (s, [])

/-- Slot contents at the attached modules. -/
def State.slotReads (s : State) (slot : Nat) : List (Nat × Nat × Nat) :=
  s.attachedMods.map fun n => (n, (s.module n).slots.getD slot (0, 0))

/-- The winner fences the partner and enters SOLO (13 R534 to R536, R543). `late`: modules whose SET_EPOCH is outstanding. -/
def State.fence (s : State) (late : List Nat) : State :=
  let r := s.peerRole
  let e := s.roleEpoch r + 1
  let a := s.roleEpoch 2 + 1
  let mods := s.attachedMods.filter fun n => decide (n ∉ late)
  let s := ((s.setRoleEpoch r e).setRoleEpoch 2 a).setPair { s.pair with fencing := s.attachedMods.filter fun n => decide (n ∈ late) }
  let s := (s.raiseRole r e mods).raiseRole 2 a mods
  let leader := s.slotReads 0
  let s := (s.casAll 0 leader ((leader.map (·.2.1)).foldl max 0 + 1) (0x100 + s.headId)).1
  let s := (s.wf Pg.STITCH Rg.STITCH_ROLE_HELD 2 0 7).wb Pg.PATTERN Rg.PATTERN_BLOCK_USE 0 true
  let s := (s.control 2 r e).control 2 r e
  let s := s.log Pg.HEADPAIR Ev.HEADPAIR_FENCED_PARTNER [.v 1 r, .v 8 e, .v 1 mods.length, .v 1 s.pair.fencing.length]
  let us := (s.gts - s.pair.takeSince) / 1000
  let kept := s.pair.shadow.filter fun x => decide (x.jseq ≤ s.shadowJ)
  let gone := s.pair.shadow.length - kept.length
  let s := s.setPair { s.pair with shadow := kept, joinSince := 0, inStep := false }
  let s := (s.wrN Pg.HEADPAIR Rg.HEADPAIR_TAKEOVER_US 0 (us % 2 ^ 24)).setPairState 5
  let s := s.log Pg.HEADPAIR Ev.HEADPAIR_SOLO [.v 8 kept.length, .v 8 gone, .v 4 us]
  ((s.passSeq.setAnaWhere (fun _ => true) 1).ackWrites fun _ => true).ackDirty

/-- ARBITRATION_ROUND (13 R542): the partner's operations before the reads and between reads and swaps come with the command. -/
def execArbitrationRound (before between : List (Nat × List PeerOp)) (late : List Nat) (s : State) : Res :=
  actIf s (s.pairState == 1 || s.pairState == 4) fun s =>
    let st := s.pairState
    let s := s.peerOps before
    let reads := s.slotReads 1
    let total := s.pair.members.length
    let isMem := fun (s : State) n => decide (n ∈ s.memberMods)
    let theirs := (reads.filter fun x => x.2.2 == 0x100 + s.peerRole && isMem s x.1).length
    let e := (reads.map (·.2.1)).foldl max 0
    let k := max (s.rd64 Pg.HEADPAIR Rg.HEADPAIR_KEEPER_LO) e
    let s := (s.wr64 Pg.HEADPAIR Rg.HEADPAIR_KEEPER_LO k).setPair { s.pair with arbRounds := s.pair.arbRounds + 1 }
    let note := fun (s : State) (won outcome : Nat) =>
      s.log Pg.HEADPAIR Ev.HEADPAIR_ARBITRATION [.v 4 s.pair.arbRounds, .v 1 won, .v 1 theirs, .v 1 outcome]
    if total < 2 * theirs then
      let s := note s 0 1
      if st = 1 ∧ s.pair.lastHb.isSome ∧ !s.rb Pg.HEADPAIR Rg.HEADPAIR_STATE 5 then s.sendJoin else s.yield 0x09
    else
      let s := s.peerOps between
      let r := s.casAll 1 reads (e + 1) (0x100 + s.headId)
      let won := (r.2.filter fun n => isMem r.1 n).length
      if total < 2 * won then ((note r.1 won 0).wr64 Pg.HEADPAIR Rg.HEADPAIR_KEEPER_LO (e + 1)).fence late
      else note r.1 won 2

/-- ARBITRATION_LIMIT_EXPIRY (13 R542). -/
def execArbitrationLimitExpiry (s : State) : Res := actIf s (s.pairState == 1 || s.pairState == 4) fun s => s.yield 0x09

/-- SET_EPOCH_TIMEOUT (13 R543): the module is declared failed. -/
def execSetEpochTimeout (n : Nat) (s : State) : Res := actIf s (decide (n ∈ s.pair.fencing)) fun s =>
  (s.setPair { s.pair with fencing := s.pair.fencing.filter (· != n) }).modFail n 4

/-! ### Other causes of a yield (13 R540) -/

/-- HOST_PORTS_TIMEOUT: every sub-port has been down for 1 s while the partner's are up. -/
def execHostPortsTimeout (s : State) : Res := actIf s (!s.portsUp && s.pair.peerPortsUp) fun s => s.yield 0x05

/-- THERMAL_LIMIT: the junction is above 105 °C. -/
def execThermalLimit (s : State) : Res := act s fun s => s.yield 0x0A

/-- ENGINE_UNCORRECTABLE_ERROR: inside an engine other than URT. -/
def execEngineUncorrectableError (e : Engine) (s : State) : Res := actIf s (decide (e ≠ .urt)) fun s => s.yield 0x07

/-! ### Register accesses from the partner (17 R654, R655) -/

/-- REMOTE_ACCESS: a 4-byte access of the partner's master `master` (its own ID) arrives on flow 25; the answer goes back. -/
def execRemoteAccess (master page off : Nat) (write : Bool) (value : Nat) (s : State) : Res :=
  actIf s (decide (page < 75) && decide (off < 65536) && off % 4 == 0 && (whoOf master == .mp || whoOf master == .svc)) fun s =>
    let m := Ms.PARTNER + master
    if write then (s.plainWrite { page, off, master := m, value, remote := true }).emit (.seam 25 2 [master, off, 0])
    else if !s.pageReady page then (s.notReady page off m false true).emit (.seam 25 2 [master, off, 0])
    else s.emit (.seam 25 2 [master, off, s.viewFor m page off])

end Sys2Proof.Machine
end

