-- ==== Sys2Proof/Machine/Boot.lean ====
section
/-! DEFINITION. Reset release, boot, field update, recovery, resets (16, 18). -/
namespace Sys2Proof.Machine

/-- Set the boot part of the state. -/
def State.setBoot (s : State) (b : Boot) : State := { s with boot := b }

/-- BOOT_STATUS's fields: phase, slot booted, trial. -/
def State.bootPhase (s : State) : Nat := s.rf Pg.BOOT Rg.BOOT_STATUS 2 0
def State.setPhase (s : State) (p : Nat) : State := s.wf Pg.BOOT Rg.BOOT_STATUS 2 0 p
def State.bootSlot (s : State) : Nat := s.rf Pg.BOOT Rg.BOOT_STATUS 3 3
def State.onTrial (s : State) : Bool := s.rb Pg.BOOT Rg.BOOT_STATUS 4
def State.bootCode (s : State) (c : Nat) : State := s.wf Pg.BOOT Rg.BOOT_STATUS 15 8 c

/-- A slot's contents. -/
def State.fwSlot (s : State) (n : Nat) : Slot := s.boot.slots.getD n {}
def State.setFwSlot (s : State) (n : Nat) (x : Slot) : State := s.setBoot { s.boot with slots := s.boot.slots.set n x }

/-- Write the copy of boot control that is not in force, one seq on (16 R617). -/
def State.writeCtl (s : State) (active trial attempts : Nat) : State :=
  let c := s.bootCtl
  let i := match c with | some (i, _) => i | none => 1
  let seq := match c with | some (_, c) => (c.seq + 1) % 2 ^ 32 | none => 0
  s.setBoot { s.boot with ctl := s.boot.ctl.set (1 - i) { valid := true, seq, active, trial, attempts } }

/-- The slot boot control calls active, 0 where no copy verifies, and the one on trial. -/
def State.activeSlot (s : State) : Nat := match s.bootCtl with | some (_, c) => c.active | none => 0
def State.trialSlot (s : State) : Nat := match s.bootCtl with | some (_, c) => c.trial | none => 0xFF

/-! ### Images -/

/-- Fields of a stage-1 image (16 R619). -/
def st1Entry (im : List Byte) : Nat := leAt im 6 1
def st1Len (im : List Byte) : Nat := leAt im 8 4
def st1Svn (im : List Byte) : Nat := leAt im 16 4

/-- The header of a stage-1 image is in order. -/
def st1Header (im : List Byte) : Bool :=
  leAt im 0 4 == 0x31534D47 && leAt im 4 2 == 1 && decide (st1Entry im ≤ 15) && leAt im 7 1 == 0 && decide (64 ≤ st1Len im) &&
    decide (st1Len im ≤ 1048576) && st1Len im % 32 == 0 && decide (leAt im 12 4 < st1Len im) && leAt im 20 44 == 0 &&
    decide (st1Len im ≤ im.length)

/-- An image is checked against the OTP through seal unit 0 (16 R620): OK, or the code with which it fails. `ctx` is the
Hallmark context that takes the stream. -/
def State.checkStage1 (s : State) (im : List Byte) (ctx : Nat) : State × Nat :=
  if !st1Header im then (s, St.BAD_INPUT)
  else
    let e := s.boot.otp.getD (st1Entry im) {}
    let s := { s with hall := { s.hall with seals := mput s.hall.seals 0 (padTo 32 e.digest) } }
    let r := s.sealCompare 0 ctx (sha256 (im.take (st1Len im)))
    if e.valid && !e.revoked && decide (s.boot.svnFloor ≤ st1Svn im) then r else (r.1, St.AUTH_FAIL)

/-- Entries of a package (16 R624): type, offset, length, digest. -/
def pkgEntries (p : List Byte) : List (Nat × Nat × Nat × List Byte) :=
  (List.range (leAt p 6 2)).map fun i =>
    let e := sliceB p (256 + 48 * i) 48
    (leAt e 0 1, leAt e 4 4, leAt e 8 4, sliceB e 16 32)

/-- The header of a package is in order, each entry within it. -/
def pkgHeader (p : List Byte) : Bool :=
  leAt p 0 4 == 0x4B504D47 && leAt p 4 2 == 1 && decide (1 ≤ leAt p 6 2) && decide (leAt p 6 2 ≤ 80) && leAt p 22 106 == 0 &&
    decide (4096 ≤ leAt p 16 4) && decide (leAt p 16 4 ≤ p.length) && (List.range (leAt p 6 2)).all (fun i =>
      leAt p (257 + 48 * i) 3 == 0 && leAt p (268 + 48 * i) 4 == 0 && decide (leAt p (256 + 48 * i) 1 - 1 < 4)) &&
    (pkgEntries p).all fun e => decide (4096 ≤ e.2.1) && decide (e.2.1 + e.2.2.1 ≤ leAt p 16 4)

/-- A package is checked (16 R625): the signature's verdict comes with the command, the digests go through seal unit 1. -/
def State.checkPackage (s : State) (p : List Byte) (ctx : Nat) (sigOk : Bool) : State × Nat :=
  if !pkgHeader p then (s, St.BAD_INPUT)
  else
    let r := (pkgEntries p).foldl (fun (acc : State × Nat) e =>
      if acc.2 ≠ St.OK then acc
      else
        let s := acc.1
        let s := { s with hall := { s.hall with seals := mput s.hall.seals 1 e.2.2.2 } }
        s.sealCompare 1 ctx (sha256 (sliceB p e.2.1 e.2.2.1))) (s, St.OK)
    if sigOk && decide (s.boot.svnFloor ≤ pkgSvn p) then r else (r.1, St.AUTH_FAIL)

/-! ### From reset to service -/

/-- Enter recovery mode (16 R635). -/
def State.enterRecovery (s : State) (cause : Nat) : State :=
  (s.setPhase 4).setBoot { (s.setPhase 4).boot with recCause := cause, recoverNext := false }

/-- The ROM boots a slot: BOOT_STATUS shows it. -/
def State.bootFrom (s : State) (n : Nat) : State :=
  let trial := s.trialSlot == n
  let att := match s.bootCtl with | some (_, c) => c.attempts | none => 0
  let s := (s.wf Pg.BOOT Rg.BOOT_STATUS 3 3 n).wb Pg.BOOT Rg.BOOT_STATUS 4 trial
  (s.wf Pg.BOOT Rg.BOOT_STATUS 7 6 att).setPhase 0

/-- The ROM chooses the slot (16 R618). -/
def State.chooseSlot (s : State) : State :=
  if s.boot.recoverNext then s.enterRecovery 2
  else if !s.pins.recoveryN then s.enterRecovery 1
  else match s.bootCtl with
  | none => (s.setBoot { s.boot with rewrite := true }).bootFrom 0
  | some (_, c) =>
    if c.trial = 0xFF then s.bootFrom c.active
    else if c.attempts < 3 then (s.writeCtl c.active c.trial (c.attempts + 1)).bootFrom c.trial
    else
      let s := (s.writeCtl c.active 0xFF 0).bootFrom c.active
      let s := (s.wb Pg.BOOT Rg.BOOT_STATUS 5 true).irq Pg.BOOT 1
      s.log Pg.BOOT Ev.BOOT_FALLBACK [.v 1 c.trial, .v 1 c.attempts]

/-- The slot that boots has failed at a stage: it is recorded, and the other slot is tried, or recovery entered (16 R618). -/
def State.slotFailed (s : State) (stage code : Nat) : State :=
  let n := s.bootSlot
  let s := (s.bootCode code).log Pg.BOOT Ev.BOOT_SLOT_FAILED [.v 1 n, .v 1 stage, .v 1 code]
  let s := s.setBoot { s.boot with tried := insertNew n s.boot.tried }
  if 1 - n ∈ s.boot.tried then s.enterRecovery 0 else s.bootFrom (1 - n)

/-- Pages released at reset (16 R612): TOP, BOOT and THIMBLE. -/
def resetPages : Nat := 2 ^ Pg.TOP + 2 ^ Pg.BOOT + 2 ^ Pg.THIMBLE

/-- Every page of the table (17, 75 pages). -/
def allPages : Nat := 2 ^ 75 - 1

/-- Domains asked on after reset release, in the order of 18, Sequencing: DDR5, HBM, compute dies; then the clusters. -/
def bootDomains : List Nat := [7, 5, 6, 1, 2, 3, 4, 8, 9, 10, 11, 12, 13] ++ (List.range 16).map (· + 14)

/-- The wake from P4 is over: calendar and Thimble hand back what they kept, and the events of the stay are written (15 R586,
R611, 01 R57). -/
def State.endP4 (s : State) : State :=
  let sec := s.rd64 Pg.THIMBLE Rg.THIMBLE_SECONDS_LO
  let s := { s with cal := { seconds := sec % 2 ^ 40, ns := 0, unsync := true } }
  let s := s.wrN Pg.THIMBLE Rg.THIMBLE_STATE 0 0
  let s := s.log Pg.PWRSEQ Ev.PWRSEQ_STATE [.v 1 4, .v 1 0, .v 1 4]
  s.log Pg.THIMBLE Ev.THIMBLE_WAKE
    [.v 1 (s.rdN Pg.THIMBLE Rg.THIMBLE_WAKE_CAUSE), .v 2 (s.rdN Pg.THIMBLE Rg.THIMBLE_NACKS), .v 8 (sec - s.power.p4Start)]

/-- RESET_RELEASE (16 R612, R618, 13 R508, R538, 18 Sequencing): SYS_RST_N is high and the I/O die's domain has reached
RELEASE. -/
def execResetRelease (s : State) : Res :=
  let st := s.domSt 0
  if s.power.aon && !s.boot.up && (st == 3 || st == 4) then
    let cold := s.locket.cold
    let wake := cold && s.rdN Pg.THIMBLE Rg.THIMBLE_STATE == 3
    let s := s.setDom 0 { s.dom 0 with st := 4, latch := none }
    let id := b2n s.pins.headSel
    let s := (s.wrN Pg.TOP Rg.TOP_STRAPS 0 (id + 2 * b2n s.pins.recoveryN)).wrN Pg.HEADPAIR Rg.HEADPAIR_HEAD_ID 0 id
    let s := { s with
      wosDone := insertNew (rkey Pg.HEADPAIR Rg.HEADPAIR_HEAD_ID 0) s.wosDone
      pins := { s.pins with sysRstN := true, headYieldN := some true } }
    let s := s.setBoot { s.boot with up := true, ready := resetPages, tried := [], upSince := s.gts }
    let s := if cold then s.wrN Pg.TOP Rg.TOP_RESET_CAUSE 0 (if wake then 2 ^ 5 else 2 ^ 0) else s
    let s := s.wrN Pg.PWRSEQ Rg.PWRSEQ_STATE 0 0
    let s := if wake then s.endP4 else s
    let s := bootDomains.foldl (fun s d => if s.domSt d = 0 then s.requestOn d else s) s
    .next s.newChallenge.chooseSlot
  else .next s

/-- The records of the bring-up go to Locket with their own GTS; the count of those dropped comes first (16 R614). -/
def State.flushBoot (s : State) : State :=
  let L := s.locket
  let s := { s with locket := { L with boot := [], bootDropped := 0 } }
  let s := if L.bootDropped = 0 then s
    else s.log Pg.LOCKET Ev.LOCKET_DROPPED [.v 4 L.bootDropped]
  L.boot.foldl (fun s r => s.holdRec r) s

/-- Pages are released; when LOCKET is, what was kept for it is written. -/
def State.releasePages (s : State) (mask : Nat) : State :=
  let had := bitOf s.boot.ready Pg.LOCKET
  let before := s.boot.ready
  let s := s.setBoot { s.boot with ready := before ||| mask }
  let s := if !had && bitOf s.boot.ready Pg.LOCKET then s.flushBoot else s
  [0, 1].foldl (fun s l =>
    if !bitOf before (seamPage l) && bitOf s.boot.ready (seamPage l) && s.rb (seamPage l) Rg.SEAM_CFG 0 && s.linkState l == 0
    then s.train l else s) s

/-- STAGE1_VERIFY_DONE (16 R618 to R620, R633): the slot's image has streamed through seal unit 0. It is accepted and runs, or
the slot fails. The stage-1's own settings format `fmt`, the pages `pages` it releases, and context `ctx` come with the
command. -/
def execStage1VerifyDone (ctx fmt pages : Nat) (s : State) : Res := actIf s (s.bootPhase == 0) fun s =>
  let n := s.bootSlot
  let im := (s.fwSlot n).stage1
  let r := s.checkStage1 im ctx
  let s := r.1
  if r.2 ≠ St.OK then s.slotFailed 1 r.2
  else
    let s := (s.poke 0x0FF000100000 (im.take (st1Len im))).setPhase 1
    let s := (s.bootCode St.OK).setBoot { s.boot with runEntry := st1Entry im, runSvn := st1Svn im }
    let s := s.releasePages (pages % 2 ^ 75)
    let s := if s.boot.rewrite then
        let c : BootCtl := { valid := true, seq := 1, active := n, trial := 0xFF, attempts := 0 }
        let s := s.setBoot { s.boot with ctl := [c, { c with seq := 2 }], rewrite := false }
        s.log Pg.BOOT Ev.BOOT_SETTINGS_RESET [.v 1 2, .v 2 0, .v 2 0]
      else s
    let old := s.boot.loader.format
    if old = fmt then s
    else (s.setBoot { s.boot with loader := { format := fmt } }).log Pg.BOOT Ev.BOOT_SETTINGS_RESET [.v 1 0, .v 2 old, .v 2 fmt]

/-- The firmware's settings record (16 R634): a trial firmware of another format converts the newest record (the result,
`conv`, comes with the command) and keeps the old; with none to convert, or outside a trial, it writes defaults. -/
def State.adoptSettings (s : State) (fmt : Nat) (conv : List Byte) : State :=
  let f := s.boot.firmware
  if f.any fun r => r.format == fmt then s
  else
    let new : Settings := { format := fmt, data := conv }
    match f.getLast? with
    | some old =>
      if s.onTrial then s.setBoot { s.boot with firmware := [old, new] }
      else (s.setBoot { s.boot with firmware := [new] }).log Pg.BOOT Ev.BOOT_SETTINGS_RESET [.v 1 1, .v 2 old.format, .v 2 fmt]
    | none => (s.setBoot { s.boot with firmware := [new] }).log Pg.BOOT Ev.BOOT_SETTINGS_RESET [.v 1 1, .v 2 0, .v 2 fmt]

/-- PACKAGE_VERIFY_DONE (16 R613, R614, R625, R634): main firmware starts and every page is released, or the slot fails. -/
def execPackageVerifyDone (ctx : Nat) (sigOk : Bool) (conv : List Byte) (s : State) : Res := actIf s (s.bootPhase == 1) fun s =>
  let n := s.bootSlot
  let p := (s.fwSlot n).package
  let r := s.checkPackage p ctx sigOk
  let s := r.1
  if r.2 ≠ St.OK then s.slotFailed 2 r.2
  else
    let s := (s.setFwSlot n { s.fwSlot n with verified := true }).releasePages allPages
    let s := (s.adoptSettings (leAt p 20 2) conv).setPhase 3
    s.log Pg.BOOT Ev.BOOT_DONE [.v 1 n, .v 4 (pkgVersion p), .v 1 (b2n s.onTrial), .v 4 ((s.gts - s.boot.upSince) / 1000000)]

/-! ### BOOT_CMD (16 R630 to R632, R635, R639) -/

/-- A command completes with a code. -/
def State.endBootCmd (s : State) (code : Nat) : State := (s.wrN Pg.BOOT Rg.BOOT_CMD_STATUS 0 (256 * code)).irq Pg.BOOT 0

/-- An accepted write of command `k` to BOOT_CMD; while one is busy it is discarded with LOCKED. -/
def State.bootCmd (s : State) (master value k : Nat) (f : State → State) : Res := actIf s (bits value 3 0 == k) fun s =>
  s.regCmd { page := Pg.BOOT, off := Rg.BOOT_CMD, master, value } fun s _ =>
    if s.rb Pg.BOOT Rg.BOOT_CMD_STATUS 0 then s.wf Pg.BOOT Rg.BOOT_CMD_STATUS 15 8 St.LOCKED else f s

/-- The MP's own accesses to memory. -/
def mpAcc : Acc := { master := Ms.MP, owner := sysOwner }

/-- The bytes at BOOT_SRC. -/
def State.bootSrc (s : State) (n : Nat) : State × List Byte × Nat := s.readBytes mpAcc (s.rd64 Pg.BOOT Rg.BOOT_SRC_LO) n

/-- A bundle's two parts: the stage-1 image's length is in its header (16 R619, R630). -/
def splitBundle (b : List Byte) : List Byte × List Byte := (b.take (st1Len b), (b.drop (st1Len b)).take (61 * 2 ^ 20))

/-- A bundle is written into a slot and verified; the code. -/
def State.writeBundle (s : State) (n ctx : Nat) (b : List Byte) (sigOk : Bool) : State × Nat :=
  let x := splitBundle b
  let s := s.setFwSlot n { stage1 := x.1, package := x.2 }
  let r := s.checkStage1 x.1 ctx
  let q := r.1.checkPackage x.2 ctx sigOk
  let code := if r.2 = St.OK ∧ q.2 = St.OK then St.OK else St.AUTH_FAIL
  (q.1.setFwSlot n { stage1 := x.1, package := x.2, verified := code == St.OK, staged := code == St.OK }, code)

/-- STAGE (16 R630): the slot neither active nor on trial is erased, written and verified. A bundle that memory does not answer
does not verify. -/
def execStage (master value ctx : Nat) (sigOk : Bool) (s : State) : Res := s.bootCmd master value 1 fun s =>
  if s.trialSlot ≠ 0xFF then s.endBootCmd St.LOCKED
  else
    let n := 1 - s.activeSlot
    let r := s.bootSrc (s.rdN Pg.BOOT Rg.BOOT_LEN)
    let q := r.1.writeBundle n ctx (if fine r.2.2 then r.2.1 else []) sigOk
    (q.1.log Pg.BOOT Ev.BOOT_STAGED [.v 1 n, .v 4 (pkgVersion (q.1.fwSlot n).package), .v 1 q.2]).endBootCmd q.2

/-- Every group this head is home to goes to the partner (03 R140): reported as ANA Change, then Non-Optimized. -/
def State.handOver (s : State) : State :=
  let home := (List.range 128).filter fun g => s.homeGroup (g + 1)
  let s := home.foldl (fun s g => s.setAna (g + 1) 0xF) s
  let s := home.foldl (fun s g => s.setAna (g + 1) 2) s
  (List.range 4).foldl (fun s j => s.wrN Pg.HEADPAIR (Rg.HEADPAIR_ANA_HOME + 4 * j) 0 0) s

/-- ACTIVATE (16 R631): the groups go to the partner, the trial is written, the head yields and resets. The pause, `pauseMs`,
is what the handover took. -/
def execActivate (master value pauseMs : Nat) (s : State) : Res := s.bootCmd master value 2 fun s =>
  let old := s.bootSlot
  let new := 1 - old
  if s.pairState ≠ 3 ∨ !(s.fwSlot new).staged then s.endBootCmd St.LOCKED
  else
    let s := s.handOver.writeCtl s.activeSlot new 0
    let s := s.yield 0x01
    let s := s.log Pg.BOOT Ev.BOOT_ACTIVATE [.v 1 old, .v 1 new, .v 4 pauseMs]
    (s.endBootCmd St.OK).resetHead (some 2)

/-- Every strand the running package names runs (16 R632): one is RUNNING with its image's family and version. -/
def State.packageStrandsRun (s : State) : Bool :=
  (pkgEntries (s.fwSlot s.bootSlot).package).all fun e =>
    e.1 != 3 || (let im := sliceB (s.fwSlot s.bootSlot).package e.2.1 e.2.2.1
      s.bd.strands.any fun k => k.2.st == 2 && k.2.family == imgFamily im && k.2.version == imgVersion im)

/-- CONFIRM (16 R632, R634). -/
def execConfirm (master value : Nat) (s : State) : Res := s.bootCmd master value 3 fun s =>
  let n := s.bootSlot
  let ps := s.pairState
  if !s.onTrial || !(ps == 3 || ps == 5) || !s.packageStrandsRun then s.endBootCmd St.LOCKED
  else
    let p := (s.fwSlot n).package
    let s := (s.writeCtl n 0xFF 0).wb Pg.BOOT Rg.BOOT_STATUS 4 false
    let s := s.setFwSlot n { s.fwSlot n with staged := false }
    let s := s.setBoot { s.boot with firmware := s.boot.firmware.filter fun r => r.format == leAt p 20 2 }
    (s.log Pg.BOOT Ev.BOOT_CONFIRMED [.v 1 n, .v 4 (pkgVersion p)]).endBootCmd St.OK

/-- RECOVER (16 R635): the head resets into recovery mode. -/
def execRecover (master value : Nat) (s : State) : Res := s.bootCmd master value 4 fun s =>
  let s := (s.endBootCmd St.OK).resetHead (some 2)
  s.setBoot { s.boot with recoverNext := true }

/-- RECOVERY_BUNDLE_RECEIVED (16 R635, R636): a bundle over TFTP (`path` 0) or PLDM (1). It is verified, written and booted, or
discarded. -/
def execRecoveryBundleReceived (bundle : List Byte) (path ctx : Nat) (sigOk : Bool) (s : State) : Res :=
  actIf s (s.bootPhase == 4) fun s =>
    let x := splitBundle bundle
    let r := s.checkStage1 x.1 ctx
    let q := if r.2 = St.OK then r.1.checkPackage x.2 ctx sigOk else r
    let code := q.2
    let s := q.1.log Pg.BOOT Ev.BOOT_RECOVERY [.v 1 q.1.boot.recCause, .v 1 path, .v 1 code]
    if code ≠ St.OK then s.bootCode code
    else
      let n := s.activeSlot
      let s := s.setFwSlot n { stage1 := x.1, package := x.2, verified := true }
      (s.writeCtl n 0xFF 0).resetHead (some 2)

/-- The OTP commands take effect only in stage-1 or main firmware (16 R637). -/
def State.otpOpen (s : State) : Bool := 1 ≤ s.bootPhase && s.bootPhase ≤ 3

/-- A change of the OTP is recorded. -/
def State.otpChanged (s : State) (cmd entry : Nat) : State :=
  (s.log Pg.BOOT Ev.BOOT_OTP_CHANGED [.v 1 cmd, .v 1 entry, .v 1 s.boot.svnFloor]).endBootCmd St.OK

/-- OTP_ADD (16 R639): the 32 bytes at BOOT_SRC into the lowest unused entry; a revoked bit set before stays (OTP writes are
permanent, 16). -/
def execOtpAdd (master value : Nat) (s : State) : Res := s.bootCmd master value 5 fun s =>
  if !s.otpOpen then s.endBootCmd St.LOCKED
  else match s.boot.otp.findIdx? fun e => !e.valid with
  | none => s.endBootCmd St.OUT_LIMIT
  | some i =>
    let r := s.bootSrc 32
    if !fine r.2.2 then r.1.endBootCmd r.2.2
    else
      let s := r.1.setBoot { s.boot with otp := s.boot.otp.set i { s.boot.otp.getD i {} with digest := r.2.1, valid := true } }
      s.otpChanged 5 i

/-- OTP_REVOKE (16 R639). -/
def execOtpRevoke (master value : Nat) (s : State) : Res := s.bootCmd master value 6 fun s =>
  let i := s.rf Pg.BOOT Rg.BOOT_OTP_SEL 3 0
  if !s.otpOpen || i == s.boot.runEntry then s.endBootCmd St.LOCKED
  else (s.setBoot { s.boot with otp := s.boot.otp.set i { s.boot.otp.getD i {} with revoked := true } }).otpChanged 6 i

/-- SVN_RAISE (16 R639). -/
def execSvnRaise (master value : Nat) (s : State) : Res := s.bootCmd master value 7 fun s =>
  if !s.otpOpen || decide (s.boot.runSvn < s.boot.svnFloor + 1) then s.endBootCmd St.LOCKED
  else if 64 ≤ s.boot.svnFloor then s.endBootCmd St.OUT_LIMIT
  else (s.setBoot { s.boot with svnFloor := s.boot.svnFloor + 1 }).otpChanged 7 0

/-! ### Resets -/

/-- A reset acts while the I/O die is powered. -/
def State.resetIf (s : State) (cause : Option Nat) : State := if 3 ≤ s.domSt 0 then s.resetHead cause else s

/-- BOOT_WATCHDOG_EXPIRY (16 R621): 60 s after stage-1's entry the head does not run yet. -/
def execBootWatchdogExpiry (s : State) : Res :=
  actIf s (s.bootPhase == 1 || s.bootPhase == 2) fun s => s.resetHead (some 1)

/-- TRIAL_TIMEOUT (16 R621): BOOT_TRIAL_MS has passed without CONFIRM. -/
def execTrialTimeout (s : State) : Res := actIf s (s.onTrial && s.bootPhase == 3) fun s => s.resetHead (some 1)

/-- TOP_SW_RESET_WRITE (16 R637, R640). -/
def execTopSwResetWrite (master value : Nat) (s : State) : Res := actIf s (value == 0xA5A5) fun s =>
  s.regCmd { page := Pg.TOP, off := Rg.TOP_SW_RESET, master, value } fun s _ => s.resetHead (some 2)

/-- SYS_RST_N_LOW (18 R678). -/
def execSysRstNLow (s : State) : Res :=
  let s := { s with pins := { s.pins with sysRstN := false } }
  .next (s.resetIf none)

/-- JTAG_RESET (18 R678). -/
def execJtagReset (s : State) : Res := .next (s.resetIf (some 3))

/-- THERMTRIP (18 R678, R682): the latch lies in Thimble's domain; the head resets. -/
def execThermtrip (s : State) : Res :=
  if s.power.aon then
    let s := { s with pins := { s.pins with thermtripN := false } }
    .next (s.resetIf (some 4))
  else .next s

end Sys2Proof.Machine
end

