-- ==== Sys2Proof/Machine/Dedup.lean ====
section
/-! DEFINITION. The dedup engine: hooks, manifests, lookups, reference counts, takeover (06 R246 to R267, R271 to R274). -/
namespace Sys2Proof.Machine

/-- The domain of a job; its journal sequence number; its entry count. -/
def Job.dom (j : Job) : Nat := j.f 12 2 % 1024
def Job.dseq (j : Job) : Nat := j.f 24 8
def Job.dcount (j : Job) : Nat := j.f 14 2

/-- DEDUP_DOM_STATE: 0 IDLE, 1 REPLAYING, 2 REBUILDING, 3 ACTIVE. -/
def State.domState (s : State) (d : Nat) : Nat := s.rf Pg.DEDUP Rg.DEDUP_DOM_STATE 1 0 d
def State.setDomState (s : State) (d st : Nat) : State := s.wrN Pg.DEDUP Rg.DEDUP_DOM_STATE d st

/-- Change the dedup engine's part of the state. -/
def State.setDedup (s : State) (x : Dedup) : State := { s with dedup := x }

/-! ### Hooks and manifests (06 R249 to R254) -/

/-- A fingerprint is a hook. -/
def isHook (fp : List Byte) : Bool := leAt fp 0 1 % 64 == 0

/-- The engine's own access to DDR5. -/
def dedupAcc : Acc := { master := Ms.DEDUP, owner := sysOwner }

/-- The bucket of a hook: its address. -/
def State.bucketOf (s : State) (fp : List Byte) : Nat :=
  s.rd64 Pg.DEDUP Rg.DEDUP_HOOK_BASE_LO + leAt fp 8 8 % 2 ^ s.rf Pg.DEDUP Rg.DEDUP_HOOK_BUCKETS 5 0 * 64

/-- The manifest IDs that a hook's bucket gives; a bucket that does not read gives none, the table being a hint. -/
def State.hookIds (s : State) (fp : List Byte) : State × List Nat :=
  let r := s.readBytes dedupAcc (s.bucketOf fp) 64
  let ids := fun o => if sliceB r.2.1 o 16 = fp.take 16 then [leAt r.2.1 (o + 16) 8, leAt r.2.1 (o + 24) 8] else []
  (r.1, if r.2.2 = St.OK ∨ r.2.2 = St.CHECK_ONLY_FIXED then (ids 0 ++ ids 32).filter (· != 0) else [])

/-- Insert a hook (06 R253). -/
def State.insertHook (s : State) (fp : List Byte) (man : Nat) : State :=
  let a := s.bucketOf fp
  let r := s.readBytes dedupAcc a 64
  let b := r.2.1
  let s := r.1
  let entry := fun o => sliceB b o 32
  let mine := fun o => sliceB b o 16 == fp.take 16 && leAt b (o + 16) 8 != 0
  let again := fun o => fp.take 16 ++ leBytes 8 man ++ leBytes 8 (leAt b (o + 16) 8)
  if r.2.2 ≠ St.OK ∧ r.2.2 ≠ St.CHECK_ONLY_FIXED then s
  else if mine 0 then (s.writeBytes dedupAcc a (again 0 ++ entry 32)).1
  else if mine 32 then (s.writeBytes dedupAcc a (entry 0 ++ again 32)).1
  else
    let s := if leAt b 48 8 ≠ 0 then s.countSat Pg.DEDUP Rg.DEDUP_HOOK_EVICT 1 else s
    (s.writeBytes dedupAcc a (fp.take 16 ++ leBytes 8 man ++ leBytes 8 0 ++ entry 0)).1

/-- The hooks of a manifest: at most 252 (06 R251). -/
def Man.hooks (m : Man) : List (List Byte) := ((m.entries.map (·.1)).filter isHook).take 252

/-- Seal a domain's open manifest to flash; its hooks enter the table then (DESIGN CHOICE, log 51). -/
def State.sealMan (s : State) (d : Nat) : State :=
  match mget s.dedup.opens d with
  | none => s
  | some m =>
    let n := (mget s.dedup.nextMan d).getD 1
    let id := d * 2 ^ 54 + n
    let s := s.setDedup { s.dedup with
      mans := mput s.dedup.mans id m, opens := mdel s.dedup.opens d, nextMan := mput s.dedup.nextMan d (n + 1) }
    m.hooks.foldl (fun s fp => s.insertHook fp id) s

/-- Append a chunk to the domain's open manifest, which is sealed at 1,024 entries. -/
def State.appendMan (s : State) (d : Nat) (fp : List Byte) (chunk len : Nat) : State :=
  let m := (mget s.dedup.opens d).getD { since := s.gts }
  let m := { m with entries := m.entries ++ [(fp, chunk, len)] }
  let s := s.setDedup { s.dedup with opens := mput s.dedup.opens d m }
  if 1024 ≤ m.entries.length then s.sealMan d else s

/-- Champions (06, Lookup, hit and miss): most hook matches first, ties to the higher serial. -/
def champions (n : Nat) (ids : List Nat) : List Nat :=
  let better := fun a b => decide (ids.count b < ids.count a) || (ids.count a == ids.count b && decide (b < a))
  (ids.eraseDups.foldl (fun l x => (l.takeWhile fun y => better y x) ++ [x] ++ l.dropWhile fun y => better y x) []).take n

/-- Load champions that are not in the manifest cache; how many. -/
def State.loadMans (s : State) (ids : List Nat) : State × Nat :=
  let new := ids.filter fun i => decide (i ∉ s.dedup.cache)
  (s.setDedup { s.dedup with cache := ((ids ++ s.dedup.cache.filter fun i => decide (i ∉ ids)).take (s.rf Pg.DEDUP Rg.DEDUP_MAN_CACHE 19 0)) },
    new.length)

/-- Chunks of the domain with a fingerprint, in the order of the search: open manifest, champions, cache. -/
def State.findFp (s : State) (d : Nat) (champs : List Nat) (fp : List Byte) : List Nat :=
  let of := fun (m : Man) => (m.entries.filter fun e => e.1 == fp).map fun e => e.2.1
  let mans := champs ++ s.dedup.cache.filter fun i => decide (i ∉ champs) && i / 2 ^ 54 == d
  (match mget s.dedup.opens d with | some m => of m | none => []) ++
    mans.flatMap fun i => match mget s.dedup.mans i with | some m => of m | none => []

/-! ### LOOKUP (06 R255 to R259) -/

/-- Chunk-list entry `i` of a job: flags, fingerprint, chunk ID, outcome, length (06 R243). -/
structure CEntry where
  flags : Nat
  fp : List Byte
  chunk : Nat
  outcome : Nat
  len : Nat
  deriving DecidableEq, Repr

/-- The entries of a chunk list as its bytes give them. -/
def parseEntries (b : List Byte) (n : Nat) : List CEntry :=
  (List.range n).map fun i =>
    { flags := leAt b (64 * i + 12) 1, fp := sliceB b (64 * i + 16) 32, chunk := leAt b (64 * i + 48) 8
      outcome := leAt b (64 * i + 56) 1, len := leAt b (64 * i + 8) 4 }

/-- An entry that is not looked up. -/
def CEntry.skip (e : CEntry) : Bool := e.flags % 4 != 0

/-- Write an entry's outcome, with its chunk on a hit and the entry it repeats. -/
def State.outcome (s : State) (j : Job) (i code : Nat) (chunk dup : Option Nat) : State :=
  let a := j.f 16 8 + 64 * i
  let s := match chunk with | some c => (s.writeBytes j.acc (a + 48) (leBytes 8 c)).1 | none => s
  let s := (s.writeBytes j.acc (a + 56) (leBytes 1 code)).1
  match dup with | some d => (s.writeBytes j.acc (a + 58) (leBytes 2 d)).1 | none => s

/-- The first of a list of chunks that is live. -/
def State.firstLive (s : State) (l : List Nat) : Option Nat :=
  l.find? fun id => match s.chunk id with | some c => c.st == 1 && decide (1 ≤ c.refs) | none => false

/-- What comes of one entry: the state, and whether the lookup goes on. `differs` are entries whose bytes a compare finds
different. -/
def State.lookOne (s : State) (j : Job) (L : Look) (es : List CEntry) (differs : List Nat) (i : Nat) (e : CEntry) : State × Look × Bool :=
  let d := j.dom
  if e.skip then (s.outcome j i 3 none none, L, true)
  else match (es.take i).findIdx? fun x => !x.skip && x.fp == e.fp with
  | some k => (s.outcome j i 2 none (some k), L, true)
  | none =>
    match s.firstLive (s.findFp d L.champs e.fp) with
    | some id =>
      let s := s.count Pg.DEDUP Rg.DEDUP_LOOKUPS 1
      if (s.chunk id).any fun c => c.refs == 2 ^ 32 - 1 then
        ((s.countSat Pg.DEDUP Rg.DEDUP_REF_FULL 1).outcome j i 5 none none, L, true)
      else if s.rb Pg.DEDUP Rg.DEDUP_DOM_CFG 2 d && decide (i ∈ differs) then
        let s := (s.countSat Pg.DEDUP Rg.DEDUP_COLLISIONS 1).log Pg.DEDUP Ev.DEDUP_COLLISION [.v 2 d, .v 8 id, .v 8 j.dseq]
        (s.outcome j i 4 none none, L, true)
      else
        let s := (s.takeRef j.dseq i id).1.count Pg.DEDUP Rg.DEDUP_HITS 1
        (s.outcome j i 1 (some id) none, { L with hits := L.hits + 1 }, true)
    | none =>
      if (d, e.fp) ∈ s.dedup.pending then (s, { L with waits := L.waits + 1 }, false)
      else
        let s := s.count Pg.DEDUP Rg.DEDUP_LOOKUPS 1
        let s := if s.dedup.pending.length < 65536 then s.setDedup { s.dedup with pending := s.dedup.pending ++ [(d, e.fp)] } else s
        (s.outcome j i 0 none none, { L with misses := L.misses + 1 }, true)

/-- Go through the entries from where the lookup stands: it ends, or waits for a COMMIT. -/
def State.lookFrom (s : State) (j : Job) (L : Look) (es : List CEntry) (differs : List Nat) : List (CEntry × Nat) → State × Look × Bool
  | [] => (s, L, true)
  | (e, i) :: t =>
    let r := s.lookOne j { L with at' := i } es differs i e
    if r.2.2 then State.lookFrom r.1 j r.2.1 es differs t else r

/-- The counts of a LOOKUP (06 R259). -/
def Look.counts (L : Look) : Nat :=
  L.hits % 65536 + 2 ^ 16 * (L.misses % 65536) + 2 ^ 32 * (L.loaded % 65536) + 2 ^ 48 * (L.waits % 65536)

/-- Run a lookup on from entry `from'`. -/
def State.runLook (s : State) (id : Nat) (j : Job) (L : Look) (es : List CEntry) (differs : List Nat) (from' : Nat) : State × Option JobRes :=
  let r := s.lookFrom j L es differs ((es.zip (List.range es.length)).drop from')
  if r.2.2 then (r.1.setDedup { r.1.dedup with looks := mdel r.1.dedup.looks id }, some { status := St.OK, counts := r.2.1.counts })
  else (r.1.setDedup { r.1.dedup with looks := mput r.1.dedup.looks id r.2.1 }, none)

/-- A dedup job's operands: a count from 1 to 1,024 and an aligned list, or a count of 0 (06 R271); a domain this head does not own
is NOT_OWNER (06 R248). -/
def State.dedupBad (s : State) (j : Job) (list : Bool) : Option Nat :=
  if list && (j.dcount == 0 || decide (1024 < j.dcount) || j.f 16 8 % 64 != 0) then some St.BAD_INPUT
  else if !list && j.dcount != 0 then some St.BAD_INPUT
  else if s.domValid j.dom && s.domOwned j.dom then none else some St.NOT_OWNER

/-- The chunk list of a job. -/
def State.readEntries (s : State) (j : Job) : State × Except Nat (List CEntry) :=
  let r := s.readBytes j.acc (j.f 16 8) (64 * j.dcount)
  (r.1, if r.2.2 = St.OK ∨ r.2.2 = St.CHECK_ONLY_FIXED then .ok (parseEntries r.2.1 j.dcount) else .error r.2.2)

/-- LOOKUP: in DEGRADED map mode every entry is SKIPPED (09 R387). While the domain is replayed the job waits (06 R267). -/
def execLookup (job : Nat) (differs : List Nat) (s : State) : Res := jobActM s .dedup 1 job fun s j =>
  match s.dedupBad j true with
  | some c => (s, some (stRes c))
  | none =>
    if s.domState j.dom = 1 ∨ (mget s.dedup.looks job).isSome then (s, none)
    else
      let r := s.readEntries j
      match r.2 with
      | .error c => (r.1, some (stRes c))
      | .ok es =>
        if s.mapMode = 2 then
          ((List.range es.length).foldl (fun s i => s.outcome j i 3 none none) r.1, some (stRes St.OK))
        else
          let h := ((es.filter fun e => !e.skip && isHook e.fp).foldl (fun acc e =>
            let q := acc.1.hookIds e.fp
            (q.1, acc.2 ++ q.2)) (r.1, ([] : List Nat)))
          let champs := champions (s.rf Pg.DEDUP Rg.DEDUP_CFG 3 1) (h.2.filter fun i => i / 2 ^ 54 == j.dom)
          let l := h.1.loadMans champs
          l.1.runLook job j { champs, loaded := l.2 } es differs 0

/-- A waiting lookup goes on with `f`, given its place and its entry. -/
def lookGoes (job : Nat) (s : State) (f : State → Job → Look → List CEntry → CEntry → State × Option JobRes) : Res :=
  jobActM s .dedup 1 job fun s j =>
    match mget s.dedup.looks job with
    | none => (s, none)
    | some L =>
      let r := s.readEntries j
      match r.2 with
      | .error c => (r.1.setDedup { r.1.dedup with looks := mdel r.1.dedup.looks job }, some (stRes c))
      | .ok es => match es[L.at']? with
        | some e => f r.1 j L es e
        | none => (r.1, none)

/-- LOOKUP_RESUME: the fingerprint waited for is no longer pending. -/
def execLookupResume (job : Nat) (differs : List Nat) (s : State) : Res := lookGoes job s fun s j L es e =>
  if (j.dom, e.fp) ∈ s.dedup.pending then (s, none) else s.runLook job j L es differs L.at'

/-- PENDING_WAIT_TIMEOUT: the outcome is MISS. -/
def execPendingWaitTimeout (job : Nat) (differs : List Nat) (s : State) : Res := lookGoes job s fun s j L es e =>
  let s := (s.log Pg.DEDUP Ev.DEDUP_PENDING_TIMEOUT [.v 2 j.dom, .v 8 (leAt e.fp 0 8)]).count Pg.DEDUP Rg.DEDUP_LOOKUPS 1
  (s.outcome j L.at' 0 none none).runLook job j { L with misses := L.misses + 1 } es differs (L.at' + 1)

/-! ### COMMIT and RELEASE (06 R261 to R265) -/

/-- One committed entry: a NEW chunk becomes LIVE with count 1; it enters the open manifest unless it is unindexed; its
fingerprint is no longer pending. A record that is not NEW has been committed before and is left (06 R266). -/
def State.commitOne (s : State) (j : Job) (i : Nat) (e : CEntry) : State :=
  let s := match s.chunk e.chunk with
    | some c =>
      if c.st ≠ 0 then s
      else
        let s := (s.setChunk e.chunk j.dseq { c with st := 1, refs := 1 }).addDelta j.dseq i e.chunk true
        if e.skip ∨ e.outcome = 3 ∨ e.outcome = 4 then s else s.appendMan j.dom e.fp e.chunk e.len
    | none => s
  s.setDedup { s.dedup with pending := s.dedup.pending.filter fun p => p != (j.dom, e.fp) }

/-- COMMIT. -/
def execCommit (job : Nat) (s : State) : Res := jobActM s .dedup 2 job fun s j =>
  match s.dedupBad j true with
  | some c => (s, some (stRes c))
  | none =>
    if s.domState j.dom = 1 then (s, none)
    else
      let r := s.readEntries j
      match r.2 with
      | .error c => (r.1, some (stRes c))
      | .ok es => ((es.zip (List.range es.length)).foldl (fun s x => s.commitOne j x.2 x.1) r.1, some (stRes St.OK))

/-- RELEASE of the dedup engine. -/
def execDedupRelease (job : Nat) (s : State) : Res := jobActM s .dedup 3 job fun s j =>
  match s.dedupBad j true with
  | some c => (s, some (stRes c))
  | none =>
    if s.domState j.dom = 1 then (s, none)
    else
      let r := s.readBytes j.acc (j.f 16 8) (8 * j.dcount)
      if r.2.2 ≠ St.OK ∧ r.2.2 ≠ St.CHECK_ONLY_FIXED then (r.1, some (stRes r.2.2))
      else ((List.range j.dcount).foldl (fun s i => s.release j.dseq i (leAt r.2.1 (8 * i) 8)) r.1, some (stRes St.OK))

/-- REBUILD (06 R254): the domain's hooks are refilled from page 0 of each of its manifests. -/
def execRebuild (job : Nat) (s : State) : Res := jobAct s .dedup 4 job fun s j =>
  match s.dedupBad j false with
  | some c => (s, stRes c)
  | none =>
    let mans := s.dedup.mans.filter fun e => e.1 / 2 ^ 54 == j.dom
    let s := mans.foldl (fun s e => e.2.hooks.foldl (fun s fp => s.insertHook fp e.1) s) s
    let n := (mans.map fun e => e.2.hooks.length).sum
    ((s.setDomState j.dom 3).log Pg.DEDUP Ev.DEDUP_HOOK_REBUILD_DONE [.v 2 j.dom, .v 4 mans.length, .v 4 n], stRes St.OK)

/-- A count change that was not committed is undone. -/
def State.undo (s : State) (d : Delta) : State :=
  match s.chunk d.chunk with
  | none => s
  | some c =>
    if d.up then
      if c.st ≠ 1 then s
      else if c.refs = 1 then s.setChunk d.chunk d.seq { c with refs := 0, st := 0 }
      else s.setChunk d.chunk d.seq { c with refs := c.refs - 1 }
    else if c.st = 1 then s.setChunk d.chunk d.seq { c with refs := c.refs + 1 }
    else if c.st = 2 then (s.setChunk d.chunk d.seq { c with refs := 1, st := 1 }).gainValid c.bolt
    else s

/-- One count change repeated from a retained journal record: a NEW record is committed, a reference taken or released. -/
def State.redo (s : State) (x : Nat × Nat × Nat × Bool) : State :=
  if !x.2.2.2 then s.release x.1 x.2.1 x.2.2.1
  else match s.chunk x.2.2.1 with
    | some c => if c.st = 0 then (s.setChunk x.2.2.1 x.1 { c with st := 1, refs := 1 }).addDelta x.1 x.2.1 x.2.2.1 true
        else (s.takeRef x.1 x.2.1 x.2.2.1).1
    | none => s

/-- TAKEOVER (06, Crash and failover, R266, R267). The job enters REPLAYING with its first command; with `ended`, steps 1 and 2 are
done: what was not committed is undone, and of the work `again` that the retained records cause (sequence number, index, chunk,
up) every pair not committed is done once. -/
def execTakeover (job : Nat) (again : List (Nat × Nat × Nat × Bool)) (us : Nat) (ended : Bool) (s : State) : Res :=
  jobActM s .dedup 5 job fun s j =>
    match s.dedupBad j false with
    | some c => (s, some (stRes c))
    | none =>
      let d := j.dom
      if !ended then (s.setDomState d 1, none)
      else
        let mine := s.dedup.deltas.filter fun x => x.dom == d
        let s := s.setDedup { s.dedup with deltas := s.dedup.deltas.filter fun x => x.dom != d }
        let s := mine.reverse.foldl (fun s x => s.undo x) s
        let todo := again.filter fun x => decide ((d, x.1, x.2.1, x.2.2.2) ∉ s.dedup.log) && chunkDom x.2.2.1 == d
        let s := todo.foldl (fun s x => s.redo x) s
        ((s.setDomState d 2).log Pg.DEDUP Ev.DEDUP_DOMAIN_TAKEOVER [.v 2 d, .v 4 todo.length, .v 4 us, .v 1 St.OK], some (stRes St.OK))

/-- MANIFEST_SEAL_TIMEOUT (06 R251). -/
def execManifestSealTimeout (d : Nat) (s : State) : Res := act s fun s => s.sealMan d

/-- DELTA_BATCH_COMMIT (06 R263 to R265): up to 4,096 deltas are committed; a fenced head commits none. -/
def execDeltaBatchCommit (s : State) : Res := actIf s (!s.rb Pg.STITCH Rg.STITCH_STATUS 2) fun s =>
  let b := s.dedup.deltas.take 4096
  s.setDedup { s.dedup with
    deltas := s.dedup.deltas.drop 4096
    log := s.dedup.log ++ b.map fun x => (x.dom, x.seq, x.idx, x.up) }

/-- DEDUP_DOM_CFG_WRITE (06 R247, R273). -/
def execDedupDomCfgWrite (master value : Nat) (s : State) : Res := act s fun s =>
  let w : RegW := { page := Pg.DEDUP, off := Rg.DEDUP_DOM_CFG, master, value }
  s.regCmd w fun s old =>
    if bitOf old 0 && bits value 27 16 != bits old 27 16 then
      (s.wrN Pg.DEDUP Rg.DEDUP_DOM_CFG (s.shown Pg.DEDUP Rg.DEDUP_DOM_CFG) old).ignoreW w
    else s

end Sys2Proof.Machine
end

