-- ==== Sys2Proof/Machine/Pattern.lean ====
section
/-! DEFINITION. Pattern: choosing members, eligibility, shares of die time (12 R486 to R506). -/
namespace Sys2Proof.Machine

/-! ### Ordering of modules (12 R492) -/

/-- Insert into a list in the order of `lt`, after the elements it does not come before. -/
def insertBy {α : Type} (lt : α → α → Bool) (x : α) : List α → List α
  | [] => [x]
  | a :: t => if lt x a then x :: a :: t else a :: insertBy lt x t

/-- A list in the order of `lt`. -/
def sortBy {α : Type} (lt : α → α → Bool) (l : List α) : List α := l.foldl (fun acc x => insertBy lt x acc) []

/-- The trained bandwidth of a module, as a share of 512 at x4 and 64 GT/s (11 R436). -/
def State.bandwidth (s : State) (n : Nat) : Nat :=
  let g := s.rf (stPage n) Rg.STITCH_MOD_STATUS 10 8 (n % 8)
  s.rf (stPage n) Rg.STITCH_MOD_STATUS 7 5 (n % 8) *
    (if g ≤ 1 then 5 else if g = 2 then 10 else if g = 3 then 16 else if g = 4 then 32 else if g = 5 then 64 else 128)

/-- Members of this head's open bolts on a module. -/
def State.openOn (s : State) (n : Nat) : Nat :=
  ((s.map.bolts.filter fun e => e.2.st == 1 && e.2.opener == s.headId).map fun e =>
    (e.2.members.filter fun y => y.module == n).length).sum

/-- Blocks in use, and blocks, of a module: its used fraction. -/
def State.usedIn (s : State) (n : Nat) : Nat := (s.pat.used.filter fun e => e.1 / 2 ^ 27 == n).length
def State.blocksIn (s : State) (n : Nat) : Nat := ((s.dies n).map (·.2)).sum

/-- The first fraction is less. -/
def fracLt (a b : Nat × Nat) : Bool := decide (a.1 * b.2 < b.1 * a.2)

/-- Module `a` comes before `b`: load, then used fraction, then distance from the cursor. -/
def State.before (s : State) (a b : Nat) : Bool :=
  let la := (s.openOn a, s.bandwidth a)
  let lb := (s.openOn b, s.bandwidth b)
  let ua := (s.usedIn a, s.blocksIn a)
  let ub := (s.usedIn b, s.blocksIn b)
  let c := s.rf Pg.PATTERN Rg.PATTERN_CURSOR 4 0
  fracLt la lb || (!fracLt lb la && (fracLt ua ub || (!fracLt ub ua && decide ((a + 32 - c) % 32 < (b + 32 - c) % 32))))

/-- A module's power zone; how many of a list lie in a zone; the largest zone count. -/
def State.zone (s : State) (n : Nat) : Nat := s.rf (stPage n) Rg.STITCH_MOD_CFG 3 0 (n % 8)
def State.inZone (s : State) (l : List Nat) (z : Nat) : Nat := (l.filter fun n => s.zone n == z).length
def State.worstZone (s : State) (l : List Nat) : Nat := (l.map fun n => s.inZone l (s.zone n)).foldl max 0

/-- Take modules in order, skipping those whose zone holds `cap`, until `w` are taken. -/
def State.takeCap (s : State) (w cap : Nat) (order : List Nat) : List Nat :=
  order.foldl (fun l n => if l.length < w ∧ s.inZone l (s.zone n) < cap then l ++ [n] else l) []

/-- Take `w` modules, raising the cap until they are found; whether it was raised. -/
def State.takeModules (s : State) (w : Nat) (order : List Nat) : Nat → Nat → Bool → List Nat × Bool
  | 0, cap, relaxed => (s.takeCap w cap order, relaxed)
  | fuel + 1, cap, relaxed =>
    let l := s.takeCap w cap order
    if l.length = w then (l, relaxed) else State.takeModules s w order fuel (cap + 1) true

/-! ### Dies and blocks (12 R489, R492) -/

/-- Die `a` of a module comes before die `b`: fewest commands outstanding, most free blocks, lowest number. -/
def State.dieBefore (s : State) (n a b : Nat) : Bool :=
  let x := s.onDie n a
  let y := s.onDie n b
  decide (x < y) || (x == y && (decide (s.freeOn n b < s.freeOn n a) || (s.freeOn n a == s.freeOn n b && decide (a < b))))

/-- Erase count of a block. -/
def State.eraseCount (s : State) (k : Nat) : Nat := mgetD 0 s.pat.erases k

/-- The first free block from `b` on, every `step`, that has never been erased. -/
def State.freshBlock (s : State) (die step : Nat) : Nat → Nat → Nat
  | 0, b => b
  | fuel + 1, b =>
    let k := die * 2 ^ 19 + b
    if (mget s.pat.used k).isNone ∧ (mget s.pat.erases k).isNone then b else State.freshBlock s die step fuel (b + step)

/-- The free block of a die for a stream: lowest erase count for host-hot and metadata, highest for the others; of equal ones the
lowest number (DESIGN CHOICE, log 52). -/
def State.pickBlock (s : State) (n d stream : Nat) : Option Nat :=
  let die := dieKey n d
  let blocks := ((s.dies n).getD d (0, 0)).2
  let step := if s.bothBlocks then 1 else 2
  let fresh := s.freshBlock die step (s.pat.used.length + s.pat.erases.length + 1) (if s.bothBlocks then 0 else s.headId)
  let worn := (s.pat.erases.filter fun e => e.1 / 2 ^ 19 == die && (mget s.pat.used e.1).isNone && s.ownBlock (e.1 % 2 ^ 19) &&
    decide (e.1 % 2 ^ 19 < blocks)).map fun e => (e.2, e.1 % 2 ^ 19)
  let all := (if fresh < blocks then [(0, fresh)] else []) ++ worn
  let low := stream % 4 == 0 || stream % 4 == 3
  (all.foldl (fun best x => match best with
    | none => some x
    | some y => if (if low then decide (x.1 < y.1) else decide (y.1 < x.1)) || (x.1 == y.1 && decide (x.2 < y.2)) then some x else some y)
    (none : Option (Nat × Nat))).map (·.2)

/-- A member on a module, on its best die of a family. -/
def State.pickMember (s : State) (n stream : Nat) (family : Option Nat) : Option Member :=
  match sortBy (s.dieBefore n) (s.okDies n family) with
  | [] => none
  | d :: _ => (s.pickBlock n d stream).map fun b => { module := n, die := d, block := b }

/-- The first four bytes of a member entry (09 R376). -/
def Member.word (y : Member) : Nat := y.module % 32 + 2 ^ 5 * (y.die % 256) + 2 ^ 13 * (y.block % 2 ^ 19)

/-- Stripes of a bolt of a family, from its code profile (11 R452, 08 R323). -/
def State.stripesOf (s : State) (n family : Nat) : Nat :=
  match mget (s.module n).profiles family with
  | some p => leAt p 12 4 / 65536
  | none => 0

/-- Some attached module reports a family. -/
def State.reports (s : State) (f : Nat) : Bool := s.attachedMods.any fun n => (s.dies n).any fun d => d.1 == f

/-- The family with most free blocks among eligible modules, the lowest of equals. -/
def State.bestFamily (s : State) : Nat :=
  ((List.range 8).foldl (fun best f =>
    let n := (s.eligible.map fun m => s.freeIn m (some f)).sum
    if best.2 < n then (f, n) else best) (0, 0)).1

/-- The counts of R503. -/
def chooseCounts (candidates largest : Nat) (relaxed : Bool) : Nat := candidates + 2 ^ 32 * (largest % 256) + 2 ^ 40 * b2n relaxed

/-- A choice that no set of modules allows. -/
def State.noSet (s : State) (layout family candidates : Nat) : State :=
  ((s.countSat Pg.PATTERN Rg.PATTERN_NO_SET 1).irq Pg.PATTERN 1).log Pg.PATTERN Ev.PATTERN_NO_SET
    [.v 1 layout, .v 1 family, .v 4 candidates]

/-- A choice beyond m members in one zone (12 R493). -/
def State.noteRelaxed (s : State) (relaxed : Bool) (layout largest candidates : Nat) : State :=
  if relaxed then
    ((s.countSat Pg.PATTERN Rg.PATTERN_ZONE_RELAXED 1).irq Pg.PATTERN 2).log Pg.PATTERN Ev.PATTERN_ZONE_RELAXED
      [.v 1 layout, .v 1 largest, .v 4 candidates]
  else s

/-- The family of a job: its own, or Pattern's choice. -/
def State.familyOf (s : State) (j : Job) : Nat := if j.f 14 1 = 0xFF then s.bestFamily else j.f 14 1

/-- A job's family is none that a module reports (12 R503). -/
def State.badFamily (s : State) (j : Job) : Bool := j.f 14 1 != 0xFF && (decide (7 < j.f 14 1) || !s.reports (j.f 14 1))

/-- CHOOSE_BOLT (12 R492 to R494). -/
def execChooseBolt (job : Nat) (s : State) : Res := jobAct s .pattern 1 job fun s j =>
  let layout := j.f 12 1
  let stream := j.f 13 1
  if !s.layoutOk layout || s.badFamily j || j.f 16 8 % 64 != 0 then (s, stRes St.BAD_INPUT)
  else
    let w := s.layoutK layout + s.layoutM layout
    let f := s.familyOf j
    let cand := s.eligible.filter fun n => !(s.okDies n (some f)).isEmpty
    if cand.length < w then (s.noSet layout f cand.length, { status := St.NOT_READY, counts := chooseCounts cand.length 0 false })
    else
      let t := s.takeModules w (sortBy s.before cand) w (s.layoutM layout) false
      let members := t.1.filterMap fun n => s.pickMember n stream (some f)
      let record := List.replicate 8 (0 : Byte) ++ leBytes 4 (layout + 2 ^ 16 * stream + 2 ^ 27 * s.headId) ++ List.replicate 8 0 ++
        leBytes 2 (s.stripesOf (t.1.headD 0) f) ++ leBytes 1 f ++ List.replicate 233 0 ++
        padTo 256 (members.flatMap fun y => leBytes 8 y.word)
      let r := s.writeBytes j.acc (j.f 16 8) record
      if r.2 ≠ St.OK then (r.1, stRes r.2)
      else
        let s := members.foldl (fun s y => s.useBlock y.module y.die y.block 1) r.1
        let s := s.wrN Pg.PATTERN Rg.PATTERN_CURSOR 0 ((s.rf Pg.PATTERN Rg.PATTERN_CURSOR 4 0 + 1) % 32)
        let big := s.worstZone t.1
        let s := (s.count Pg.PATTERN Rg.PATTERN_BOLTS_CHOSEN 1).noteRelaxed t.2 layout big cand.length
        (s, { status := St.OK, counts := chooseCounts cand.length big t.2 })

/-- The members of a 512-byte bolt record (09 R376), the first `w`. -/
def recordMembers (b : List Byte) (w : Nat) : List Member :=
  (List.range w).map fun i =>
    let x := leAt b (256 + 8 * i) 8
    { module := bits x 4 0, die := bits x 12 5, block := bits x 31 13, temp := bits x 39 32, subst := bitOf x 40, retired := bitOf x 41 }

/-- CHOOSE_SUBST (12 R496): of the modules that qualify, the first in the order of R492 (DESIGN CHOICE, log 52). -/
def execChooseSubst (job : Nat) (s : State) : Res := jobAct s .pattern 2 job fun s j =>
  let r := s.readBytes j.acc (j.f 24 8) 512
  let s := r.1
  let b := r.2.1
  let layout := leAt b 8 1 % 8
  let w := s.layoutK layout + s.layoutM layout
  let idx := j.f 15 1
  if !fine r.2.2 then (s, stRes r.2.2)
  else if !s.layoutOk layout || decide (w ≤ idx) || j.f 16 8 % 64 != 0 then (s, stRes St.BAD_INPUT)
  else
    let members := recordMembers b w
    let others := ((members.zip (List.range w)).filter fun x => x.2 != idx).map fun x => x.1.module
    let f := leAt b 22 1
    let cand := s.eligible.filter fun n => !(s.okDies n (some f)).isEmpty && decide (n ∉ members.map (·.module))
    let order := sortBy s.before cand
    let good := order.filter fun n => decide (s.inZone others (s.zone n) < s.layoutM layout)
    let pick := if good.isEmpty then sortBy (fun x y => decide (s.worstZone (x :: others) < s.worstZone (y :: others))) order else good
    match pick with
    | [] => (s.noSet layout f 0, { status := St.NOT_READY, counts := chooseCounts 0 0 false })
    | n :: _ =>
      match s.pickMember n (leAt b 10 1) (some f) with
      | none => (s.noSet layout f 0, { status := St.NOT_READY, counts := chooseCounts 0 0 false })
      | some y =>
        let q := s.writeBytes j.acc (j.f 16 8) (leBytes 8 (y.word + 2 ^ 40 + 2 ^ 56 * idx))
        if !fine q.2 then (q.1, stRes q.2)
        else
          let big := s.worstZone (n :: others)
          ((q.1.useBlock y.module y.die y.block 1).noteRelaxed good.isEmpty layout big cand.length,
            { status := St.OK, counts := chooseCounts cand.length big good.isEmpty })

/-- CHOOSE_COPIES (12 R497). -/
def execChooseCopies (job : Nat) (s : State) : Res := jobAct s .pattern 3 job fun s j =>
  if s.badFamily j || j.f 16 8 % 64 != 0 then (s, stRes St.BAD_INPUT)
  else
    let fam := if j.f 14 1 = 0xFF then none else some (j.f 14 1)
    let cand := s.eligible.filter fun n => !(s.okDies n fam).isEmpty
    let c := s.rf Pg.PATTERN Rg.PATTERN_CURSOR 4 0
    let order := sortBy (fun a b =>
      let ua := (s.usedIn a, s.blocksIn a)
      let ub := (s.usedIn b, s.blocksIn b)
      fracLt ua ub || (!fracLt ub ua && decide ((a + 32 - c) % 32 < (b + 32 - c) % 32))) cand
    let members := (s.takeCap 3 1 order).filterMap fun n => s.pickMember n 3 fam
    if members.length < 3 then
      (s.noSet (j.f 12 1) (j.f 14 1) cand.length, { status := St.NOT_READY, counts := chooseCounts cand.length 0 false })
    else
      let q := s.writeBytes j.acc (j.f 16 8) (members.flatMap fun y => leBytes 8 y.word)
      if !fine q.2 then (q.1, stRes q.2)
      else (members.foldl (fun s y => s.useBlock y.module y.die y.block 1) q.1,
        { status := St.OK, counts := chooseCounts cand.length 1 false })

/-! ### Eligibility (12 R486, R487) -/

/-- A module's hottest valid reading: 80 °C where there is none (12 R487); a reading older than 10 s is none (11 R478). -/
def State.hottestOf (s : State) (n : Nat) : Int :=
  let t := hottest (s.module n).temps
  let old := match mget s.stitch.tempAt n with | some at' => decide (at' + 10000000000 < s.gts) | none => true
  if t == 0x80 || old then 80 else sext 8 t

/-- ELIGIBILITY_CHANGE: Pattern evaluates its conditions anew. Causes of an exclusion: 0 heat, 1 drain, 2 failure, 3 blank; a
module without an eligible die counts under failure (DESIGN CHOICE, log 52). -/
def execEligibilityChange (s : State) : Res := act s fun s =>
  let rejoin := sext 8 (s.rf Pg.PATTERN Rg.PATTERN_TEMP_CFG 7 0)
  let s' := (List.range 32).foldl (fun s n =>
    let t := s.hottestOf n
    let hot := s.modState n == 4 && (decide (80 < t) || (s.rb Pg.PATTERN Rg.PATTERN_EXCL_HOT n && decide (rejoin < t)))
    let blank := s.rb (stPage n) Rg.STITCH_MOD_STATUS 12 (n % 8)
    let drain := s.rb Pg.QUILT Rg.QUILT_DRAIN_MASK n
    let ok := s.modState n == 4 && !hot && !blank && !drain && !(s.okDies n none).isEmpty
    let was := s.rb Pg.PATTERN Rg.PATTERN_ELIGIBLE n
    let s := (s.wb Pg.PATTERN Rg.PATTERN_EXCL_HOT n hot).wb Pg.PATTERN Rg.PATTERN_ELIGIBLE n ok
    if was && !ok then
      s.log Pg.PATTERN Ev.PATTERN_MODULE_EXCLUDED
        [.v 1 n, .v 1 (if s.modState n ≠ 4 then 2 else if hot then 0 else if drain then 1 else if blank then 3 else 2)]
    else if !was && ok then s.log Pg.PATTERN Ev.PATTERN_MODULE_READMITTED [.v 1 n, .v 1 (t % 256).toNat]
    else s) s
  if s'.rdN Pg.PATTERN Rg.PATTERN_ELIGIBLE = s.rdN Pg.PATTERN Rg.PATTERN_ELIGIBLE then s' else s'.irq Pg.PATTERN 0

/-! ### Shares of die time (12 R498) -/

/-- GC, refresh, reshape or priority GC has work. -/
def State.gcWork (s : State) : Bool :=
  !s.map.gc.isEmpty || s.rb Pg.MAPPER Rg.MAPPER_GC_STATUS 0 || s.rf Pg.QUILT Rg.QUILT_RESHAPE_STATUS 2 0 == 1 ||
    s.map.bolts.any fun e => e.2.st == 3

/-- SHARE_RECOMPUTE: the weights for the next 1 ms; `moved` is what each class has moved in the last, in bytes: host, GC, rebuild,
metadata. -/
def execShareRecompute (host gc rebuild metadata : Nat) (s : State) : Res := act s fun s =>
  let free := s.freeBolts
  let start := s.rf Pg.MAPPER Rg.MAPPER_GC_CFG 9 0
  let lo := s.rf Pg.PATTERN Rg.PATTERN_GC_SHARE 6 0
  let hi := s.rf Pg.PATTERN Rg.PATTERN_GC_SHARE 14 8
  let rb := if s.rdN Pg.QUILT Rg.QUILT_MOD_REBUILDING = 0 then 0 else s.rf Pg.QUILT Rg.QUILT_REBUILD_FLOOR 6 0
  let den := max start 1
  let g := if free < start then lo * den + (hi - lo) * (start - free) else if s.gcWork then lo * den else 0
  let g := min g ((100 - rb) * den)
  let s := { s with pat := { s.pat with weights := [(100 - rb) * den - g, g, rb * den], weightDen := den } }
  let total := host + gc + rebuild + metadata
  let pc := fun x => if total = 0 then 0 else 100 * x / total
  s.wrN Pg.PATTERN Rg.PATTERN_SHARE_NOW 0 (pc host + 2 ^ 8 * pc gc + 2 ^ 16 * pc rebuild + 2 ^ 24 * pc metadata)

/-- PATTERN_BLOCK_USE_WRITE (12 R489): both is set only while this head holds roles HEAD_A and HEAD_B. -/
def execPatternBlockUseWrite (master value : Nat) (s : State) : Res := act s fun s =>
  let w : RegW := { page := Pg.PATTERN, off := Rg.PATTERN_BLOCK_USE, master, value }
  s.regCmd w fun s' old =>
    if bitOf value 0 && !(s.rb Pg.STITCH Rg.STITCH_ROLE_HELD 0 && s.rb Pg.STITCH Rg.STITCH_ROLE_HELD 1) then
      (s'.wrN Pg.PATTERN Rg.PATTERN_BLOCK_USE 0 old).ignoreW w
    else s'

end Sys2Proof.Machine
end

