-- ==== Sys2Proof/Machine/Quilt.lean ====
section
/-! DEFINITION. Quilt: check arithmetic, its jobs, dirty maps and resynchronisation, rebuild, reshape (08). -/
namespace Sys2Proof.Machine

/-! ### Check arithmetic (08 R320 to R322) -/

/-- The coefficient of data patch `i` in check `j` of a layout with `m` checks. -/
def checkCoeff (m j i : Nat) : Nat :=
  if m = 2 then (if j = 0 then 1 else (List.range i).foldl (fun g _ => gfMul 0x11D 2 g) 1)
  else gfMul 0x11D (0xF0 ^^^ i) (gfInv 0x11D ((0xF0 + j) ^^^ i))

/-- A constant times a buffer. -/
def scaleB (c : Nat) (b : List Byte) : List Byte :=
  if c = 1 then b else b.map fun x => BitVec.ofNat 8 (gfMul 0x11D c x.toNat)

/-- A sum of constants times buffers of `n` bytes. -/
def combine (n : Nat) (l : List (Nat × List Byte)) : List Byte :=
  l.foldl (fun acc x => xorB acc (scaleB x.1 x.2)) (List.replicate n 0)

/-- Solve linear equations over GF(2^8), each given by its coefficients and its right side. -/
def solveGf (n : Nat) : Nat → List (List Nat × List Byte) → List (List Byte)
  | 0, _ => []
  | u + 1, rows =>
    match rows.findIdx? fun r => r.1.headD 0 != 0 with
    | none => []
    | some k =>
      let r := rows.getD k ([], [])
      let i := gfInv 0x11D (r.1.headD 0)
      let p := (r.1.map (gfMul 0x11D i), scaleB i r.2)
      let rest := (rows.eraseIdx k).map fun q =>
        let c := q.1.headD 0
        ((q.1.zipWith (fun a b => a ^^^ gfMul 0x11D c b) p.1).drop 1, xorB q.2 (scaleB c p.2))
      let xs := solveGf n u rest
      xorB p.2 (combine n ((p.1.drop 1).zip xs)) :: xs

/-- The check patches of a stripe's range from its data patches. -/
def checksOf (m n : Nat) (data : List (List Byte)) : List (List Byte) :=
  (List.range m).map fun j => combine n ((data.zip (List.range data.length)).map fun x => (checkCoeff m j x.2, x.1))

/-- Every patch of a stripe's range from those that are known, at most `m` of `k + m` being unknown (08 R322, R334). -/
def recover (k m n : Nat) (known : List (Option (List Byte))) : List (List Byte) :=
  let missing := (List.range k).filter fun i => (known.getD i none).isNone
  let rows := ((List.range m).filter fun j => (known.getD (k + j) none).isSome).take missing.length |>.map fun j =>
    (missing.map (checkCoeff m j),
      combine n ((1, ((known.getD (k + j) none).getD [])) ::
        ((List.range k).filter fun i => (known.getD i none).isSome).map fun i => (checkCoeff m j i, (known.getD i none).getD [])))
  let xs := solveGf n missing.length rows
  let data := (List.range k).map fun i => match known.getD i none with
    | some b => b
    | none => xs.getD (missing.idxOf i) []
  let checks := checksOf m n data
  data ++ (List.range m).map fun j => match known.getD (k + j) none with | some b => b | none => checks.getD j []

/-! ### Operands (08 R331, R332) -/

/-- Fields of a Quilt job. -/
def Job.qk (j : Job) : Nat := j.f 12 1
def Job.qm (j : Job) : Nat := j.f 13 1
def Job.qmask (j : Job) : Nat := j.f 16 4
def Job.qoff (j : Job) : Nat := j.f 20 4
def Job.qlen (j : Job) : Nat := j.f 24 4
def Job.qstripe (j : Job) : Nat := j.f 28 4
def Job.qlist (j : Job) : Nat := j.f 32 8
def Job.qbolt (j : Job) : Nat := j.f 40 8

/-- Offset, length and list lie in their ranges. -/
def Job.qrange (j : Job) (off : Nat) : Bool :=
  off % 64 == 0 && decide (off < 65536) && j.qlen % 64 == 0 && decide (64 ≤ j.qlen) && decide (off + j.qlen ≤ 65536) && j.qlist % 64 == 0

/-- A layout of ENCODE, RECONSTRUCT and VERIFY. -/
def Job.qlayout (j : Job) : Bool :=
  decide (4 ≤ j.qk) && decide (j.qk ≤ 30) && (j.qm == 2 || j.qm == 3) && decide (j.qk + j.qm ≤ 32) && j.qrange j.qoff

/-- The buffers of a job: the list's addresses. -/
def State.buffers (s : State) (j : Job) (w : Nat) : State × Except Nat (List Nat) :=
  let r := s.readBytes j.acc j.qlist (8 * w)
  (r.1, if fine r.2.2 then .ok ((List.range w).map fun i => leAt r.2.1 (8 * i) 8) else .error r.2.2)

/-- What reading the buffers `idx` gives: each one's bytes, or none where it reads poisoned or fails its tag; and the status of
the job where one ends it. -/
structure Gather where
  st : State
  bufs : List (Option (List Byte))
  status : Nat
  hard : Option Nat
  deriving DecidableEq, Repr

/-- Read the range of every patch that `wanted` picks. -/
def State.gather (s : State) (j : Job) (addrs : List Nat) (off : Nat) (wanted : Nat → Bool) : Gather :=
  (addrs.zip (List.range addrs.length)).foldl (fun g x =>
    if !wanted x.2 then { g with bufs := g.bufs ++ [none] }
    else
      let r := g.st.readBytes j.acc (x.1 + off) j.qlen
      if r.2.2 = St.POISON ∨ r.2.2 = St.TAG_FAIL then { g with st := r.1, bufs := g.bufs ++ [none] }
      else if fine r.2.2 then { g with st := r.1, bufs := g.bufs ++ [some r.2.1], status := worse g.status r.2.2 }
      else { g with st := r.1, bufs := g.bufs ++ [none], hard := some (match g.hard with | some h => worse h r.2.2 | none => r.2.2) })
    { st := s, bufs := [], status := St.OK, hard := none }

/-- The patches that `bufs` lacks, as a mask. -/
def maskOf (bufs : List (Option (List Byte))) : Nat :=
  (((bufs.zip (List.range bufs.length)).filter fun x => x.1.isNone).map fun x => 2 ^ x.2).sum

/-- Write an output range. -/
def State.putOut (s : State) (j : Job) (addr : Nat) (data : List Byte) : State × Nat := s.writeBytes j.acc addr data

/-- Write an output range with the poison mark on every line (08 R332). -/
def State.putPoison (s : State) (j : Job) (addr n : Nat) : State :=
  let r := s.writeBytes j.acc addr (List.replicate n 0)
  if fine r.2 then (linesOf addr n).foldl (fun s l => s.setLine l.1 { (s.line l.1) with poison := true }) r.1 else r.1

/-- Write several outputs; the status of the job. -/
def State.putOuts (s : State) (j : Job) (outs : List (Nat × List Byte)) (status : Nat) : State × Nat :=
  outs.foldl (fun acc o =>
    let r := acc.1.putOut j o.1 o.2
    (r.1, worse acc.2 r.2)) (s, status)

/-! ### Dirty and frozen stripes (08 R323 to R330, R339) -/

/-- The region of a stripe of a bolt; with no record of the bolt, region 0. -/
def State.regionOf (s : State) (b stripe : Nat) : Nat :=
  match s.bolt b with | some x => if x.stripes = 0 then 0 else stripe * 64 / x.stripes | none => 0

/-- A stripe lies in a dirty region; with no record of the bolt, any dirty region counts (DESIGN CHOICE, log 54). -/
def State.stripeDirty (s : State) (b stripe : Nat) : Bool :=
  match mget s.quilt.dirty b with
  | some d => if (s.bolt b).isSome then bitOf d (s.regionOf b stripe) else d != 0
  | none => false

/-- A stripe is frozen; it is never to be a source of reconstruction. -/
def State.stripeFrozen (s : State) (b stripe : Nat) : Bool :=
  decide ((b, stripe) ∈ s.quilt.frozen) || decide (b ∈ s.quilt.frozenBolts)
def State.noSource (s : State) (b stripe : Nat) : Bool := s.stripeFrozen b stripe || decide ((b, stripe) ∈ s.quilt.unprot)

/-- Change Quilt's part of the state. -/
def State.setQuilt (s : State) (q : Quilt) : State := { s with quilt := q }

/-- Freeze a stripe; beyond 4,096 the whole bolt (08 R339). -/
def State.freeze (s : State) (b stripe : Nat) : State :=
  let s := if s.stripeFrozen b stripe then s
    else if 4096 ≤ s.quilt.frozen.length then s.setQuilt { s.quilt with frozenBolts := insertNew b s.quilt.frozenBolts }
    else s.setQuilt { s.quilt with frozen := s.quilt.frozen ++ [(b, stripe)] }
  (s.modBolt b fun x => { x with frozen := true }).irq Pg.QUILT 2

/-- A stripe is never used for reconstruction again; its chunks are relocated by priority GC (08 R329, R338). -/
def State.unprotect (s : State) (b stripe : Nat) : State :=
  (s.setQuilt { s.quilt with unprot := insertNew (b, stripe) s.quilt.unprot }).queueGc 2 b (some stripe)

/-! ### Jobs -/

/-- ENCODE (08 R320, R321, R332): with a data patch that does not read, every check is written poisoned. -/
def execEncode (job : Nat) (s : State) : Res := jobAct s .quilt 1 job fun s j =>
  if !j.qlayout then (s, stRes St.BAD_INPUT)
  else
    let k := j.qk
    let n := j.qlen
    let b := s.buffers j (k + j.qm)
    match b.2 with
    | .error c => (b.1, stRes c)
    | .ok addrs =>
      let g := b.1.gather j addrs j.qoff fun i => decide (i < k)
      match g.hard with
      | some c => (g.st, stRes c)
      | none =>
        let out := fun i => addrs.getD (k + i) 0 + j.qoff
        if (g.bufs.take k).any (·.isNone) then
          ((List.range j.qm).foldl (fun s i => s.putPoison j (out i) n) g.st, { status := St.POISON, counts := n })
        else
          let c := checksOf j.qm n ((g.bufs.take k).map (·.getD []))
          let r := g.st.putOuts j ((List.range j.qm).map fun i => (out i, c.getD i [])) g.status
          (r.1, { status := r.2, counts := n })

/-- RECONSTRUCT (08 R322, R328, R332, R339). Stripes that are never to be a source count with the frozen ones (DEDUCED, log 54). -/
def execReconstruct (job : Nat) (s : State) : Res := jobAct s .quilt 2 job fun s j =>
  let k := j.qk
  let m := j.qm
  let n := j.qlen
  let mask := j.qmask
  if !j.qlayout || decide (m < popCount 32 mask) || mask / 2 ^ (k + m) != 0 then (s, stRes St.BAD_INPUT)
  else if s.noSource j.qbolt j.qstripe || s.stripeDirty j.qbolt j.qstripe then (s, stRes St.LOCKED)
  else
    let b := s.buffers j (k + m)
    match b.2 with
    | .error c => (b.1, stRes c)
    | .ok addrs =>
      let g := b.1.gather j addrs j.qoff fun i => !bitOf mask i
      match g.hard with
      | some c => (g.st, stRes c)
      | none =>
        let outs := setBitsOf 32 mask
        let erased := maskOf g.bufs
        let counts := (if outs.isEmpty then 0 else n) + 2 ^ 32 * erased
        if m < popCount 32 erased then
          (outs.foldl (fun s i => s.putPoison j (addrs.getD i 0 + j.qoff) n) g.st, { status := St.POISON, counts })
        else
          let all := recover k m n g.bufs
          let r := g.st.putOuts j (outs.map fun i => (addrs.getD i 0 + j.qoff, all.getD i [])) g.status
          (r.1, { status := r.2, counts })

/-- The data patch that explains every byte's syndromes (08, Disagreeing patches): `c` are the row-1 coefficients, `c2` those of
row 2. -/
def locate (c c2 : List Nat) (sy : List (List Byte)) : Option Nat :=
  let sp := sy.getD 0 []
  let sq := sy.getD 1 []
  let sr := sy.getD 2 []
  let z := (List.range sp.length).foldl (fun (acc : Option (Option Nat)) b =>
    match acc with
    | none => none
    | some z =>
      let p := (sp.getD b 0).toNat
      let q := (sq.getD b 0).toNat
      let r := (sr.getD b 0).toNat
      if p = 0 then (if q ≠ 0 ∨ r ≠ 0 then none else some z)
      else
        let i := c.idxOf (gfMul 0x11D q (gfInv 0x11D p))
        if c.length ≤ i ∨ z.any (· != i) ∨ (sy.length = 3 ∧ r ≠ gfMul 0x11D (c2.getD i 0) p) then none else some (some i)) (some none)
  match z with
  | some (some i) => some i
  | _ => none

/-- The verdict on syndromes (08 R337): 0 CONSISTENT, 1 RESYNC, 2 CHECK_BAD with the check's patch, 3 DATA_BAD with the patch,
4 UNLOCATED. -/
def verdictOf (k m : Nat) (dirty : Bool) (sy : List (List Byte)) : Nat × Nat :=
  let hot := (List.range m).filter fun j => (sy.getD j []).any (· != 0)
  if hot.isEmpty then (0, 0)
  else if dirty then (1, 0)
  else match hot with
  | [j] => (2, k + j)
  | _ =>
    match locate ((List.range k).map (checkCoeff m 1)) ((List.range k).map (checkCoeff m 2)) sy with
    | some i => (3, i)
    | none => (4, 0)

/-- VERIFY (08 R337 to R339). A patch that does not read leaves no syndromes: POISON (DESIGN CHOICE, log 54). -/
def execVerify (job : Nat) (s : State) : Res := jobAct s .quilt 3 job fun s j =>
  if !j.qlayout then (s, stRes St.BAD_INPUT)
  else
    let k := j.qk
    let m := j.qm
    let n := j.qlen
    let b := s.buffers j (k + m)
    match b.2 with
    | .error c => (b.1, stRes c)
    | .ok addrs =>
      let g := b.1.gather j addrs j.qoff fun _ => true
      match g.hard with
      | some c => (g.st, stRes c)
      | none =>
        if g.bufs.any (·.isNone) then (g.st, stRes St.POISON)
        else
          let bufs := g.bufs.map (·.getD [])
          let sy := (checksOf m n (bufs.take k)).zipWith xorB (bufs.drop k)
          let nz := (sy.map fun l => (l.filter (· != 0)).length).sum
          let v := verdictOf k m (g.st.stripeDirty j.qbolt j.qstripe) sy
          let fix := if v.1 = 2 then some (xorB (bufs.getD v.2 []) (sy.getD (v.2 - k) []))
            else if v.1 = 3 then some (xorB (bufs.getD v.2 []) (sy.getD 0 [])) else none
          let w := match fix with
            | some f => g.st.putOut j (addrs.getD v.2 0 + j.qoff) f
            | none => (g.st, St.OK)
          let st := if v.1 = 2 then St.CHECK_ONLY_FIXED else if v.1 = 4 then St.DIVERGENT else St.OK
          let s := if v.1 = 2 then
              ((w.1.countSat Pg.QUILT Rg.QUILT_CHECKFIX 1).log Pg.QUILT Ev.QUILT_CHECK_FIXED [.v 8 j.qbolt, .v 4 j.qstripe, .v 1 v.2]).unprotect j.qbolt j.qstripe
            else if v.1 = 3 then
              ((w.1.countSat Pg.QUILT Rg.QUILT_DATAFIX 1).log Pg.QUILT Ev.QUILT_DATA_FIXED [.v 8 j.qbolt, .v 4 j.qstripe, .v 1 v.2]).unprotect j.qbolt j.qstripe
            else if v.1 = 4 then
              (w.1.freeze j.qbolt j.qstripe).log Pg.QUILT Ev.QUILT_DIVERGENT [.v 8 j.qbolt, .v 4 j.qstripe, .v 4 nz]
            else w.1
          (s, { status := worse g.status (worse w.2 st)
                counts := (if fix.isSome then n else 0) + 2 ^ 64 * v.1 + 2 ^ 67 * v.2 + 2 ^ 72 * min nz (2 ^ 24 - 1) })

/-- Epoch and sequence number of a metadata copy, as one number that orders them (08 R340). -/
def copyRank (b : List Byte) : Nat := leAt b 0 8 * 2 ^ 64 + leAt b 8 8

/-- The choice among copies (08 R340): verdict 0 UNANIMOUS, 1 NEWEST, 2 MAJORITY, 3 NONE, and the winner. -/
def resolve (copies : List (Nat × List Byte)) : Nat × Nat :=
  let first := copies.headD (0, [])
  if copies.all fun c => c.2 == first.2 then (0, first.1)
  else
    let top := (copies.map fun c => copyRank c.2).foldl max 0
    let best := copies.filter fun c => copyRank c.2 == top
    match best with
    | [c] => (1, c.1)
    | _ => match best.find? fun c => decide (best.length < 2 * (best.filter fun d => d.2 == c.2).length) with
      | some c => (2, c.1)
      | none => (3, 0)

/-- RESOLVE. -/
def execResolve (job : Nat) (s : State) : Res := jobAct s .quilt 4 job fun s j =>
  let k := j.qk
  if !(decide (2 ≤ k) && decide (k ≤ 5) && j.qrange 0) || j.qmask / 2 ^ k != 0 then (s, stRes St.BAD_INPUT)
  else
    let b := s.buffers j k
    match b.2 with
    | .error c => (b.1, stRes c)
    | .ok addrs =>
      let g := b.1.gather j addrs 0 fun i => !bitOf j.qmask i
      match g.hard with
      | some c => (g.st, stRes c)
      | none =>
        let copies := (g.bufs.zip (List.range k)).filterMap fun x => x.1.map fun b => (x.2, b)
        if copies.isEmpty then (g.st, stRes St.POISON)
        else
          let v := resolve copies
          let counts := 2 ^ 64 * v.1 + 2 ^ 67 * v.2
          if v.1 = 3 then
            ((g.st.irq Pg.QUILT 2).log Pg.QUILT Ev.QUILT_DIVERGENT [.v 8 j.qlist, .v 4 0], { status := worse g.status St.DIVERGENT, counts })
          else (g.st, { status := g.status, counts })

/-! ### Dirty maps (08 R323 to R327) -/

/-- A dirty-map change goes to the partner (13 R531). -/
def State.mirrorDirty (s : State) (b region : Nat) (set : Bool) : State :=
  if s.pairState = 3 then s.emit (.seam (1 + b % 16) 3 [b, region, b2n set]) else s

/-- DIRTY_SET (08 R324, R325): with a partner in step it waits for the acknowledgement; alone it ends at once. -/
def execDirtySet (job : Nat) (s : State) : Res := jobActM s .quilt 0x10 job fun s j =>
  let b := j.qbolt
  let r := j.f 14 1
  if 63 < r then (s, some (stRes St.BAD_INPUT))
  else if (mget s.quilt.acks job).isSome then (s, none)
  else if (mget s.quilt.dirty b).isNone ∧ 512 ≤ s.quilt.dirty.length then (s, some (stRes St.NOT_READY))
  else
    let s := s.setQuilt { s.quilt with dirty := mput s.quilt.dirty b (mgetD 0 s.quilt.dirty b ||| 2 ^ r) }
    if s.pairState = 3 then
      ((s.setQuilt { s.quilt with acks := mput s.quilt.acks job (b, r) }).mirrorDirty b r true, none)
    else (s, some (stRes St.OK))

/-- DIRTY_SET_MIRROR_ACK (08 R324). -/
def execDirtySetMirrorAck (job : Nat) (s : State) : Res := actIf s (mget s.quilt.acks job).isSome fun s =>
  (s.setQuilt { s.quilt with acks := mdel s.quilt.acks job }).setRes job (stRes St.OK)

/-- DIRTY_MAP_MIRROR (08 R324, R326, 13 R531): the partner's change is held, and a set acknowledged. -/
def execDirtyMapMirror (bolt region : Nat) (set : Bool) (s : State) : Res := actIf s (decide (region < 64)) fun s =>
  let d := mgetD 0 s.quilt.mirror bolt
  let d := if set then d ||| 2 ^ region else d - (d &&& 2 ^ region)
  let s := s.setQuilt { s.quilt with mirror := mputD 0 s.quilt.mirror bolt d }
  if set then s.emit (.seam (1 + bolt % 16) 4 [bolt, region]) else s

/-- A region's bit is cleared; the clear is mirrored and the map of a closed bolt with none set freed. -/
def State.clearDirty (s : State) (b r : Nat) : State :=
  match mget s.quilt.dirty b with
  | none => s
  | some d =>
    let s := s.setQuilt { s.quilt with dirty := mput s.quilt.dirty b (d - (d &&& 2 ^ r)) }
    (s.mirrorDirty b r false).freeMap b

/-- DIRTY_CLEAR (08 R326). -/
def execDirtyClear (job : Nat) (s : State) : Res := jobAct s .quilt 0x11 job fun s j =>
  if 63 < j.f 14 1 then (s, stRes St.BAD_INPUT) else (s.clearDirty j.qbolt (j.f 14 1), stRes St.OK)

/-- RESYNCHRONISATION (08 R329, R330): a dirty region is settled. What was found of its stripes comes with the command: stripes
left unprotected, and stripes with a failed member and incomplete checks, each with its lost data patches. -/
def execResynchronisation (bolt region : Nat) (unprotected : List Nat) (lost : List (Nat × Nat)) (s : State) : Res :=
  actIf s (bitOf (mgetD 0 s.quilt.resync bolt) region) fun s =>
    let here := fun st => s.regionOf bolt st == region
    let un := unprotected.filter here
    let s := un.foldl (fun s st => s.unprotect bolt st) s
    let s := (lost.filter fun x => here x.1).foldl (fun s x =>
      let ids := (s.map.chunks.filter fun e => e.2.bolt == bolt && e.2.stripe == x.1 && decide (e.2.st ≤ 1) &&
        e.2.patches &&& x.2 != 0).map (·.1)
      s.loseChunks bolt x.1 x.2 ids) s
    let d := mgetD 0 s.quilt.resync bolt
    let s := (s.setQuilt { s.quilt with
      resync := mputD 0 s.quilt.resync bolt (d - (d &&& 2 ^ region)), settled := s.quilt.settled + 1
      unsettled := s.quilt.unsettled + un.length }).clearDirty bolt region
    if s.quilt.resync.isEmpty then
      let s := s.log Pg.QUILT Ev.QUILT_RESYNC_DONE
        [.v 4 s.quilt.settled, .v 4 s.quilt.unsettled, .v 4 ((s.gts - s.quilt.resyncSince) / 1000000)]
      s.setQuilt { s.quilt with settled := 0, unsettled := 0 }
    else s

/-! ### Reshape (08 R347 to R354) -/

/-- QUILT_RESHAPE_STATUS: 0 IDLE, 1 RUNNING, 2 HELD, 3 PAUSED; the code of the last command; boundary, target, checkpoint. -/
def State.reshape (s : State) : Nat := s.rf Pg.QUILT Rg.QUILT_RESHAPE_STATUS 2 0
def State.setReshape (s : State) (st : Nat) : State := s.wf Pg.QUILT Rg.QUILT_RESHAPE_STATUS 2 0 st
def State.reshapeCode (s : State) (c : Nat) : State := s.wf Pg.QUILT Rg.QUILT_RESHAPE_STATUS 15 8 c
def State.bound (s : State) : Nat := s.rd64 Pg.QUILT Rg.QUILT_RESHAPE_BOUND_LO
def State.target (s : State) : Nat := s.rd64 Pg.QUILT Rg.QUILT_RESHAPE_TARGET_LO

/-- A live bolt in the reshape's scope. -/
def State.inScope (s : State) (b : Nat) (x : Bolt) : Bool :=
  let q := s.quilt
  decide (x.st ≠ 0) && decide (x.st ≠ 4) && decide (b ≤ s.target) &&
    (if q.kind = 0 then x.layout != q.layout
     else if q.kind = 1 then x.members.any fun y => s.rb Pg.QUILT Rg.QUILT_DRAIN_MASK y.module && !s.modFailed y.module
     else !x.members.any fun y => decide (y.module ∈ q.added))

/-- The boundary: the lowest live bolt in scope, or beyond the target (08 R348). -/
def State.newBound (s : State) : Nat :=
  ((s.map.bolts.filter fun e => s.inScope e.1 e.2).map (·.1)).foldl min (s.target + 1)

/-- Write a checkpoint (08 R350). -/
def State.reshapeCkpt (s : State) : State :=
  let s := (s.wr64 Pg.QUILT Rg.QUILT_RESHAPE_CKPT_LO s.bound).setQuilt { s.quilt with
    vault := some (s.quilt.kind, s.quilt.layout, s.bound, s.target) }
  s.log Pg.QUILT Ev.QUILT_RESHAPE_CKPT [.v 1 s.quilt.kind, .v 8 s.bound]

/-- At most four bolts are relocated at once, lowest first; an open bolt only after it closes (08 R348, R349). -/
def State.reshapePick (s : State) : State :=
  let l := s.map.bolts.filter fun e => s.inScope e.1 e.2
  let busy := (l.filter fun e => e.2.st == 3).length
  ((l.filter fun e => e.2.st == 2).take (4 - busy)).foldl (fun s e => (s.modBolt e.1 fun x => { x with st := 3 }).settleBolt e.1) s

/-- Enter HELD or PAUSED: `cause` 0 a rebuild, 1 PAUSE. -/
def State.holdReshape (s : State) (st cause : Nat) : State :=
  (s.reshapeCkpt.setReshape st).log Pg.QUILT Ev.QUILT_RESHAPE_HELD [.v 8 s.bound, .v 1 cause]

/-- Every module's used fraction lies within the tolerance of the array's (08 R353). -/
def State.balanced (s : State) : Bool :=
  let tol := s.rf Pg.QUILT Rg.QUILT_RESHAPE_CFG 12 8
  let mods := s.attachedMods
  let u : Nat := (mods.map s.usedIn).sum
  let b : Nat := (mods.map s.blocksIn).sum
  mods.all fun n =>
    let x := s.usedIn n * b
    let y := u * s.blocksIn n
    decide ((x - y + (y - x)) * 100 ≤ tol * b * s.blocksIn n)

/-- The boundary moves on; checkpoints; the end (08 R350, R351, R353). -/
def State.advanceReshape (s : State) : State :=
  let s := s.wr64 Pg.QUILT Rg.QUILT_RESHAPE_BOUND_LO s.newBound
  if s.target < s.bound ∨ (s.quilt.kind = 2 ∧ s.balanced) then
    let s := (s.reshapeCkpt.setReshape 0).irq Pg.QUILT 1
    let s := s.setQuilt { s.quilt with vault := none, added := if s.quilt.kind = 2 then [] else s.quilt.added }
    s.log Pg.QUILT Ev.QUILT_RESHAPE_DONE [.v 1 s.quilt.kind, .v 4 s.quilt.emptied, .v 4 ((s.gts - s.quilt.since) / 1000000000)]
  else
    let s := if s.rd64 Pg.QUILT Rg.QUILT_RESHAPE_CKPT_LO + 64 ≤ s.bound then s.reshapeCkpt else s
    s.reshapePick

/-- A write of QUILT_RESHAPE_CMD with command `c`. -/
def reshapeCmd (master value c : Nat) (s : State) (f : State → State) : Res := actIf s (bits value 1 0 == c) fun s =>
  s.regCmd { page := Pg.QUILT, off := Rg.QUILT_RESHAPE_CMD, master, value } fun s _ => f s

/-- RESHAPE_START (08 R347, R351, R358). -/
def execReshapeStart (master value : Nat) (s : State) : Res := reshapeCmd master value 1 s fun s =>
  let kind := s.rf Pg.QUILT Rg.QUILT_RESHAPE_CFG 5 4
  let lay := s.rf Pg.QUILT Rg.QUILT_RESHAPE_CFG 2 0
  if s.reshape ≠ 0 then s.reshapeCode St.LOCKED
  else if (kind = 1 ∧ s.rdN Pg.QUILT Rg.QUILT_DRAIN_MASK = 0) ∨ (kind = 0 ∧ !s.layoutOk lay) then s.reshapeCode St.BAD_INPUT
  else
    let s := (s.reshapeCode St.OK).wr64 Pg.QUILT Rg.QUILT_RESHAPE_TARGET_LO (s.map.nextBolt - 1)
    let s := s.setQuilt { s.quilt with kind, layout := lay, since := s.gts, emptied := 0 }
    let s := if kind = 0 then s.wrN Pg.QUILT Rg.QUILT_WRITE_LAYOUT 0 lay else s
    let s := ((s.wr64 Pg.QUILT Rg.QUILT_RESHAPE_BOUND_LO s.newBound).setReshape 1).reshapeCkpt
    s.advanceReshape

/-- RESHAPE_PAUSE (08 R351). -/
def execReshapePause (master value : Nat) (s : State) : Res := reshapeCmd master value 2 s fun s =>
  if s.reshape = 1 ∨ s.reshape = 2 then (s.reshapeCode St.OK).holdReshape 3 1 else s.reshapeCode St.LOCKED

/-- A reshape goes on, or is held while a rebuild runs. -/
def State.resumeReshape (s : State) : State :=
  if s.rdN Pg.QUILT Rg.QUILT_MOD_REBUILDING ≠ 0 then s.setReshape 2 else (s.setReshape 1).advanceReshape

/-- RESHAPE_RESUME (08 R351). -/
def execReshapeResume (master value : Nat) (s : State) : Res := reshapeCmd master value 3 s fun s =>
  if s.reshape = 3 then (s.reshapeCode St.OK).resumeReshape else s.reshapeCode St.LOCKED

/-- Modules drained (08 R354): those on which this head holds no live patch and, as `peer` says, the partner none either. -/
def State.noteDrained (s : State) (peer : Nat) : State :=
  let mask := s.rdN Pg.QUILT Rg.QUILT_DRAIN_MASK
  let done := ((List.range 32).filter fun n => bitOf mask n && bitOf peer n && (s.boltsOn n).isEmpty).foldl (fun a n => a ||| 2 ^ n) 0
  let old := s.rdN Pg.QUILT Rg.QUILT_MOD_DRAINED
  let s := s.wrN Pg.QUILT Rg.QUILT_MOD_DRAINED 0 (old &&& mask ||| done)
  if done - (done &&& old) = 0 then s else s.log Pg.QUILT Ev.QUILT_DRAIN_DONE [.v 4 (old &&& mask ||| done)]

/-- RESHAPE_BOLT_EMPTIED (08 R348 to R351): a bolt of the scope has been emptied; `peer` are the modules on which the partner holds no
live patch. -/
def execReshapeBoltEmptied (bolt peer : Nat) (s : State) : Res :=
  actIf s (s.reshape == 1 && decide (bolt ≤ s.target) && decide (s.bound ≤ bolt) && (s.bolt bolt).all fun x => x.st == 4) fun s =>
    ((s.setQuilt { s.quilt with emptied := s.quilt.emptied + 1 }).advanceReshape).noteDrained peer

/-! ### Rebuild (08 R341 to R346) -/

/-- REBUILD_START: bolts below gc_below are emptied by priority GC instead; a running reshape is held. -/
def execRebuildStart (n : Nat) (s : State) : Res :=
  actIf s (decide (n < 32) && s.modFailed n && !s.rb Pg.QUILT Rg.QUILT_MOD_REBUILDING n) fun s =>
    let s := s.wb Pg.QUILT Rg.QUILT_MOD_REBUILDING n true
    let s := s.setQuilt { s.quilt with rebuilds := mput s.quilt.rebuilds n { since := s.gts } }
    let low := (s.boltsOn n).filter fun e =>
      decide (s.validBytes e.1 * 100 < s.rf Pg.QUILT Rg.QUILT_REBUILD_FLOOR 15 8 * (s.layoutK e.2.layout * 65536 * e.2.stripes))
    let s := low.foldl (fun s e => s.queueGc 2 e.1 none) s
    if s.reshape = 1 then s.holdReshape 2 0 else s

/-- REBUILD_END (08 R346). -/
def execRebuildEnd (n : Nat) (s : State) : Res :=
  actIf s (decide (n < 32) && s.rb Pg.QUILT Rg.QUILT_MOD_REBUILDING n && (s.boltsOn n).isEmpty) fun s =>
    let r := mgetD {} s.quilt.rebuilds n
    let s := (s.wb Pg.QUILT Rg.QUILT_MOD_REBUILDING n false).irq Pg.QUILT 0
    let s := s.setQuilt { s.quilt with rebuilds := mdel s.quilt.rebuilds n }
    let s := s.log Pg.QUILT Ev.QUILT_REBUILD_DONE [.v 1 n, .v 8 r.stripes, .v 4 r.emptied, .v 4 ((s.gts - r.since) / 1000000000)]
    if s.reshape = 2 then s.resumeReshape else s

/-! ### Registers (08 R339, R354, R356) -/

/-- QUILT_UNFREEZE: the bolt's frozen stripes are let go; they are still never a source. -/
def execQuiltUnfreeze (master value : Nat) (s : State) : Res := act s fun s =>
  s.regCmd { page := Pg.QUILT, off := Rg.QUILT_UNFREEZE_HI, master, value } fun s _ =>
    let b := s.rdN Pg.QUILT Rg.QUILT_UNFREEZE_LO + 2 ^ 32 * (value % 2 ^ 32)
    let mine := s.quilt.frozen.filter fun x => x.1 == b
    let s := s.setQuilt { s.quilt with
      frozen := s.quilt.frozen.filter fun x => x.1 != b, frozenBolts := s.quilt.frozenBolts.filter (· != b)
      unprot := mine.foldl (fun l x => insertNew x l) s.quilt.unprot }
    (s.modBolt b fun x => { x with frozen := false }).settleBolt b

/-- QUILT_DRAIN_MASK_WRITE: Pattern places no new member on the modules named. -/
def execQuiltDrainMaskWrite (master value : Nat) (s : State) : Res := act s fun s =>
  s.regCmd { page := Pg.QUILT, off := Rg.QUILT_DRAIN_MASK, master, value } fun s _ =>
    let mask := s.rdN Pg.QUILT Rg.QUILT_DRAIN_MASK
    let was := s.rdN Pg.PATTERN Rg.PATTERN_ELIGIBLE
    let s := s.wrN Pg.QUILT Rg.QUILT_MOD_DRAINED 0 (s.rdN Pg.QUILT Rg.QUILT_MOD_DRAINED &&& mask)
    if was &&& mask = 0 then s
    else
      let s := (setBitsOf 32 (was &&& mask)).foldl (fun s n => s.log Pg.PATTERN Ev.PATTERN_MODULE_EXCLUDED [.v 1 n, .v 1 1]) s
      (s.wrN Pg.PATTERN Rg.PATTERN_ELIGIBLE 0 (was - (was &&& mask))).irq Pg.PATTERN 0

/-- QUILT_LAYOUT_WRITE: a layout that is valid already stays, and k and m must lie in their ranges. -/
def execQuiltLayoutWrite (master value : Nat) (s : State) : Res := act s fun s =>
  let w : RegW := { page := Pg.QUILT, off := Rg.QUILT_LAYOUT, master, value }
  s.regCmd w fun s old =>
    let k := bits value 4 0
    let m := bits value 6 5
    if bitOf old 7 || decide (k < 4) || decide (30 < k) || decide (m < 2) || decide (32 < k + m) then
      (s.wrN Pg.QUILT Rg.QUILT_LAYOUT (s.shown Pg.QUILT Rg.QUILT_LAYOUT) old).ignoreW w
    else s

/-- QUILT_WRITE_LAYOUT_WRITE. -/
def execQuiltWriteLayoutWrite (master value : Nat) (s : State) : Res := act s fun s =>
  let w : RegW := { page := Pg.QUILT, off := Rg.QUILT_WRITE_LAYOUT, master, value }
  s.regCmd w fun s old =>
    if s.layoutOk (bits value 2 0) then s else (s.wrN Pg.QUILT Rg.QUILT_WRITE_LAYOUT 0 old).ignoreW w

end Sys2Proof.Machine
end

