-- ==== Sys2Proof/Machine/Mapper.lean ====
section
/-! DEFINITION. The Mapper's commands: its jobs, its ordering table, garbage collection and wear, failures, thresholds, degraded map
mode (09 R360 to R407). -/
namespace Sys2Proof.Machine

/-- Fields of a Mapper job (09 R401). -/
def Job.mns (j : Job) : Nat := j.f 12 2
def Job.mcount (j : Job) : Nat := j.f 14 1
def Job.mfirst (j : Job) : Nat := j.f 16 8
def Job.mseq (j : Job) : Nat := j.f 24 8 % 2 ^ 56
def Job.mlist (j : Job) : Nat := j.f 32 8
def Job.mbolt (j : Job) : Nat := j.f 40 8
def Job.mdom (j : Job) : Nat := j.mns % 1024

/-- A job with a list names 1 to 64 entries at an aligned address. -/
def Job.mlistOk (j : Job) : Bool := decide (1 ≤ j.mcount) && decide (j.mcount ≤ 64) && j.mlist % 64 == 0

/-- The counts of a completion record (09 R402). -/
def mapCounts (done moved misses already : Nat) : Nat :=
  done % 2 ^ 32 + 2 ^ 32 * (moved % 2 ^ 16) + 2 ^ 48 * (misses % 2 ^ 16) + 2 ^ 64 * (already % 2 ^ 16)

/-- The 16 bytes of an entry, and an entry from them (09 R367). -/
def MEntry.bytes (e : MEntry) : List Byte := leBytes 8 e.target ++ leBytes 7 e.seq ++ leBytes 1 e.kind
def parseEntry (b : List Byte) (o seq : Nat) : MEntry := { kind := leAt b (o + 15) 1 % 16, target := leAt b o 8, seq }

/-- The list of a job, `n` bytes an entry. -/
def State.mapList (s : State) (j : Job) (n : Nat) : State × Except Nat (List (List Byte)) :=
  let r := s.readBytes j.acc j.mlist (n * j.mcount)
  (r.1, if fine r.2.2 then .ok ((List.range j.mcount).map fun i => sliceB r.2.1 (n * i) n) else .error r.2.2)

/-! ### Resolving grains -/

/-- The newest log-map entry of a grain (09 R387). -/
def State.logEntry (s : State) (n g : Nat) : Option LogE :=
  (mgetD [] s.map.logs n).findSome? fun b => b.2.reverse.find? fun e => e.grain == g

/-- A log-map entry as a grain entry: one with no sealed length names no chunk, and its chunk field is its kind (log 55). -/
def LogE.entry (e : LogE) : MEntry :=
  if e.place = 0 then { kind := e.chunk, target := 0, seq := e.seq } else { kind := 1, target := e.chunk, seq := e.seq }

/-- The entry of a grain of a namespace: its log maps first, then its forward map. `bad` are map pages that fail when they are read
from flash. -/
def State.lookupGrain (s : State) (bad : List Nat) (n g : Nat) : State × Except Nat MEntry × Nat :=
  match s.logEntry n g with
  | some e => (s, .ok e.entry, 0)
  | none => match s.nsp n with
    | some x => s.lookup bad x.top x.levels g
    | none => (s, .ok {}, 0)

/-- The 64 bytes MAP_LOOKUP gives for a grain. -/
def State.lookupBytes (s : State) (bad : List Nat) (n g : Nat) : State × List Byte × Nat × Nat :=
  let q := s.lookupGrain bad n g
  match q.2.1 with
  | .error c => (q.1, List.replicate 64 0, c, q.2.2)
  | .ok e =>
    if e.kind ≠ 1 then (q.1, padTo 64 e.bytes, St.OK, q.2.2)
    else match mget q.1.map.chunkPages (e.target / 128) with
      | none => (q.1, padTo 64 (e.bytes ++ (((q.1.chunk e.target).map Chunk.bytes).getD [])), St.OK, q.2.2)
      | some p =>
        let u := q.1.usePage bad p
        if u.2.1 then (u.1, padTo 64 (e.bytes ++ (((u.1.chunk e.target).map Chunk.bytes).getD [])), St.OK, q.2.2 + b2n u.2.2)
        else (u.1, List.replicate 64 0, St.POISON, q.2.2 + b2n u.2.2)

/-- MAP_LOOKUP (09 R379, R380, R401). -/
def execMapLookup (job : Nat) (bad : List Nat) (s : State) : Res := jobAct s .mapper 1 job fun s j =>
  match s.nsp j.mns with
  | none => (s, stRes St.BAD_INPUT)
  | some x =>
    if !j.mlistOk || x.kv || decide (x.grains < j.mfirst + j.mcount) then (s, stRes St.BAD_INPUT)
    else
      let r := (List.range j.mcount).foldl (fun (a : State × Nat × Nat) i =>
        let q := a.1.lookupBytes bad j.mns (j.mfirst + i)
        let w := q.1.writeBytes j.acc (j.mlist + 64 * i) q.2.1
        (w.1, worse (worse a.2.1 q.2.2.1) w.2, a.2.2 + q.2.2.2)) (s, St.OK, 0)
      (r.1, { status := r.2.1, counts := mapCounts j.mcount 0 r.2.2 0 })

/-! ### Recording (09 R363 to R371) -/

/-- Change the progress of a recording job. -/
def State.bumpRec (s : State) (job : Nat) (f : RecJob → RecJob) : State :=
  s.setMap { s.map with recs := mput s.map.recs job (f (mgetD {} s.map.recs job)) }

/-- A recording job none of whose updates waits has ended. -/
def State.recResult (s : State) (job : Nat) : State × Option JobRes :=
  if s.map.order.any fun w => w.job == job then (s, none)
  else
    let r := mgetD {} s.map.recs job
    (s.setMap { s.map with recs := mdel s.map.recs job }, some { status := r.status, counts := mapCounts r.done 0 r.misses r.already })

/-- One update of a grain: already applied, to wait in the ordering table, or applied. -/
def State.update (s : State) (job n g idx : Nat) (e : MEntry) : State :=
  let x := (s.nsp n).getD {}
  let l := s.lookup [] x.top x.levels g
  let s := l.1.bumpRec job fun r => { r with misses := r.misses + l.2.2 }
  match l.2.1 with
  | .error c => s.bumpRec job fun r => { r with status := worse r.status c }
  | .ok old =>
    if e.seq ≤ old.seq then (s.noteRecorded n g e.seq).bumpRec job fun r => { r with already := r.already + 1 }
    else if s.blocked n g e.seq || s.frozenOut n e.seq then
      s.setMap { s.map with order := s.map.order ++ [{ job, ns := n, grain := g, entry := e, idx }] }
    else ((s.applyGrain n g idx e).noteRecorded n g e.seq).bumpRec job fun r => { r with done := r.done + 1 }

/-- Grains in the ordering table; it holds 2,097,152 (09 R363). -/
def State.orderUsed (s : State) : Nat := (s.map.order.map fun w => (w.ns, w.grain)).eraseDups.length

/-- The part of the map cache that is dirty has reached its limit (09 R380). -/
def State.cacheDirty (s : State) : Bool :=
  decide (s.cacheCap * 2 ^ 18 * s.rf Pg.MAPPER Rg.MAPPER_CACHE_CFG 6 0 / 100 ≤ (s.map.pages.filter fun e => e.2.dirty.isSome).length)

/-- A recording job stalls on a full ordering table (09 R363, R407). -/
def State.orderFull (s : State) : State :=
  (s.irq Pg.MAPPER 3).log Pg.MAPPER Ev.MAPPER_ORDER_FULL [.v 4 s.orderUsed, .v 4 (s.dirtyBytes / 2 ^ 20)]

/-- Put one update into the namespace's log maps (09 R386): none where it must wait for a slot or a fold. -/
def State.logUpdate (s : State) (job n g : Nat) (e : MEntry) : Option State :=
  let logs := mgetD [] s.map.logs n
  let c := (s.chunk e.target).getD {}
  let b := if e.kind = 1 then c.bolt else (logs.head?.map (·.1)).getD 0
  let entry : LogE := if e.kind = 1 then { grain := g, seq := e.seq, stripe := c.stripe, place := c.place, chunk := e.target }
    else { grain := g, seq := e.seq, stripe := 0, place := 0, chunk := e.kind }
  let put := fun (l : List (Nat × List LogE)) =>
    some (((s.setMap { s.map with logs := mput s.map.logs n l }).noteRecorded n g e.seq).bumpRec job fun r => { r with done := r.done + 1 })
  match s.lookupGrain [] n g with
  | (_, .ok old, _) =>
    if e.seq ≤ old.seq then some ((s.noteRecorded n g e.seq).bumpRec job fun r => { r with already := r.already + 1 })
    else if s.blocked n g e.seq || s.frozenOut n e.seq then none
    else if logs.any fun x => x.1 == b then put (logs.map fun x => if x.1 = b then (b, x.2 ++ [entry]) else x)
    else if logs = [] ∧ s.rf Pg.MAPPER Rg.MAPPER_LOG_CFG 9 0 ≤ s.map.logs.length then none
    else if 4 ≤ logs.length then none
    else put ((b, [entry]) :: logs)
  | (_, .error c, _) => some (s.bumpRec job fun r => { r with status := worse r.status c })

/-- The updates of a job in DEGRADED map mode: all of them, or the job waits. -/
def State.logAll (s : State) (job n : Nat) (us : List (Nat × MEntry)) : Option State :=
  us.foldl (fun a u => match a with
    | some t => t.logUpdate job n u.1 u.2
    | none => none) (some s)

/-- A run's updates may be written as one RUN slot (09 R368). -/
def State.runOk (s : State) (n first : Nat) (us : List (Nat × MEntry)) : Bool :=
  us.length == 64 && first % 64 == 0 &&
    (us.zip (List.range 64)).all fun x =>
      x.1.2.kind == 1 && x.1.2.target == ((us.headD (0, {})).2.target) + x.2 && decide ((s.entry n x.1.1).seq < x.1.2.seq) &&
      !s.blocked n x.1.1 x.1.2.seq && !s.frozenOut n x.1.2.seq

/-- A recording job's updates (09 R363, R380, R387): it waits while the head enters degraded map mode, while the ordering table is
full, and while too much of the cache is dirty. -/
def State.recordAll (s : State) (job n first seq : Nat) (us : List (Nat × MEntry)) (run : Bool) : State × Option JobRes :=
  if (mget s.map.recs job).isSome ∨ s.mapMode = 1 then (s, none)
  else if s.mapMode = 2 then
    match s.logAll job n us with
    | some t => t.recResult job
    | none => (s, none)
  else if 2097152 ≤ s.orderUsed then (s.orderFull, none)
  else if s.cacheDirty then (s, none)
  else if run && s.runOk n first us then
    let s := s.applyRun n first seq ((us.headD (0, {})).2.target)
    let s := us.foldl (fun s u => s.noteRecorded n u.1 seq) s
    (s, some { status := St.OK, counts := mapCounts us.length 0 0 0 })
  else
    let s := s.bumpRec job id
    ((us.zip (List.range us.length)).foldl (fun s u => s.update job n u.1.1 u.2 u.1.2) s).recResult job

/-- What ends a recording job at once (09 R403). -/
def State.recordBad (s : State) (j : Job) (count : Nat) : Option Nat :=
  match s.nsp j.mns with
  | none => some St.BAD_INPUT
  | some x =>
    if !s.domOwned x.domain then some St.NOT_OWNER
    else if x.snapOf.isSome || (!x.kv && decide (x.grains < j.mfirst + count)) then some St.BAD_INPUT
    else none

/-! ### Key spaces (09 R372) -/

/-- Replace or remove the value of a key: every chunk the old record named is dropped. -/
def State.applyValue (s : State) (n k seq : Nat) (v : Option (Nat × List Nat)) : State :=
  match s.nsp n with
  | none => s
  | some x =>
    let old : Option Value := mget x.values k
    let s : State := match old with
      | some o => (o.chunks.zip (List.range o.chunks.length)).foldl (fun s c => s.dropChunk n seq c.2 c.1 o.seq) s
      | none => s
    match v with
    | none =>
      let s : State := match old with
        | some o => if o.page < x.floor then s.addDead n (.page o.page) else s.delMapPage o.page
        | none => s
      s.modNs n fun y => { y with values := mdel y.values k }
    | some c =>
      let r := s.ownPage n seq (old.map (·.page)) (.value k)
      r.1.modNs n fun y => { y with values := mput y.values k { len := c.1, seq, chunks := c.2, page := r.2 } }

/-- The original bytes of the chunks of a value under way. -/
def State.partBytes (s : State) (p : SMap Nat) : Nat := (p.map fun e => ((s.chunk e.2).map fun c => c.origLen + 1).getD 0).sum

/-- A key's record is applied: a value whose chunks are all there, or a deletion. -/
def State.applyKey (s : State) (n : Nat) (r : JRec) : State :=
  let v := if r.kind = 4 then some (r.count, (mgetD [] s.map.parts r.jseq).map (·.2)) else none
  let s := s.applyValue n r.key r.jseq v
  let s := s.setMap { s.map with parts := mdel s.map.parts r.jseq }
  (s.modRecs (fun q => q.jseq == r.jseq && q.names n r.key) fun q => { q with recorded := true }).dirtyBp

/-- A key's record is applied, waits, or has been applied already. -/
def State.updateKey (s : State) (job n : Nat) (r : JRec) : State :=
  if s.keyBlocked n r.key r.jseq || s.frozenOut n r.jseq then
    s.setMap { s.map with order := s.map.order ++ [{ job, ns := n, grain := r.key, entry := { kind := r.kind, seq := r.jseq }, idx := 0 }] }
  else (s.applyKey n r).bumpRec job fun x => { x with done := x.done + 1 }

/-- The retained record of a key space that a job names by its sequence number. -/
def State.keyRecord (s : State) (n seq : Nat) : Option JRec :=
  s.retained.find? fun r => r.jseq == seq && r.ns == n && (r.kind == 4 || r.kind == 5) && !r.recorded

/-- RECORD of a key space (DESIGN CHOICE, log 55): `first` is the place in the value of the first chunk of the list; the value record is
replaced once the chunks make up the value. -/
def State.recordValue (s : State) (job : Nat) (j : Job) (es : List MEntry) : State × Option JobRes :=
  if (mget s.map.recs job).isSome ∨ s.mapMode = 1 then (s, none)
  else match s.keyRecord j.mns j.mseq with
    | none => (s, some { status := St.OK, counts := mapCounts 0 0 0 j.mcount })
    | some r =>
      let parts := (es.zip (List.range es.length)).foldl (fun p e =>
        if e.1.kind = 1 then mput p (j.mfirst + e.2) e.1.target else p) (mgetD [] s.map.parts r.jseq)
      let s := s.setMap { s.map with parts := mput s.map.parts r.jseq parts }
      if s.partBytes parts < r.count then (s, some { status := St.OK, counts := mapCounts j.mcount 0 0 0 })
      else ((s.bumpRec job id).updateKey job j.mns r).recResult job

/-- RECORD (09 R363, R364, R368, R380). -/
def execRecord (job : Nat) (s : State) : Res := jobActM s .mapper 2 job fun s j =>
  if !j.mlistOk then (s, some (stRes St.BAD_INPUT))
  else match s.recordBad j j.mcount with
    | some c => (s, some (stRes c))
    | none =>
      let l := s.mapList j 16
      match l.2 with
      | .error c => (l.1, some (stRes c))
      | .ok bs =>
        let es := bs.map fun b => parseEntry b 0 j.mseq
        if es.any fun e => decide (2 < e.kind) then (l.1, some (stRes St.BAD_INPUT))
        else if ((l.1.nsp j.mns).map (·.kv)).getD false then l.1.recordValue job j es
        else l.1.recordAll job j.mns j.mfirst j.mseq (((List.range es.length).map (j.mfirst + ·)).zip es) (j.eflag 10)

/-- DEALLOC and ZERO: the grains from `first`, as many as bytes 32 to 39 say. -/
def State.clearGrains (s : State) (job : Nat) (j : Job) (kind : Nat) : State × Option JobRes :=
  match s.recordBad j j.mlist with
  | some c => (s, some (stRes c))
  | none =>
    if ((s.nsp j.mns).map (·.kv)).getD false then
      if (mget s.map.recs job).isSome ∨ s.mapMode = 1 then (s, none)
      else match s.keyRecord j.mns j.mseq with
        | none => (s, some { status := St.OK, counts := mapCounts 0 0 0 1 })
        | some r => ((s.bumpRec job id).updateKey job j.mns r).recResult job
    else s.recordAll job j.mns j.mfirst j.mseq
      ((List.range j.mlist).map fun i => (j.mfirst + i, { kind, target := 0, seq := j.mseq })) false

/-- DEALLOC (09 R371). -/
def execDealloc (job : Nat) (s : State) : Res := jobActM s .mapper 3 job fun s j => s.clearGrains job j 0

/-- ZERO (09 R371). -/
def execMapperZero (job : Nat) (s : State) : Res := jobActM s .mapper 4 job fun s j => s.clearGrains job j 2

/-- ORDERED_RECORD_APPLY (09 R363, 10 R409): update `i` of the ordering table no longer waits; with it its job may end. -/
def execOrderedRecordApply (i : Nat) (s : State) : Res :=
  match s.map.order[i]? with
  | none => .next s
  | some w =>
    let kv := ((s.nsp w.ns).map (·.kv)).getD false
    let waits := (if kv then s.keyBlocked w.ns w.grain w.entry.seq else s.blocked w.ns w.grain w.entry.seq) || s.frozenOut w.ns w.entry.seq
    actIf s (!waits && s.mapMode == 0) fun s =>
      let s := s.setMap { s.map with order := s.map.order.eraseIdx i }
      let s := if kv then
          (match s.keyRecord w.ns w.entry.seq with
          | some r => s.updateKey w.job w.ns r
          | none => s.bumpRec w.job fun r => { r with already := r.already + 1 })
        else s.update w.job w.ns w.grain w.idx w.entry
      match s.recResult w.job with
      | (t, some r) => t.setRes w.job r
      | (t, none) => t

/-! ### Chunk records (09 R362, R374, R375) -/

/-- CHUNK_NEW (09 R374, R403). -/
def execChunkNew (job : Nat) (s : State) : Res := jobAct s .mapper 5 job fun s j =>
  let ids := (List.range j.mcount).map (j.mfirst + ·)
  if !j.mlistOk || ids.any fun id => !s.domOwned (chunkDom id) || (s.chunk id).isSome then (s, stRes St.BAD_INPUT)
  else
    let l := s.mapList j 32
    match l.2 with
    | .error c => (l.1, stRes c)
    | .ok bs =>
      let s := (ids.zip bs).foldl (fun s x =>
        let c := parseChunk x.2
        (s.setChunk x.1 s.hq.jseq { c with refs := 0, st := 0, since := s.gts }).gainValid c.bolt) l.1
      (s, { status := St.OK, counts := mapCounts j.mcount 0 0 0 })

/-- CHUNK_NEW_EXPIRY (09 R374, R407): a record NEW for 1 s is reclaimed. -/
def execChunkNewExpiry (id : Nat) (s : State) : Res :=
  match s.chunk id with
  | none => .next s
  | some c => actIf s (c.st == 0 && decide (c.since + 1000000000 ≤ s.gts)) fun s =>
      ((s.setChunk id s.hq.jseq { c with st := 3 }).loseValid c.bolt).log Pg.MAPPER Ev.MAPPER_CHUNK_EXPIRED [.v 8 id]

/-- A chunk and its old and new places. -/
abbrev Move := Nat × List Byte × List Byte

/-- An entry of RELOCATE's list. -/
def parseMove (b : List Byte) : Move := (leAt b 0 8, sliceB b 8 12, sliceB b 20 12)

/-- One chunk is moved where its record holds the old place (09 R375). -/
def State.move (s : State) (x : Move) : State × Bool :=
  match s.chunk x.1 with
  | none => (s, false)
  | some c =>
    if c.bytes.take 12 ≠ x.2.1 then (s, false)
    else
      let b := leAt x.2.2 0 6
      let s := s.setChunk x.1 s.hq.jseq { c with bolt := b, stripe := leAt x.2.2 6 2, place := leAt x.2.2 8 4 }
      (if c.st ≤ 1 then (s.gainValid b).loseValid c.bolt else s, true)

/-- Chunks are moved: how many, and the mismatches. -/
def State.relocate (s : State) (xs : List Move) : State × Nat × Nat :=
  xs.foldl (fun a x =>
    let r := a.1.move x
    if r.2 then (r.1, a.2.1 + 1, a.2.2) else (r.1, a.2.1, a.2.2 + 1)) (s, 0, 0)

/-- RELOCATE (09 R362, R375): for a domain this head does not own the job goes to the partner over the Seam, and ends with the
completion that comes back: its status, entries done and mismatches. -/
def execRelocate (job : Nat) (back : Option (Nat × Nat × Nat)) (s : State) : Res := jobActM s .mapper 6 job fun s j =>
  if !j.mlistOk then (s, some (stRes St.BAD_INPUT))
  else
    let l := s.mapList j 32
    match l.2 with
    | .error c => (l.1, some (stRes c))
    | .ok bs =>
      let xs := bs.map parseMove
      if s.domOwned j.mdom then
        let r := l.1.relocate xs
        (r.1, some { status := St.OK, counts := mapCounts r.2.1 r.2.2 0 0 })
      else match back with
        | some b => (l.1, some { status := b.1, counts := mapCounts b.2.1 b.2.2 0 0 })
        | none => (l.1.emit (.seam (17 + j.mdom % 8) 1 (j.mdom :: bs.flatten.map (·.toNat))), none)

/-- FORWARDED_RELOCATE (09 R362). -/
def execForwardedRelocate (dom : Nat) (list : List Byte) (s : State) : Res := act s fun s =>
  if s.domOwned dom then
    let r := s.relocate ((List.range (list.length / 32)).map fun i => parseMove (sliceB list (32 * i) 32))
    r.1.emit (.seam (17 + dom % 8) 2 [dom, St.OK, r.2.1, r.2.2])
  else s.emit (.seam (17 + dom % 8) 2 [dom, St.NOT_OWNER, 0, 0])

/-- CHUNK_LOST (08 R336). -/
def execChunkLost (job : Nat) (s : State) : Res := jobAct s .mapper 7 job fun s j =>
  if !j.mlistOk then (s, stRes St.BAD_INPUT)
  else
    let l := s.mapList j 8
    match l.2 with
    | .error c => (l.1, stRes c)
    | .ok bs =>
      let ids := (bs.map fun b => leAt b 0 8).filter fun id => (l.1.chunk id).isSome
      let at' := fun id => let c := (l.1.chunk id).getD {}; (c.bolt, c.stripe)
      let s := (ids.map at').eraseDups.foldl (fun s p =>
        let mine := ids.filter fun id => at' id == p
        s.loseChunks p.1 p.2 (mine.foldl (fun m id => m ||| ((s.chunk id).getD {}).patches) 0) mine) l.1
      (s, { status := St.OK, counts := mapCounts ids.length 0 0 0 })

/-! ### Bolts (09 R376, R377) -/

/-- BOLT_OPEN (09 R377): the record of the list, with the next sequence number and the minute of its opening. -/
def execBoltOpen (job : Nat) (s : State) : Res := jobAct s .mapper 0x10 job fun s j =>
  let r := s.readBytes j.acc j.mlist 512
  let s := r.1
  let b := r.2.1
  let layout := leAt b 8 1 % 8
  if !fine r.2.2 then (s, stRes r.2.2)
  else if j.mlist % 64 != 0 || !s.layoutOk layout || (s.bolt j.mbolt).isSome then (s, stRes St.BAD_INPUT)
  else
    let members := (recordMembers b (s.layoutK layout + s.layoutM layout)).map fun y => { y with temp := 0, subst := false, retired := false }
    let x : Bolt := {
      layout, members, st := 1, stream := leAt b 10 1 % 16, opener := s.headId, minute := s.minute
      stripes := leAt b 20 2, family := leAt b 22 1 }
    let s := s.setBolt s.map.nextBolt x
    (s.setMap { s.map with nextBolt := s.map.nextBolt + 1 }, stRes St.OK)

/-- BOLT_CLOSE (09 R377, R403). -/
def execBoltClose (job : Nat) (s : State) : Res := jobAct s .mapper 0x11 job fun s j =>
  if (s.bolt j.mbolt).any fun x => x.st == 1 then (s.closeBolt j.mbolt, stRes St.OK) else (s, stRes St.BAD_INPUT)

/-- BOLT_SUBST (08 R343): the member whose index stands in byte 7 is replaced; the stripes count as rebuilt. -/
def execBoltSubst (job : Nat) (s : State) : Res := jobAct s .mapper 0x12 job fun s j =>
  let r := s.readBytes j.acc j.mlist 8
  let s := r.1
  if !fine r.2.2 then (s, stRes r.2.2)
  else match s.bolt j.mbolt with
    | none => (s, stRes St.BAD_INPUT)
    | some x =>
      let w := leAt r.2.1 0 7
      let i := leAt r.2.1 7 1
      match x.members[i]? with
      | none => (s, stRes St.BAD_INPUT)
      | some old =>
        if x.st = 4 ∨ j.mlist % 64 ≠ 0 then (s, stRes St.BAD_INPUT)
        else
          let y : Member := { module := bits w 4 0, die := bits w 12 5, block := bits w 31 13, temp := bits w 39 32, subst := true }
          let members := x.members.set i y
          let s := s.setBolt j.mbolt { x with members, failed := members.any fun y => s.modFailed y.module }
          let s := s.setQuilt { s.quilt with rebuilds := mmod s.quilt.rebuilds old.module fun q => { q with stripes := q.stripes + x.stripes } }
          (s, stRes St.OK)

/-! ### Recounting references (09 R400) -/

/-- Chunks that the map under page `p`, with `level` directories below it, names: one for each grain. -/
def State.treeChunks (s : State) : Nat → Nat → List Nat
  | 0, p => (s.slots p).flatMap fun e =>
      if e.2.kind = 3 then (List.range 64).map (e.2.target + ·)
      else if e.2.kind = 4 then
        ((mgetD [] (s.groups (e.2.target % 2 ^ 62)) (e.2.target / 2 ^ 62)).filter fun x => x.2.kind == 1).map fun x => x.2.target
      else []
  | level + 1, p => (s.kids p).flatMap fun e => State.treeChunks s level e.2

/-- Chunks that a namespace's live map and its dead lists name: each reference is in exactly one of them (10 R413). -/
def State.nsChunks (s : State) (x : Ns) : List Nat :=
  (match x.top with | some t => s.treeChunks x.levels t | none => []) ++ x.values.flatMap (fun v => v.2.chunks) ++
    x.snaps.flatMap fun q => q.dead.filterMap fun d => match d with | .chunk id _ => some id | .page _ => none

/-- RECOUNT (09 R400, R407). -/
def execRecount (job : Nat) (s : State) : Res := jobAct s .mapper 0x20 job fun s j =>
  if j.mcount ≠ 0 then (s, stRes St.BAD_INPUT)
  else
    let d := j.mdom
    let named := (s.map.nss.filter fun e => e.2.domain == d && e.2.snapOf.isNone).flatMap fun e => s.nsChunks e.2
    let mine := s.map.chunks.filter fun e => chunkDom e.1 == d && (e.2.st == 1 || e.2.st == 2)
    let wrong := (mine.map fun e => (e.1, e.2, named.count e.1)).filter fun x => x.2.1.refs != x.2.2
    let s := wrong.foldl (fun s x =>
      let s := s.setChunk x.1 s.hq.jseq { x.2.1 with refs := x.2.2, st := if x.2.2 = 0 then 2 else 1 }
      if x.2.2 = 0 then (if x.2.1.st = 1 then s.loseValid x.2.1.bolt else s)
      else if x.2.1.st = 2 then s.gainValid x.2.1.bolt else s) s
    let big := (wrong.map fun x => x.2.1.refs - x.2.2 + (x.2.2 - x.2.1.refs)).foldl max 0
    (s.log Pg.MAPPER Ev.MAPPER_RECOUNT_DONE [.v 2 d, .v 4 wrong.length, .v 4 big],
      { status := St.OK, counts := mapCounts 0 wrong.length 0 0 })

/-! ### Map pages to flash (09 R380 to R383) -/

/-- MAPPER_CHECKPOINT (09 R382). -/
def execMapperCheckpoint (s : State) : Res := act s fun s =>
  s.setMap { s.map with ckpt := s.seqPersist, ckptReads := s.map.reads, changed := [] }

/-- The 4 KiB of a map page; none where the spec gives a value record no layout. -/
def State.pageBytes (s : State) : MBody → Option (List Byte)
  | .dir k => some ((List.range 512).flatMap fun i => leBytes 8 (mgetD 0 k i))
  | .run k => some ((List.range 256).flatMap fun i => (mgetD {} k i).bytes)
  | .grain _ k => some ((List.range 256).flatMap fun i => (mgetD {} (mgetD [] k (i / 64)) (i % 64)).bytes)
  | .chunks p => some ((List.range 128).flatMap fun i => ((s.chunk (128 * p + i)).map Chunk.bytes).getD (List.replicate 32 0))
  | .value _ => none

/-- DIRTY_PAGE_WRITEBACK (09 R378, R380): the page has been written to the place named, and its MPT entry is updated. `crc` is the
CRC-32C of a value record's page. -/
def execDirtyPageWriteback (page bolt stripe slot crc : Nat) (s : State) : Res :=
  match mget s.map.pages page with
  | none => .next s
  | some x => actIf s x.dirty.isSome fun s =>
      let crc := match s.pageBytes x.body with | some b => crc32c b | none => crc % 2 ^ 32
      s.setMap { s.map with
        pages := mput s.map.pages page { x with dirty := none }
        mpt := mput s.map.mpt page { hi := page / 2 ^ 30 % 2 ^ 16, bolt, stripe, slot, crc }
        changed := insertNew page s.map.changed }

/-! ### Compaction (09 R370, 10 R414) -/

/-- A slot's 64 grains are all CHUNK with one reference, below the applied horizon and not older than the newest snapshot. -/
def State.compactable (s : State) (n g : Nat) : Bool :=
  (List.range 64).all fun j =>
    let e := s.entry n (g + j)
    e.kind == 1 && decide (e.seq < s.horizon) && decide ((((s.nsp n).map Ns.point).getD 0) ≤ e.seq) &&
      (s.chunk e.target).any fun c => c.refs == 1

/-- COMPACTION: GC has read the chunks `old` of the slot from grain `g` and resealed them under `base` and the IDs that follow, which
are committed. The slot becomes a RUN, or the new chunks are released. -/
def execCompaction (n g base : Nat) (old : List Nat) (s : State) : Res :=
  let new := (List.range 64).map (base + ·)
  actIf s (g % 64 == 0 && (s.nsp n).isSome && new.all fun id => (s.chunk id).any fun c => c.st == 1 && c.refs == 1) fun s =>
    let es := (List.range 64).map fun j => s.entry n (g + j)
    let seq := (es.map (·.seq)).foldl max 0
    if es.map (·.target) = old ∧ s.compactable n g then s.applyRun n g seq base
    else (new.zip (List.range 64)).foldl (fun s x => s.release seq x.2 x.1) s

/-! ### Degraded map mode (09 R386, R387) -/

/-- DEGRADED_MODE_ENTERED: no dirty page is left. -/
def execDegradedModeEntered (s : State) : Res :=
  actIf s (s.mapMode == 1 && s.map.pages.all fun e => e.2.dirty.isNone) fun s => s.setMapMode 2

/-- Fold a namespace's oldest log bolt into the forward map; it is then a bolt like others. -/
def State.foldLog (s : State) (n : Nat) : State :=
  match (mgetD [] s.map.logs n).getLast? with
  | none => s
  | some l =>
    let s := l.2.foldl (fun s e =>
      let s := if e.place ≠ 0 ∧ (s.chunk e.chunk).isNone then
          (s.setChunk e.chunk e.seq { bolt := l.1, stripe := e.stripe, place := e.place, refs := 1, st := 1 }).gainValid l.1
        else s
      if (s.entry n e.grain).seq < e.seq then s.applyGrain n e.grain 0 e.entry else s) s
    let rest := (mgetD [] s.map.logs n).dropLast
    let s := s.setMap { s.map with logs := if rest = [] then mdel s.map.logs n else mput s.map.logs n rest }
    (s.modBolt l.1 fun x => { x with stream := x.stream % 4 + x.stream / 8 * 8 }).settleBolt l.1

/-- LOG_BOLT_FOLD: the namespace's fourth log bolt has filled. -/
def execLogBoltFold (n : Nat) (s : State) : Res :=
  let l := mgetD [] s.map.logs n
  let newest := (l.head?.map (·.1)).getD 0
  actIf s (decide (4 ≤ l.length) && (s.bolt newest).all fun x => x.st != 1) fun s => s.foldLog n

/-- Every log bolt of a namespace is folded. -/
def State.foldAll (s : State) (n : Nat) : State := (mgetD [] s.map.logs n).foldl (fun s _ => s.foldLog n) s

/-- MAPPER_REPLAY (09 R383, R399, 13 R535): what the partner's checkpoint gives at a takeover; the records that need no chunk are
applied in sequence order, those that do stay retained until the write strand has stored them; after an unclean stop the read
counters are moved on; log bolts are folded where the cache is large enough. -/
def execMapperReplay (start unclean : Bool) (loaded : Loaded) (ms : Nat) (s : State) : Res := act s fun s =>
  let put := fun {α : Type} (m t : SMap α) => t.foldl (fun m e => if (mget m e.1).isSome then m else mput m e.1 e.2) m
  let s := s.setMap { s.map with
    nss := loaded.nss.foldl (fun m e => mput m e.1 e.2) s.map.nss, pages := put s.map.pages loaded.pages
    chunkPages := put s.map.chunkPages loaded.chunkPages, chunks := put s.map.chunks loaded.chunks
    bolts := put s.map.bolts loaded.bolts }
  let lim := fun (k : Nat) => match (s.boltAt (k / 2 ^ 27) (k / 2 ^ 19 % 256) (k % 2 ^ 19)) with
    | some x => (mget s.map.thr x.2.1.family).map fun t => leAt t 76 4
    | none => none
  let keys := (s.map.bolts.filter fun e => e.2.st != 0).flatMap fun e => e.2.members.map fun y => blockKey y.module y.die y.block
  let reads := if start && unclean then
      keys.foldl (fun m k => mput m k (mgetD 0 s.map.ckptReads k + (lim k).getD 0 / 4)) s.map.ckptReads
    else s.map.reads
  let s := s.setMap { s.map with reads }
  let rs := sortBy (fun (a b : JRec) => decide (a.jseq < b.jseq)) (s.retained.filter fun r => decide (s.map.ckpt ≤ r.jseq))
  let s := rs.foldl (fun s r =>
    if r.recorded then s
    else if r.kind = 2 ∨ r.kind = 3 then
      r.grains.foldl (fun s g =>
        if decide (4 * g < r.loc) || decide (r.loc + r.count < 4 * g + 4) then s
        else if (s.entry r.ns g).seq < r.jseq ∧ !s.blocked r.ns g r.jseq then
          (s.applyGrain r.ns g 0 { kind := if r.kind = 2 then 0 else 2, target := 0, seq := r.jseq }).noteRecorded r.ns g r.jseq
        else s) s
    else if r.kind = 5 ∧ !s.keyBlocked r.ns r.key r.jseq then s.applyKey r.ns r
    else s) s
  let s : State := match s.quilt.vault with
    | some v => if start && s.reshape == 0 then
        ((s.wr64 Pg.QUILT Rg.QUILT_RESHAPE_BOUND_LO v.2.2.1).wr64 Pg.QUILT Rg.QUILT_RESHAPE_TARGET_LO v.2.2.2).setQuilt
          { s.quilt with kind := v.1, layout := v.2.1 } |>.resumeReshape
      else s
    | none => s
  let s : State := if start ∧ s.rf Pg.MAPPER Rg.MAPPER_CACHE_MIN 9 0 ≤ s.cacheCap then
      let t := (s.map.logs.map (·.1)).foldl (fun s n => s.foldAll n) s
      if s.mapMode = 2 then t.setMapMode 0 else t
    else s.checkMapMode
  let s := s.wb Pg.MAPPER Rg.MAPPER_STATUS 2 false
  s.log Pg.MAPPER Ev.MAPPER_REPLAY_DONE [.v 4 rs.length, .v 4 ms]

/-! ### Garbage collection and wear (09 R388 to R391) -/

/-- A CLOSED bolt of this head with no frozen stripe: one that GC may empty (09 R391). -/
def State.victim (s : State) (x : Bolt) : Bool := x.st == 2 && !x.frozen && x.opener == s.headId

/-- A bolt is chosen: its valid chunks are to be relocated. -/
def State.toGc (s : State) (b : Nat) : State := (s.modBolt b fun x => { x with st := 3 }).settleBolt b

/-- Erase counts of a bolt's member blocks. -/
def State.wear (s : State) (x : Bolt) : List Nat := x.members.map fun y => s.eraseCount (blockKey y.module y.die y.block)

/-- GREEDY_GC (09 R388). -/
def execGreedyGc (s : State) : Res := act s fun s =>
  let free := s.freeBolts
  let running := s.rb Pg.MAPPER Rg.MAPPER_GC_STATUS 0
  let go := decide (free < s.rf Pg.MAPPER Rg.MAPPER_GC_CFG 9 0) || (running && decide (free < s.rf Pg.MAPPER Rg.MAPPER_GC_CFG 25 16))
  let s := s.wb Pg.MAPPER Rg.MAPPER_GC_STATUS 0 go
  if !go then s
  else
    let key := fun (e : Nat × Bolt) => (e.2.valid, (s.wear e.2).foldl max 0, e.1)
    let lt := fun (a b : Nat × Bolt) =>
      let x := key a
      let y := key b
      decide (x.1 < y.1) || (x.1 == y.1 && (decide (x.2.1 < y.2.1) || (x.2.1 == y.2.1 && decide (x.2.2 < y.2.2))))
    match sortBy lt (s.map.bolts.filter fun e => s.victim e.2) with
    | e :: _ => s.toGc e.1
    | [] => s

/-- PRIORITY_GC (09 R389): the first of the lowest class whose bolt may be emptied. -/
def execPriorityGc (s : State) : Res := act s fun s =>
  let ok := s.map.gc.filter fun q => (s.bolt q.2.1).any fun x => s.victim x
  match sortBy (fun a b => decide (a.1 < b.1)) ok with
  | [] => s
  | q :: _ =>
    let s := s.setMap { s.map with gc := s.map.gc.filter (· != q) }
    if q.2.2.isNone then s.toGc q.2.1 else s

/-- Blocks of this head in service, and their highest and lowest erase counts (09 R390). -/
def State.wearSpread (s : State) : Nat :=
  let worn := s.pat.erases.filter fun e => s.ownBlock (e.1 % 2 ^ 19) && mget s.pat.used e.1 != some 2
  let retired := (s.pat.used.filter fun e => s.ownBlock (e.1 % 2 ^ 19) && e.2 == 2).length
  let own := (s.attachedMods.map fun n => ((s.dies n).map fun d =>
    if s.bothBlocks then d.2 else (d.2 + 1 - s.headId) / 2).sum).sum - retired
  let top := (worn.map (·.2)).foldl max 0
  if worn.length < own then top else top - (worn.map (·.2)).foldl min top

/-- WEAR_LEVELLING (09 R390). -/
def execWearLevelling (s : State) : Res := actIf s (decide (s.rf Pg.MAPPER Rg.MAPPER_WEAR_CFG 15 0 < s.wearSpread)) fun s =>
  match sortBy (fun (a b : Nat × Bolt) => decide ((s.wear a.2).sum < (s.wear b.2).sum)) (s.map.bolts.filter fun e => s.victim e.2) with
  | e :: _ => s.queueGc 4 e.1 none
  | [] => s

/-! ### Program and erase failures (09 R392 to R394) -/

/-- PROGRAM_FAILURE (09 R392). -/
def execProgramFailure (n die block stripe : Nat) (s : State) : Res :=
  match s.boltAt n die block with
  | none => .next s
  | some (b, _, i) => act s fun s =>
      let s := (s.closeBolt b).modBolt b fun x => { x with progFail := true, bad := insertNew i x.bad }
      (s.log Pg.MAPPER Ev.MAPPER_PROGRAM_FAIL [.v 8 b, .v 1 n, .v 1 die, .v 4 block, .v 4 stripe]).queueGc 1 b none

/-- ERASE_FAILURE (09 R393): member `i` of an erasing bolt. -/
def execEraseFailure (b i : Nat) (s : State) : Res :=
  match s.bolt b with
  | none => .next s
  | some x => match x.members[i]? with
    | none => .next s
    | some y => actIf s (x.st == 4 && decide (i ∈ x.erasing)) fun s =>
        let s := s.setBolt b { x with erasing := x.erasing.filter (· != i), members := x.members.set i { y with retired := true } }
        (s.log Pg.MAPPER Ev.MAPPER_ERASE_FAIL [.v 8 b, .v 1 y.module, .v 1 y.die, .v 4 y.block]).retireBlock y.module y.die y.block

/-- ERASE_COMPLETE (09 R377, R392): every erase of the bolt has ended; failed blocks are retired, the others return to Pattern. -/
def execEraseComplete (b : Nat) (s : State) : Res :=
  match s.bolt b with
  | none => .next s
  | some x => actIf s (x.st == 4) fun s =>
      let s := (x.members.zip (List.range x.members.length)).foldl (fun s m =>
        let y := m.1
        let k := blockKey y.module y.die y.block
        let s := s.setMap { s.map with reads := mdel s.map.reads k }
        if m.2 ∈ x.erasing then
          let s := s.returnBlock y.module y.die y.block
          { s with pat := { s.pat with erases := mput s.pat.erases k (mgetD 0 s.pat.erases k + 1) } }
        else if m.2 ∈ x.bad then s.retireBlock y.module y.die y.block else s) s
      let hit := s.quilt.rebuilds.map fun e =>
        if x.members.any fun y => y.module == e.1 then (e.1, { e.2 with emptied := e.2.emptied + 1 }) else e
      let s := s.setQuilt { s.quilt with rebuilds := hit, unprot := s.quilt.unprot.filter fun u => u.1 != b }
      s.setMap { s.map with bolts := mdel s.map.bolts b }

/-! ### Read thresholds (09 R395 to R397) -/

/-- Fields of a family table image: the bounds, the read limit, the retention limit. -/
def thrPe (t : List Byte) : List Nat := (List.range 7).map fun i => leAt t (2 * i) 2
def thrRet (t : List Byte) : List Nat := (List.range 15).map fun i => leAt t (16 + 4 * i) 4
def thrReads (t : List Byte) : Nat := leAt t 76 4
def thrAge (t : List Byte) : Nat := leAt t 80 4

/-- Bounds at or below a value. -/
def bucket (l : List Nat) (v : Nat) : Nat := (l.filter fun b => decide (b ≤ v)).length

/-- The temperature-delta bucket. -/
def deltaBucket (d : Int) : Nat :=
  if d ≤ -31 then 0 else if d ≤ -16 then 1 else if d ≤ -6 then 2 else if d ≤ 5 then 3
  else if d ≤ 15 then 4 else if d ≤ 30 then 5 else if d ≤ 45 then 6 else 7

/-- Age in minutes of a region. -/
def State.ageOf (s : State) (x : Bolt) (region : Nat) : Nat := s.minute - (x.minute + mgetD 0 x.regions region)

/-- The entry index for a read of member `i` of a bolt in a region, the die being at `temp` (09 R395, R396). -/
def State.thrIndex (s : State) (x : Bolt) (t : List Byte) (i region : Nat) (temp : Option Int) : Nat :=
  let y := x.members.getD i {}
  let ret := if bitOf x.unsync region || s.cal.unsync then s.rf Pg.MAPPER Rg.MAPPER_THR_CFG 3 0 else bucket (thrRet t) (s.ageOf x region)
  bucket (thrPe t) (s.eraseCount (blockKey y.module y.die y.block)) * 128 + ret * 8 +
    (match temp with | some d => deltaBucket (d - sext 8 y.temp) | none => 3)

/-- A list does not fall. -/
def noFall : List Nat → Bool
  | a :: b :: t => decide (a ≤ b) && noFall (b :: t)
  | _ => true

/-- An image that MAPPER_THR_CMD may load (09 R397). -/
def thrOk (t : List Byte) : Bool :=
  t.length == 16512 && noFall (thrPe t) && noFall (thrRet t) &&
    (List.range 1024).all fun i => let c := leAt t (128 + 16 * i) 1; c == 0 || c == 7 || c == 15

/-- MAPPER_THR_LOAD (09 R397, R406). -/
def execMapperThrLoad (master value : Nat) (s : State) : Res := actIf s (bitOf value 0) fun s =>
  s.regCmd { page := Pg.MAPPER, off := Rg.MAPPER_THR_CMD, master, value } fun s _ =>
    let code := fun (s : State) c => s.wf Pg.MAPPER Rg.MAPPER_THR_STATUS 15 8 c
    if s.rb Pg.MAPPER Rg.MAPPER_THR_STATUS 0 then code s St.LOCKED
    else
      let a := s.rdN Pg.MAPPER Rg.MAPPER_THR_SRC_LO + 2 ^ 32 * s.rf Pg.MAPPER Rg.MAPPER_THR_SRC_HI 15 0
      let r := s.readBytes { master := Ms.MAPPER, owner := sysOwner } a 16512
      if !fine r.2.2 then code r.1 r.2.2
      else if !thrOk r.2.1 then code r.1 St.BAD_INPUT
      else
        let f := s.rf Pg.MAPPER Rg.MAPPER_THR_SEL 2 0
        let s := r.1.setMap { r.1.map with thr := mput r.1.map.thr f r.2.1 }
        (code s r.2.2).wb Pg.MAPPER Rg.MAPPER_THR_STATUS (16 + f) true

/-- RETENTION_LIMIT (09 R398): a bolt's age or the reads of one of its blocks have reached the family's limit. -/
def execRetentionLimit (b : Nat) (s : State) : Res :=
  match s.bolt b with
  | none => .next s
  | some x => match mget s.map.thr x.family with
    | none => .next s
    | some t =>
      let reads := (x.members.map fun y => mgetD 0 s.map.reads (blockKey y.module y.die y.block)).foldl max 0
      let age := (x.regions.map fun r => s.ageOf x r.1).foldl max 0
      let worn := decide (thrReads t ≤ reads)
      let old := decide (x.regions ≠ []) && decide (thrAge t ≤ age)
      actIf s ((worn || old) && decide (x.st ≠ 4) && decide ((3, b, none) ∉ s.map.gc)) fun s =>
        ((s.queueGc 3 b none).countSat Pg.MAPPER Rg.MAPPER_REFRESH_QUEUED 1).log Pg.MAPPER Ev.MAPPER_REFRESH
          [.v 8 b, .v 1 (if worn then 0 else 1), .v 4 (if worn then reads else age)]

/-- MAPPER_CACHE_SIZE_WRITE (09 R406). -/
def execMapperCacheSizeWrite (master value : Nat) (s : State) : Res := act s fun s =>
  let w : RegW := { page := Pg.MAPPER, off := Rg.MAPPER_CACHE_SIZE, master, value }
  s.regCmd w fun s old =>
    let n := bits value 9 0
    if 768 < n ∨ n < s.rf Pg.MAPPER Rg.MAPPER_CACHE_MIN 9 0 then (s.wrN Pg.MAPPER Rg.MAPPER_CACHE_SIZE 0 old).ignoreW w else s

end Sys2Proof.Machine
end

