-- ==== Sys2Proof/Machine/Hostq.lean ====
section
/-! DEFINITION. HOSTQ: capsules, arbitration, admission, completions, connections, controllers and namespaces (03). Where the spec
names an NVMe command and not its bytes, the layout and the status codes are NVMe's (PRESUMED, log 57). -/
namespace Sys2Proof.Machine

/-- Change HOSTQ's part of the state. -/
def State.setHq (s : State) (h : Hostq) : State := { s with hq := h }

/-! ### Submission entries -/

/-- Fields of a submission entry: opcode, fuse bits, command identifier, namespace, command dwords 2, 3 and 10 to 15. -/
def sqeOp (b : List Byte) : Nat := leAt b 0 1
def Cmd.op (c : Cmd) : Nat := sqeOp c.sqe
def Cmd.fuse (c : Cmd) : Nat := leAt c.sqe 1 1 % 4
def Cmd.cid (c : Cmd) : Nat := leAt c.sqe 2 2
def Cmd.nsid (c : Cmd) : Nat := leAt c.sqe 4 4
def Cmd.dw (c : Cmd) (i : Nat) : Nat := leAt c.sqe (4 * i) 4
/-- First block and number of blocks. -/
def Cmd.slba (c : Cmd) : Nat := leAt c.sqe 40 8
def Cmd.nlb (c : Cmd) : Nat := c.dw 12 % 65536 + 1
/-- Namespace index: identifiers count from 1. -/
def Cmd.ns (c : Cmd) : Nat := c.nsid - 1
/-- The command is marked ordered (03 R128, R129, R131). -/
def Cmd.ordered (c : Cmd) : Bool := c.compat && (bitOf (c.dw 3) 31 || c.fuse != 0)

/-- A command that changes stored data and so takes a journal sequence number: Write, Write Zeroes, Dataset Management and Copy; Store
and Delete. -/
def isWrite (kv : Bool) (op : Nat) : Bool :=
  if kv then op == 0x01 || op == 0x10 else op == 0x01 || op == 0x08 || op == 0x09 || op == 0x19

/-- Set a command's entry. -/
def State.setCmd (s : State) (id : Nat) (c : Cmd) : State := s.setHq { s.hq with cmds := mput s.hq.cmds id c }

/-- A command's work is done, with its status and result. -/
def State.done (s : State) (id sct sc : Nat) (result : List Byte) : State :=
  s.setHq { s.hq with cmds := mmod s.hq.cmds id fun c => { c with phase := 2, sct, sc, result, away := false } }

/-- A command ends without effect: the number it holds, if any, is VOID (13 R526). -/
def State.failCmd (s : State) (id : Nat) (c : Cmd) (st : Nat × Nat) : State := (s.voidSeq c).done id st.1 st.2 []

/-! ### Arbitration (03 R123 to R125) -/

/-- An arbitration burst (03, Arbitration). -/
def Ctrl.burstLen (c : Ctrl) : Nat := 2 ^ c.ab

/-- The weight of a class. -/
def Ctrl.weight (c : Ctrl) (cls : Nat) : Nat := (if cls = 1 then c.high else if cls = 2 then c.medium else c.low) + 1

/-- The next of `l` after `k` in cyclic order. -/
def cyclic (l : List Nat) (k : Nat) : Option Nat :=
  match l.find? fun x => decide (k < x) with
  | some x => some x
  | none => l.head?

/-- Serve queues of class 0: the present one while its burst lasts, then the next. -/
def Arb.serve0 (a : Arb) (burst : Nat) (qs : List Nat) : Option (Nat × Arb) :=
  let q := mgetD 0 a.turn 0
  if 0 < a.burst0 ∧ q ∈ qs then some (q, { a with burst0 := a.burst0 - 1 })
  else (cyclic qs q).map fun q => (q, { a with turn := mput a.turn 0 q, burst0 := burst - 1 })

/-- Serve queues of the present weighted class. -/
def Arb.serve (a : Arb) (burst : Nat) (qs : List Nat) : Option (Nat × Arb) :=
  let q := mgetD 0 a.turn a.cls
  if 0 < a.burst ∧ q ∈ qs then some (q, { a with burst := a.burst - 1, left := a.left - 1 })
  else (cyclic qs q).map fun q => (q, { a with turn := mput a.turn a.cls q, burst := burst - 1, left := a.left - 1 })

/-- Weighted round robin among the classes: a class with no command to take, or that has had its weight, gives way to the next. -/
def Ctrl.weighted (c : Ctrl) (qs : Nat → List Nat) : Nat → Arb → Option (Nat × Arb)
  | 0, _ => none
  | n + 1, a =>
    if a.left ≠ 0 ∧ qs a.cls ≠ [] then a.serve c.burstLen (qs a.cls)
    else
      let cls := a.cls % 3 + 1
      Ctrl.weighted c qs n { a with cls, left := c.weight cls, burst := 0 }

/-- The queue a controller admits from next, of those with their classes in `qs`, and its arbitration afterwards. -/
def Ctrl.pick (c : Ctrl) (qs : List (Nat × Nat)) : Option (Nat × Arb) :=
  let of := fun cls => (qs.filter fun q => q.2 == cls).map (·.1)
  if !c.wrr then c.arb.serve0 c.burstLen (qs.map (·.1))
  else match c.arb.serve0 c.burstLen (of 0) with
    | some r => some r
    | none => c.weighted of 4 c.arb

/-- I/O queues of a controller with a command that `ok` admits. -/
def State.ready (s : State) (ctrl : Nat) (ok : Queue → Bool) : List (Nat × Nat) :=
  (s.hq.queues.filter fun e => e.1 / 256 == ctrl && e.1 % 256 != 0 && e.2.staged != [] && ok e.2).map fun e => (e.1 % 256, e.2.cls)

/-- Controllers that have something to admit. -/
def State.readyCtrls (s : State) (ok : Queue → Bool) : List Nat :=
  (s.hq.ctrls.filter fun e => e.2.ready && !(s.ready e.1 ok).isEmpty).map (·.1)

/-- What the head admits next: controller, queue, and HOSTQ with its arbitration moved on. -/
def State.arbitrated (s : State) (ok : Queue → Bool) : Option (Nat × Nat × Hostq) :=
  let l := s.readyCtrls ok
  let h := s.hq
  let k : Option (Nat × Nat) := if 0 < h.burst ∧ h.turn ∈ l then some (h.turn, h.burst - 1)
    else (cyclic l h.turn).map fun c => (c, ((mget h.ctrls c).getD {}).burstLen - 1)
  match k with
  | none => none
  | some (c, burst) =>
    let x := (mget h.ctrls c).getD {}
    (x.pick (s.ready c ok)).map fun q => (c, q.1, { h with turn := c, burst, ctrls := mput h.ctrls c { x with arb := q.2 } })

/-- The command at a queue's head is a write that backpressure holds (01 R40). -/
def State.heldBack (s : State) (q : Queue) : Bool :=
  s.rb Pg.HOSTQ Rg.HOSTQ_BP_STATUS 1 && match q.staged with
    | c :: _ => isWrite (((s.nsp (leAt c.sqe 4 4 - 1)).map (·.kv)).getD false) (sqeOp c.sqe)
    | [] => false

/-- The next admission: a queue whose write is held keeps its place, and another is served meanwhile without moving the
arbitration on (03 R116). -/
def State.choose (s : State) : Option (Nat × Nat × Hostq) :=
  match s.arbitrated fun _ => true with
  | none => none
  | some (c, q, h) =>
    if ((mget s.hq.queues (qkey c q)).map s.heldBack).getD false then
      (s.arbitrated fun x => !s.heldBack x).map fun r => (r.1, r.2.1, s.hq)
    else some (c, q, h)

/-! ### Admission (03 R113 to R117, R126, R139, R140) -/

/-- The head admits commands at all: no standby entry, no dump, P0, serving (15 R581, R582, R601, 13 R537). -/
def State.admitting (s : State) : Bool :=
  s.power.standby == 0 && !s.dumpHolds && s.headState == 0 && s.serving && !s.rb Pg.HOSTQ Rg.HOSTQ_BP_STATUS 0

/-- The in-flight count rises; at 524,288 nothing more is admitted (03 R115). -/
def State.inFlight (s : State) : State :=
  let n := s.rdN Pg.HOSTQ Rg.HOSTQ_INFLIGHT + 1
  let s := s.wrN Pg.HOSTQ Rg.HOSTQ_INFLIGHT 0 n
  if n = 524288 then
    let s := ((s.wb Pg.HOSTQ Rg.HOSTQ_BP_STATUS 0 true).count Pg.HOSTQ Rg.HOSTQ_BP_COUNT 1).log Pg.HOSTQ Ev.HOSTQ_BP_ENTER [.v 1 0, .v 4 n]
    s.setHq { s.hq with bpSince := s.hq.bpSince.set 0 s.gts }
  else s

/-- What becomes of an admitted command: it is executed here, ends at once with a status, or goes to the partner. -/
def State.route (s : State) (c : Cmd) : Except (Nat × Nat) Bool :=
  if c.op = 0 ∧ c.nsid = 0xFFFFFFFF then .ok true
  else match s.nsp c.ns with
  | none => .error (0, 0x0B)
  | some x =>
    let a := s.anaState x.group
    if c.nsid = 0 then .error (0, 0x0B)
    else if a = 1 then .ok true
    else if a = 0xF then .error (3, 3)
    else if a = 4 then .error (3, 1)
    else if a = 2 ∧ s.rb Pg.HOSTQ Rg.HOSTQ_CFG 1 then .ok false
    else .error (3, 2)

/-- Take a command into execution: on a native queue a write gets its sequence number now. -/
def State.takeIn (s : State) (c : Cmd) : State :=
  let id := s.hq.nextCmd
  let s := s.setHq { s.hq with nextCmd := id + 1 }
  match s.route c with
  | .error st => (s.setCmd id c).done id st.1 st.2 []
  | .ok true =>
    if !c.compat && isWrite (((s.nsp c.ns).map (·.kv)).getD false) c.op then
      let r := s.takeSeq
      r.1.setCmd id { c with jseq := some r.2 }
    else s.setCmd id c
  | .ok false =>
    let g := ((s.nsp c.ns).map (·.group)).getD 0
    (s.setCmd id { c with phase := 1, away := true }).emit
      (.seam (17 + g % 8) 3 ([id, c.ctrl, c.qid, b2n c.compat] ++ (c.sqe ++ c.data).map (·.toNat)))

/-- COMMAND_ADMIT (03 R113). -/
def execCommandAdmit (s : State) : Res := actIf s s.admitting fun s =>
  match s.choose with
  | none => s
  | some (ctrl, qid, h) =>
    match mget s.hq.queues (qkey ctrl qid) with
    | none => s
    | some q => match q.staged with
      | [] => s
      | x :: rest =>
        let q' := { q with staged := rest, sqhd := if q.size = 0 then 0 else (q.sqhd + 1) % q.size }
        let s := (s.setHq { h with queues := mput h.queues (qkey ctrl qid) q' }).inFlight
        s.takeIn { ctrl, qid, sqe := padTo 64 x.sqe, data := x.data, compat := q.compat, admGts := s.gts }

/-- CAPSULE_RECEIVE (03 R118, R146): into the staging area, waking the head; beyond the queue's size the queue is reset. -/
def execCapsuleReceive (ctrl qid : Nat) (sqe data : List Byte) (s : State) : Res := actIf s (decide (0 < qid) && decide (qid < 256)) fun s =>
  match mget s.hq.queues (qkey ctrl qid) with
  | none => s
  | some q =>
    if q.size ≤ q.staged.length then
      (s.log Pg.HOSTQ Ev.HOSTQ_FLOW_BREACH [.v 2 ctrl, .v 2 qid]).queueReset ctrl qid 4 false
    else
      let s := s.setHq { s.hq with queues := mput s.hq.queues (qkey ctrl qid) { q with staged := q.staged ++ [{ sqe, data := data.take 16384 }] } }
      if 1 ≤ s.headState ∧ s.headState ≤ 3 then s.wakeP0 1 else s

/-- A command of the partner's hosts comes over the Seam (03 R139): it is executed here where this head reports its group Optimized. -/
def execForwardedCommand (fid ctrl qid : Nat) (compat : Bool) (sqe data : List Byte) (s : State) : Res :=
  let c : Cmd := { ctrl, qid, sqe := padTo 64 sqe, data, compat, fwd := true, fid, admGts := s.gts }
  let kv := ((s.nsp c.ns).map (·.kv)).getD false
  actIf s (s.power.standby == 0 && !s.dumpHolds && s.headState == 0 && s.serving &&
      !(s.rb Pg.HOSTQ Rg.HOSTQ_BP_STATUS 1 && isWrite kv c.op)) fun s =>
    match s.route c with
    | .ok false => s.setHq { s.hq with
        nextCmd := s.hq.nextCmd + 1, cmds := mput s.hq.cmds s.hq.nextCmd { c with phase := 2, sct := 3, sc := 2 } }
    | _ => s.takeIn c

/-! ### Completions (03 R114, R134, R136) -/

/-- Commands whose completion carries data read from the array (13 R523). -/
def Cmd.reads (c : Cmd) : Bool := c.op == 0x02 && c.sct == 0 && c.sc == 0

/-- In a takeover begun by a yield, no write for a group taken over completes in its first 50 µs (13 R544). -/
def State.tooEarly (s : State) (c : Cmd) : Bool :=
  let x := s.nsp c.ns
  (s.pairState == 4 || s.pairState == 5) && decide (s.pair.trigger ≤ 1) && decide (s.gts < s.pair.takeSince + 50000) &&
    isWrite ((x.map (·.kv)).getD false) c.op && !s.homeGroup ((x.map (·.group)).getD 0)

/-- A command's completion may be sent. -/
def State.mayEnd (s : State) (id : Nat) (c : Cmd) : Bool :=
  c.phase == 2 && !(c.reads && !s.releases) && !s.tooEarly c &&
    !(c.last && s.hq.cmds.any fun e => e.1 != id && e.2.ctrl == c.ctrl && e.2.qid == c.qid && !e.2.fwd)

/-- Send the completion of a command: to its host, or to the partner it came from. -/
def State.sendCpl (s : State) (id : Nat) (c : Cmd) : State :=
  let s := s.setHq { s.hq with cmds := mdel s.hq.cmds id }
  if c.fwd then
    let g := ((s.nsp c.ns).map (·.group)).getD 0
    s.emit (.seam (17 + g % 8) 4 ([c.fid, c.sct, c.sc] ++ c.result.map (·.toNat)))
  else
    let hd := ((mget s.hq.queues (qkey c.ctrl c.qid)).map (·.sqhd)).getD 0
    let s := s.emit (.hostCpl c.ctrl c.qid c.cid hd c.sct c.sc c.result)
    if c.last then s else s.endFlight true

/-- HOST_COMPLETION_SEND: `back` is the partner's answer to a command that was forwarded to it: status and result. -/
def execHostCompletionSend (id : Nat) (back : Option (Nat × Nat × List Byte)) (s : State) : Res :=
  match mget s.hq.cmds id with
  | none => .next s
  | some c =>
    let c := match back with
      | some b => if c.away && c.phase == 1 then { c with phase := 2, sct := b.1, sc := b.2.1, result := b.2.2 } else c
      | none => c
    actIf s (s.mayEnd id c) fun s => s.sendCpl id c

/-! ### Admin commands (03 R109, R119 to R122, R132, R133, R136, R141, R143) -/

/-- An admin command completes. -/
def State.adminCpl (s : State) (ctrl cid sct sc : Nat) (result : List Byte) : State := s.emit (.hostCpl ctrl 0 cid 0 sct sc result)

/-- A controller's entry. -/
def State.ctrl (s : State) (n : Nat) : Option Ctrl := mget s.hq.ctrls n

/-- Set a controller's entry. -/
def State.setCtrl (s : State) (n : Nat) (c : Ctrl) : State := s.setHq { s.hq with ctrls := mput s.hq.ctrls n c }

/-- A command to a connected controller. -/
def onCtrl (ctrl : Nat) (s : State) (f : State → Ctrl → State) : Res :=
  match s.ctrl ctrl with
  | none => .next s
  | some c => act s fun s => f s c

/-- ABORT_COMMAND (03 R132). -/
def execAbortCommand (ctrl cid : Nat) (s : State) : Res := onCtrl ctrl s fun s _ =>
  (s.count Pg.HOSTQ Rg.HOSTQ_ABORT_COUNT 1).adminCpl ctrl cid 0 0 (leBytes 4 1)

/-- NVMEOF_CONNECT (03 R107 to R109, R121). With queue 0 it creates a controller: its host, Keep Alive timeout in ms, and whether it has
ANA change notices enabled come with it. -/
def execNvmeofConnect (ctrl qid cid size conn host kato : Nat) (discovery noFlow notices : Bool) (s : State) : Res := act s fun s =>
  let refuse := fun (s : State) sc => s.emit (.hostCpl ctrl qid cid 0 1 sc [])
  if noFlow then refuse s 0x82
  else if qid = 0 then
    let id := freshKey s.hq.ctrls 0
    if 2048 ≤ s.hq.ctrls.length ∨ (discovery ∧ s.hq.ctrls.any fun e => e.2.discovery) then refuse s 0x81
    else if size = 0 ∨ 32 < size then refuse s 0x82
    else
      let s := s.setCtrl id { discovery, host, kato, kaSince := s.gts, anaNotice := notices }
      let s := (s.setHq { s.hq with queues := mput s.hq.queues (qkey id 0) { size, conn } }).showConn
      s.emit (.hostCpl id 0 cid 0 0 0 (leBytes 2 id))
  else match s.ctrl ctrl with
    | none => refuse s 0x82
    | some c =>
      let mine := s.hq.queues.filter fun e => e.1 / 256 == ctrl && e.1 % 256 != 0
      let all := s.hq.queues.filter fun e => e.1 % 256 != 0
      if 128 ≤ mine.length ∨ 16384 ≤ all.length then refuse s 0x81
      else if !c.ready ∨ c.discovery ∨ 128 < qid ∨ size = 0 ∨ 4096 < size ∨ (mget s.hq.queues (qkey ctrl qid)).isSome then refuse s 0x82
      else
        let a := mgetD 2 c.attrs qid
        let s := s.setCtrl ctrl { c with attrs := mdel c.attrs qid }
        let q : Queue := { size, cls := a % 4, compat := bitOf a 2, conn }
        let s := (s.setHq { s.hq with queues := mput s.hq.queues (qkey ctrl qid) q }).showConn
        s.emit (.hostCpl ctrl qid cid 0 0 0 (leBytes 2 ctrl))

/-- DISCONNECT (03 R133, R136): its completion follows those of the queue's commands. -/
def execDisconnect (ctrl qid cid : Nat) (s : State) : Res :=
  actIf s (decide (0 < qid) && (mget s.hq.queues (qkey ctrl qid)).isSome) fun s =>
    let s := s.queueReset ctrl qid 0 false
    let id := s.hq.nextCmd
    let sqe := [0x7F, 0] ++ leBytes 2 cid ++ List.replicate 60 (0 : Byte)
    (s.setHq { s.hq with nextCmd := id + 1 }).setCmd id { ctrl, qid, sqe, phase := 2, last := true, admGts := s.gts }

/-- SET_QUEUE_ATTRIBUTES (03 R120 to R122). -/
def execSetQueueAttributes (ctrl cid cdw11 : Nat) (s : State) : Res := onCtrl ctrl s fun s c =>
  let qid := bits cdw11 15 0
  if qid = 0 ∨ 128 < qid then s.adminCpl ctrl cid 0 2 []
  else if (mget s.hq.queues (qkey ctrl qid)).isSome then s.adminCpl ctrl cid 0 0x0C []
  else if bitOf cdw11 18 && !s.rb Pg.HOSTQ Rg.HOSTQ_CFG 0 then s.adminCpl ctrl cid 0 2 []
  else (s.setCtrl ctrl { c with attrs := mput c.attrs qid (bits cdw11 18 16) }).adminCpl ctrl cid 0 0 []

/-- ARBITRATION_FEATURE (03, Arbitration). -/
def execArbitrationFeature (ctrl cid cdw11 : Nat) (s : State) : Res := onCtrl ctrl s fun s c =>
  (s.setCtrl ctrl { c with ab := bits cdw11 2 0, low := bits cdw11 15 8, medium := bits cdw11 23 16, high := bits cdw11 31 24 }).adminCpl
    ctrl cid 0 0 []

/-- CONTROLLER_ENABLE (03 R119): CC is written with CC.EN 1. -/
def execControllerEnable (ctrl cc : Nat) (s : State) : Res := onCtrl ctrl s fun s c =>
  if c.enabled || !bitOf cc 0 then s
  else if 1 < bits cc 13 11 then s.setCtrl ctrl { c with enabled := true, ready := false, cfs := true }
  else s.setCtrl ctrl { c with enabled := true, ready := true, wrr := bits cc 13 11 == 1 }

/-- CONTROLLER_RESET (03 R133). -/
def execControllerReset (ctrl : Nat) (s : State) : Res := onCtrl ctrl s fun s c =>
  if !c.enabled then s
  else (s.resetController ctrl 3 false).setCtrl ctrl
    { discovery := c.discovery, host := c.host, kato := c.kato, kaSince := s.gts, anaNotice := c.anaNotice }

/-- KEEP_ALIVE. -/
def execKeepAlive (ctrl cid : Nat) (s : State) : Res := onCtrl ctrl s fun s c =>
  (s.setCtrl ctrl { c with kaSince := s.gts }).adminCpl ctrl cid 0 0 []

/-- A controller is no longer connected. -/
def State.dropCtrl (s : State) (ctrl : Nat) : State := (s.setHq { s.hq with ctrls := mdel s.hq.ctrls ctrl }).showConn

/-- KEEP_ALIVE_EXPIRY (03 R133). -/
def execKeepAliveExpiry (ctrl : Nat) (s : State) : Res :=
  match s.ctrl ctrl with
  | none => .next s
  | some c => actIf s (c.kato != 0 && decide (c.kaSince + c.kato * 1000000 ≤ s.gts)) fun s =>
      (s.resetController ctrl 2 false).dropCtrl ctrl

/-- TRANSPORT_CONNECTION_LOSS (03 R133, R137): the queues it carried; with its admin queue a controller is gone. -/
def execTransportConnectionLoss (conn : Nat) (s : State) : Res := act s fun s =>
  let gone := (s.hq.queues.filter fun e => e.2.conn == conn && e.1 % 256 == 0).map fun e => e.1 / 256
  let s := s.connLost conn
  gone.foldl (fun s c => (s.resetController c 1 true).dropCtrl c) s

/-- HOSTQ_QRESET (03 R133, R151). -/
def execHostqQreset (master value : Nat) (s : State) : Res := act s fun s =>
  s.regCmd { page := Pg.HOSTQ, off := Rg.HOSTQ_QRESET, master, value } fun s _ =>
    let ctrl := bits value 10 0
    let qid := bits value 26 11
    let code := fun (s : State) c => s.wf Pg.HOSTQ Rg.HOSTQ_QRESET_STATUS 15 8 c
    if s.rb Pg.HOSTQ Rg.HOSTQ_QRESET_STATUS 0 then code s St.LOCKED
    else if 256 ≤ qid ∨ (mget s.hq.queues (qkey ctrl qid)).isNone then code s St.BAD_INPUT
    else code (s.queueReset ctrl qid 5 false) St.OK

/-- HOSTQ_ANA_STATE_WRITE (03 R141, R150). -/
def execHostqAnaStateWrite (master value : Nat) (s : State) : Res := act s fun s =>
  s.regCmd { page := Pg.HOSTQ, off := Rg.HOSTQ_ANA_STATE, master, value } fun s old =>
    let g := s.rf Pg.HOSTQ Rg.HOSTQ_ANA_SEL 6 0
    (s.wrN Pg.HOSTQ Rg.HOSTQ_ANA_STATE g old).setAna (g + 1) (bits value 3 0)

/-- SET_POWER_STATE (03 R143): by a host's command, or, with none, by the controller's own transition. -/
def execSetPowerState (ctrl : Nat) (cid : Option Nat) (ps : Nat) (s : State) : Res := onCtrl ctrl s fun s c =>
  let cpl := fun (s : State) sc => match cid with | some n => s.adminCpl ctrl n 0 sc [] | none => s
  if 3 < ps then cpl s 2
  else
    let s := cpl (s.setCtrl ctrl { c with ps }) 0
    if s.permitted < s.headState then s.wakeP0 2 else s

/-- ANA_LOG_PAGE (03 R141): the change count and, for each group with namespaces, its state. -/
def execAnaLogPage (ctrl cid : Nat) (s : State) : Res := onCtrl ctrl s fun s _ =>
  let groups := ((List.range 128).map (· + 1)).filter fun g => s.map.nss.any fun e => e.2.group == g
  let count := s.rdN Pg.HOSTQ Rg.HOSTQ_ANA_CHGCNT
  let desc := groups.flatMap fun g =>
    let ns := (s.map.nss.filter fun e => e.2.group == g).map (·.1)
    leBytes 4 g ++ leBytes 4 ns.length ++ leBytes 8 count ++ leBytes 1 (s.anaState g) ++ List.replicate 15 0 ++ ns.flatMap fun n => leBytes 4 (n + 1)
  s.adminCpl ctrl cid 0 0 (leBytes 8 count ++ leBytes 2 groups.length ++ List.replicate 6 0 ++ desc)

/-! ### Namespaces (03 R108, R138, 09 R366) -/

/-- NAMESPACE_CREATE: the lowest free index is taken; a tree begins as one empty directory page. -/
def execNamespaceCreate (ctrl cid blocks group domain : Nat) (kv : Bool) (pi : Nat) (meta8 : Bool) (s : State) : Res := onCtrl ctrl s fun s _ =>
  let n := freshKey s.map.nss 0
  if maxBlocks < blocks ∨ group = 0 ∨ 128 < group ∨ 1024 ≤ domain ∨ 3 < pi then s.adminCpl ctrl cid 0 2 []
  else if 65536 ≤ s.map.nss.length ∨ (kv ∧ 4096 ≤ (s.map.nss.filter fun e => e.2.kv).length) then s.adminCpl ctrl cid 1 0x16 []
  else
    let r := if kv then (s, none) else
      let p := s.newMapPage { ns := n, body := .dir [], dirty := some s.hq.jseq }
      (p.1, some p.2)
    (r.1.setNs n { group, domain, kv, blocks := if kv then 0 else blocks, pi, meta8, levels := levelsFor blocks, top := r.2 }).adminCpl
      ctrl cid 0 0 (leBytes 4 (n + 1))

/-- Put directory pages on top of a tree, the old top as entry 0 of each. -/
def State.addLevels (s : State) (n : Nat) : Nat → Option Nat → State × Option Nat
  | 0, t => (s, t)
  | k + 1, t =>
    let p := s.newMapPage { ns := n, body := .dir (match t with | some x => [(0, x)] | none => []), dirty := some s.hq.jseq }
    State.addLevels p.1 n k (some p.2)

/-- NAMESPACE_RESIZE. -/
def execNamespaceResize (ctrl cid n blocks : Nat) (s : State) : Res := onCtrl ctrl s fun s _ =>
  match s.nsp n with
  | none => s.adminCpl ctrl cid 0 0x0B []
  | some x =>
    if maxBlocks < blocks ∨ x.kv ∨ x.snapOf.isSome then s.adminCpl ctrl cid 0 2 []
    else
      let levels := max x.levels (levelsFor blocks)
      let r := s.addLevels n (levels - x.levels) x.top
      (r.1.modNs n fun y => { y with blocks, levels, top := r.2 }).adminCpl ctrl cid 0 0 []

end Sys2Proof.Machine
end

