-- ==== Sys2Proof/Machine/HostCmds.lean ====
section
/-! DEFINITION. Host I/O commands: NVM and Key Value (03 R107 to R112, R127 to R131, 01 R38 to R45). Data that the host sends, and
original bytes of chunks as the read strand gets them, come with the command (log 57). -/
namespace Sys2Proof.Machine

/-! ### Starting and ending -/

/-- Admitted commands of the same queue before a command; after it. -/
def State.sameQueue (s : State) (c : Cmd) : List (Nat × Cmd) :=
  s.hq.cmds.filter fun e => e.2.ctrl == c.ctrl && e.2.qid == c.qid && e.2.fwd == c.fwd

/-- A command may start (03 R128): an ordered one after every earlier command of its queue has completed, and none while an earlier
ordered one has not. The two halves of a fused pair start together. -/
def State.mayStart (s : State) (id : Nat) (c : Cmd) : Bool :=
  (s.sameQueue c).all fun e => decide (id ≤ e.1) || !(c.ordered || e.2.ordered)

/-- Run a command that has been admitted, has not been done, may start, and has one of `ops` as its opcode. -/
def cmdAct (id : Nat) (kv : Bool) (ops : List Nat) (s : State) (f : State → Cmd → Ns → State) : Res :=
  match mget s.hq.cmds id with
  | none => .next s
  | some c => match s.nsp c.ns with
    | none => .next s
    | some x => actIf s (c.phase == 0 && x.kv == kv && decide (c.op ∈ ops) && c.fuse == 0 && s.mayStart id c) fun s => f s c x

/-- Bytes of a block as it crosses to the host (03 R107). -/
def Ns.blockBytes (x : Ns) : Nat := if x.meta8 then 4104 else 4096

/-- Reservation types that bar reads, and that admit every registrant. -/
def Resv.bars (r : Resv) (write : Bool) : Bool := write || r.rtype == 2 || r.rtype == 4 || r.rtype == 6
def Resv.open' (r : Resv) : Bool := decide (3 ≤ r.rtype)

/-- A command of a host conflicts with the namespace's reservation. -/
def State.conflicts (s : State) (c : Cmd) (write : Bool) : Bool :=
  match mget s.hq.resv c.ns with
  | none => false
  | some r =>
    let host := ((s.ctrl c.ctrl).map (·.host)).getD 0
    r.rtype != 0 && r.bars write && !(r.holder == some host) && !(r.open' && r.regs.any fun g => g.1 == host)

/-- What ends a block command before it moves data: its range, its length, its queue's mode (03 R110, R130), a snapshot (10 R417), a
reservation. -/
def State.blockBad (s : State) (c : Cmd) (x : Ns) (blocks : Nat) (write move : Bool) : Option (Nat × Nat) :=
  if move && decide (2 ^ 21 < blocks * x.blockBytes) then some (0, 0x02)
  else if move && c.compat && (bitOf (c.dw 12) 26 || bitOf (c.dw 12) 27) then some (0, 0x02)
  else if x.blocks < c.slba + blocks then some (0, 0x80)
  else if write && x.snapOf.isSome then some (0, 0x20)
  else if s.conflicts c write then some (0, 0x83)
  else none

/-! ### Reading (01 R41, R44, R45, 08 R335, R336) -/

/-- Records whose data a read sees: retained, not yet recorded, and acknowledged. -/
def State.visible (s : State) (r : JRec) : Bool := !r.recorded && (s.pairState != 3 || decide (r.jseq ≤ s.ackedJ) || decide (r ∈ s.pair.shadow))

/-- The newest of a list of records. -/
def newestRec (l : List JRec) : Option JRec :=
  l.foldl (fun b r => match b with | some x => if x.jseq < r.jseq then some r else b | none => some r) none

/-- The record that holds block `lba`. -/
def State.overlay (s : State) (n lba : Nat) : Option JRec :=
  newestRec (s.retained.filter fun r => s.visible r && r.ns == n && decide (1 ≤ r.kind) && decide (r.kind ≤ 3) && decide (r.loc ≤ lba) &&
    decide (lba < r.loc + r.count))

/-- What became of a chunk that was read. -/
def State.settleGot (s : State) (g : Got) : State :=
  let c := (s.chunk g.chunk).getD {}
  if g.verdict = 1 then (s.countSat Pg.QUILT Rg.QUILT_DATAFIX 1).queueGc 2 c.bolt (some c.stripe)
  else if g.verdict = 2 then (s.countSat Pg.QUILT Rg.QUILT_CHECKFIX 1).queueGc 2 c.bolt (some c.stripe)
  else if g.verdict = 3 ∧ !c.lost then s.loseChunks c.bolt c.stripe c.patches [g.chunk]
  else s

/-- Bytes that a read gives: none while a chunk it needs is not there yet; a status where it fails. -/
abbrev ReadRes := State × Option (Except (Nat × Nat) (List Byte))

/-- The original bytes of a list of chunks, each at an offset and length. -/
def State.chunksOf (s : State) (got : List Got) (ids : List Nat) : State × Option (Except (Nat × Nat) (List (List Byte))) :=
  let lost := fun id => (s.chunk id).all fun c => c.lost
  let need := ids.filter fun id => !lost id
  if need.any fun id => !got.any fun g => g.chunk == id then (s, none)
  else
    let used := got.filter fun g => decide (g.chunk ∈ need)
    let s := used.foldl (fun s g => s.settleGot g) s
    if ids.any (fun id => lost id) || used.any fun g => g.verdict == 3 then (s, some (.error (2, 0x81)))
    else (s, some (.ok (ids.map fun id => ((used.find? fun g => g.chunk == id).map (·.data)).getD [])))

/-- The blocks from `lba`: from records not yet recorded, else through the map. -/
def State.readBlocks (s : State) (n : Nat) (x : Ns) (lba count : Nat) (got : List Got) : ReadRes :=
  let bs := x.blockBytes
  let at' := (List.range count).map (lba + ·)
  let looked := (at'.filter fun b => (s.overlay n b).isNone).foldl (fun (a : State × SMap MEntry × Bool) b =>
    if (mget a.2.1 (b / 4)).isSome then a
    else
      let q := a.1.lookupGrain [] n (b / 4)
      match q.2.1 with
      | .ok e => (q.1, mput a.2.1 (b / 4) e, a.2.2)
      | .error _ => (q.1, a.2.1, true)) (s, [], false)
  let s := looked.1
  if looked.2.2 then (s, some (.error (2, 0x81)))
  else
    let ids := (looked.2.1.filter fun e => e.2.kind == 1).map fun e => e.2.target
    let r := s.chunksOf got ids
    match r.2 with
    | none => (r.1, none)
    | some (.error c) => (r.1, some (.error c))
    | some (.ok ds) =>
      let data := (ids.zip ds)
      (r.1, some (.ok (at'.flatMap fun b =>
        match s.overlay n b with
        | some q => if q.kind = 1 then sliceB q.data ((b - q.loc) * bs) bs else List.replicate bs 0
        | none =>
          let e := mgetD {} looked.2.1 (b / 4)
          if e.kind = 1 then sliceB (((data.find? fun d => d.1 == e.target).map (·.2)).getD []) (b % 4 * bs) bs else List.replicate bs 0)))

/-- NVM_READ. -/
def execNvmRead (id : Nat) (got : List Got) (s : State) : Res := cmdAct id false [0x02] s fun s c x =>
  match s.blockBad c x c.nlb false true with
  | some e => s.done id e.1 e.2 []
  | none =>
    let r := s.readBlocks c.ns x c.slba c.nlb got
    match r.2 with
    | none => s
    | some (.error e) => r.1.done id e.1 e.2 []
    | some (.ok b) => r.1.done id 0 0 b

/-- COMPARE; `data` is what the host sends. -/
def execCompare (id : Nat) (got : List Got) (data : List Byte) (s : State) : Res := cmdAct id false [0x05] s fun s c x =>
  match s.blockBad c x c.nlb false true with
  | some e => s.done id e.1 e.2 []
  | none =>
    let r := s.readBlocks c.ns x c.slba c.nlb got
    match r.2 with
    | none => s
    | some (.error e) => r.1.done id e.1 e.2 []
    | some (.ok b) => if b = padTo b.length data then r.1.done id 0 0 [] else r.1.done id 2 0x85 []

/-! ### Writing (01 R38, 13 R526) -/

/-- A command's record has been made: it is acknowledged here, or waits for the partner (01 R38, 13 R534). -/
def State.written (s : State) (id jseq : Nat) : State :=
  s.setHq { s.hq with cmds := mmod s.hq.cmds id fun c => { c with jseq := some jseq, phase := if s.pairState = 3 then 1 else 2 } }

/-- Records for a command, each with a sequence number: the first has the number the command holds, if it holds one. -/
def State.putRecs (s : State) (id : Nat) (c : Cmd) (rs : List JRec) : State :=
  let r := rs.foldl (fun (a : State × Option Nat × Nat) r =>
    let q := match a.2.1 with | some q => (a.1, q) | none => a.1.takeSeq
    (q.1.putRec { r with jseq := q.2, ns := c.ns, domain := ((s.nsp c.ns).map (·.domain)).getD 0, admGts := c.admGts }, none, q.2)) (s, c.jseq, 0)
  if rs = [] then s.failCmd id c (0, 0) else r.1.written id r.2.2

/-- NVM_WRITE: `data` is what the host sends; `bad` the status with which its transfer or its protection check fails. -/
def execNvmWrite (id : Nat) (data : List Byte) (bad : Option (Nat × Nat)) (s : State) : Res := cmdAct id false [0x01] s fun s c x =>
  match s.blockBad c x c.nlb true true, bad with
  | some e, _ => s.failCmd id c e
  | none, some e => s.failCmd id c e
  | none, none =>
    s.putRecs id c [{ jseq := 0, kind := 1, loc := c.slba, count := c.nlb, data := padTo (c.nlb * x.blockBytes) data }]

/-- FLUSH: what has been acknowledged is kept through power loss already (DEDUCED, log 57). -/
def execFlush (id : Nat) (s : State) : Res :=
  match mget s.hq.cmds id with
  | none => .next s
  | some c => actIf s (c.phase == 0 && c.op == 0 && c.fuse == 0 && s.mayStart id c) fun s => s.done id 0 0 []

/-- WRITE_ZEROES (09 R371). -/
def execWriteZeroes (id : Nat) (s : State) : Res := cmdAct id false [0x08] s fun s c x =>
  match s.blockBad c x c.nlb true false with
  | some e => s.failCmd id c e
  | none => s.putRecs id c [{ jseq := 0, kind := 3, loc := c.slba, count := c.nlb }]

/-- The ranges of Dataset Management: first block and blocks of each. -/
def dsmRanges (b : List Byte) (n : Nat) : List (Nat × Nat) := (List.range n).map fun i => (leAt b (16 * i + 8) 8, leAt b (16 * i + 4) 4)

/-- DATASET_MANAGEMENT (09 R371): deallocate only; each range of blocks is one record. -/
def execDatasetManagement (id : Nat) (data : List Byte) (s : State) : Res := cmdAct id false [0x09] s fun s c x =>
  let rs := (dsmRanges data (c.dw 10 % 256 + 1)).filter fun r => r.2 != 0
  if !bitOf (c.dw 11) 2 then s.failCmd id c (0, 0)
  else if x.snapOf.isSome then s.failCmd id c (0, 0x20)
  else if s.conflicts c true then s.failCmd id c (0, 0x83)
  else if rs.any fun r => decide (x.blocks < r.1 + r.2) then s.failCmd id c (0, 0x80)
  else s.putRecs id c (rs.map fun r => { jseq := 0, kind := 2, loc := r.1, count := r.2 })

/-- The source ranges of Copy: first block and blocks of each. -/
def copyRanges (b : List Byte) (n : Nat) : List (Nat × Nat) := (List.range n).map fun i => (leAt b (32 * i + 8) 8, leAt b (32 * i + 16) 2 + 1)

/-- Read several ranges. -/
def State.readRanges (s : State) (n : Nat) (x : Ns) (got : List Got) (rs : List (Nat × Nat)) : ReadRes :=
  rs.foldl (fun a r => match a.2 with
    | some (.ok b) =>
      let q := a.1.readBlocks n x r.1 r.2 got
      (match q.2 with
      | some (.ok d) => (q.1, some (.ok (b ++ d)))
      | z => (q.1, z))
    | _ => a) (s, some (.ok []))

/-- COPY (13 R526): journalled as WRITE. -/
def execCopy (id : Nat) (got : List Got) (data : List Byte) (s : State) : Res := cmdAct id false [0x19] s fun s c x =>
  let rs := copyRanges data (c.dw 12 % 256 + 1)
  let blocks : Nat := (rs.map (·.2)).sum
  match s.blockBad c x blocks true true with
  | some e => s.failCmd id c e
  | none =>
    if rs.any fun r => decide (x.blocks < r.1 + r.2) then s.failCmd id c (0, 0x80)
    else
      let r := s.readRanges c.ns x got rs
      match r.2 with
      | none => s
      | some (.error e) => r.1.failCmd id c e
      | some (.ok b) => r.1.putRecs id c [{ jseq := 0, kind := 1, loc := c.slba, count := blocks, data := b }]

/-- COMPARE_AND_WRITE (03 R131, 13 R526): the fused pair, the command and the one admitted next from its queue. A pair that does not
match its blocks ends both halves; a half without its other ends alone. -/
def execCompareAndWrite (id : Nat) (got : List Got) (cmp data : List Byte) (s : State) : Res :=
  match mget s.hq.cmds id with
  | none => .next s
  | some c =>
    let next := (s.sameQueue c).find? fun e => decide (id < e.1)
    match s.nsp c.ns, next with
    | some x, some (wid, w) =>
      actIf s (c.phase == 0 && !x.kv && c.op == 0x05 && c.fuse == 1 && s.mayStart id c) fun s =>
        if !(w.op == 0x01 && w.fuse == 2 && w.phase == 0 && w.ns == c.ns) then s.failCmd id c (0, 0x0A)
        else
          let both := fun (s : State) a b => (s.failCmd id c a).failCmd wid w b
          if w.slba ≠ c.slba ∨ w.nlb ≠ c.nlb then both s (0, 0x02) (0, 0x09)
          else match s.blockBad c x c.nlb true true, s.blockBad w x w.nlb true true with
            | some e, _ => both s e (0, 0x09)
            | none, some e => both s (0, 0x09) e
            | none, none =>
              let r := s.readBlocks c.ns x c.slba c.nlb got
              match r.2 with
              | none => s
              | some (.error e) => both r.1 e (0, 0x09)
              | some (.ok b) =>
                if b ≠ padTo b.length cmp then both r.1 (2, 0x85) (0, 0x09)
                else (r.1.done id 0 0 []).putRecs wid w
                  [{ jseq := 0, kind := 1, loc := w.slba, count := w.nlb, data := padTo (w.nlb * x.blockBytes) data }]
    | _, _ => .next s

/-- UNSUPPORTED_NVM_COMMAND (03 R107): Write Uncorrectable, Verify, Zone Management, and any opcode that is none of the table's. -/
def execUnsupportedNvmCommand (id : Nat) (s : State) : Res :=
  match mget s.hq.cmds id with
  | none => .next s
  | some c =>
    let known := if ((s.nsp c.ns).map (·.kv)).getD false then [0x00, 0x01, 0x02, 0x06, 0x10, 0x14]
      else [0x00, 0x01, 0x02, 0x05, 0x08, 0x09, 0x0D, 0x0E, 0x11, 0x15, 0x19]
    actIf s (c.phase == 0 && decide (c.op ∉ known)) fun s => s.failCmd id c (0, 0x01)

/-! ### Reservations (03 R107) -/

/-- A namespace's reservation; set it. -/
def State.resv (s : State) (n : Nat) : Resv := mgetD {} s.hq.resv n
def State.setResv (s : State) (n : Nat) (r : Resv) : State := s.setHq { s.hq with resv := mputD {} s.hq.resv n r }

/-- A host's key, if it is registered. -/
def Resv.key (r : Resv) (host : Nat) : Option Nat := (r.regs.find? fun g => g.1 == host).map (·.2)

/-- A host is no longer registered; a reservation it held alone is released. -/
def Resv.drop (r : Resv) (out : Nat × Nat → Bool) : Resv :=
  let regs := r.regs.filter fun g => !out g
  let gone := r.regs.any fun g => out g && r.holder == some g.1
  if r.rtype = 0 then { r with regs }
  else if 5 ≤ r.rtype then (if regs = [] then { r with regs, holder := none, rtype := 0 } else { r with regs })
  else if gone then { r with regs, holder := none, rtype := 0 }
  else { r with regs }

/-- RESERVATION_REGISTER: `data` holds the current key and the new key. -/
def execReservationRegister (id : Nat) (data : List Byte) (s : State) : Res := cmdAct id false [0x0D] s fun s c _ =>
  let host := ((s.ctrl c.ctrl).map (·.host)).getD 0
  let r := s.resv c.ns
  let cur := leAt data 0 8
  let new := leAt data 8 8
  let act' := c.dw 10 % 8
  let mine := r.key host
  let good := bitOf (c.dw 10) 3 || mine == some cur
  if 2 < act' then s.done id 0 2 []
  else if act' = 0 then
    if mine.isSome && mine != some new then s.done id 0 0x83 []
    else if mine.isSome then s.done id 0 0 []
    else (s.setResv c.ns { r with regs := r.regs ++ [(host, new)], gen := r.gen + 1 }).done id 0 0 []
  else if mine.isNone || !good then s.done id 0 0x83 []
  else if act' = 1 then
    let t := r.drop fun g => g.1 == host
    (s.setResv c.ns { t with gen := r.gen + 1 }).done id 0 0 []
  else
    (s.setResv c.ns { r with regs := r.regs.map fun g => if g.1 = host then (host, new) else g, gen := r.gen + 1 }).done id 0 0 []

/-- RESERVATION_REPORT: generation, type, registrants; for each whether it holds the reservation, its host and its key. -/
def execReservationReport (id : Nat) (s : State) : Res := cmdAct id false [0x0E] s fun s c _ =>
  let r := s.resv c.ns
  let one := fun (g : Nat × Nat) =>
    [0xFF, 0xFF] ++ leBytes 1 (b2n (r.rtype != 0 && (r.holder == some g.1 || decide (5 ≤ r.rtype)))) ++ List.replicate 5 0 ++ leBytes 8 g.1 ++ leBytes 8 g.2
  let b := leBytes 4 r.gen ++ leBytes 1 r.rtype ++ leBytes 2 r.regs.length ++ List.replicate 17 0 ++ r.regs.flatMap one
  s.done id 0 0 (b.take (4 * (c.dw 10 + 1)))

/-- RESERVATION_ACQUIRE: `data` holds the current key and the key to preempt. -/
def execReservationAcquire (id : Nat) (data : List Byte) (s : State) : Res := cmdAct id false [0x11] s fun s c _ =>
  let host := ((s.ctrl c.ctrl).map (·.host)).getD 0
  let r := s.resv c.ns
  let mine := r.key host
  let rtype := c.dw 10 / 256 % 256
  let act' := c.dw 10 % 8
  let pre := leAt data 8 8
  let holds := r.holder == some host || (decide (5 ≤ r.rtype) && mine.isSome)
  if 2 < act' ∨ rtype = 0 ∨ 6 < rtype then s.done id 0 2 []
  else if mine != some (leAt data 0 8) then s.done id 0 0x83 []
  else if act' = 0 then
    if r.rtype = 0 then (s.setResv c.ns { r with holder := some host, rtype }).done id 0 0 []
    else if holds && r.rtype == rtype then s.done id 0 0 []
    else s.done id 0 0x83 []
  else
    let victim := (r.holder.bind r.key).any fun k => k == pre
    let all := decide (5 ≤ r.rtype) && pre == 0
    let t := r.drop fun g => g.1 != host && (all || g.2 == pre)
    if !all && !(r.regs.any fun g => g.2 == pre) then s.done id 0 0x83 []
    else
      let t := if r.rtype = 0 ∨ !(victim || all) then t else { t with holder := some host, rtype }
      (s.setResv c.ns { t with gen := r.gen + 1 }).done id 0 0 []

/-- RESERVATION_RELEASE: `data` holds the current key. -/
def execReservationRelease (id : Nat) (data : List Byte) (s : State) : Res := cmdAct id false [0x15] s fun s c _ =>
  let host := ((s.ctrl c.ctrl).map (·.host)).getD 0
  let r := s.resv c.ns
  let mine := r.key host
  let act' := c.dw 10 % 8
  let holds := r.rtype != 0 && (r.holder == some host || decide (5 ≤ r.rtype))
  if 1 < act' then s.done id 0 2 []
  else if mine != some (leAt data 0 8) then s.done id 0 0x83 []
  else if act' = 1 then (s.setResv c.ns { gen := r.gen + 1 }).done id 0 0 []
  else if !holds then s.done id 0 0 []
  else if r.rtype ≠ c.dw 10 / 256 % 256 then s.done id 0 2 []
  else (s.setResv c.ns { r with holder := none, rtype := 0 }).done id 0 0 []

/-! ### Key Value commands (03 R110 to R112, 09 R372) -/

/-- A command's key: length, and the number that its bytes and its length make. -/
def Cmd.keyLen (c : Cmd) : Nat := c.dw 11 % 256
def Cmd.keyNum (c : Cmd) : Nat := (c.dw 2 + 2 ^ 32 * c.dw 3 + 2 ^ 64 * c.dw 14 + 2 ^ 96 * c.dw 15) % 2 ^ (8 * min c.keyLen 16)
def Cmd.key (c : Cmd) : Nat := c.keyNum + 2 ^ 128 * c.keyLen

/-- The newest record of a key that has not been recorded; only acknowledged ones where `seen`. -/
def State.keyOverlay (s : State) (n k : Nat) (seen : Bool) : Option JRec :=
  newestRec (s.retained.filter fun r => r.names n k && !r.recorded && (!seen || s.visible r))

/-- A key holds a value. -/
def State.holdsKey (s : State) (n : Nat) (x : Ns) (k : Nat) (seen : Bool) : Bool :=
  match s.keyOverlay n k seen with
  | some r => r.kind == 4
  | none => (mget x.values k).isSome

/-- The key's length is wrong (03 R110). -/
def Cmd.badKey (c : Cmd) : Bool := c.keyLen == 0 || decide (16 < c.keyLen)

/-- KV_STORE (03 R110, R112): its options are CDW11 bits 8 (key must exist) and 9 (key must not exist). -/
def execKvStore (id : Nat) (data : List Byte) (bad : Option (Nat × Nat)) (s : State) : Res := cmdAct id true [0x01] s fun s c x =>
  let size := c.dw 10
  let has := s.holdsKey c.ns x c.key false
  if c.badKey then s.failCmd id c (0, 0x86)
  else if 2 ^ 28 < size then s.failCmd id c (0, 0x85)
  else if x.snapOf.isSome then s.failCmd id c (0, 0x20)
  else match bad with
    | some e => s.failCmd id c e
    | none =>
      if bitOf (c.dw 11) 9 && has then s.failCmd id c (0, 0x89)
      else if bitOf (c.dw 11) 8 && !has then s.failCmd id c (0, 0x87)
      else s.putRecs id c [{
        jseq := 0, kind := 4, loc := c.keyNum % 2 ^ 64, keyHi := c.keyNum / 2 ^ 64, keyLen := c.keyLen, count := size, data := padTo size data }]

/-- KV_RETRIEVE (03 R111): one whole value, up to the host's buffer. -/
def execKvRetrieve (id : Nat) (got : List Got) (s : State) : Res := cmdAct id true [0x02] s fun s c x =>
  if c.badKey then s.done id 0 0x86 []
  else match s.keyOverlay c.ns c.key true with
    | some r => if r.kind = 4 then s.done id 0 0 (r.data.take (c.dw 10)) else s.done id 0 0x87 []
    | none => match mget x.values c.key with
      | none => s.done id 0 0x87 []
      | some v =>
        let r := s.chunksOf got v.chunks
        match r.2 with
        | none => s
        | some (.error e) => r.1.done id e.1 e.2 []
        | some (.ok ds) => r.1.done id 0 0 ((padTo v.len ds.flatten).take (c.dw 10))

/-- KV_DELETE (09 R372). -/
def execKvDelete (id : Nat) (s : State) : Res := cmdAct id true [0x10] s fun s c x =>
  if c.badKey then s.failCmd id c (0, 0x86)
  else if x.snapOf.isSome then s.failCmd id c (0, 0x20)
  else if !s.holdsKey c.ns x c.key false then s.failCmd id c (0, 0x87)
  else s.putRecs id c [{ jseq := 0, kind := 5, loc := c.keyNum % 2 ^ 64, keyHi := c.keyNum / 2 ^ 64, keyLen := c.keyLen }]

/-- KV_EXIST. -/
def execKvExist (id : Nat) (s : State) : Res := cmdAct id true [0x14] s fun s c x =>
  if c.badKey then s.done id 0 0x86 []
  else if s.holdsKey c.ns x c.key true then s.done id 0 0 [] else s.done id 0 0x87 []

/-- A key's bytes in a list: its length, its bytes, filled up to a multiple of 4. -/
def keyEntry (k : Nat) : List Byte :=
  let n := k / 2 ^ 128
  padTo (roundUp (2 + n) 4) (leBytes 2 n ++ leBytes n (k % 2 ^ 128))

/-- KV_LIST: keys from the command's key on, in the model's order (DESIGN CHOICE, log 57), as many as the buffer takes. -/
def execKvList (id : Nat) (s : State) : Res := cmdAct id true [0x06] s fun s c x =>
  let recent := (s.retained.filter fun r => r.ns == c.ns && (r.kind == 4 || r.kind == 5)).map (·.key)
  let all := recent.foldl (fun m k => mput m k ()) (x.values.map fun v => (v.1, ()))
  let keys := (all.map (·.1)).filter fun k => decide (c.key ≤ k) && s.holdsKey c.ns x k true
  let fit := keys.foldl (fun (a : List Nat × Nat) k =>
    let n := (keyEntry k).length
    if a.2 + n ≤ c.dw 10 then (a.1 ++ [k], a.2 + n) else (a.1, c.dw 10 + 1)) ([], 4)
  s.done id 0 0 ((leBytes 4 fit.1.length ++ fit.1.flatMap keyEntry).take (c.dw 10))

end Sys2Proof.Machine
end

