-- ==== Sys2Proof/Machine/Pleat.lean ====
section
/-! DEFINITION. Pleat's jobs and contexts (07 R275 to R292). -/
namespace Sys2Proof.Machine

/-- The descriptor's fields (07 R291). -/
def Job.ctx (j : Job) : Nat := j.f 12 2 % 4096
def Job.fmt (j : Job) : Nat := j.f 14 1
def Job.media (j : Job) : Bool := j.fmt % 4 == 0
def Job.level (j : Job) : Nat := j.fmt / 16
def Job.inLen (j : Job) : Nat := j.f 16 4
def Job.outLen (j : Job) : Nat := j.f 20 4
def Job.outLimit (j : Job) : Nat := j.f 40 4
def Job.windowLog (j : Job) : Nat := j.f 44 2 % 32
def Job.checksum (j : Job) : Bool := bitOf (j.f 44 2) 8
def Job.flush (j : Job) : Bool := j.eflag 10
def Job.more (j : Job) : Bool := j.eflag 11
def Job.resume (j : Job) : Bool := j.eflag 12

/-- A descriptor every Pleat job rejects (07 R282, R291, 01 R32). A resumed job may name no input: the first may have taken it
all (DEDUCED, log 36). -/
def Job.pleatBad (j : Job) : Bool :=
  j.eflag 15 || j.f 12 2 / 4096 != 0 || decide (1 < j.fmt % 4) || j.fmt / 4 % 4 != 0 || decide (6 < j.level) ||
    !j.zero 15 1 || decide (2 ^ 28 < j.inLen) || (j.inLen == 0 && !j.resume) || !j.zero 46 18 ||
    j.f 44 2 / 32 % 8 != 0 || decide (512 ≤ j.f 44 2) || (j.opcode == 1 && j.outLimit != 0) ||
    (j.opcode == 1 && j.media && !j.resume && (decide (65536 < j.inLen) || j.more)) ||
    (j.opcode == 1 && !j.media && decide (j.windowLog < 10 ∨ 23 < j.windowLog)) ||
    (j.eflag 13 && j.src % 64 != 0) || (j.eflag 14 && j.dst % 64 != 0)

/-- PLEAT_CTX_FREE. -/
def State.showPleat (s : State) : State := s.wrN Pg.PLEAT Rg.PLEAT_CTX_FREE 0 (4096 - s.pleat.length)

/-- Hold or free a context. -/
def State.setPleat (s : State) (n : Nat) (c : Option PleatCtx) : State :=
  ({ s with pleat := match c with | some c => mput s.pleat n c | none => mdel s.pleat n }).showPleat

/-- The counts of a completion (07 R292). -/
def pleatCounts (used made check stored : Nat) : Nat := used + 2 ^ 32 * made + 2 ^ 64 * check + 2 ^ 96 * stored

/-- The engine's byte counters. -/
def State.pleatBytes (s : State) (used made : Nat) : State :=
  (s.count64 Pg.PLEAT Rg.PLEAT_IN_BYTES_LO used).count64 Pg.PLEAT Rg.PLEAT_OUT_BYTES_LO made

/-- Give out what the buffer holds of a context's pending output, and end the job: OUT_FULL while more is pending. -/
def State.giveOut (s : State) (j : Job) (c : PleatCtx) (used : Nat) : State × JobRes :=
  let now := c.pending.take j.outLen
  let rest := c.pending.drop j.outLen
  let a := s.areas j.acc (j.eflag 14) j.dst (if j.eflag 14 then j.outLen else now.length)
  match a.2 with
  | .error e => (a.1.setPleat j.ctx none, stRes e)
  | .ok as =>
    let w := a.1.writeAreas j.acc as now
    let s := w.1.pleatBytes used now.length
    let res := fun (st : Nat) => ({ status := st, counts := pleatCounts used now.length c.check c.stored } : JobRes)
    if !fine w.2 then (s.setPleat j.ctx none, res w.2)
    else if rest.isEmpty then
      let s := if c.final = St.NO_GAIN then s.count Pg.PLEAT Rg.PLEAT_NO_GAIN_COUNT 1 else s
      if j.opcode = 1 ∧ j.more ∧ !j.media then (s.setPleat j.ctx (some { c with pending := [], stopped := false }), res c.final)
      else (s.setPleat j.ctx none, res (worse c.final w.2))
    else
      let hist := as.foldl (fun (h : List (Nat × List Byte) × List Byte) x => (h.1 ++ [(x.1, h.2.take x.2)], h.2.drop x.2))
        (c.history, now)
      (s.setPleat j.ctx (some { c with pending := rest, stopped := true, history := hist.1, consumed := used, produced := now.length }),
        res St.OUT_FULL)

/-- The context a job runs on, or the status that ends it (07 R276, R286): a context left by a job of a chain with more = 1 goes
on with resume = 1 and flags of its own; one left by OUT_FULL wants the first job's flags (DEDUCED, log 36). The second part
says that the context is to be freed. -/
def State.pleatCtx (s : State) (j : Job) : Except (Nat × Bool) (Option PleatCtx) :=
  match mget s.pleat j.ctx with
  | none => if j.resume then .error (St.BAD_INPUT, false) else .ok none
  | some c =>
    if !j.resume then .error (St.LOCKED, false)
    else if c.op ≠ j.opcode ∨ c.fmt ≠ j.fmt ∨ c.zparams ≠ j.f 44 2 ∨ (c.stopped ∧ c.flags ≠ (j.f 0 2 / 2 ^ 10) % 4) then
      .error (St.BAD_INPUT, true)
    else .ok (some c)

/-- The input of a job. -/
def State.pleatIn (s : State) (j : Job) : State × Except Nat (List Byte) :=
  if j.inLen = 0 then (s, .ok [])
  else
    let a := s.areas j.acc (j.eflag 13) j.src j.inLen
    match a.2 with
    | .error c => (a.1, .error c)
    | .ok as =>
      let r := a.1.readAreas j.acc as
      if fine r.2.2 then (r.1, .ok r.2.1) else (r.1, .error r.2.2)

/-- Both gather lists of a job are read before its data (07 R702): the status that ends it, where one does not serve. -/
def State.pleatLists (s : State) (j : Job) : State × Option Nat :=
  let a := s.areas j.acc (j.eflag 13 && decide (j.inLen ≠ 0)) j.src j.inLen
  let b := a.1.areas j.acc (j.eflag 14) j.dst j.outLen
  match a.2, b.2 with
  | .error x, .error y => (b.1, some (worse x y))
  | .error x, .ok _ => (b.1, some x)
  | .ok _, .error y => (b.1, some y)
  | .ok _, .ok _ => (b.1, none)

/-- A new context of a job. -/
def Job.newCtx (j : Job) : PleatCtx := { op := j.opcode, flags := (j.f 0 2 / 2 ^ 10) % 4, fmt := j.fmt, zparams := j.f 44 2 }

/-- Every block of a pleated payload but the last yields 16,384 bytes, and none is stored larger than raw or, where its bytes
are all equal, larger than RLE (07 R281); `fuel` bounds the blocks. -/
def mediaShape : Nat → List Byte → List Byte → Bool
  | 0, _, _ => false
  | fuel + 1, orig, l =>
    let h := leAt l 0 8
    let n := bits h 41 25
    let o := orig.take n
    let stored := bits h 24 8
    decide (stored ≤ n) && (!(o.all fun b => b == o.headD 0) || decide (stored ≤ 1)) &&
      (if bitOf h 2 then decide (n = orig.length) else n == 16384 && mediaShape fuel (orig.drop n) (l.drop (8 + stored)))

/-- A payload the engine may choose for a media chunk. -/
def mediaPayloadOk (orig p : List Byte) : Bool :=
  match mediaBlocks (p.length / 8 + 1) #[] p with
  | none => false
  | some o => o.toList == orig && mediaShape (orig.length / 16384 + 1) orig p

/-- Output a Zstandard chain may have produced by a flush: with an empty last block it decodes to the input so far. -/
def zFlushOk (z inp : List Byte) (ck : Bool) : Bool :=
  let r := zDecode (z ++ [1, 0, 0] ++ if ck then leBytes 4 0 else [])
  r.err == 0 && r.out == inp

/-- The frame header a chain writes (07 R287). -/
def zHeaderOk (z : List Byte) (wlog : Nat) (ck oneJob : Bool) : Bool :=
  let d := leAt z 4 1
  leAt z 0 4 == 0xFD2FB528 && !bitOf d 5 && bitOf d 2 == ck && d % 4 == 0 && leAt z 5 1 == 8 * (wlog - 10) &&
    (oneJob || d / 64 == 0)

/-- A whole frame of a chain (07 R287): one frame, which decodes to the input; with the checksum, the right one. -/
def zFrameOk (z inp : List Byte) (wlog : Nat) (ck oneJob : Bool) : Bool :=
  let r := zDecode z
  zHeaderOk z wlog ck oneJob && r.err == 0 && r.out == inp && (!ck || r.xxh == r.stored) &&
    (let d := leAt z 4 1
     let fcs := [0, 2, 4, 8].getD (d / 64) 0
     match zFrameBlocks (z.length / 3 + 1) {} (2 ^ wlog) #[] (z.drop (6 + fcs)) 0 with
     | some (_, k) => z.length == 6 + fcs + k + (if ck then 4 else 0)
     | none => false)

/-- PLEAT (07 R281 to R283, R286 to R289). `out` is what the engine's compressor chooses: the pleated payload of a media chunk,
or the bytes this job adds to its Zstandard frame; a choice that does not decode to the input is none (log 6). -/
def execPleat (job : Nat) (out : List Byte) (s : State) : Res := jobActM s .pleat 1 job fun s j =>
  if j.pleatBad then (s, some (stRes St.BAD_INPUT))
  else match s.pleatCtx j with
  | .error (c, free) => (if free then s.setPleat j.ctx none else s, some (stRes c))
  | .ok c? =>
    match s.pleatLists j with
    | (s, some e) => (if c?.isSome then s.setPleat j.ctx none else s, some (stRes e))
    | (s, none) =>
    match c? with
    | some c =>
      if c.stopped then
        let r := s.giveOut j c j.inLen
        (r.1, some r.2)
      else
        match s.pleatIn j with
        | (s, .error e) => (s.setPleat j.ctx none, some (stRes e))
        | (s, .ok inp) =>
          let ci := c.chainIn ++ inp
          let co := c.chainOut ++ out
          if (if j.more then !j.flush || zFlushOk co ci j.checksum else zFrameOk co ci j.windowLog j.checksum false) then
            let r := s.giveOut j { c with chainIn := ci, chainOut := co, pending := out, check := crc32c inp } j.inLen
            (r.1, some r.2)
          else (s, none)
    | none =>
      match s.pleatIn j with
      | (s, .error e) => (s, some (stRes e))
      | (s, .ok inp) =>
        let crc := crc32c inp
        if j.media then
          if !mediaPayloadOk inp out then (s, none)
          else
            let full := ({ method := 1, orig := inp.length, stored := out.length, crc } : MediaHdr).bytes ++ out
            let margin := s.rf Pg.PLEAT Rg.PLEAT_NO_GAIN_MARGIN 12 0
            let noGain := decide (inp.length < full.length + margin)
            let pend := if noGain then ({ method := 0, orig := inp.length, stored := inp.length, crc } : MediaHdr).bytes else full
            let r := s.giveOut j { j.newCtx with pending := pend, check := crc, final := if noGain then St.NO_GAIN else St.OK } j.inLen
            (r.1, some r.2)
        else if (if j.more then !j.flush || zFlushOk out inp j.checksum else zFrameOk out inp j.windowLog j.checksum true) then
          let r := s.giveOut j { j.newCtx with chainIn := inp, chainOut := out, pending := out, check := crc } j.inLen
          (r.1, some r.2)
        else (s, none)

/-- History that an UNPLEAT chain reads back beyond 128 KiB is refused or has changed (07 R290). -/
def State.historyBad (s : State) (j : Job) (c : PleatCtx) : Bool :=
  let total := (c.history.map fun h => h.2.length).sum
  let old := total - 131072
  decide (131072 < total) && !((c.history.foldl (fun (x : Bool × Nat) h =>
    let n := min h.2.length x.2
    let r := s.readBytes j.acc h.1 n
    (x.1 && fine r.2.2 && r.2.1 == h.2.take n, x.2 - n)) (true, old)).1)

/-- A media chunk that fails (07 R284): counted, and recorded with detail bits [0] crc_mismatch, [1] bad_header,
[2] bad_block. -/
def State.crcFail (s : State) (j : Job) (stored crc detail : Nat) : State :=
  let s := (s.countSat Pg.PLEAT Rg.PLEAT_CRC_FAIL 1).irq Pg.PLEAT 1
  s.logI Pg.PLEAT j.inst Ev.PLEAT_CRC_FAIL [.v 2 j.ctx, .v 4 stored, .v 4 crc, .v 1 detail]

/-- UNPLEAT of a media chunk, from its input (07 R284, R285). -/
def State.unpleatMedia (s : State) (j : Job) (inp : List Byte) : State × JobRes :=
  match mediaHdr inp with
  | none => (s.crcFail j (leAt inp 12 4) 0 2, { status := St.BAD_INPUT, detail := 2 })
  | some h =>
    if inp.length < 16 + h.stored then (s.crcFail j h.crc 0 2, { status := St.BAD_INPUT, detail := 2 })
    else if j.outLimit ≠ 0 ∧ j.outLimit < h.orig then (s, { status := St.OUT_LIMIT, counts := pleatCounts 16 0 0 h.crc })
    else match mediaBody h ((inp.drop 16).take h.stored) with
    | none => (s.crcFail j h.crc 0 4, { status := St.BAD_INPUT, detail := 4, counts := pleatCounts inp.length 0 0 h.crc })
    | some o =>
      let crc := crc32c o
      if crc ≠ h.crc then (s.crcFail j h.crc crc 1, { status := St.BAD_INPUT, detail := 1, counts := pleatCounts inp.length 0 crc h.crc })
      else s.giveOut j { j.newCtx with pending := o, check := crc, stored := h.crc } inp.length

/-- UNPLEAT of Zstandard frames (07 R285, R288): malformed input writes nothing (DESIGN CHOICE, log 36). -/
def State.unpleatZ (s : State) (j : Job) (inp : List Byte) : State × JobRes :=
  let r := zDecode inp
  if r.err ≠ 0 then (s, { status := St.BAD_INPUT, detail := if r.err = 1 then 2 else 4 })
  else if j.outLimit ≠ 0 ∧ j.outLimit < r.out.length ∧ j.outLimit ≤ j.outLen then
    let x := s.giveOut j { j.newCtx with pending := r.out.take j.outLimit, check := r.xxh, stored := r.stored, final := St.OUT_LIMIT } inp.length
    x
  else s.giveOut j { j.newCtx with pending := r.out, check := r.xxh, stored := r.stored } inp.length

/-- UNPLEAT (07 R284 to R286, R288, R290). -/
def execUnpleat (job : Nat) (s : State) : Res := jobAct s .pleat 2 job fun s j =>
  if j.pleatBad then (s, stRes St.BAD_INPUT)
  else match s.pleatCtx j with
  | .error (c, free) => (if free then s.setPleat j.ctx none else s, stRes c)
  | .ok c? =>
    match s.pleatLists j with
    | (s, some e) => (if c?.isSome then s.setPleat j.ctx none else s, stRes e)
    | (s, none) =>
    match c? with
    | some c =>
    if !j.media && s.historyBad j c then (s.setPleat j.ctx none, { status := St.BAD_INPUT, detail := 8 })
    else s.giveOut j c j.inLen
    | none =>
    match s.pleatIn j with
    | (s, .error e) => (s, stRes e)
    | (s, .ok inp) => if j.media then s.unpleatMedia j inp else s.unpleatZ j inp

/-- PLEAT_CTX_EXPIRY (07 R277): a context left by OUT_FULL is freed. -/
def execPleatCtxExpiry (ctx : Nat) (s : State) : Res :=
  match mget s.pleat ctx with
  | none => .next s
  | some c => actIf s c.stopped fun s =>
    let s := ((s.setPleat ctx none).countSat Pg.PLEAT Rg.PLEAT_CTX_EXPIRED 1).irq Pg.PLEAT 0
    s.log Pg.PLEAT Ev.PLEAT_CTX_EXPIRED [.v 2 ctx, .v 4 c.consumed, .v 4 c.produced]

end Sys2Proof.Machine
end

