-- ==== Sys2Proof/Machine/Snap.lean ====
section
/-! DEFINITION. Snapshots (10 R408 to R417, R429 to R432). A snapshot's ID is its namespace and its epoch (DESIGN CHOICE, log 58). -/
namespace Sys2Proof.Machine

/-- A snapshot's ID: the epoch in bits [31:0], the namespace above. -/
def snapId (n epoch : Nat) : Nat := n * 2 ^ 32 + epoch

/-- SNAPREP_CMD_STATUS: a command ends with a code; it acted on a pair. -/
def State.snapCode (s : State) (c : Nat) (pair : Nat := 0) : State :=
  (s.wrN Pg.SNAPREP Rg.SNAPREP_CMD_STATUS 0 (256 * c + 2 ^ 16 * pair)).irq Pg.SNAPREP 0

/-- A write of SNAPREP_CMD with command `c` (10 R430, R431). While SNAPREP is disabled it completes with NOT_READY (DESIGN CHOICE,
log 58). -/
def snapCmd (master value c : Nat) (s : State) (f : State → State) : Res := actIf s (bits value 3 0 == c) fun s =>
  s.regCmd { page := Pg.SNAPREP, off := Rg.SNAPREP_CMD, master, value } fun s _ =>
    if s.rb Pg.SNAPREP Rg.SNAPREP_CMD_STATUS 0 then s.wf Pg.SNAPREP Rg.SNAPREP_CMD_STATUS 15 8 St.LOCKED
    else if !s.rb Pg.SNAPREP Rg.SNAPREP_CFG 0 then s.snapCode St.NOT_READY
    else f s

/-- Snapshots the array holds. -/
def State.snapCount (s : State) : Nat := (s.map.nss.map fun e => e.2.snaps.length).sum

/-- What a group ends with before it takes a snapshot (10 R408, R411). -/
def State.groupBad (s : State) (g : List Nat) : Option Nat :=
  if g.any fun n => (s.nsp n).all fun x => x.snapOf.isSome then some St.BAD_INPUT
  else if g.any fun n => (s.nsp n).any fun x => !s.domOwned x.domain then some St.NOT_OWNER
  else if (g.any fun n => (s.nsp n).any fun x => decide (1024 ≤ x.snaps.length)) || decide (262144 < s.snapCount + g.length) then
    some St.OUT_LIMIT
  else none

/-- A snapshot of a group at point `j`; the epoch is the namespace's next, or one that is given. -/
def State.addSnaps (s : State) (g : List Nat) (j : Nat) (epoch : Option Nat) : State :=
  g.foldl (fun s n => s.modNs n fun x =>
    let e := epoch.getD x.nextEpoch
    { x with nextEpoch := max x.nextEpoch (e + 1), snaps := x.snaps ++ [{ epoch := e, point := j, since := s.gts }] }) s

/-- SNAP_CREATE (10 R408 to R411): the point is the next sequence number, and the snapshot a journal record. -/
def execSnapCreate (master value : Nat) (s : State) : Res := snapCmd master value 1 s fun s =>
  let hi := s.rdN Pg.SNAPREP Rg.SNAPREP_ARG_HI
  let a := s.rdN Pg.SNAPREP Rg.SNAPREP_ARG_LO + 2 ^ 32 * bits hi 15 0
  let count := bits hi 23 16
  if count = 0 ∨ 64 < count ∨ a % 64 ≠ 0 then s.snapCode St.BAD_INPUT
  else
    let r := s.readBytes { master, owner := sysOwner } a (2 * count)
    let s := r.1
    if !fine r.2.2 then s.snapCode r.2.2
    else
      let g := ((List.range count).map fun i => leAt r.2.1 (2 * i) 2).eraseDups
      match s.groupBad g with
      | some c => s.snapCode c
      | none =>
        let q := s.takeSeq
        let s := q.1.addSnaps g q.2 none
        let n := g.headD 0
        let e := ((s.nsp n).map fun x => x.nextEpoch - 1).getD 0
        let s := s.putRec { jseq := q.2, kind := 6, ns := n, loc := snapId n e, admGts := s.gts, recorded := true }
        (s.wrN Pg.SNAPREP Rg.SNAPREP_EPOCH 0 e).wrN Pg.SNAPREP Rg.SNAPREP_CMD_STATUS 0 1

/-- Freeze the snapshots of point `j` in a namespace: the map as it stands, and the page floor (10 R412). -/
def State.freezeNs (s : State) (j n : Nat) (x : Ns) : State :=
  let floor := s.pageFloor
  let mine := x.snaps.filter fun q => q.point == j && !q.frozen
  let s := s.modNs n fun y => { y with snaps := y.snaps.map fun q =>
    if q.point = j ∧ !q.frozen then { q with frozen := true, floor, top := y.top, levels := y.levels, values := y.values } else q }
  mine.foldl (fun s q => s.log Pg.SNAPREP Ev.SNAP_CREATED [.v 2 n, .v 4 q.epoch, .v 8 j, .v 4 ((s.gts - q.since) / 1000)]) s

/-- SNAP_FREEZE (10 R409, R410): the applied horizon has passed the point, and the partner has acknowledged the record. -/
def execSnapFreeze (j : Nat) (s : State) : Res :=
  let l := s.map.nss.filter fun e => e.2.snaps.any fun q => q.point == j && !q.frozen
  actIf s (!l.isEmpty && decide (j < s.horizon) && (s.pairState != 3 || decide (j ≤ s.ackedJ))) fun s =>
    let s := l.foldl (fun s e => s.freezeNs j e.1 e.2) s
    if s.rb Pg.SNAPREP Rg.SNAPREP_CMD_STATUS 0 then s.snapCode St.OK else s

/-- The snapshot that SNAPREP_ARG names: its namespace, the namespace's entry, the snapshot. -/
def State.argSnap (s : State) : Option (Nat × Ns × Snap) :=
  let n := s.rdN Pg.SNAPREP Rg.SNAPREP_ARG_HI
  match s.nsp n with
  | none => none
  | some x => match x.snaps.find? fun q => q.epoch == s.rdN Pg.SNAPREP Rg.SNAPREP_ARG_LO && !q.deleting with
    | some q => some (n, x, q)
    | none => none

/-- Sessions that are active, by pair (10 R428). -/
def State.pairState' (s : State) (p : Nat) : Nat := s.rf Pg.SNAPREP Rg.SNAPREP_PAIR_STATE 2 0 p
def State.activePairs (s : State) : List Nat :=
  (List.range 256).filter fun p => s.pairState' p == 1 || s.pairState' p == 2 || s.pairState' p == 3

/-- A session's entry; the namespace and the flow of a pair. -/
def State.sess (s : State) (p : Nat) : Sess := mgetD {} s.repl.sess p
def State.setSess (s : State) (p : Nat) (x : Sess) : State := { s with repl := { s.repl with sess := mputD {} s.repl.sess p x } }
def State.pairNs (s : State) (p : Nat) : Nat := s.rf Pg.SNAPREP Rg.SNAPREP_PAIR_CFG 15 0 p
def State.pairFlow (s : State) (p : Nat) : Nat := s.rf Pg.SNAPREP Rg.SNAPREP_PAIR_CFG 31 16 p

/-- A snapshot is the base or the target of an active session (10 R416). -/
def State.inSession (s : State) (n epoch : Nat) : Bool :=
  s.activePairs.any fun p => s.pairNs p == n && ((s.sess p).base == some epoch || (s.sess p).epoch == epoch)

/-- A deletion whose dead list is empty has ended. -/
def State.endDelete (s : State) (n : Nat) : State :=
  match s.nsp n with
  | none => s
  | some x =>
    let out := x.snaps.filter fun q => q.deleting && q.dead.isEmpty
    let s := s.modNs n fun y => { y with snaps := y.snaps.filter fun q => !(q.deleting && q.dead.isEmpty) }
    out.foldl (fun s q => s.log Pg.SNAPREP Ev.SNAP_DELETED [.v 2 n, .v 4 q.epoch, .v 4 q.released, .v 4 q.moved]) s

/-- Change a snapshot of a namespace. -/
def State.modSnap (s : State) (n epoch : Nat) (f : Snap → Snap) : State :=
  s.modNs n fun x => { x with snaps := x.snaps.map fun q => if q.epoch = epoch then f q else q }

/-- SNAP_DELETE (10 R415, R416). -/
def execSnapDelete (master value : Nat) (s : State) : Res := snapCmd master value 2 s fun s =>
  match s.argSnap with
  | none => s.snapCode St.BAD_INPUT
  | some (n, x, q) =>
    if !s.domOwned x.domain then s.snapCode St.NOT_OWNER
    else if q.attached.isSome || !q.frozen || s.inSession n q.epoch then s.snapCode St.LOCKED
    else ((s.modSnap n q.epoch fun y => { y with deleting := true }).endDelete n).snapCode St.OK

/-- DEAD_LIST_ENTRY (10 R415): the first entry of the dead list of a snapshot under deletion moves to the next-older snapshot, or is
let go. -/
def execDeadListEntry (n epoch : Nat) (s : State) : Res :=
  match s.nsp n with
  | none => .next s
  | some x => match x.snaps.find? fun q => q.epoch == epoch && q.deleting with
    | none => .next s
    | some q => match q.dead with
      | [] => .next s
      | d :: rest => act s fun s =>
        let older := (x.snaps.filter fun y => decide (y.epoch < epoch)).getLast?
        let stays := match d, older with
          | _, none => false
          | .chunk _ seq, some y => decide (seq < y.point)
          | .page p, some y => decide (p < y.floor)
        let s : State := match older, stays with
          | some y, true =>
            (s.modSnap n epoch fun q => { q with dead := rest, moved := q.moved + 1 }).modSnap n y.epoch fun z => { z with dead := z.dead ++ [d] }
          | _, _ =>
            let s := s.modSnap n epoch fun q => { q with dead := rest, released := q.released + 1 }
            (match d with
            | .chunk id _ => s.release q.point q.released id
            | .page p => s.delMapPage p)
        s.endDelete n

/-- SNAP_ATTACH (10 R417, 03 R108). -/
def execSnapAttach (master value : Nat) (s : State) : Res := snapCmd master value 3 s fun s =>
  match s.argSnap with
  | none => s.snapCode St.BAD_INPUT
  | some (n, x, q) =>
    if !q.frozen || q.attached.isSome then s.snapCode St.LOCKED
    else if 65536 ≤ s.map.nss.length ∨ (x.kv ∧ 4096 ≤ (s.map.nss.filter fun e => e.2.kv).length) then s.snapCode St.OUT_LIMIT
    else
      let i := freshKey s.map.nss 0
      let y : Ns := {
        group := x.group, domain := x.domain, kv := x.kv, blocks := x.blocks, pi := x.pi, meta8 := x.meta8, levels := q.levels
        top := q.top, values := q.values, snapOf := some (n, q.epoch) }
      ((s.setNs i y).modSnap n q.epoch fun z => { z with attached := some i }).snapCode St.OK

/-- SNAP_DETACH. -/
def execSnapDetach (master value : Nat) (s : State) : Res := snapCmd master value 4 s fun s =>
  match s.argSnap with
  | none => s.snapCode St.BAD_INPUT
  | some (n, _, q) => match q.attached with
    | none => s.snapCode St.BAD_INPUT
    | some i =>
      let s := s.setMap { s.map with nss := mdel s.map.nss i }
      (s.modSnap n q.epoch fun z => { z with attached := none }).snapCode St.OK

end Sys2Proof.Machine
end

