-- ==== Sys2Proof/Machine/Repl.lean ====
section
/-! DEFINITION. Replication (10 R418 to R428). Fingerprints and frames that the source's strands make come with the command (log 58). -/
namespace Sys2Proof.Machine

/-- A message (10 R420). -/
def replMsg (ty pair cursor : Nat) (body : List Byte) : List Byte :=
  leBytes 1 ty ++ [0, 0, 0] ++ leBytes 4 pair ++ leBytes 8 cursor ++ body

/-- Send a message on a pair's flow; its bytes count. -/
def State.sendRepl (s : State) (p ty cursor : Nat) (body : List Byte) : State :=
  let m := replMsg ty p cursor body
  (s.setSess p { s.sess p with wire := (s.sess p).wire + m.length }).emit (.repl (s.pairFlow p) m)

/-- Change a session's state. -/
def State.setPairSt (s : State) (p st : Nat) : State := (s.wf Pg.SNAPREP Rg.SNAPREP_PAIR_STATE 2 0 st p).irq Pg.SNAPREP 1

/-- The acknowledged cursor of a pair. -/
def State.cursor (s : State) (p : Nat) : Nat := s.rd64 Pg.SNAPREP Rg.SNAPREP_PAIR_CURSOR_LO p
def State.setCursor (s : State) (p n : Nat) : State := s.wr64 Pg.SNAPREP Rg.SNAPREP_PAIR_CURSOR_LO n p

/-- A session ends in error (10 R432). -/
def State.failSess (s : State) (p code : Nat) : State :=
  let s := ((s.setPairSt p 5).wf Pg.SNAPREP Rg.SNAPREP_PAIR_STATE 15 8 code p).irq Pg.SNAPREP 2
  let s := s.log Pg.SNAPREP Ev.REPL_FAILED [.v 4 p, .v 1 code, .v 8 (s.cursor p)]
  s.setSess p { s.sess p with fps := [], opened := false }

/-- The key slot and the key check value of a pair's domain (10 R418). -/
def State.pairSlot (s : State) (p : Nat) : Nat :=
  s.rf Pg.DEDUP Rg.DEDUP_DOM_CFG 27 16 (((s.nsp (s.pairNs p)).map (·.domain)).getD 0)
def State.pairKcv (s : State) (p : Nat) : Nat := (s.slot (s.pairSlot p)).kcv

/-- Send OPEN: base epoch (0 for none), new epoch, KCV; with the cursor. -/
def State.sendOpen (s : State) (p cursor base epoch : Nat) : State :=
  s.sendRepl p 1 cursor (leBytes 4 base ++ leBytes 4 epoch ++ leBytes 4 (s.pairKcv p))

/-! ### The source (10 R419, R421, R424, R425) -/

/-- A snapshot of a namespace by epoch, and a grain's entry in it. -/
def Ns.snap (x : Ns) (epoch : Nat) : Option Snap := x.snaps.find? fun q => q.epoch == epoch && q.frozen
def State.snapEntry (s : State) (q : Snap) (g : Nat) : MEntry :=
  match (s.lookup [] q.top q.levels g).2.1 with | .ok e => e | .error _ => {}

/-- A grain differs between the base and the new snapshot; with no base, it is mapped. -/
def State.differs (s : State) (base : Option Snap) (q : Snap) (g : Nat) : Bool :=
  match base with
  | some b => s.snapEntry b g != s.snapEntry q g
  | none => (s.snapEntry q g).kind != 0

/-- Send what comes next: ZERO and UNMAP for grains without data, an FP_BATCH for up to 256 with data, whose fingerprints are `fps`; CKPT
after every SNAPREP_CKPT_GRAINS grains; DONE after the last. `fuel` bounds the batches without data. -/
def State.advance (fps : SMap (List Byte)) (p : Nat) : Nat → State → State
  | 0, s => s
  | fuel + 1, s =>
    let x := (s.nsp (s.pairNs p)).getD {}
    let z := s.sess p
    match x.snap z.epoch with
    | none => s.failSess p St.BAD_INPUT
    | some q =>
      let base := if z.full then none else z.base.bind x.snap
      let every := s.rf Pg.SNAPREP Rg.SNAPREP_CKPT_GRAINS 23 0
      let l := (((List.range (x.grains - z.pos)).map (z.pos + ·)).filter fun g => s.differs base q g).take (min 256 (every - z.sent))
      if l = [] then s.sendRepl p 9 z.pos (leBytes 4 z.epoch)
      else
        let kind := fun g => (s.snapEntry q g).kind
        let data := l.filter fun g => kind g == 1
        let t := (l.filter fun g => kind g != 1).foldl (fun t g => t.sendRepl p (if kind g = 2 then 6 else 5) g (leBytes 8 1)) s
        let batch := data.map fun g => (g, padTo 32 (mgetD [] fps g))
        let t := if data = [] then t else t.sendRepl p 2 (data.headD 0) (batch.flatMap fun e => leBytes 8 e.1 ++ e.2)
        let pos := (l.getLast?.getD 0) + 1
        let sent := z.sent + l.length
        let t := t.setSess p { t.sess p with pos, sent := if every ≤ sent then 0 else sent, fps := batch }
        let t := if every ≤ sent then t.sendRepl p 7 pos [] else t
        if data = [] then State.advance fps p fuel t else t

/-- SESSION_START (10 R418, R419, R428): of the pair selected, to the snapshot SNAPREP_ARG names. Sessions of key spaces end with
BAD_INPUT: the messages name grains (DESIGN CHOICE, log 58). -/
def execSessionStart (master value : Nat) (s : State) : Res := snapCmd master value 5 s fun s =>
  let p := s.rf Pg.SNAPREP Rg.SNAPREP_PAIR_SEL 7 0
  match s.argSnap with
  | none => s.snapCode St.BAD_INPUT p
  | some (n, x, q) =>
    if n ≠ s.pairNs p ∨ x.kv ∨ !q.frozen then s.snapCode St.BAD_INPUT p
    else if !s.domOwned x.domain then s.snapCode St.NOT_OWNER p
    else if p ∈ s.activePairs then s.snapCode St.LOCKED p
    else if 16 ≤ s.activePairs.length then s.snapCode St.OUT_LIMIT p
    else
      let base := (s.sess p).base.filter fun e => (x.snap e).isSome && e != q.epoch
      let s := s.setSess p { base, epoch := q.epoch, full := base.isNone }
      let s := (s.wrN Pg.SNAPREP Rg.SNAPREP_PAIR_STATE p 0).setPairSt p 1
      let s := ((s.setCursor p 0).wrN Pg.SNAPREP Rg.SNAPREP_PAIR_HAVE p 0).wrN Pg.SNAPREP Rg.SNAPREP_PAIR_NEED p 0
      (s.sendOpen p 0 (base.getD 0) q.epoch).snapCode St.OK p

/-- SESSION_STOP (10 R428). -/
def execSessionStop (master value : Nat) (s : State) : Res := snapCmd master value 6 s fun s =>
  let p := s.rf Pg.SNAPREP Rg.SNAPREP_PAIR_SEL 7 0
  if p ∈ s.activePairs then
    let s := (s.setPairSt p 0).wf Pg.SNAPREP Rg.SNAPREP_PAIR_STATE 15 8 St.OK p
    (s.setSess p { s.sess p with fps := [], opened := false }).snapCode St.OK p
  else s.snapCode St.BAD_INPUT p

/-- The session of pair `p` runs here as its source, in one of the states `st`. -/
def State.isSource (s : State) (p : Nat) (st : List Nat) : Bool := decide (p < 256) && !(s.sess p).target && decide (s.pairState' p ∈ st)

/-- The session of pair `p` runs here as its target. -/
def State.isTarget (s : State) (p : Nat) : Bool := decide (p < 256) && (s.sess p).target && s.pairState' p == 2

/-- What the source does with the target's OPEN (10 R418, R425, R426): the session goes on from the cursor, or as a full send where the
target does not hold the base. -/
def State.sourceOpen (s : State) (p base kcv : Nat) (fps : SMap (List Byte)) : State :=
  if kcv ≠ s.pairKcv p then s.failSess p St.BAD_INPUT
  else
    let z := s.sess p
    let full := z.full || (z.base.isSome && base == 0)
    let from' := if full && !z.full then 0 else s.cursor p
    let again := s.pairState' p == 3
    let s := (s.setSess p { z with full, opened := true, pos := from', sent := 0, fps := [] }).setCursor p from'
    let s := s.setPairSt p 2
    let s := if again then s.log Pg.SNAPREP Ev.REPL_RESUMED [.v 4 p, .v 8 from', .v 1 (b2n full)] else s
    State.advance fps p (((s.nsp (s.pairNs p)).map Ns.grains).getD 0 + 1) s

/-- What the target does with the source's OPEN: it compares the KCVs and answers with its own, and with the base epoch where it
holds it. -/
def State.targetOpen (s : State) (p cursor base epoch kcv : Nat) : State :=
  match s.nsp (s.pairNs p) with
  | none => s
  | some x =>
    if x.kv ∨ !s.domOwned x.domain ∨ (p ∉ s.activePairs ∧ 16 ≤ s.activePairs.length) then s
    else
      let held := if (x.snap base).isSome then base else 0
      let new := p ∉ s.activePairs
      let s := if new then
          ((s.wrN Pg.SNAPREP Rg.SNAPREP_PAIR_STATE p 0).wrN Pg.SNAPREP Rg.SNAPREP_PAIR_HAVE p 0).wrN Pg.SNAPREP Rg.SNAPREP_PAIR_NEED p 0
        else s
      let s := s.setSess p { target := true, base := (s.sess p).base, epoch }
      let s := s.sendOpen p cursor held epoch
      if kcv ≠ s.pairKcv p then s.failSess p St.BAD_INPUT else s.setPairSt p 2

/-- REPL_OPEN (10 R418, R425, R426). -/
def execReplOpen (p cursor base epoch kcv : Nat) (fps : SMap (List Byte)) (s : State) : Res :=
  actIf s (decide (p < 256) && s.rb Pg.SNAPREP Rg.SNAPREP_CFG 0) fun s =>
    if s.isSource p [1, 3] then s.sourceOpen p base kcv fps
    else if s.isSource p [2] then s
    else s.targetOpen p cursor base epoch kcv

/-- FP_REPLY (10 R421): bit `i` of the bitmap is set for a grain of the batch that the target needs; `frames` are the frames of those, each
with the original length. -/
def execFpReply (p bitmap : Nat) (frames : List (Nat × List Byte)) (fps : SMap (List Byte)) (s : State) : Res :=
  actIf s (s.isSource p [2] && !(s.sess p).fps.isEmpty) fun s =>
    let batch := (s.sess p).fps
    let need := ((batch.zip (List.range batch.length)).filter fun e => bitOf bitmap e.2).map fun e => e.1.1
    let s := (need.zip frames).foldl (fun s e => s.sendRepl p 4 e.1 (leBytes 8 e.1 ++ leBytes 4 e.2.1 ++ leBytes 4 0 ++ e.2.2)) s
    let s := s.countSat Pg.SNAPREP Rg.SNAPREP_PAIR_HAVE (batch.length - need.length) p
    let s := s.countSat Pg.SNAPREP Rg.SNAPREP_PAIR_NEED need.length p
    let s := s.setSess p { s.sess p with fps := [] }
    State.advance fps p (((s.nsp (s.pairNs p)).map Ns.grains).getD 0 + 1) s

/-- CKPT_ACK (10 R424): the acknowledged cursor goes to the vault. -/
def execCkptAck (p cursor : Nat) (s : State) : Res := actIf s (s.isSource p [2]) fun s =>
  let s := s.setCursor p cursor
  { s with repl := { s.repl with vault := mput s.repl.vault p cursor } }

/-- REPL_RETRY (10 R425): a new flow epoch, and OPEN with the last acknowledged cursor. -/
def execReplRetry (p : Nat) (s : State) : Res := actIf s (s.isSource p [3]) fun s =>
  let z := s.sess p
  s.sendOpen p (s.cursor p) (if z.full then 0 else z.base.getD 0) z.epoch

/-! ### The target (10 R421 to R424) -/

/-- A grain of the replica is recorded under a sequence number of this head's own, whose record is VOID: the map is changed here
(DESIGN CHOICE, log 58). -/
def State.replicaGrain (s : State) (n g kind target : Nat) : State :=
  let q := s.takeSeq
  let s := q.1.applyGrain n g 0 { kind, target, seq := q.2 }
  s.putRec { jseq := q.2, kind := 7, ns := n, admGts := s.gts, recorded := true }

/-- One fingerprint of a batch: a live chunk with it is taken, or it is needed. -/
def State.batchOne (s : State) (p g : Nat) (fp : List Byte) : State × Bool :=
  let n := s.pairNs p
  let d := ((s.nsp n).map (·.domain)).getD 0
  let s := s.count Pg.DEDUP Rg.DEDUP_LOOKUPS 1
  match (if s.mapMode = 2 then none else s.firstLive (s.findFp d [] fp)) with
  | none => (s, true)
  | some id =>
    let r := s.takeRef s.hq.jseq 0 id
    if r.2 then ((r.1.count Pg.DEDUP Rg.DEDUP_HITS 1).replicaGrain n g 1 id, false) else (r.1, true)

/-- FP_BATCH (10 R421): up to 256 grains with their fingerprints. -/
def execFpBatch (p : Nat) (entries : List (Nat × List Byte)) (s : State) : Res := actIf s (s.isTarget p) fun s =>
  let x := (s.nsp (s.pairNs p)).getD {}
  if 256 < entries.length ∨ entries.any fun e => decide (x.grains ≤ e.1) then s.failSess p St.BAD_INPUT
  else
    let r := entries.foldl (fun (a : State × List Bool) e =>
      let q := a.1.batchOne p e.1 e.2
      (q.1, a.2 ++ [q.2])) (s, [])
    let need := (entries.zip r.2).filter fun e => e.2
    let s := r.1.countSat Pg.SNAPREP Rg.SNAPREP_PAIR_HAVE (entries.length - need.length) p
    let s := s.countSat Pg.SNAPREP Rg.SNAPREP_PAIR_NEED need.length p
    let s := s.setSess p { s.sess p with fps := need.foldl (fun m e => mput m e.1.1 e.1.2) (s.sess p).fps }
    let bitmap := ((r.2.zip (List.range r.2.length)).map fun e => b2n e.1 * 2 ^ e.2).sum
    s.sendRepl p 3 ((entries.headD (0, [])).1) (leBytes 32 bitmap)

/-- REPL_DATA (10 R422): the frame is decoded and checked, and its fingerprint compared with the batch's; the grain is then the chunk under
which the write strand has stored and committed it. -/
def execReplData (p g len : Nat) (frame : List Byte) (chunk : Nat) (s : State) : Res :=
  actIf s (s.isTarget p && (mget (s.sess p).fps g).isSome && (s.chunk chunk).any fun c => c.st == 1) fun s =>
    let z := zDecode frame
    match s.keyFor (s.pairSlot p) Us.hmac with
    | .error c => s.failSess p c
    | .ok key =>
      if z.err ≠ 0 ∨ z.xxh ≠ z.stored ∨ z.out.length ≠ len ∨ mget (s.sess p).fps g ≠ some (hmac 0 key z.out) then s.failSess p St.AUTH_FAIL
      else (s.replicaGrain (s.pairNs p) g 1 chunk).setSess p { s.sess p with fps := mdel (s.sess p).fps g }

/-- Grains of the replica become UNMAPPED or ZERO. -/
def replClear (p first count kind : Nat) (s : State) : Res := actIf s (s.isTarget p) fun s =>
  let x := (s.nsp (s.pairNs p)).getD {}
  if x.grains < first + count then s.failSess p St.BAD_INPUT
  else (List.range count).foldl (fun s i => s.replicaGrain (s.pairNs p) (first + i) kind 0) s

/-- REPL_UNMAP (10 R420). -/
def execReplUnmap (p first count : Nat) (s : State) : Res := replClear p first count 0 s

/-- REPL_ZERO (10 R420). -/
def execReplZero (p first count : Nat) (s : State) : Res := replClear p first count 2 s

/-- REPL_CKPT (10 R424): answered once every grain before the cursor has been recorded. -/
def execReplCkpt (p cursor : Nat) (s : State) : Res :=
  actIf s (s.isTarget p && (s.sess p).fps.all fun e => decide (cursor ≤ e.1)) fun s => (s.sendRepl p 8 cursor []).setCursor p cursor

/-- A session has ended well. -/
def State.endSess (s : State) (p epoch : Nat) : State :=
  let z := s.sess p
  let s := s.setSess p { target := z.target, base := some epoch, epoch }
  let s := (s.setPairSt p 4).wf Pg.SNAPREP Rg.SNAPREP_PAIR_STATE 15 8 St.OK p
  let s := { s with repl := { s.repl with vault := mdel s.repl.vault p } }
  s.log Pg.SNAPREP Ev.REPL_DONE [.v 4 p, .v 4 epoch, .v 4 (s.rdN Pg.SNAPREP Rg.SNAPREP_PAIR_HAVE p),
    .v 4 (s.rdN Pg.SNAPREP Rg.SNAPREP_PAIR_NEED p), .v 8 z.wire]

/-- DONE (10 R423): the target takes its snapshot with the source's epoch and answers; the answer ends the source's session
(DESIGN CHOICE, log 58). -/
def execDone (p epoch : Nat) (s : State) : Res :=
  if s.isSource p [2] then actIf s ((s.sess p).epoch == epoch) fun s => s.endSess p epoch
  else actIf s (s.isTarget p && (s.sess p).fps.isEmpty && (s.sess p).epoch == epoch) fun s =>
    let n := s.pairNs p
    let q := s.takeSeq
    let s := q.1.addSnaps [n] q.2 (some epoch)
    let s := s.putRec { jseq := q.2, kind := 6, ns := n, loc := snapId n epoch, admGts := s.gts, recorded := true }
    (s.sendRepl p 9 0 (leBytes 4 epoch)).endSess p epoch

end Sys2Proof.Machine
end

