-- ==== Sys2Proof/Machine/Spool.lean ====
section
/-! DEFINITION. The Spool's pages: allocation, freeing, and the SPOOL page's commands (05 R198 to R209, R223, R224). -/
namespace Sys2Proof.Machine

/-- A page is on the free list. -/
def State.pageFree (s : State) (p : Nat) : Bool :=
  decide (p < s.spoolPages) && (s.spage p).owner == 0 && !s.pcRetired (p % 64)

/-- Give a free page to an owner (05 R200). -/
def State.allocPage (s : State) (owner p : Nat) : State :=
  let x := s.spage p
  let x := if owner = x.last then { x with owner }
    else { x with owner, gen := (x.gen + 1) % 16, zero := true, written := 0 }
  let s := s.setSpage p x
  { s with mem := { s.mem with firstAlloc := true } }

/-- A choice of `n` pages for an allocation is one the free list admits. -/
def State.picksOk (s : State) (n : Nat) (picks : List Nat) : Bool :=
  picks.length == n && decide picks.Nodup && picks.all s.pageFree

/-- A free of one page for an owner (05 R203, R205): the state and the status. -/
def State.freePage (s : State) (owner p : Nat) : State × Nat :=
  let x := s.spage p
  if x.owner = 0 then
    (((s.fieldSat Pg.SPOOL Rg.SPOOL_REFUSALS 31 16 1).irq Pg.SPOOL 1).log Pg.SPOOL Ev.SPOOL_DOUBLE_FREE
      [.v 4 p, .v 2 owner, .v 2 x.last], St.ALREADY_FREE)
  else if x.owner ≠ owner then
    (((s.fieldSat Pg.SPOOL Rg.SPOOL_REFUSALS 15 0 1).irq Pg.SPOOL 1).log Pg.SPOOL Ev.SPOOL_NOT_OWNER_FREE
      [.v 4 p, .v 2 owner, .v 2 x.owner], St.NOT_OWNER)
  else (s.setSpage p { x with last := x.owner, owner := 0 }, St.OK)

/-- The count of a Spool job: descriptor bytes 12 and 13. -/
def Job.spoolCount (j : Job) : Nat := j.f 12 2

/-- The page list's address. -/
def Job.spoolList (j : Job) : Nat := j.f 16 8

/-- A descriptor every Spool job rejects (05 R208, 01 R32). -/
def Job.spoolBad (j : Job) : Bool :=
  j.spoolCount == 0 || decide (64 < j.spoolCount) || j.spoolList % 64 != 0

/-- SPOOL_ALLOC (05 R207 to R209): `picks` are the free pages it takes. Fewer free pages than asked for is NOT_READY; a list
that cannot be written undoes the allocation. -/
def execSpoolAlloc (job : Nat) (picks : List Nat) (s : State) : Res := jobActM s .spool 1 job fun s j =>
  if j.spoolBad || j.owner == sysOwner then (s, some (stRes St.BAD_INPUT))
  else if s.spoolFree < j.spoolCount then (s, some (stRes St.NOT_READY))
  else if !s.picksOk j.spoolCount picks then (s, none)
  else
    let before := s.spoolFree
    let t := picks.foldl (fun s p => s.allocPage j.owner p) s
    let w := t.writeBytes j.acc j.spoolList (picks.flatMap fun p => leBytes 4 p)
    if w.2 = St.OK ∨ w.2 = St.CHECK_ONLY_FIXED then
      (w.1.lowWater before, some { status := w.2, counts := picks.length })
    else
      let u := picks.foldl (fun t p => t.setSpage p (s.spage p)) w.1
      (u, some (stRes w.2))

/-- SPOOL_FREE (05 R203, R208, R209): each listed page on its own; the counts hold pages freed, NOT_OWNER and ALREADY_FREE
refusals. -/
def execSpoolFree (job : Nat) (s : State) : Res := jobAct s .spool 2 job fun s j =>
  if j.spoolBad then (s, stRes St.BAD_INPUT)
  else
    let r := s.readBytes j.acc j.spoolList (4 * j.spoolCount)
    if r.2.2 ≠ St.OK ∧ r.2.2 ≠ St.CHECK_ONLY_FIXED then (r.1, stRes r.2.2)
    else
      let pages := (List.range j.spoolCount).map fun i => leAt r.2.1 (4 * i) 4
      if pages.any fun p => decide (s.spoolPages ≤ p) then (r.1, stRes St.BAD_INPUT)
      else
        let f := pages.foldl (fun acc p =>
          let q := acc.1.freePage j.owner p
          (q.1, acc.2 ++ [q.2])) (r.1, [])
        let n := fun c => (f.2.filter (· == c)).length
        (f.1, { status := f.2.foldl worse r.2.2,
                counts := n St.OK + 2 ^ 32 * n St.NOT_OWNER + 2 ^ 48 * n St.ALREADY_FREE })

/-- SPOOL_CMD_STATUS: the page and the code of the last register-path command (05 R224). -/
def State.spoolStatus (s : State) (page code : Nat) : State :=
  s.wrN Pg.SPOOL Rg.SPOOL_CMD_STATUS 0 (page % 2 ^ 24 + 2 ^ 24 * code)

/-- SPOOL_ALLOC_CMD (05 R224): one page, `pick`, for the owner named. -/
def execSpoolAllocCmd (master value pick : Nat) (s : State) : Res := act s fun s =>
  s.regCmd { page := Pg.SPOOL, off := Rg.SPOOL_ALLOC_CMD, master, value } fun s _ =>
    let owner := bits value 11 0
    if owner = 0 ∨ owner = sysOwner then s.spoolStatus 0 St.BAD_INPUT
    else if s.spoolFree = 0 then s.spoolStatus 0 St.NOT_READY
    else if !s.pageFree pick then s
    else
      let before := s.spoolFree
      ((s.allocPage owner pick).spoolStatus pick St.OK).lowWater before

/-- SPOOL_FREE_CMD (05 R203, R224): one page for SPOOL_FREE_OWNER. -/
def execSpoolFreeCmd (master value : Nat) (s : State) : Res := act s fun s =>
  s.regCmd { page := Pg.SPOOL, off := Rg.SPOOL_FREE_CMD, master, value } fun s _ =>
    let p := bits value 23 0
    if s.spoolPages ≤ p then s.spoolStatus p St.BAD_INPUT
    else
      let r := s.freePage (s.rf Pg.SPOOL Rg.SPOOL_FREE_OWNER 11 0) p
      r.1.spoolStatus p r.2

/-- SPOOL_CFG_WRITE (05 R224): before the first allocation since reset a change of pages rebuilds the free list; after it
the write is ignored and recorded. A smaller free list may fall below low water. -/
def execSpoolCfgWrite (master value : Nat) (s : State) : Res := act s fun s =>
  let w : RegW := { page := Pg.SPOOL, off := Rg.SPOOL_CFG, master, value }
  let before := s.spoolFree
  s.regCmd w fun s old =>
    if bits old 23 0 = bits value 23 0 then s
    else if s.mem.firstAlloc then (s.wrN Pg.SPOOL Rg.SPOOL_CFG 0 old).ignoreW w
    else { s with mem := { s.mem with pages := mmapD {} s.mem.pages fun _ x => { x with owner := 0 } } }.lowWater before

end Sys2Proof.Machine
end

