-- ==== Sys2Proof/Machine/Start.lean ====
section
/-! DEFINITION. What a start does with a power-fail dump (15 R605, 08 R327, R329). -/
namespace Sys2Proof.Machine

/-- A bolt that was open when its head stopped: closed, its dirty regions to be settled. -/
def State.settleOpen (s : State) (b : Nat) (dirty : Nat) : State :=
  let s := s.setQuilt { s.quilt with dirty := if dirty = 0 then s.quilt.dirty else mput s.quilt.dirty b dirty }
  s.closeBolt b

/-- DUMP_REPLAY (15 R605, 08 R327, R329): a committed dump that is not superseded gives back its records, dirty maps, Locket records and
deltas; of an incomplete one the partner's retained records stand in, and what neither holds is reported. `mirror` is the partner's
mirror of the dirty maps, where it has one. -/
def execDumpReplay (partner : List JRec) (mirror : Option (SMap Nat)) (s : State) : Res := act s fun s =>
  let d := s.power.dump
  let whole := d.committed && !d.superseded
  let kept := if whole then d.journal else []
  let journal := (kept ++ partner).foldl (fun l r => insertRec r l) s.pair.journal
  let s := (s.setPair { s.pair with journal }).showMirror
  let s := { s with power := { s.power with dump := {} } }
  let s : State :=
    if whole then
      let s : State := s.setDedup { s.dedup with deltas := s.dedup.deltas ++ d.deltas }
      { s with locket := { s.locket with vault := s.locket.vault ++ d.recs } }
    else if d.dumping then
      let s := s.wb Pg.PWRSEQ Rg.PWRSEQ_DUMP_STATUS 3 true
      let lost := (List.range (d.lastJ + 1 - d.firstJ)).map (d.firstJ + ·) |>.filter fun q => !journal.any fun r => r.jseq == q
      match lost, lost.getLast? with
      | a :: _, some b => if d.firstJ = 0 then s else s.log Pg.PWRSEQ Ev.PWRSEQ_DUMP_INCOMPLETE [.v 8 a, .v 8 b]
      | _, _ => s
    else s
  let maps := match mirror with
    | some m => some m
    | none => if whole then some d.dirty else none
  (s.map.bolts.filter fun e => e.2.st == 1 && e.2.opener == s.headId).foldl (fun s e =>
    s.settleOpen e.1 (match maps with | some m => mgetD 0 m e.1 | none => 2 ^ 64 - 1)) s

end Sys2Proof.Machine
end

