-- ==== Sys2Proof/Machine/Dispatch.lean ====
section
/-! DEFINITION. The meaning of every command: one arm for each constructor of `Instr`. -/
namespace Sys2Proof.Machine

/-- What a command does to everything but the queue. -/
def exec (i : Instr) (s : State) : Host.Outcome State Fault Refusal :=
  match i with
  | .registerWrite master addr len value => Sys2Proof.Machine.execRegisterWrite master addr len value s
  | .lockReportWindowEnd page access => Sys2Proof.Machine.execLockReportWindowEnd page access s
  | .pageLockWrite master page value => Sys2Proof.Machine.execPageLockWrite master page value s
  | .irqForceWrite master page value => Sys2Proof.Machine.execIrqForceWrite master page value s
  | .pageSnap master page value => Sys2Proof.Machine.execPageSnap master page value s
  | .gtsSnapLoRead master page => Sys2Proof.Machine.execGtsSnapLoRead master page s
  | .remoteAccess master page off write value => Sys2Proof.Machine.execRemoteAccess master page off write value s
  | .remoteAccessTimeout id => Sys2Proof.Machine.execRemoteAccessTimeout id s
  | .memoryRead master owner addr n u way hit => Sys2Proof.Machine.execMemoryRead master owner addr n u way hit s
  | .partialWrite master owner addr data u hit => Sys2Proof.Machine.execPartialWrite master owner addr data u hit s
  | .fullLineWrite master owner addr data hit => Sys2Proof.Machine.execFullLineWrite master owner addr data hit s
  | .ringPiWrite e inst master value => Sys2Proof.Machine.execRingPiWrite e inst master value s
  | .descriptorFetch e inst => Sys2Proof.Machine.execDescriptorFetch e inst s
  | .jobComplete job => Sys2Proof.Machine.execJobComplete job s
  | .heldRecordWrite e inst cring => Sys2Proof.Machine.execHeldRecordWrite e inst cring s
  | .cringHeadWrite e inst master value => Sys2Proof.Machine.execCringHeadWrite e inst master value s
  | .ringEnableSet e inst master value => Sys2Proof.Machine.execRingEnableSet e inst master value s
  | .ringEnableClear e inst master value => Sys2Proof.Machine.execRingEnableClear e inst master value s
  | .cringEnableSet e inst master value => Sys2Proof.Machine.execCringEnableSet e inst master value s
  | .cringEnableClear e inst master value => Sys2Proof.Machine.execCringEnableClear e inst master value s
  | .cringIrqClear e inst hi master value => Sys2Proof.Machine.execCringIrqClear e inst hi master value s
  | .engineEnableSet e inst master value => Sys2Proof.Machine.execEngineEnableSet e inst master value s
  | .engineEnableClear e inst master value => Sys2Proof.Machine.execEngineEnableClear e inst master value s
  | .calSecondRollover => Sys2Proof.Machine.execCalSecondRollover s
  | .add bead => Sys2Proof.Machine.execAdd bead s
  | .sub bead => Sys2Proof.Machine.execSub bead s
  | .and bead => Sys2Proof.Machine.execAnd bead s
  | .or bead => Sys2Proof.Machine.execOr bead s
  | .xor bead => Sys2Proof.Machine.execXor bead s
  | .shl bead => Sys2Proof.Machine.execShl bead s
  | .shr bead => Sys2Proof.Machine.execShr bead s
  | .sra bead => Sys2Proof.Machine.execSra bead s
  | .slt bead => Sys2Proof.Machine.execSlt bead s
  | .sltu bead => Sys2Proof.Machine.execSltu bead s
  | .addi bead => Sys2Proof.Machine.execAddi bead s
  | .andi bead => Sys2Proof.Machine.execAndi bead s
  | .lui bead => Sys2Proof.Machine.execLui bead s
  | .mul bead => Sys2Proof.Machine.execMul bead s
  | .mulhu bead => Sys2Proof.Machine.execMulhu bead s
  | .divu bead => Sys2Proof.Machine.execDivu bead s
  | .popc bead => Sys2Proof.Machine.execPopc bead s
  | .clz bead => Sys2Proof.Machine.execClz bead s
  | .crcw bead => Sys2Proof.Machine.execCrcw bead s
  | .ldw bead flip => Sys2Proof.Machine.execLdw bead flip s
  | .stw bead => Sys2Proof.Machine.execStw bead s
  | .ldt bead => Sys2Proof.Machine.execLdt bead s
  | .beq bead => Sys2Proof.Machine.execBeq bead s
  | .bne bead => Sys2Proof.Machine.execBne bead s
  | .blt bead => Sys2Proof.Machine.execBlt bead s
  | .bltu bead => Sys2Proof.Machine.execBltu bead s
  | .jal bead => Sys2Proof.Machine.execJal bead s
  | .jr bead => Sys2Proof.Machine.execJr bead s
  | .snd bead => Sys2Proof.Machine.execSnd bead s
  | .sndUnstall bead => Sys2Proof.Machine.execSndUnstall bead s
  | .sendStallTimeout bead => Sys2Proof.Machine.execSendStallTimeout bead s
  | .rcv bead => Sys2Proof.Machine.execRcv bead s
  | .rcvWake bead => Sys2Proof.Machine.execRcvWake bead s
  | .qwait bead => Sys2Proof.Machine.execQwait bead s
  | .qwaitWake bead => Sys2Proof.Machine.execQwaitWake bead s
  | .qcnt bead => Sys2Proof.Machine.execQcnt bead s
  | .tset bead => Sys2Proof.Machine.execTset bead s
  | .tstop bead => Sys2Proof.Machine.execTstop bead s
  | .trd bead => Sys2Proof.Machine.execTrd bead s
  | .earm bead => Sys2Proof.Machine.execEarm bead s
  | .erd bead => Sys2Proof.Machine.execErd bead s
  | .fld bead => Sys2Proof.Machine.execFld bead s
  | .fldDataReturn bead u ext => Sys2Proof.Machine.execFldDataReturn bead u ext s
  | .fst bead => Sys2Proof.Machine.execFst bead s
  | .jsub bead => Sys2Proof.Machine.execJsub bead s
  | .jsubUnstall bead => Sys2Proof.Machine.execJsubUnstall bead s
  | .fnc bead => Sys2Proof.Machine.execFnc bead s
  | .fncAccept bead => Sys2Proof.Machine.execFncAccept bead s
  | .vadd bead => Sys2Proof.Machine.execVadd bead s
  | .vxor bead => Sys2Proof.Machine.execVxor bead s
  | .vand bead => Sys2Proof.Machine.execVand bead s
  | .vbc bead => Sys2Proof.Machine.execVbc bead s
  | .vext bead => Sys2Proof.Machine.execVext bead s
  | .vins bead => Sys2Proof.Machine.execVins bead s
  | .vshuf bead => Sys2Proof.Machine.execVshuf bead s
  | .gfmac bead => Sys2Proof.Machine.execGfmac bead s
  | .ebnd bead => Sys2Proof.Machine.execEbnd bead s
  | .halt bead => Sys2Proof.Machine.execHalt bead s
  | .undefinedOpcode bead => Sys2Proof.Machine.execUndefinedOpcode bead s
  | .timerExpiry bead slot => Sys2Proof.Machine.execTimerExpiry bead slot s
  | .edgeEvent cluster line level => Sys2Proof.Machine.execEdgeEvent cluster line level s
  | .strandLoad master value busy => Sys2Proof.Machine.execStrandLoad master value busy s
  | .strandLoadDone => Sys2Proof.Machine.execStrandLoadDone s
  | .strandStart master value => Sys2Proof.Machine.execStrandStart master value s
  | .strandExchange master value => Sys2Proof.Machine.execStrandExchange master value s
  | .exchangeVerified => Sys2Proof.Machine.execExchangeVerified s
  | .drainComplete => Sys2Proof.Machine.execDrainComplete s
  | .drainLimitExpiry => Sys2Proof.Machine.execDrainLimitExpiry s
  | .exchangeLoadComplete => Sys2Proof.Machine.execExchangeLoadComplete s
  | .strandAbort master value => Sys2Proof.Machine.execStrandAbort master value s
  | .capsuleReceive ctrl qid sqe data => Sys2Proof.Machine.execCapsuleReceive ctrl qid sqe data s
  | .commandAdmit => Sys2Proof.Machine.execCommandAdmit s
  | .hostCompletionSend id back => Sys2Proof.Machine.execHostCompletionSend id back s
  | .nvmRead id got => Sys2Proof.Machine.execNvmRead id got s
  | .nvmWrite id data bad => Sys2Proof.Machine.execNvmWrite id data bad s
  | .flush id => Sys2Proof.Machine.execFlush id s
  | .writeZeroes id => Sys2Proof.Machine.execWriteZeroes id s
  | .datasetManagement id data => Sys2Proof.Machine.execDatasetManagement id data s
  | .compare id got data => Sys2Proof.Machine.execCompare id got data s
  | .compareAndWrite id got cmp data => Sys2Proof.Machine.execCompareAndWrite id got cmp data s
  | .copy id got data => Sys2Proof.Machine.execCopy id got data s
  | .reservationRegister id data => Sys2Proof.Machine.execReservationRegister id data s
  | .reservationReport id => Sys2Proof.Machine.execReservationReport id s
  | .reservationAcquire id data => Sys2Proof.Machine.execReservationAcquire id data s
  | .reservationRelease id data => Sys2Proof.Machine.execReservationRelease id data s
  | .unsupportedNvmCommand id => Sys2Proof.Machine.execUnsupportedNvmCommand id s
  | .kvStore id data bad => Sys2Proof.Machine.execKvStore id data bad s
  | .kvRetrieve id got => Sys2Proof.Machine.execKvRetrieve id got s
  | .kvDelete id => Sys2Proof.Machine.execKvDelete id s
  | .kvExist id => Sys2Proof.Machine.execKvExist id s
  | .kvList id => Sys2Proof.Machine.execKvList id s
  | .abortCommand ctrl cid => Sys2Proof.Machine.execAbortCommand ctrl cid s
  | .nvmeofConnect ctrl qid cid size conn host kato discovery noFlow notices => Sys2Proof.Machine.execNvmeofConnect ctrl qid cid size conn host kato discovery noFlow notices s
  | .disconnect ctrl qid cid => Sys2Proof.Machine.execDisconnect ctrl qid cid s
  | .setQueueAttributes ctrl cid cdw11 => Sys2Proof.Machine.execSetQueueAttributes ctrl cid cdw11 s
  | .arbitrationFeature ctrl cid cdw11 => Sys2Proof.Machine.execArbitrationFeature ctrl cid cdw11 s
  | .controllerEnable ctrl cc => Sys2Proof.Machine.execControllerEnable ctrl cc s
  | .controllerReset ctrl => Sys2Proof.Machine.execControllerReset ctrl s
  | .keepAlive ctrl cid => Sys2Proof.Machine.execKeepAlive ctrl cid s
  | .keepAliveExpiry ctrl => Sys2Proof.Machine.execKeepAliveExpiry ctrl s
  | .namespaceCreate ctrl cid blocks group domain kv pi meta8 => Sys2Proof.Machine.execNamespaceCreate ctrl cid blocks group domain kv pi meta8 s
  | .namespaceResize ctrl cid n blocks => Sys2Proof.Machine.execNamespaceResize ctrl cid n blocks s
  | .setPowerState ctrl cid ps => Sys2Proof.Machine.execSetPowerState ctrl cid ps s
  | .anaLogPage ctrl cid => Sys2Proof.Machine.execAnaLogPage ctrl cid s
  | .forwardedCommand fid ctrl qid compat sqe data => Sys2Proof.Machine.execForwardedCommand fid ctrl qid compat sqe data s
  | .hostqQreset master value => Sys2Proof.Machine.execHostqQreset master value s
  | .transportConnectionLoss conn => Sys2Proof.Machine.execTransportConnectionLoss conn s
  | .hostqAnaStateWrite master value => Sys2Proof.Machine.execHostqAnaStateWrite master value s
  | .idleTimerExpiry => Sys2Proof.Machine.execIdleTimerExpiry s
  | .urtSendPacket seam pkt => Sys2Proof.Machine.execUrtSendPacket seam pkt s
  | .urtWritePacket seam pkt => Sys2Proof.Machine.execUrtWritePacket seam pkt s
  | .readReq seam pkt => Sys2Proof.Machine.execReadReq seam pkt s
  | .readResp seam pkt => Sys2Proof.Machine.execReadResp seam pkt s
  | .urtAck seam pkt => Sys2Proof.Machine.execUrtAck seam pkt s
  | .urtConnect seam pkt mtu psn lower => Sys2Proof.Machine.execUrtConnect seam pkt mtu psn lower s
  | .connectAck seam pkt => Sys2Proof.Machine.execConnectAck seam pkt s
  | .urtClosePacket seam pkt => Sys2Proof.Machine.execUrtClosePacket seam pkt s
  | .ackTimer seam flow => Sys2Proof.Machine.execAckTimer seam flow s
  | .rtoExpiry seam flow psn => Sys2Proof.Machine.execRtoExpiry seam flow psn s
  | .pacedSend seam flow => Sys2Proof.Machine.execPacedSend seam flow s
  | .urtOpen seam desc peer mtu psn enc => Sys2Proof.Machine.execUrtOpen seam desc peer mtu psn enc s
  | .urtClose seam desc => Sys2Proof.Machine.execUrtClose seam desc s
  | .urtSend seam desc => Sys2Proof.Machine.execUrtSend seam desc s
  | .urtWrite seam desc => Sys2Proof.Machine.execUrtWrite seam desc s
  | .urtRead seam desc => Sys2Proof.Machine.execUrtRead seam desc s
  | .urtRecv seam desc => Sys2Proof.Machine.execUrtRecv seam desc s
  | .roceCmRequest n service peer mtu psn own => Sys2Proof.Machine.execRoceCmRequest n service peer mtu psn own s
  | .roceAtomicRequest n psn => Sys2Proof.Machine.execRoceAtomicRequest n psn s
  | .rocePacket n p ce => Sys2Proof.Machine.execRocePacket n p ce s
  | .cnpReceive n => Sys2Proof.Machine.execCnpReceive n s
  | .roceRetryExhausted n => Sys2Proof.Machine.execRoceRetryExhausted n s
  | .subportLinkUp port sub => Sys2Proof.Machine.execSubportLinkUp port sub s
  | .subportLinkDown port sub => Sys2Proof.Machine.execSubportLinkDown port sub s
  | .fecSecondEnd port sub corr uncorr dropped => Sys2Proof.Machine.execFecSecondEnd port sub corr uncorr dropped s
  | .pfcPauseTimeout port sub prio => Sys2Proof.Machine.execPfcPauseTimeout port sub prio s
  | .urtInternalError ty => Sys2Proof.Machine.execUrtInternalError ty s
  | .urtCtrlReset master value => Sys2Proof.Machine.execUrtCtrlReset master value s
  | .urtEqHeadWrite master value => Sys2Proof.Machine.execUrtEqHeadWrite master value s
  | .ethCfgWrite master port value => Sys2Proof.Machine.execEthCfgWrite master port value s
  | .spoolAlloc job picks => Sys2Proof.Machine.execSpoolAlloc job picks s
  | .spoolFree job => Sys2Proof.Machine.execSpoolFree job s
  | .spoolAllocCmd master value pick => Sys2Proof.Machine.execSpoolAllocCmd master value pick s
  | .spoolFreeCmd master value => Sys2Proof.Machine.execSpoolFreeCmd master value s
  | .spoolCfgWrite master value => Sys2Proof.Machine.execSpoolCfgWrite master value s
  | .scrub ctl found => Sys2Proof.Machine.execScrub ctl found s
  | .memoryInitDone ctl mirror dimms ms => Sys2Proof.Machine.execMemoryInitDone ctl mirror dimms ms s
  | .cacheErrWindowEnd sl way => Sys2Proof.Machine.execCacheErrWindowEnd sl way s
  | .syscacheWayDisWrite master k j value => Sys2Proof.Machine.execSyscacheWayDisWrite master k j value s
  | .ddrcFailWrite master ch value => Sys2Proof.Machine.execDdrcFailWrite master ch value s
  | .hbmcPcRetireWrite master stack value => Sys2Proof.Machine.execHbmcPcRetireWrite master stack value s
  | .hbmStackFailure stack => Sys2Proof.Machine.execHbmStackFailure stack s
  | .hbmTemperatureHigh stack temp => Sys2Proof.Machine.execHbmTemperatureHigh stack temp s
  | .ddrcMapCfgWrite master inst value => Sys2Proof.Machine.execDdrcMapCfgWrite master inst value s
  | .hallmarkInit job => Sys2Proof.Machine.execHallmarkInit job s
  | .bind job => Sys2Proof.Machine.execBind job s
  | .snoopBeat producer stream off addr data poisoned => Sys2Proof.Machine.execSnoopBeat producer stream off addr data poisoned s
  | .catchupRead producer stream => Sys2Proof.Machine.execCatchupRead producer stream s
  | .streamEnd producer stream => Sys2Proof.Machine.execStreamEnd producer stream s
  | .digest job => Sys2Proof.Machine.execDigest job s
  | .finish job => Sys2Proof.Machine.execFinish job s
  | .hallmarkRelease job => Sys2Proof.Machine.execHallmarkRelease job s
  | .hallmarkLwCmd master value => Sys2Proof.Machine.execHallmarkLwCmd master value s
  | .hallmarkSealExpWrite master index value => Sys2Proof.Machine.execHallmarkSealExpWrite master index value s
  | .lookup job differs => Sys2Proof.Machine.execLookup job differs s
  | .lookupResume job differs => Sys2Proof.Machine.execLookupResume job differs s
  | .pendingWaitTimeout job differs => Sys2Proof.Machine.execPendingWaitTimeout job differs s
  | .commit job => Sys2Proof.Machine.execCommit job s
  | .dedupRelease job => Sys2Proof.Machine.execDedupRelease job s
  | .rebuild job => Sys2Proof.Machine.execRebuild job s
  | .takeover job again us ended => Sys2Proof.Machine.execTakeover job again us ended s
  | .manifestSealTimeout d => Sys2Proof.Machine.execManifestSealTimeout d s
  | .deltaBatchCommit => Sys2Proof.Machine.execDeltaBatchCommit s
  | .dedupDomCfgWrite master value => Sys2Proof.Machine.execDedupDomCfgWrite master value s
  | .pleat job out => Sys2Proof.Machine.execPleat job out s
  | .unpleat job => Sys2Proof.Machine.execUnpleat job s
  | .pleatCtxExpiry ctx => Sys2Proof.Machine.execPleatCtxExpiry ctx s
  | .gcmSeal job => Sys2Proof.Machine.execGcmSeal job s
  | .gcmOpen job => Sys2Proof.Machine.execGcmOpen job s
  | .xtsEnc job => Sys2Proof.Machine.execXtsEnc job s
  | .xtsDec job => Sys2Proof.Machine.execXtsDec job s
  | .ctr job => Sys2Proof.Machine.execCtr job s
  | .keyGen job => Sys2Proof.Machine.execKeyGen job s
  | .keyWrap job => Sys2Proof.Machine.execKeyWrap job s
  | .keyUnwrap job => Sys2Proof.Machine.execKeyUnwrap job s
  | .keyClear job => Sys2Proof.Machine.execKeyClear job s
  | .keyCmdLoad master value => Sys2Proof.Machine.execKeyCmdLoad master value s
  | .keyCmdClear master value => Sys2Proof.Machine.execKeyCmdClear master value s
  | .cipherNonceFloorWrite master value => Sys2Proof.Machine.execCipherNonceFloorWrite master value s
  | .cipherNonceGrantWrite master value => Sys2Proof.Machine.execCipherNonceGrantWrite master value s
  | .encode job => Sys2Proof.Machine.execEncode job s
  | .reconstruct job => Sys2Proof.Machine.execReconstruct job s
  | .verify job => Sys2Proof.Machine.execVerify job s
  | .resolve job => Sys2Proof.Machine.execResolve job s
  | .dirtySet job => Sys2Proof.Machine.execDirtySet job s
  | .dirtySetMirrorAck job => Sys2Proof.Machine.execDirtySetMirrorAck job s
  | .dirtyMapMirror bolt region set => Sys2Proof.Machine.execDirtyMapMirror bolt region set s
  | .dirtyClear job => Sys2Proof.Machine.execDirtyClear job s
  | .resynchronisation bolt region unprotected lost => Sys2Proof.Machine.execResynchronisation bolt region unprotected lost s
  | .rebuildStart n => Sys2Proof.Machine.execRebuildStart n s
  | .rebuildEnd n => Sys2Proof.Machine.execRebuildEnd n s
  | .reshapeStart master value => Sys2Proof.Machine.execReshapeStart master value s
  | .reshapePause master value => Sys2Proof.Machine.execReshapePause master value s
  | .reshapeResume master value => Sys2Proof.Machine.execReshapeResume master value s
  | .reshapeBoltEmptied bolt peer => Sys2Proof.Machine.execReshapeBoltEmptied bolt peer s
  | .quiltUnfreeze master value => Sys2Proof.Machine.execQuiltUnfreeze master value s
  | .quiltDrainMaskWrite master value => Sys2Proof.Machine.execQuiltDrainMaskWrite master value s
  | .quiltLayoutWrite master value => Sys2Proof.Machine.execQuiltLayoutWrite master value s
  | .quiltWriteLayoutWrite master value => Sys2Proof.Machine.execQuiltWriteLayoutWrite master value s
  | .mapLookup job bad => Sys2Proof.Machine.execMapLookup job bad s
  | .record job => Sys2Proof.Machine.execRecord job s
  | .orderedRecordApply index => Sys2Proof.Machine.execOrderedRecordApply index s
  | .dealloc job => Sys2Proof.Machine.execDealloc job s
  | .mapperZero job => Sys2Proof.Machine.execMapperZero job s
  | .chunkNew job => Sys2Proof.Machine.execChunkNew job s
  | .chunkNewExpiry id => Sys2Proof.Machine.execChunkNewExpiry id s
  | .relocate job back => Sys2Proof.Machine.execRelocate job back s
  | .forwardedRelocate dom list => Sys2Proof.Machine.execForwardedRelocate dom list s
  | .chunkLost job => Sys2Proof.Machine.execChunkLost job s
  | .boltOpen job => Sys2Proof.Machine.execBoltOpen job s
  | .boltClose job => Sys2Proof.Machine.execBoltClose job s
  | .boltSubst job => Sys2Proof.Machine.execBoltSubst job s
  | .recount job => Sys2Proof.Machine.execRecount job s
  | .mapperCheckpoint => Sys2Proof.Machine.execMapperCheckpoint s
  | .dirtyPageWriteback page bolt stripe slot crc => Sys2Proof.Machine.execDirtyPageWriteback page bolt stripe slot crc s
  | .compaction n g base old => Sys2Proof.Machine.execCompaction n g base old s
  | .mapperReplay start unclean loaded ms => Sys2Proof.Machine.execMapperReplay start unclean loaded ms s
  | .degradedModeEntered => Sys2Proof.Machine.execDegradedModeEntered s
  | .logBoltFold n => Sys2Proof.Machine.execLogBoltFold n s
  | .greedyGc => Sys2Proof.Machine.execGreedyGc s
  | .priorityGc => Sys2Proof.Machine.execPriorityGc s
  | .wearLevelling => Sys2Proof.Machine.execWearLevelling s
  | .programFailure n die block stripe => Sys2Proof.Machine.execProgramFailure n die block stripe s
  | .eraseFailure b index => Sys2Proof.Machine.execEraseFailure b index s
  | .eraseComplete b => Sys2Proof.Machine.execEraseComplete b s
  | .retentionLimit b => Sys2Proof.Machine.execRetentionLimit b s
  | .mapperThrLoad master value => Sys2Proof.Machine.execMapperThrLoad master value s
  | .mapperCacheSizeWrite master value => Sys2Proof.Machine.execMapperCacheSizeWrite master value s
  | .snapCreate master value => Sys2Proof.Machine.execSnapCreate master value s
  | .snapFreeze j => Sys2Proof.Machine.execSnapFreeze j s
  | .snapDelete master value => Sys2Proof.Machine.execSnapDelete master value s
  | .deadListEntry n epoch => Sys2Proof.Machine.execDeadListEntry n epoch s
  | .snapAttach master value => Sys2Proof.Machine.execSnapAttach master value s
  | .snapDetach master value => Sys2Proof.Machine.execSnapDetach master value s
  | .sessionStart master value => Sys2Proof.Machine.execSessionStart master value s
  | .sessionStop master value => Sys2Proof.Machine.execSessionStop master value s
  | .replOpen p cursor base epoch kcv fps => Sys2Proof.Machine.execReplOpen p cursor base epoch kcv fps s
  | .fpBatch p entries => Sys2Proof.Machine.execFpBatch p entries s
  | .fpReply p bitmap frames fps => Sys2Proof.Machine.execFpReply p bitmap frames fps s
  | .replData p g len frame chunk => Sys2Proof.Machine.execReplData p g len frame chunk s
  | .replUnmap p first count => Sys2Proof.Machine.execReplUnmap p first count s
  | .replZero p first count => Sys2Proof.Machine.execReplZero p first count s
  | .replCkpt p cursor => Sys2Proof.Machine.execReplCkpt p cursor s
  | .ckptAck p cursor => Sys2Proof.Machine.execCkptAck p cursor s
  | .done p epoch => Sys2Proof.Machine.execDone p epoch s
  | .replRetry p => Sys2Proof.Machine.execReplRetry p s
  | .read job => Sys2Proof.Machine.execRead job s
  | .softRead job => Sys2Proof.Machine.execSoftRead job s
  | .program job => Sys2Proof.Machine.execProgram job s
  | .erase job => Sys2Proof.Machine.execErase job s
  | .createQp job => Sys2Proof.Machine.execCreateQp job s
  | .deleteQp job => Sys2Proof.Machine.execDeleteQp job s
  | .identify job => Sys2Proof.Machine.execIdentify job s
  | .loadProfile job => Sys2Proof.Machine.execLoadProfile job s
  | .defectMap job => Sys2Proof.Machine.execDefectMap job s
  | .telemetry job => Sys2Proof.Machine.execTelemetry job s
  | .getWitness job => Sys2Proof.Machine.execGetWitness job s
  | .wCas job => Sys2Proof.Machine.execWCas job s
  | .setEpoch job => Sys2Proof.Machine.execSetEpoch job s
  | .moduleCompletion id a => Sys2Proof.Machine.execModuleCompletion id a s
  | .deepDecodeDone id cw user plane fixed => Sys2Proof.Machine.execDeepDecodeDone id cw user plane fixed s
  | .modulePresent n => Sys2Proof.Machine.execModulePresent n s
  | .stitchModAttach inst master value => Sys2Proof.Machine.execStitchModAttach inst master value s
  | .stitchModDetach inst master value => Sys2Proof.Machine.execStitchModDetach inst master value s
  | .stitchModPowerOff inst master value => Sys2Proof.Machine.execStitchModPowerOff inst master value s
  | .stitchModHotReset inst master value => Sys2Proof.Machine.execStitchModHotReset inst master value s
  | .modulePowerGrant => Sys2Proof.Machine.execModulePowerGrant s
  | .perstReleaseTimer n => Sys2Proof.Machine.execPerstReleaseTimer n s
  | .moduleLinkUp n width gen flit ltssm => Sys2Proof.Machine.execModuleLinkUp n width gen flit ltssm s
  | .linkTrainTimeout n => Sys2Proof.Machine.execLinkTrainTimeout n s
  | .configureComplete n serial dies profiles defects slots roles => Sys2Proof.Machine.execConfigureComplete n serial dies profiles defects slots roles s
  | .configureTimeout n => Sys2Proof.Machine.execConfigureTimeout n s
  | .commandTimeoutExpiry id => Sys2Proof.Machine.execCommandTimeoutExpiry id s
  | .deleteQpTimeout n => Sys2Proof.Machine.execDeleteQpTimeout n s
  | .moduleLinkDown n => Sys2Proof.Machine.execModuleLinkDown n s
  | .surpriseRemoval n => Sys2Proof.Machine.execSurpriseRemoval n s
  | .moduleFatal n => Sys2Proof.Machine.execModuleFatal n s
  | .moduleAlert n bits => Sys2Proof.Machine.execModuleAlert n bits s
  | .detachComplete n => Sys2Proof.Machine.execDetachComplete n s
  | .telemetryTimer => Sys2Proof.Machine.execTelemetryTimer s
  | .pcieCompletionTimeout n => Sys2Proof.Machine.execPcieCompletionTimeout n s
  | .pcieError n bits replays => Sys2Proof.Machine.execPcieError n bits replays s
  | .stitchRoleEpochHiWrite master value => Sys2Proof.Machine.execStitchRoleEpochHiWrite master value s
  | .chooseBolt job => Sys2Proof.Machine.execChooseBolt job s
  | .chooseSubst job => Sys2Proof.Machine.execChooseSubst job s
  | .chooseCopies job => Sys2Proof.Machine.execChooseCopies job s
  | .eligibilityChange => Sys2Proof.Machine.execEligibilityChange s
  | .shareRecompute host gc rebuild metadata => Sys2Proof.Machine.execShareRecompute host gc rebuild metadata s
  | .patternBlockUseWrite master value => Sys2Proof.Machine.execPatternBlockUseWrite master value s
  | .seamEnable master l value => Sys2Proof.Machine.execSeamEnable master l value s
  | .lanesAligned l => Sys2Proof.Machine.execLanesAligned l s
  | .trainingTimeout l => Sys2Proof.Machine.execTrainingTimeout l s
  | .probationEnd l => Sys2Proof.Machine.execProbationEnd l s
  | .seamRetrainTimer l => Sys2Proof.Machine.execSeamRetrainTimer l s
  | .seamCtrlRetire master l value => Sys2Proof.Machine.execSeamCtrlRetire master l value s
  | .seamCtrlRetrain master l value => Sys2Proof.Machine.execSeamCtrlRetrain master l value s
  | .seamDataFrame l fseq first corr uncorr ok => Sys2Proof.Machine.execSeamDataFrame l fseq first corr uncorr ok s
  | .laneLockLoss l lane => Sys2Proof.Machine.execLaneLockLoss l lane s
  | .noFrameTimeout l => Sys2Proof.Machine.execNoFrameTimeout l s
  | .heartbeat l fseq hb => Sys2Proof.Machine.execHeartbeat l fseq hb s
  | .heartbeatSend => Sys2Proof.Machine.execHeartbeatSend s
  | .partnerSilent => Sys2Proof.Machine.execPartnerSilent s
  | .leaseLapse => Sys2Proof.Machine.execLeaseLapse s
  | .journalRecord hdr data => Sys2Proof.Machine.execJournalRecord hdr data s
  | .mirrorAck n => Sys2Proof.Machine.execMirrorAck n s
  | .nack n => Sys2Proof.Machine.execNack n s
  | .retainSend => Sys2Proof.Machine.execRetainSend s
  | .retain h => Sys2Proof.Machine.execRetain h s
  | .yieldMessage cause => Sys2Proof.Machine.execYieldMessage cause s
  | .peerYieldSeen => Sys2Proof.Machine.execPeerYieldSeen s
  | .fenceMessage role epoch => Sys2Proof.Machine.execFenceMessage role epoch s
  | .join => Sys2Proof.Machine.execJoin s
  | .catchupDone n => Sys2Proof.Machine.execCatchupDone n s
  | .roleRelease role epoch => Sys2Proof.Machine.execRoleRelease role epoch s
  | .headpairCmdYield master value => Sys2Proof.Machine.execHeadpairCmdYield master value s
  | .arbitrationRound before between late => Sys2Proof.Machine.execArbitrationRound before between late s
  | .arbitrationLimitExpiry => Sys2Proof.Machine.execArbitrationLimitExpiry s
  | .setEpochTimeout n => Sys2Proof.Machine.execSetEpochTimeout n s
  | .svcReportWrite master cluster value => Sys2Proof.Machine.execSvcReportWrite master cluster value s
  | .svcStallTimeout => Sys2Proof.Machine.execSvcStallTimeout s
  | .hostPortsTimeout => Sys2Proof.Machine.execHostPortsTimeout s
  | .thermalLimit => Sys2Proof.Machine.execThermalLimit s
  | .lockstepDisagreement => Sys2Proof.Machine.execLockstepDisagreement s
  | .svcCtrlWrite master cluster value => Sys2Proof.Machine.execSvcCtrlWrite master cluster value s
  | .claspGo master c value wakeUs => Sys2Proof.Machine.execClaspGo master c value wakeUs s
  | .claspInRel master c value wakeUs => Sys2Proof.Machine.execClaspInRel master c value wakeUs s
  | .claspTimeoutExpiry c => Sys2Proof.Machine.execClaspTimeoutExpiry c s
  | .remoteClaspMessage c sender words wakeUs => Sys2Proof.Machine.execRemoteClaspMessage c sender words wakeUs s
  | .locketRecord gts source code payload => Sys2Proof.Machine.execLocketRecord gts source code payload s
  | .locketHandoverTimeout => Sys2Proof.Machine.execLocketHandoverTimeout s
  | .spillPage => Sys2Proof.Machine.execSpillPage s
  | .locketSeqBaseHiWrite master value => Sys2Proof.Machine.execLocketSeqBaseHiWrite master value s
  | .locketSeqNextLoRead master => Sys2Proof.Machine.execLocketSeqNextLoRead master s
  | .locketWinData0Read master => Sys2Proof.Machine.execLocketWinData0Read master s
  | .locketWinData15Read master => Sys2Proof.Machine.execLocketWinData15Read master s
  | .locketClearChalLoRead master => Sys2Proof.Machine.execLocketClearChalLoRead master s
  | .locketClearCmd master value => Sys2Proof.Machine.execLocketClearCmd master value s
  | .gtsNowLoRead master => Sys2Proof.Machine.execGtsNowLoRead master s
  | .gtsCalSecondsLoRead master => Sys2Proof.Machine.execGtsCalSecondsLoRead master s
  | .gtsCalCmd master value => Sys2Proof.Machine.execGtsCalCmd master value s
  | .pwrseqStandby master value => Sys2Proof.Machine.execPwrseqStandby master value s
  | .standbyCommit => Sys2Proof.Machine.execStandbyCommit s
  | .thimbleArm => Sys2Proof.Machine.execThimbleArm s
  | .wakeAddressMatch addr => Sys2Proof.Machine.execWakeAddressMatch addr s
  | .wakeNLow held => Sys2Proof.Machine.execWakeNLow held s
  | .pwrFailNRise => Sys2Proof.Machine.execPwrFailNRise s
  | .aonPowerOn => Sys2Proof.Machine.execAonPowerOn s
  | .pwrseqDomCtrlOn master value => Sys2Proof.Machine.execPwrseqDomCtrlOn master value s
  | .pwrseqDomCtrlOff master value => Sys2Proof.Machine.execPwrseqDomCtrlOff master value s
  | .domainGrant => Sys2Proof.Machine.execDomainGrant s
  | .rampEnd us => Sys2Proof.Machine.execRampEnd us s
  | .rampTimeout us => Sys2Proof.Machine.execRampTimeout us s
  | .domainReady d => Sys2Proof.Machine.execDomainReady d s
  | .quiesced d => Sys2Proof.Machine.execQuiesced d s
  | .clamped d => Sys2Proof.Machine.execClamped d s
  | .dischargeDone d => Sys2Proof.Machine.execDischargeDone d s
  | .brownoutStart mon mv => Sys2Proof.Machine.execBrownoutStart mon mv s
  | .brownoutEnd => Sys2Proof.Machine.execBrownoutEnd s
  | .monitorTrip mon mv => Sys2Proof.Machine.execMonitorTrip mon mv s
  | .powerFail => Sys2Proof.Machine.execPowerFail s
  | .dumpCommit bytes us => Sys2Proof.Machine.execDumpCommit bytes us s
  | .dumpResume => Sys2Proof.Machine.execDumpResume s
  | .dumpReplay partner mirror => Sys2Proof.Machine.execDumpReplay partner mirror s
  | .selvedgeRelease master value => Sys2Proof.Machine.execSelvedgeRelease master value s
  | .resetRelease => Sys2Proof.Machine.execResetRelease s
  | .stage1VerifyDone ctx fmt pages => Sys2Proof.Machine.execStage1VerifyDone ctx fmt pages s
  | .packageVerifyDone ctx sigOk conv => Sys2Proof.Machine.execPackageVerifyDone ctx sigOk conv s
  | .stage master value ctx sigOk => Sys2Proof.Machine.execStage master value ctx sigOk s
  | .activate master value pauseMs => Sys2Proof.Machine.execActivate master value pauseMs s
  | .confirm master value => Sys2Proof.Machine.execConfirm master value s
  | .recover master value => Sys2Proof.Machine.execRecover master value s
  | .recoveryBundleReceived bundle path ctx sigOk => Sys2Proof.Machine.execRecoveryBundleReceived bundle path ctx sigOk s
  | .otpAdd master value => Sys2Proof.Machine.execOtpAdd master value s
  | .otpRevoke master value => Sys2Proof.Machine.execOtpRevoke master value s
  | .svnRaise master value => Sys2Proof.Machine.execSvnRaise master value s
  | .bootWatchdogExpiry => Sys2Proof.Machine.execBootWatchdogExpiry s
  | .trialTimeout => Sys2Proof.Machine.execTrialTimeout s
  | .topSwResetWrite master value => Sys2Proof.Machine.execTopSwResetWrite master value s
  | .sysRstNLow => Sys2Proof.Machine.execSysRstNLow s
  | .thermtrip => Sys2Proof.Machine.execThermtrip s
  | .mgmtLinkChange up => Sys2Proof.Machine.execMgmtLinkChange up s
  | .ptpLockLoss => Sys2Proof.Machine.execPtpLockLoss s
  | .gpioEdge gpio level => Sys2Proof.Machine.execGpioEdge gpio level s
  | .remoteAccessAnswer id value => Sys2Proof.Machine.execRemoteAccessAnswer id value s
  | .remoteLatchAck c latched => Sys2Proof.Machine.execRemoteLatchAck c latched s
  | .xtalAonRunning => Sys2Proof.Machine.execXtalAonRunning s
  | .vddAonRemoval => Sys2Proof.Machine.execVddAonRemoval s
  | .jtagReset => Sys2Proof.Machine.execJtagReset s
  | .engineUncorrectableError e => Sys2Proof.Machine.execEngineUncorrectableError e s

end Sys2Proof.Machine
end

