-- ==== Sys2Proof/Safety.lean ====
section
/-! DEFINITION. What the statements call safe: memory and registers in their one form, and what no command may undo. -/
namespace Sys2Proof.Machine

/-- Memory has its one form: addresses rise strictly and no listed byte is 0, which an unlisted address reads as. -/
def Memory.wf (m : Memory) : Bool := Rising m.cells && m.cells.all fun c => c.2 != 0

/-- The register table has its one form: keys rise strictly. -/
def State.regsRise (s : State) : Bool := Rising s.regs

/-- The invariant of the block: its memory and its register table have their one form. -/
def State.Sound (s : State) : Prop := s.mem.wf = true ∧ s.regsRise = true

/-- One OTP entry as it may become: a valid entry keeps its digest and stays valid, a revoked one stays revoked ("OTP writes are
permanent", 16). -/
def OtpEntry.Becomes (a b : OtpEntry) : Prop :=
  (a.valid = true → b.valid = true ∧ b.digest = a.digest) ∧ (a.revoked = true → b.revoked = true)

/-- Nothing the OTP holds is undone from `s` to `t`. -/
def OtpKept (s t : State) : Prop :=
  (∀ i, (s.boot.otp.getD i {}).Becomes (t.boot.otp.getD i {})) ∧ s.boot.svnFloor ≤ t.boot.svnFloor

/-- The parts of the state that a command may change or leave alone. Of `Power` the flag of a wake that is due stands apart, since any
interrupt may set it; of `Memory` the bytes and the side bands do. -/
inductive Part where
  | gts | cal | pins | regs | wos | lockWins | accWin | remotes | cells | lines | store | eng | locket | wake | power | boot | bd | hq
  | pair | clasp | cipher | hall | pleat | stitch | urt | dedup | map | pat | quilt | repl | out | fresh
  deriving DecidableEq, Repr

/-- Every part. -/
def Part.all : List Part := [.gts, .cal, .pins, .regs, .wos, .lockWins, .accWin, .remotes, .cells, .lines, .store, .eng, .locket, .wake,
  .power, .boot, .bd, .hq, .pair, .clasp, .cipher, .hall, .pleat, .stitch, .urt, .dedup, .map, .pat, .quilt, .repl, .out, .fresh]

/-- The part is the same in both states. -/
def Part.same (f : Part) (s t : State) : Prop :=
  match f with
  | .gts => t.gts = s.gts
  | .cal => t.cal = s.cal
  | .pins => t.pins = s.pins
  | .regs => t.regs = s.regs
  | .wos => t.wosDone = s.wosDone
  | .lockWins => t.lockWins = s.lockWins
  | .accWin => t.accWin = s.accWin
  | .remotes => t.remotes = s.remotes
  | .cells => t.mem.cells = s.mem.cells
  | .lines => t.mem.lines = s.mem.lines
  | .store => t.mem = { s.mem with cells := t.mem.cells, lines := t.mem.lines }
  | .eng => t.eng = s.eng
  | .locket => t.locket = s.locket
  | .wake => t.power.wakePend = s.power.wakePend
  | .power => t.power = { s.power with wakePend := t.power.wakePend }
  | .boot => t.boot = s.boot
  | .bd => t.bd = s.bd
  | .hq => t.hq = s.hq
  | .pair => t.pair = s.pair
  | .clasp => t.clasp = s.clasp
  | .cipher => t.cipher = s.cipher
  | .hall => t.hall = s.hall
  | .pleat => t.pleat = s.pleat
  | .stitch => t.stitch = s.stitch
  | .urt => t.urt = s.urt
  | .dedup => t.dedup = s.dedup
  | .map => t.map = s.map
  | .pat => t.pat = s.pat
  | .quilt => t.quilt = s.quilt
  | .repl => t.repl = s.repl
  | .out => t.out = s.out
  | .fresh => t.fresh = s.fresh

/-- From `s` to `t` nothing changes but the parts listed. -/
def OnlyParts (F : List Part) (s t : State) : Prop := ∀ f, f ∈ F ∨ f.same s t

/-- The registers of the pages `ps` alone may differ. -/
def OnlyPages (ps : List Nat) (s t : State) : Prop :=
  ∀ q off i, q ∉ ps → off < 0x10000 → i < 0x10000 → t.rd q off i = s.rd q off i

/-- The newest record that Locket holds, or, before its page is released, that the MP keeps for it (14 R562, 16 R614). -/
def State.newest (s : State) : Option LkRec :=
  if bitOf s.boot.ready Pg.LOCKET then s.locket.recs.getLast? else s.locket.boot.getLast?

/-- The newest record has this event code and this payload. -/
def State.Told (t : State) (code : Nat) (fs : List Pf) : Prop :=
  ∃ r, t.newest = some r ∧ r.code = code ∧ r.payload = padTo 32 (packPayload fs)

end Sys2Proof.Machine
end

