-- ==== Sys2Proof/Certificates/Slice0/Touched.lean ====
section
/-! DEFINITION. Which parts of the state each command may change, whatever the state and its operands. -/
namespace Sys2Proof.Machine

/-- What a record and an interrupt may change: registers (interrupt bits, counters), Locket and its copy in the ring, and the flag of
a wake that is due. -/
def Part.noted : List Part := [.regs, .cells, .lines, .locket, .wake]

/-- What an access to memory may change beside those: the error and page tables of memory, and the window of refused accesses. -/
def Part.accessed : List Part := [.accWin, .store] ++ Part.noted

/-- What the write of a register may change: write-once fields that count as written, and the window of refused writes. -/
def Part.written : List Part := [.wos, .lockWins] ++ Part.noted

/-- The parts that a command may change. The queue is no part: only `step` takes from it. -/
def touched (c : Instr) : List Part :=
  match c with
  | .registerWrite .. => [.accWin, .remotes, .bd, .hq, .out] ++ Part.written
  | .lockReportWindowEnd .. => [.lockWins, .accWin] ++ Part.noted
  | .pageLockWrite .. | .irqForceWrite .. | .pageSnap .. | .ringPiWrite .. | .cringHeadWrite .. | .cringIrqClear .. |
      .engineEnableSet .. | .engineEnableClear .. | .ethCfgWrite .. | .syscacheWayDisWrite .. | .ddrcFailWrite .. |
      .hbmcPcRetireWrite .. | .ddrcMapCfgWrite .. | .dedupDomCfgWrite .. | .quiltDrainMaskWrite .. | .quiltLayoutWrite .. |
      .quiltWriteLayoutWrite .. | .mapperCacheSizeWrite .. | .stitchRoleEpochHiWrite .. | .patternBlockUseWrite .. |
      .seamEnable .. | .seamCtrlRetrain .. | .svcCtrlWrite .. | .locketSeqBaseHiWrite .. => Part.written
  | .gtsSnapLoRead .. | .abortCommand .. | .nack .. | .locketSeqNextLoRead .. | .locketWinData0Read .. |
      .locketWinData15Read .. | .locketClearChalLoRead .. | .gtsNowLoRead .. | .gtsCalSecondsLoRead .. => [.regs, .out]
  | .remoteAccess .. => [.bd, .hq, .out] ++ Part.written
  | .remoteAccessTimeout .. => [.remotes, .out] ++ Part.noted
  | .memoryRead .. => [.remotes, .out, .fresh] ++ Part.accessed
  | .partialWrite .. | .fullLineWrite .. => [.pins, .eng, .bd, .stitch, .out] ++ Part.accessed
  | .descriptorFetch .. | .rebuild .. | .gcmOpen .. | .xtsEnc .. | .xtsDec .. | .ctr .. | .keyWrap .. | .encode .. |
      .reconstruct .. => [.eng, .out, .fresh] ++ Part.accessed
  | .jobComplete .. | .heldRecordWrite .. | .spoolAlloc .. => [.eng, .out] ++ Part.accessed
  | .ringEnableSet .. | .ringEnableClear .. | .cringEnableSet .. | .cringEnableClear .. => [.wos, .lockWins, .eng, .out] ++
      Part.accessed
  | .calSecondRollover => [.gts, .cal, .regs]
  | .add .. | .sub .. | .and .. | .or .. | .xor .. | .shl .. | .shr .. | .sra .. | .slt .. | .sltu .. | .addi .. | .andi ..
      | .lui .. | .mul .. | .mulhu .. | .divu .. | .popc .. | .clz .. | .crcw .. | .ldw .. | .stw .. | .ldt .. | .beq .. |
      .bne .. | .blt .. | .bltu .. | .jal .. | .jr .. | .snd .. | .sendStallTimeout .. | .rcv .. | .qwait .. | .qcnt .. |
      .tset .. | .tstop .. | .trd .. | .earm .. | .erd .. | .fnc .. | .vadd .. | .vxor .. | .vand .. | .vbc .. | .vext .. |
      .vins .. | .vshuf .. | .gfmac .. | .ebnd .. | .halt .. | .undefinedOpcode .. | .drainComplete | .drainLimitExpiry |
      .exchangeLoadComplete => .bd :: Part.noted
  | .sndUnstall .. | .rcvWake .. | .qwaitWake .. | .fncAccept .. => [.bd]
  | .fld .. => [.accWin, .bd] ++ Part.noted
  | .fldDataReturn .. => [.store, .bd] ++ Part.noted
  | .fst .. | .jsub .. | .jsubUnstall .. => [.bd, .out] ++ Part.accessed
  | .timerExpiry .. => [.gts, .cal, .bd]
  | .edgeEvent .. => [.regs, .bd]
  | .strandLoad .. => [.wos, .lockWins, .power, .bd, .fresh] ++ Part.accessed
  | .strandLoadDone | .exchangeVerified => [.bd, .hall] ++ Part.noted
  | .strandStart .. | .strandAbort .. => .bd :: Part.written
  | .strandExchange .. => [.wos, .lockWins, .bd, .fresh] ++ Part.accessed
  | .capsuleReceive .. => [.power, .bd, .hq, .pair, .out] ++ Part.noted
  | .commandAdmit | .hostCompletionSend .. => [.hq, .out] ++ Part.noted
  | .nvmRead .. | .compare .. | .kvRetrieve .. => [.hq, .map] ++ Part.noted
  | .nvmWrite .. | .writeZeroes .. | .datasetManagement .. | .unsupportedNvmCommand .. | .kvStore .. | .kvDelete .. |
      .disconnect .. | .controllerReset .. | .keepAliveExpiry .. | .transportConnectionLoss .. | .retainSend => [.hq, .pair,
      .out] ++ Part.noted
  | .flush .. | .reservationRegister .. | .reservationReport .. | .reservationAcquire .. | .reservationRelease .. | .kvExist .. | .kvList .. | .controllerEnable .. => [.hq]
  | .compareAndWrite .. | .copy .. => [.hq, .pair, .map, .out] ++ Part.noted
  | .nvmeofConnect .. => [.regs, .hq, .out]
  | .setQueueAttributes .. | .arbitrationFeature .. | .keepAlive .. | .forwardedCommand .. => [.hq, .out]
  | .namespaceCreate .. | .namespaceResize .. | .forwardedRelocate .. | .priorityGc => [.map, .out]
  | .setPowerState .. => [.power, .bd, .hq, .out] ++ Part.noted
  | .anaLogPage .. => [.out]
  | .hostqQreset .. => [.hq, .pair, .out] ++ Part.written
  | .hostqAnaStateWrite .. => .out :: Part.written
  | .idleTimerExpiry | .domainReady .. => [.power, .bd] ++ Part.noted
  | .urtSendPacket .. | .urtWritePacket .. | .readReq .. | .readResp .. | .urtSend .. | .urtWrite .. => [.eng, .cipher,
      .urt, .out, .fresh] ++ Part.accessed
  | .urtAck .. | .rtoExpiry .. | .seamDataFrame .. | .laneLockLoss .. | .noFrameTimeout .. => [.eng, .hq, .pair, .cipher,
      .urt, .out] ++ Part.accessed
  | .urtConnect .. | .connectAck .. | .urtOpen .. | .urtRecv .. | .roceAtomicRequest .. => [.eng, .urt, .out] ++
      Part.accessed
  | .urtClosePacket .. | .urtClose .. | .roceRetryExhausted .. => [.eng, .hq, .pair, .urt, .out] ++ Part.accessed
  | .ackTimer .. | .roceCmRequest .. => [.regs, .urt, .out]
  | .pacedSend .. => [.cipher, .urt, .out] ++ Part.noted
  | .urtRead .. => [.eng, .cipher, .urt, .out] ++ Part.accessed
  | .rocePacket .. => [.eng, .urt, .out, .fresh] ++ Part.accessed
  | .cnpReceive .. => [.regs, .urt, .fresh]
  | .subportLinkUp .. | .subportLinkDown .. | .fecSecondEnd .. | .pfcPauseTimeout .. => [.urt, .out] ++ Part.accessed
  | .urtInternalError .. => [.pins, .hq, .pair, .urt, .out] ++ Part.accessed
  | .urtCtrlReset .. => [.wos, .lockWins, .eng, .urt, .out] ++ Part.accessed
  | .urtEqHeadWrite .. => [.wos, .lockWins, .urt, .out] ++ Part.accessed
  | .spoolFree .. | .resolve .. => [.eng, .fresh] ++ Part.accessed
  | .spoolAllocCmd .. | .spoolFreeCmd .. | .spoolCfgWrite .. => .store :: Part.written
  | .scrub .. | .memoryInitDone .. | .cacheErrWindowEnd .. => .store :: Part.noted
  | .hbmStackFailure .. | .perstReleaseTimer .. | .arbitrationLimitExpiry | .svcStallTimeout | .hostPortsTimeout |
      .thermalLimit | .lockstepDisagreement | .engineUncorrectableError .. => [.pins, .hq, .pair, .out] ++ Part.noted
  | .hbmTemperatureHigh .. | .degradedModeEntered | .pcieError .. | .eligibilityChange | .trainingTimeout .. | .probationEnd .. | .seamRetrainTimer .. | .leaseLapse | .claspTimeoutExpiry .. | .locketRecord .. | .spillPage | .mgmtLinkChange ..
      | .ptpLockLoss => Part.noted
  | .hallmarkInit .. | .bind .. | .hallmarkRelease .. => [.regs, .eng, .hall]
  | .snoopBeat .. => [.hall, .out] ++ Part.accessed
  | .catchupRead .. => [.hall, .out, .fresh] ++ Part.accessed
  | .streamEnd .. | .finish .. => [.eng, .hall, .out] ++ Part.accessed
  | .digest .. => [.eng, .hall, .out, .fresh] ++ Part.accessed
  | .hallmarkLwCmd .. => [.wos, .lockWins, .hall, .out] ++ Part.accessed
  | .hallmarkSealExpWrite .. => .hall :: Part.written
  | .lookup .. | .lookupResume .. | .pendingWaitTimeout .. | .commit .. | .dedupRelease .. => [.eng, .dedup, .map, .out,
      .fresh] ++ Part.accessed
  | .takeover .. => [.eng, .dedup, .map, .out] ++ Part.noted
  | .manifestSealTimeout .. => [.dedup, .out, .fresh] ++ Part.accessed
  | .deltaBatchCommit => [.dedup]
  | .pleat .. | .unpleat .. => [.eng, .pleat, .out, .fresh] ++ Part.accessed
  | .pleatCtxExpiry .. => .pleat :: Part.noted
  | .gcmSeal .. => [.eng, .cipher, .out, .fresh] ++ Part.accessed
  | .keyGen .. => [.eng, .cipher, .fresh] ++ Part.noted
  | .keyUnwrap .. => [.eng, .cipher, .fresh] ++ Part.accessed
  | .keyClear .. => [.eng, .cipher] ++ Part.noted
  | .keyCmdLoad .. | .keyCmdClear .. | .cipherNonceFloorWrite .. | .cipherNonceGrantWrite .. => .cipher :: Part.written
  | .verify .. => [.eng, .map, .quilt, .out, .fresh] ++ Part.accessed
  | .dirtySet .. | .dirtyClear .. => [.eng, .quilt, .out]
  | .dirtySetMirrorAck .. => [.eng, .quilt]
  | .dirtyMapMirror .. => [.quilt, .out]
  | .resynchronisation .. | .rebuildEnd .. | .reshapeBoltEmptied .. => [.map, .quilt, .out] ++ Part.noted
  | .rebuildStart .. | .programFailure .. => [.map, .quilt] ++ Part.noted
  | .reshapeStart .. | .reshapeResume .. | .quiltUnfreeze .. => [.map, .quilt, .out] ++ Part.written
  | .reshapePause .. => .quilt :: Part.written
  | .mapLookup .. => [.eng, .map, .out] ++ Part.accessed
  | .record .. => [.eng, .hq, .pair, .dedup, .map, .out, .fresh] ++ Part.accessed
  | .orderedRecordApply .. | .dealloc .. | .mapperZero .. => [.eng, .hq, .pair, .dedup, .map, .out] ++ Part.noted
  | .chunkNew .. | .chunkLost .. | .boltOpen .. => [.eng, .map, .fresh] ++ Part.accessed
  | .chunkNewExpiry .. => [.map, .out] ++ Part.noted
  | .relocate .. => [.eng, .map, .out, .fresh] ++ Part.accessed
  | .boltClose .. => [.eng, .map, .quilt]
  | .boltSubst .. => [.eng, .map, .quilt, .fresh] ++ Part.accessed
  | .recount .. => [.eng, .map, .out] ++ Part.noted
  | .mapperCheckpoint | .dirtyPageWriteback .. | .wearLevelling => [.map]
  | .compaction .. | .logBoltFold .. | .deadListEntry .. => [.dedup, .map, .out] ++ Part.noted
  | .mapperReplay .. => [.hq, .pair, .dedup, .map, .quilt, .out] ++ Part.noted
  | .greedyGc => [.regs, .map, .out]
  | .eraseFailure .. => [.map, .pat] ++ Part.noted
  | .eraseComplete .. => [.map, .pat, .quilt] ++ Part.noted
  | .retentionLimit .. | .snapFreeze .. => .map :: Part.noted
  | .mapperThrLoad .. => [.wos, .lockWins, .map, .fresh] ++ Part.accessed
  | .snapCreate .. => [.wos, .lockWins, .hq, .pair, .map, .out, .fresh] ++ Part.accessed
  | .snapDelete .. | .snapAttach .. | .snapDetach .. => .map :: Part.written
  | .sessionStart .. => [.repl, .out] ++ Part.written
  | .sessionStop .. => .repl :: Part.written
  | .replOpen .. | .fpReply .. => [.repl, .out] ++ Part.noted
  | .fpBatch .. | .replData .. | .replUnmap .. | .replZero .. => [.hq, .pair, .dedup, .map, .repl, .out] ++ Part.noted
  | .replCkpt .. => [.regs, .repl, .out]
  | .ckptAck .. => [.regs, .repl]
  | .done .. => [.hq, .pair, .map, .repl, .out] ++ Part.noted
  | .replRetry .. => [.repl, .out]
  | .read .. | .softRead .. | .program .. | .erase .. | .identify .. | .loadProfile .. | .defectMap .. | .telemetry .. |
      .getWitness .. | .wCas .. | .setEpoch .. | .deepDecodeDone .. => [.eng, .stitch, .out, .fresh] ++ Part.accessed
  | .createQp .. | .deleteQp .. => [.eng]
  | .moduleCompletion .. => [.pins, .eng, .hq, .pair, .stitch, .map, .pat, .quilt, .out, .fresh] ++ Part.accessed
  | .modulePresent .. => [.pins, .power, .hq, .pair, .out] ++ Part.noted
  | .stitchModAttach .. => [.pins, .power, .hq, .pair, .out] ++ Part.written
  | .stitchModDetach .. => .stitch :: Part.written
  | .stitchModPowerOff .. => [.pins, .power] ++ Part.written
  | .stitchModHotReset .. => [.pins, .eng, .hq, .pair, .stitch, .out] ++ Part.written
  | .modulePowerGrant | .wakeNLow .. | .pwrFailNRise | .aonPowerOn => [.pins, .power] ++ Part.noted
  | .moduleLinkUp .. => [.pins, .hq, .pair, .stitch, .out] ++ Part.noted
  | .linkTrainTimeout .. | .configureTimeout .. | .moduleFatal .. | .setEpochTimeout .. => [.pins, .eng, .hq, .pair,
      .stitch, .map, .quilt, .out] ++ Part.noted
  | .configureComplete .. => [.pins, .hq, .pair, .stitch, .quilt, .out] ++ Part.noted
  | .commandTimeoutExpiry .. => [.stitch, .out] ++ Part.noted
  | .deleteQpTimeout .. | .moduleLinkDown .. | .pcieCompletionTimeout .. => [.pins, .eng, .hq, .pair, .stitch, .out] ++
      Part.noted
  | .surpriseRemoval .. => [.pins, .eng, .power, .hq, .pair, .stitch, .map, .quilt, .out] ++ Part.noted
  | .moduleAlert .. => [.pins, .regs, .stitch]
  | .detachComplete .. => [.pins, .power, .hq, .pair, .stitch, .out] ++ Part.noted
  | .telemetryTimer => [.regs, .stitch, .out]
  | .chooseBolt .. | .chooseCopies .. => [.eng, .pat, .out] ++ Part.accessed
  | .chooseSubst .. => [.eng, .pat, .out, .fresh] ++ Part.accessed
  | .shareRecompute .. => [.regs, .pat]
  | .lanesAligned .. => .pair :: Part.noted
  | .seamCtrlRetire .. => [.wos, .lockWins, .eng, .hq, .pair, .cipher, .urt, .out] ++ Part.accessed
  | .heartbeat .. => [.gts, .pins, .eng, .hq, .pair, .cipher, .urt, .out] ++ Part.accessed
  | .heartbeatSend => [.pair, .out]
  | .partnerSilent => [.pins, .pair, .out] ++ Part.noted
  | .journalRecord .. | .retain .. | .join => [.regs, .pair, .out]
  | .mirrorAck .. => [.regs, .hq, .pair, .out]
  | .yieldMessage .. | .peerYieldSeen => [.pins, .eng, .hq, .pair, .quilt, .out] ++ Part.noted
  | .fenceMessage .. => [.stitch]
  | .catchupDone .. => [.pair]
  | .roleRelease .. => [.pins, .pair, .stitch, .out] ++ Part.noted
  | .headpairCmdYield .. => [.pins, .hq, .pair, .out] ++ Part.written
  | .arbitrationRound .. => [.gts, .pins, .eng, .hq, .pair, .stitch, .quilt, .out] ++ Part.noted
  | .svcReportWrite .. => .pair :: Part.written
  | .claspGo .. => [.power, .out] ++ Part.written
  | .claspInRel .. => [.power, .clasp, .out] ++ Part.written
  | .remoteClaspMessage .. => [.power, .clasp, .out] ++ Part.noted
  | .locketHandoverTimeout => [.regs, .locket, .wake]
  | .locketClearCmd .. => .fresh :: Part.written
  | .gtsCalCmd .. => .cal :: Part.written
  | .pwrseqStandby .. => [.pins, .eng, .power, .hq, .pair, .stitch, .out] ++ Part.written
  | .standbyCommit => [.regs, .power]
  | .thimbleArm | .activate .. | .recover .. | .recoveryBundleReceived .. | .bootWatchdogExpiry | .trialTimeout |
      .topSwResetWrite .. | .sysRstNLow | .thermtrip | .vddAonRemoval | .jtagReset => Part.all
  | .wakeAddressMatch .. => [.power, .out] ++ Part.noted
  | .pwrseqDomCtrlOn .. | .pwrseqDomCtrlOff .. | .selvedgeRelease .. => .power :: Part.written
  | .domainGrant | .rampTimeout .. => [.pins, .power, .bd] ++ Part.noted
  | .rampEnd .. | .dischargeDone .. => [.pins, .power]
  | .quiesced .. => [.power]
  | .clamped .. => [.pins, .power, .bd]
  | .brownoutStart .. | .brownoutEnd | .monitorTrip .. | .dumpResume => [.power, .stitch, .out] ++ Part.noted
  | .powerFail => [.pins, .power, .stitch, .out] ++ Part.noted
  | .dumpCommit .. => .power :: Part.noted
  | .dumpReplay .. => [.power, .pair, .dedup, .map, .quilt] ++ Part.noted
  | .resetRelease => [.cal, .pins, .wos, .power, .boot, .fresh] ++ Part.noted
  | .stage1VerifyDone .. | .packageVerifyDone .. => [.boot, .hall] ++ Part.noted
  | .stage .. => [.wos, .lockWins, .boot, .hall, .fresh] ++ Part.accessed
  | .confirm .. | .otpRevoke .. | .svnRaise .. => .boot :: Part.written
  | .otpAdd .. => [.wos, .lockWins, .boot, .fresh] ++ Part.accessed
  | .gpioEdge .. => [.pins, .regs, .wake]
  | .remoteAccessAnswer .. => [.remotes, .out]
  | .remoteLatchAck .. | .xtalAonRunning => [.regs]

end Sys2Proof.Machine
end

