-- ==== Sys2Proof/Certificates/Slice0/Obligations.lean ====
section
/-! DEFINITION. The statements for the provers. `Obligations.<Name>` is listed in OBLIGATIONS.json with its title and the rules of the
spec it comes from. -/

open Sys2Proof Sys2Proof.Machine

/-- A step carries out the command at the front of the queue on the rest of the queue -/
def Obligations.FrontCommandRunsOnTheRest : Prop :=
  ∀ (c : Instr) (s : State), step (s.withCommand c) = exec c s ∧ (s.withCommand c).pending = c :: s.pending

/-- On an empty queue one nanosecond passes while the head runs, and nothing at all while it does not -/
def Obligations.EmptyQueueLetsTimePass : Prop :=
  (∀ s : State, s.pending = [] → s.alive = false → step s = .next s) ∧
  ∀ s : State, s.pending = [] → s.alive = true → s.power.wakePend = false →
    ∃ t, step s = .next t ∧ t.gts = s.gts + 1 ∧ t.cal.seconds = s.cal.seconds ∧
      (s.cal.ns < 999999999 → t.cal.ns = s.cal.ns + 1) ∧ (999999999 ≤ s.cal.ns → t.cal.ns = s.cal.ns) ∧
      t = { s with gts := t.gts, cal := t.cal }

/-- The state as power is first applied: GTS 0, every register at its table's reset value, nothing stored, no power domain on -/
def Obligations.ResetHoldsWhatTheSpecGives : Prop :=
  State.reset.pending = [] ∧ State.reset.gts = 0 ∧ State.reset.cal.unsync = true ∧
  (∀ p off i, State.reset.rd p off i = resetAt p off i) ∧
  State.reset.locket.recs = [] ∧ State.reset.locket.vault = [] ∧ State.reset.locket.next = 0 ∧
  (∀ a n, State.reset.peek a n = List.replicate n 0) ∧
  (∀ d, State.reset.domOn d = false) ∧ (∀ p, State.reset.pageReady p = false) ∧
  (∀ i < 16, State.reset.boot.otp[i]? = some ({} : OtpEntry)) ∧ State.reset.boot.svnFloor = 0 ∧ State.reset.alive = false

/-- At reset memory and the register table are in their one form -/
def Obligations.ResetStateIsSound : Prop := State.reset.Sound

/-- Every step, whatever the state, keeps memory and registers in their one form and takes exactly one command off the queue -/
def Obligations.EveryStepKeepsSoundness : Prop :=
  ∀ s t : State, s.Sound → step s = .next t → t.Sound ∧ t.pending = s.pending.tail

/-- No step takes anything back from the OTP: digests, valid marks, revocations and the svn floor stay -/
def Obligations.OtpIsNeverUndone : Prop := ∀ s t : State, step s = .next t → OtpKept s t

/-- The frame of every command: it changes only the parts of the state listed for it -/
def Obligations.EachCommandChangesOnlyItsParts : Prop :=
  ∀ (c : Instr) (s t : State), exec c s = .next t → OnlyParts (touched c) s t

/-- No command ends in a fault or a refusal, and none touches the queue -/
def Obligations.EveryCommandAnswersANextState : Prop :=
  ∀ (c : Instr) (s : State), ∃ t, exec c s = .next t ∧ t.pending = s.pending

/-! ### Beads -/
namespace Sys2Proof.Machine

/-- Bead `n` issues an operation of opcode `op`: the head runs the data plane, the bead runs and waits for nothing, and the vector
registers that the operation names exist and wait for no data. -/
def Issues (s : State) (n op : Nat) : Prop :=
  s.alive = true ∧ s.issues n = true ∧ (s.bead n).pc < localWords ∧ opOf (s.bead n).instr = op ∧
  ∀ v ∈ vecFields (s.bead n).instr, v ≤ 15 ∧ (s.bead n).pendingVec v = false

/-- Of the state nothing but bead `n` changes. -/
def OnlyBead (s t : State) (n : Nat) : Prop :=
  OnlyParts [.bd] s t ∧ t.bd.strands = s.bd.strands ∧ ∀ m, m ≠ n → t.bead m = s.bead m

/-- Bead `n` writes word register `r` and goes on to the next word; a write of w0 is discarded. -/
def WritesWord (s t : State) (n r : Nat) (v : PW) : Prop :=
  OnlyBead s t n ∧ (t.bead n).reg r = (if r = 0 then {} else v) ∧ (∀ q, q ≠ r → (t.bead n).reg q = (s.bead n).reg q) ∧
  t.bead n = { s.bead n with w := (t.bead n).w, pc := (s.bead n).pc + 1 }

/-- Command `c` is operation `op`, which puts `f` of its two word sources into wd, poisoned where a source is. -/
def Combines (c : Nat → Instr) (op : Nat) (f : Word → Word → Word) : Prop :=
  ∀ s n, Issues s n op → ∃ t, exec (c n) s = .next t ∧ WritesWord s t n (dOf (s.bead n).instr)
    { v := f ((s.bead n).reg (sOf (s.bead n).instr)).v ((s.bead n).reg (tOf (s.bead n).instr)).v
      p := ((s.bead n).reg (sOf (s.bead n).instr)).p || ((s.bead n).reg (tOf (s.bead n).instr)).p }

/-- Command `c` is operation `op`, which puts `f` of its one word source and its immediate into wd, poisoned where the source is. -/
def Transforms (c : Nat → Instr) (op : Nat) (f : Word → Nat → Word) : Prop :=
  ∀ s n, Issues s n op → ∃ t, exec (c n) s = .next t ∧ WritesWord s t n (dOf (s.bead n).instr)
    { v := f ((s.bead n).reg (sOf (s.bead n).instr)).v (immOf (s.bead n).instr), p := ((s.bead n).reg (sOf (s.bead n).instr)).p }

/-- Bead `n` changes its program counter alone. -/
def JumpsTo (s t : State) (n pc : Nat) : Prop := OnlyBead s t n ∧ t.bead n = { s.bead n with pc := pc }

/-- Command `c` is operation `op`: a branch that is taken, in words from its own address, when `cond` holds of its two operands. -/
def Branches (c : Nat → Instr) (op : Nat) (cond : Word → Word → Prop) : Prop :=
  ∀ s n, Issues s n op → ((s.bead n).reg (dOf (s.bead n).instr)).p = false → ((s.bead n).reg (sOf (s.bead n).instr)).p = false →
    ∃ t, exec (c n) s = .next t ∧
      (cond ((s.bead n).reg (dOf (s.bead n).instr)).v ((s.bead n).reg (sOf (s.bead n).instr)).v →
        JumpsTo s t n (((s.bead n).pc + offB (s.bead n).instr) % 2 ^ 32).toNat) ∧
      (¬cond ((s.bead n).reg (dOf (s.bead n).instr)).v ((s.bead n).reg (sOf (s.bead n).instr)).v → JumpsTo s t n ((s.bead n).pc + 1))

/-- The local address ws + imm of an operation. -/
def localAt (s : State) (n : Nat) : Nat :=
  wrap32 ((((s.bead n).reg (sOf (s.bead n).instr)).v.toNat : Int) + sext 16 (immOf (s.bead n).instr))

/-- The register that gives the local address is not poisoned, and the address lies in local memory. -/
def LocalOk (s : State) (n : Nat) : Prop :=
  ((s.bead n).reg (sOf (s.bead n).instr)).p = false ∧ localAt s n < localWords

/-- Command `c` is operation `op`, which puts `f` of the lanes of its two vector sources into the lanes of vd. -/
def LaneWise (c : Nat → Instr) (op : Nat) (f : Nat → Bead → Word → PW) : Prop :=
  ∀ s n, Issues s n op → ∃ t, exec (c n) s = .next t ∧ OnlyBead s t n ∧
    (∀ k < 8, (t.bead n).lane (dOf (s.bead n).instr) k = f k (s.bead n) (s.bead n).instr) ∧
    (∀ v k, v ≠ dOf (s.bead n).instr → k < 8 → (t.bead n).lane v k = (s.bead n).lane v k) ∧
    t.bead n = { s.bead n with vec := (t.bead n).vec, pc := (s.bead n).pc + 1 }

/-- As `Issues`, whatever vector registers the operation names, so long as none waits for data. -/
def Issuing (s : State) (n op : Nat) : Prop :=
  s.alive = true ∧ s.issues n = true ∧ (s.bead n).pc < localWords ∧ opOf (s.bead n).instr = op ∧
  ∀ v ∈ vecFields (s.bead n).instr, (s.bead n).pendingVec v = false

/-- Bead `n` stops with fault code `code` before its operation takes effect (02 R85): BEADC_FAULT and its information, the strand,
and a record of the fault (which the record of an exchange that it ends may follow). -/
def Stops (s t : State) (n code : Nat) : Prop :=
  t.bead n = { s.bead n with run := 3 } ∧ (∀ m, m ≠ n → t.bead m = s.bead m) ∧
  t.rb (Pg.BEADC + n / 64) (if n % 64 < 32 then Rg.BEADC_FAULT_LO else Rg.BEADC_FAULT_HI) (n % 64 % 32) = true ∧
  t.rdN (Pg.BEADC + n / 64) Rg.BEADC_FAULT_INFO (n % 64) = code + 256 * ((s.bead n).pc % 65536) ∧
  t.rdN (Pg.BEADC + n / 64) Rg.BEADC_FAULT_GTS_LO (n % 64) = s.gts % 2 ^ 32 ∧
  t.rdN (Pg.BEADC + n / 64) Rg.BEADC_FAULT_GTS_HI (n % 64) = s.gts / 2 ^ 32 % 2 ^ 32 ∧
  (∀ k, (s.bead n).strand = some k → (s.strand k).st = 2 ∨ (s.strand k).st = 3 →
    (t.strand k).st = 5 ∧ (t.strand k).intakeClosed = true ∧
    t.rb Pg.STRAND (if k < 32 then Rg.STRAND_FAULT_LO else Rg.STRAND_FAULT_HI) (k % 32) = true) ∧
  ((∀ k, (s.bead n).strand = some k → s.ldBusy k = false) →
    t.Told Ev.BEAD_FAULT [.v 2 n, .v 1 code, .v 2 (s.bead n).pc])

/-- Where `cond` holds of a bead that issues operation `op`, command `c` stops the bead with fault `code`. -/
def FaultsWhere (c : Nat → Instr) (op : Nat) (cond : State → Bead → Word → Prop) (code : Nat) : Prop :=
  ∀ s n, n < 1024 → Issues s n op → cond s (s.bead n) (s.bead n).instr → ∃ t, exec (c n) s = .next t ∧ Stops s t n code

/-- The local word an operation names, and what a load of it finds after an upset has changed the bits of `flip`: the poison bit is set
where parity does not match. -/
def found (s : State) (n : Nat) (flip : Word) : LW :=
  let x := (s.bead n).word? (localAt s n)
  { d := x.d ^^^ flip, tag := if parity (x.d ^^^ flip) = x.tag % 4 then x.tag else x.tag % 8 + 8 }

/-- The words of the message that a snd sends. -/
def sentBy (b : Bead) : List PW := (b.lanes (dOf b.instr)).take (xOf b.instr % 8 + 1)

/-- Message `m` reaches queue `q` of bead `p`; bead `n` goes on to its next word and waits for nothing. Nothing else changes. -/
def Delivers (s t : State) (n p q : Nat) (m : List PW) : Prop :=
  OnlyParts [.bd] s t ∧ t.bd.strands = s.bd.strands ∧ (t.bead p).queue q = (s.bead p).queue q ++ [m] ∧
  (∀ k r, k ≠ p ∨ r ≠ q → (t.bead k).queue r = (s.bead k).queue r) ∧ (t.bead n).pc = (s.bead n).pc + 1 ∧ (t.bead n).wait = .none ∧
  (∀ k, t.bead k = { s.bead k with queues := (t.bead k).queues, pc := (t.bead k).pc, wait := (t.bead k).wait }) ∧
  ∀ k, k ≠ n → (t.bead k).pc = (s.bead k).pc ∧ (t.bead k).wait = (s.bead k).wait

/-- Bead `n` takes the oldest message `m` of a queue: its words in vd from lane 0 up and 0 in the rest, its word count in ws. -/
def Receives (s t : State) (n q vd ws : Nat) (m : List PW) : Prop :=
  OnlyBead s t n ∧ (∀ k < 8, (t.bead n).lane vd k = m.getD k {}) ∧
  (ws ≠ 0 → (t.bead n).reg ws = { v := BitVec.ofNat 32 m.length }) ∧
  (∀ r, r ≠ ws → (t.bead n).reg r = (s.bead n).reg r) ∧ (t.bead n).wait = .none ∧ (t.bead n).pc = (s.bead n).pc + 1 ∧
  (q < 7 → (t.bead n).queue q = ((s.bead n).queue q).tail ∧ (t.bead n).events = (s.bead n).events) ∧
  (q = 7 → (t.bead n).events = (s.bead n).events.tail ∧ (t.bead n).queues = (s.bead n).queues)

/-- The oldest message of queue `q`; each event of queue 7 is a message of one word. -/
def oldest (b : Bead) (q : Nat) : Option (List PW) :=
  if q = 7 then b.events.head?.map fun e => [{ v := e }] else (b.queue q).head?

/-- The ring that the handle ws[3:0] of a jsub names. -/
def ringOf (s : State) (n : Nat) : Option Binding := s.handle (s.bead n) (fld ((s.bead n).reg (sOf (s.bead n).instr)).v 3 0)

/-- A descriptor reaches the ring of page `p`: it lies at the producer index, which advances by 1. -/
def Submits (s t : State) (n p r : Nat) (desc : List Byte) : Prop :=
  t.rdN p (ringBaseOf p + 0x10) r = (s.rdN p (ringBaseOf p + 0x10) r + 1) % t.pRingSize p r ∧
  t.mem = (s.writeBytes { master := (s.beadAcc (s.bead n)).master, owner := sysOwner }
    (s.rdN p (ringBaseOf p + 4) r + 2 ^ 32 * s.rdN p (ringBaseOf p + 8) r + 64 * s.rdN p (ringBaseOf p + 0x10) r) desc).1.mem ∧
  (t.bead n).stores = (s.bead n).stores + 1 ∧ (t.bead n).pc = (s.bead n).pc + 1 ∧ (t.bead n).wait = .none ∧
  ∀ m, m ≠ n → t.bead m = s.bead m

end Sys2Proof.Machine

/-- The integer operations of a bead: their result, its poison, and that nothing else changes -/
def Obligations.BeadIntegerOperations : Prop :=
  Combines .add 0x00 (fun a b => a + b) ∧ Combines .sub 0x01 (fun a b => a - b) ∧ Combines .and 0x02 (fun a b => a &&& b) ∧
  Combines .or 0x03 (fun a b => a ||| b) ∧ Combines .xor 0x04 (fun a b => a ^^^ b) ∧
  Combines .shl 0x05 (fun a b => BitVec.ofNat 32 (a.toNat * 2 ^ (b.toNat % 32))) ∧
  Combines .shr 0x06 (fun a b => BitVec.ofNat 32 (a.toNat / 2 ^ (b.toNat % 32))) ∧
  Combines .sra 0x07 (fun a b => BitVec.ofInt 32 (a.toInt / 2 ^ (b.toNat % 32))) ∧
  Combines .slt 0x08 (fun a b => if a.toInt < b.toInt then 1 else 0) ∧
  Combines .sltu 0x09 (fun a b => if a.toNat < b.toNat then 1 else 0) ∧
  Transforms .addi 0x0A (fun a i => a + (BitVec.ofNat 16 i).signExtend 32) ∧
  Transforms .andi 0x0B (fun a i => a &&& BitVec.ofNat 32 i) ∧
  (∀ s n, Issues s n 0x0C → ∃ t, exec (.lui n) s = .next t ∧
    WritesWord s t n (dOf (s.bead n).instr) { v := BitVec.ofNat 32 (immOf (s.bead n).instr * 65536) }) ∧
  Combines .mul 0x0D (fun a b => a * b) ∧ Combines .mulhu 0x0E (fun a b => BitVec.ofNat 32 (a.toNat * b.toNat / 2 ^ 32)) ∧
  Combines .divu 0x0F (fun a b => if b = 0 then 0xFFFFFFFF else BitVec.ofNat 32 (a.toNat / b.toNat)) ∧
  Transforms .popc 0x10 (fun a _ => BitVec.ofNat 32 ((List.range 32).filter a.toNat.testBit).length) ∧
  Transforms .clz 0x11 (fun a _ => BitVec.ofNat 32 (if a = 0 then 32 else 31 - a.toNat.log2)) ∧
  Combines .crcw 0x12 (fun a b => BitVec.ofNat 32 (crcStep a.toNat (leBytes 4 b.toNat)))

/-- ldw, stw and ldt: the word loaded or stored, its tag nibble, and the record of a parity error -/
def Obligations.BeadLocalMemory : Prop :=
  (∀ s n flip, Issues s n 0x13 → LocalOk s n → ∃ t, exec (.ldw n flip) s = .next t ∧
    (dOf (s.bead n).instr ≠ 0 → (t.bead n).reg (dOf (s.bead n).instr) = { v := (found s n flip).d, p := bitOf (found s n flip).tag 3 }) ∧
    (∀ r, r ≠ dOf (s.bead n).instr → (t.bead n).reg r = (s.bead n).reg r) ∧
    (t.bead n).word? (localAt s n) = found s n flip ∧
    (∀ a, a ≠ localAt s n → (t.bead n).word? a = (s.bead n).word? a) ∧ (t.bead n).pc = (s.bead n).pc + 1 ∧
    (∀ m, m ≠ n → t.bead m = s.bead m) ∧
    (parity (found s n flip).d = ((s.bead n).word? (localAt s n)).tag % 4 → OnlyBead s t n) ∧
    (parity (found s n flip).d ≠ ((s.bead n).word? (localAt s n)).tag % 4 → bitOf (found s n flip).tag 3 = true ∧
      t.Told Ev.BEAD_PARITY [.v 2 n, .v 2 (localAt s n)])) ∧
  (∀ s n, Issues s n 0x14 → LocalOk s n → (s.bead n).codeLen ≤ localAt s n → ∃ t, exec (.stw n) s = .next t ∧ OnlyBead s t n ∧
    ((t.bead n).word? (localAt s n)).d = ((s.bead n).reg (dOf (s.bead n).instr)).v ∧
    ((t.bead n).word? (localAt s n)).tag = parity ((s.bead n).reg (dOf (s.bead n).instr)).v + 4 +
      (if ((s.bead n).reg (dOf (s.bead n).instr)).p then 8 else 0) ∧
    (∀ a, a ≠ localAt s n → (t.bead n).word? a = (s.bead n).word? a) ∧
    t.bead n = { s.bead n with mem := (t.bead n).mem, pc := (s.bead n).pc + 1 }) ∧
  (∀ s n, Issues s n 0x15 → LocalOk s n → ∃ t, exec (.ldt n) s = .next t ∧
    WritesWord s t n (dOf (s.bead n).instr) { v := BitVec.ofNat 32 (((s.bead n).word? (localAt s n)).tag % 16) })

/-- Bead faults: where operations stop with BAD_INPUT, POISON or LOCKED, and what a fault records -/
def Obligations.BeadFaults : Prop :=
  (∀ s n, n < 1024 → s.alive = true → s.issues n = true → localWords ≤ (s.bead n).pc ∨ 0x33 ≤ opOf (s.bead n).instr →
    ∃ t, exec (.undefinedOpcode n) s = .next t ∧ Stops s t n St.BAD_INPUT) ∧
  (∀ p ∈ [(Instr.snd, 0x1C), (Instr.rcv, 0x1D), (Instr.fld, 0x25), (Instr.fst, 0x26), (Instr.jsub, 0x27), (Instr.vadd, 0x29),
      (Instr.vxor, 0x2A), (Instr.vand, 0x2B), (Instr.vbc, 0x2C), (Instr.vext, 0x2D), (Instr.vins, 0x2E), (Instr.vshuf, 0x2F),
      (Instr.gfmac, 0x30)], ∀ s n, n < 1024 → Issuing s n p.2 → (∃ v ∈ vecFields (s.bead n).instr, 15 < v) →
    ∃ t, exec (p.1 n) s = .next t ∧ Stops s t n St.BAD_INPUT) ∧
  FaultsWhere .fld 0x25 (fun _ _ i => dOf i % 2 = 1) St.BAD_INPUT ∧ FaultsWhere .fst 0x26 (fun _ _ i => dOf i % 2 = 1) St.BAD_INPUT ∧
  (∀ s n flip, n < 1024 → Issues s n 0x13 → ((s.bead n).reg (sOf (s.bead n).instr)).p = false → localWords ≤ localAt s n →
    ∃ t, exec (.ldw n flip) s = .next t ∧ Stops s t n St.BAD_INPUT) ∧
  (∀ s n flip, n < 1024 → Issues s n 0x13 → ((s.bead n).reg (sOf (s.bead n).instr)).p = true →
    ∃ t, exec (.ldw n flip) s = .next t ∧ Stops s t n St.POISON) ∧
  (∀ s n, n < 1024 → Issues s n 0x14 → ((s.bead n).reg (sOf (s.bead n).instr)).p = false →
    localWords ≤ localAt s n ∨ localAt s n < (s.bead n).codeLen → ∃ t, exec (.stw n) s = .next t ∧ Stops s t n St.BAD_INPUT) ∧
  (∀ s n, n < 1024 → Issues s n 0x15 → ((s.bead n).reg (sOf (s.bead n).instr)).p = false → localWords ≤ localAt s n →
    ∃ t, exec (.ldt n) s = .next t ∧ Stops s t n St.BAD_INPUT) ∧
  FaultsWhere .ldt 0x15 (fun _ b i => (b.reg (sOf i)).p = true) St.POISON ∧
  (∀ p ∈ [(Instr.beq, 0x16), (Instr.bne, 0x17), (Instr.blt, 0x18), (Instr.bltu, 0x19)],
    FaultsWhere p.1 p.2 (fun _ b i => (b.reg (dOf i)).p = true ∨ (b.reg (sOf i)).p = true) St.POISON) ∧
  (∀ p ∈ [(Instr.jr, 0x1B), (Instr.snd, 0x1C), (Instr.jsub, 0x27)],
    FaultsWhere p.1 p.2 (fun _ b i => (b.reg (sOf i)).p = true) St.POISON) ∧
  FaultsWhere .tset 0x20 (fun _ b i => dOf i ≤ 3 ∧ (b.reg (sOf i)).p = true) St.POISON ∧
  (∀ p ∈ [(Instr.fld, 0x25), (Instr.fst, 0x26)],
    FaultsWhere p.1 p.2 (fun _ b i => dOf i % 2 = 0 ∧ (b.fabricAddr (sOf i)).2 = true) St.POISON) ∧
  FaultsWhere .jsub 0x27 (fun s b i => (b.reg (sOf i)).p = false ∧ s.handle b (fld (b.reg (sOf i)).v 3 0) = none) St.BAD_INPUT ∧
  FaultsWhere .jsub 0x27 (fun s b i => (b.reg (sOf i)).p = false ∧ s.handle b (fld (b.reg (sOf i)).v 3 0) ≠ none ∧
    ∃ k < 8, (b.lane (dOf i) k).p = true ∨ (b.lane (dOf i + 1) k).p = true) St.POISON ∧
  FaultsWhere .snd 0x1C (fun s b i => (b.reg (sOf i)).p = false ∧ s.routeOf b (fld (b.reg (sOf i)).v 7 0) = none) St.BAD_INPUT ∧
  FaultsWhere .snd 0x1C (fun s b i => (b.reg (sOf i)).p = false ∧ s.routeOf b (fld (b.reg (sOf i)).v 7 0) ≠ none ∧ 6 < tOf i) St.LOCKED ∧
  FaultsWhere .rcv 0x1D (fun _ _ i => 7 < tOf i) St.LOCKED ∧
  (∀ p ∈ [(Instr.tset, 0x20), (Instr.tstop, 0x21), (Instr.earm, 0x23)], FaultsWhere p.1 p.2 (fun _ _ i => 3 < dOf i) St.BAD_INPUT) ∧
  (∀ p ∈ [(Instr.trd, 0x22), (Instr.erd, 0x24)], FaultsWhere p.1 p.2 (fun _ _ i => 3 < sOf i) St.BAD_INPUT)

/-- beq, bne, blt, bltu, jal and jr: where the bead goes on -/
def Obligations.BeadJumps : Prop :=
  Branches .beq 0x16 (fun a b => a = b) ∧ Branches .bne 0x17 (fun a b => a ≠ b) ∧
  Branches .blt 0x18 (fun a b => a.toInt < b.toInt) ∧ Branches .bltu 0x19 (fun a b => a.toNat < b.toNat) ∧
  (∀ s n, Issues s n 0x1A → ∃ t, exec (.jal n) s = .next t ∧ OnlyBead s t n ∧
    (dOf (s.bead n).instr ≠ 0 → (t.bead n).reg (dOf (s.bead n).instr) = { v := BitVec.ofNat 32 ((s.bead n).pc + 1) }) ∧
    (∀ r, r ≠ dOf (s.bead n).instr → (t.bead n).reg r = (s.bead n).reg r) ∧
    t.bead n = { s.bead n with w := (t.bead n).w, pc := (((s.bead n).pc + offJ (s.bead n).instr) % 2 ^ 32).toNat }) ∧
  (∀ s n, Issues s n 0x1B → ((s.bead n).reg (sOf (s.bead n).instr)).p = false →
    ∃ t, exec (.jr n) s = .next t ∧ JumpsTo s t n ((s.bead n).reg (sOf (s.bead n).instr)).v.toNat)

/-- snd, rcv, qwait, qcnt and what ends their waits: messages go whole or the bead waits -/
def Obligations.BeadMessages : Prop :=
  (∀ s n p, Issues s n 0x1C → ((s.bead n).reg (sOf (s.bead n).instr)).p = false → tOf (s.bead n).instr ≤ 6 →
    s.routeOf (s.bead n) (fld ((s.bead n).reg (sOf (s.bead n).instr)).v 7 0) = some p → ∃ t, exec (.snd n) s = .next t ∧
      (((s.bead p).queue (tOf (s.bead n).instr)).flatten.length + (sentBy (s.bead n)).length ≤ 32 →
        Delivers s t n p (tOf (s.bead n).instr) (sentBy (s.bead n))) ∧
      (32 < ((s.bead p).queue (tOf (s.bead n).instr)).flatten.length + (sentBy (s.bead n)).length → OnlyBead s t n ∧
        t.bead n = { s.bead n with
          wait := .snd (fld ((s.bead n).reg (sOf (s.bead n).instr)).v 7 0) (tOf (s.bead n).instr) (sentBy (s.bead n)) s.gts false })) ∧
  (∀ s n l q m since told p, s.alive = true → s.clusterRuns (n / 64) = true → (s.bead n).run = 1 →
    (s.bead n).wait = .snd l q m since told → s.routeOf (s.bead n) l = some p →
    ((s.bead p).queue q).flatten.length + m.length ≤ 32 → ∃ t, exec (.sndUnstall n) s = .next t ∧ Delivers s t n p q m) ∧
  (∀ s n l q m since, s.alive = true → (s.bead n).run = 1 → (s.bead n).wait = .snd l q m since false →
    ∃ t, exec (.sendStallTimeout n) s = .next t ∧ t.bd = (s.setBead n { s.bead n with wait := .snd l q m since true }).bd ∧
      t.Told Ev.BEAD_SEND_STALL [.v 2 n, .v 1 l, .v 1 q]) ∧
  (∀ s n, Issues s n 0x1D → tOf (s.bead n).instr ≤ 7 → ∃ t, exec (.rcv n) s = .next t ∧
    (∀ m, oldest (s.bead n) (tOf (s.bead n).instr) = some m →
      Receives s t n (tOf (s.bead n).instr) (dOf (s.bead n).instr) (sOf (s.bead n).instr) m) ∧
    (oldest (s.bead n) (tOf (s.bead n).instr) = none → OnlyBead s t n ∧
      t.bead n = { s.bead n with wait := .rcv (tOf (s.bead n).instr) (dOf (s.bead n).instr) (sOf (s.bead n).instr) })) ∧
  (∀ s n q vd ws m, s.alive = true → s.clusterRuns (n / 64) = true → (s.bead n).run = 1 → (s.bead n).wait = .rcv q vd ws → q ≤ 7 →
    oldest (s.bead n) q = some m → ∃ t, exec (.rcvWake n) s = .next t ∧ Receives s t n q vd ws m) ∧
  (∀ s n, Issues s n 0x1E → ∃ t, exec (.qwait n) s = .next t ∧
    (∀ q, (s.bead n).lowest (immOf (s.bead n).instr % 256) = some q → WritesWord s t n (dOf (s.bead n).instr) { v := BitVec.ofNat 32 q }) ∧
    ((s.bead n).lowest (immOf (s.bead n).instr % 256) = none → OnlyBead s t n ∧
      t.bead n = { s.bead n with wait := .qwait (immOf (s.bead n).instr % 256) (dOf (s.bead n).instr) })) ∧
  (∀ s n mask wd q, s.alive = true → s.clusterRuns (n / 64) = true → (s.bead n).run = 1 → (s.bead n).wait = .qwait mask wd →
    (s.bead n).lowest mask = some q → ∃ t, exec (.qwaitWake n) s = .next t ∧ OnlyBead s t n ∧
      (wd ≠ 0 → (t.bead n).reg wd = { v := BitVec.ofNat 32 q }) ∧ (∀ r, r ≠ wd → (t.bead n).reg r = (s.bead n).reg r) ∧
      t.bead n = { s.bead n with w := (t.bead n).w, pc := (s.bead n).pc + 1, wait := .none }) ∧
  (∀ s n, Issues s n 0x1F → ∃ t, exec (.qcnt n) s = .next t ∧ WritesWord s t n (dOf (s.bead n).instr)
    { v := BitVec.ofNat 32 (if immOf (s.bead n).instr % 8 = 7 then (s.bead n).events.length
      else ((s.bead n).queue (immOf (s.bead n).instr % 8)).length) })

/-- Timers, edge detectors, their events, and the one event a slot may have waiting -/
def Obligations.BeadTimersAndEdges : Prop :=
  (∀ s n, Issues s n 0x20 → dOf (s.bead n).instr ≤ 3 → ((s.bead n).reg (sOf (s.bead n).instr)).p = false →
    ∃ t, exec (.tset n) s = .next t ∧ OnlyBead s t n ∧ (t.bead n).pc = (s.bead n).pc + 1 ∧
      (t.bead n).timer (dOf (s.bead n).instr) = { ((s.bead n).timer (dOf (s.bead n).instr)) with
        running := true, count := ((s.bead n).reg (sOf (s.bead n).instr)).v.toNat,
        deadline := s.gts + 10 * ((s.bead n).reg (sOf (s.bead n).instr)).v.toNat, periodic := bitOf (xOf (s.bead n).instr) 0 } ∧
      t.bead n = { s.bead n with timers := (t.bead n).timers, pc := (t.bead n).pc }) ∧
  (∀ s n, Issues s n 0x21 → dOf (s.bead n).instr ≤ 3 → ∃ t, exec (.tstop n) s = .next t ∧ OnlyBead s t n ∧
    ((t.bead n).timer (dOf (s.bead n).instr)).running = false ∧
    (t.bead n).events = (s.bead n).events.filter (fun e => !isEvent 0 (dOf (s.bead n).instr) e) ∧ (t.bead n).pc = (s.bead n).pc + 1) ∧
  (∀ s n, Issues s n 0x22 → sOf (s.bead n).instr ≤ 3 → ∃ t, exec (.trd n) s = .next t ∧
    WritesWord s t n (dOf (s.bead n).instr) { v := BitVec.ofNat 32 (((s.bead n).timer (sOf (s.bead n).instr)).left s.gts) }) ∧
  (∀ s n, Issues s n 0x23 → dOf (s.bead n).instr ≤ 3 → ∃ t, exec (.earm n) s = .next t ∧ OnlyBead s t n ∧
    ((t.bead n).edge (dOf (s.bead n).instr)).line = immOf (s.bead n).instr % 64 ∧
    ((t.bead n).edge (dOf (s.bead n).instr)).mode = immOf (s.bead n).instr / 64 % 4 ∧
    (immOf (s.bead n).instr / 64 % 4 ≠ 0 →
      ((t.bead n).edge (dOf (s.bead n).instr)).last = s.lineLevel (n / 64) (immOf (s.bead n).instr % 64)) ∧
    t.bead n = { s.bead n with edges := (t.bead n).edges, pc := (s.bead n).pc + 1 }) ∧
  (∀ s n, Issues s n 0x24 → sOf (s.bead n).instr ≤ 3 → ∃ t, exec (.erd n) s = .next t ∧
    WritesWord s t n (dOf (s.bead n).instr) { v := BitVec.ofNat 32 (b2n ((s.bead n).edge (sOf (s.bead n).instr)).last +
      2 * b2n (((s.bead n).edge (sOf (s.bead n).instr)).mode != 0) + 4 * min ((s.bead n).edge (sOf (s.bead n).instr)).overrun 255) }) ∧
  (∀ s n k, s.alive = true → s.clusterRuns (n / 64) = true → k < 4 → ((s.bead n).timer k).running = true →
    ((s.bead n).timer k).kept = none → ∃ t, exec (.timerExpiry n k) s = .next t ∧ t.gts = max s.gts ((s.bead n).timer k).deadline ∧
      (((s.bead n).timer k).periodic = true ∧ ((s.bead n).timer k).count ≠ 0 → ((t.bead n).timer k).running = true ∧
        ((t.bead n).timer k).deadline = ((s.bead n).timer k).deadline + 10 * ((s.bead n).timer k).count) ∧
      (((s.bead n).timer k).periodic = false → ((t.bead n).timer k).running = false) ∧
      ((s.bead n).events.any (isEvent 0 k) = true → (t.bead n).events = (s.bead n).events ∧
        ((t.bead n).timer k).overrun = ((s.bead n).timer k).overrun + 1) ∧
      ((s.bead n).events.any (isEvent 0 k) = false → ((t.bead n).timer k).overrun = ((s.bead n).timer k).overrun ∧
        (t.bead n).events = (s.bead n).events ++ [eventWord 0 k false (s.exchanging (s.bead n)) t.gts])) ∧
  (∀ s c i level, s.alive = true → c < 16 → i < 64 → s.rb (Pg.BEADC + c) (Rg.BEADC_EVSEL + 4 * i) 31 = true →
    s.clusterRuns c = true → ∃ t, exec (.edgeEvent c i level) s = .next t ∧ t.lineLevel c i = level ∧
      ∀ n k, n / 64 = c → k < 4 → ((s.bead n).edge k).line = i → ((s.bead n).edge k).mode ≠ 0 → ((s.bead n).edge k).last ≠ level →
        (mget s.bd.beads n).isSome = true → ((t.bead n).edge k).last = level ∧
        (edgeSelects ((s.bead n).edge k).mode level = true →
          ((s.bead n).events.any (isEvent 1 k) = true → ((t.bead n).edge k).overrun = ((s.bead n).edge k).overrun + 1) ∧
          ((s.bead n).events.any (isEvent 1 k) = false →
            eventWord 1 k level (s.exchanging (s.bead n)) s.gts ∈ (t.bead n).events)))

/-- fld, fst, jsub, fnc and what completes them -/
def Obligations.BeadFabric : Prop :=
  (∀ s n, Issues s n 0x25 → dOf (s.bead n).instr % 2 = 0 → ((s.bead n).fabricAddr (sOf (s.bead n).instr)).2 = false →
    s.offLimits (((s.bead n).fabricAddr (sOf (s.bead n).instr)).1 / 64 * 64) 64 = none → ∃ t, exec (.fld n) s = .next t ∧ OnlyBead s t n ∧
      t.bead n = { s.bead n with pc := (s.bead n).pc + 1, flds := (s.bead n).flds ++
        [(dOf (s.bead n).instr, ((s.bead n).fabricAddr (sOf (s.bead n).instr)).1 / 64 * 64)] }) ∧
  (∀ s n u ext d a l, s.alive = true → s.clusterRuns (n / 64) = true → (s.bead n).flds = (d, a) :: l → s.region a = .ddr ∨ s.region a = .hbm →
    ∃ t, exec (.fldDataReturn n u ext) s = .next t ∧ (t.bead n).flds = l ∧
      ((s.readLine (s.beadAcc (s.bead n)) a u).status = St.OK → ∀ k < 8,
        (t.bead n).lane d k = { v := (lineWords (s.readLine (s.beadAcc (s.bead n)) a u).data).getD k 0 } ∧
        (t.bead n).lane (d + 1) k = { v := (lineWords (s.readLine (s.beadAcc (s.bead n)) a u).data).getD (k + 8) 0 }) ∧
      ((s.readLine (s.beadAcc (s.bead n)) a u).status = St.POISON ∨ (s.readLine (s.beadAcc (s.bead n)) a u).status = St.TAG_FAIL →
        ∀ k < 8, ((t.bead n).lane d k).p = true ∧ ((t.bead n).lane (d + 1) k).p = true)) ∧
  (∀ s n, Issues s n 0x26 → dOf (s.bead n).instr % 2 = 0 → ((s.bead n).fabricAddr (sOf (s.bead n).instr)).2 = false →
    s.offLimits (((s.bead n).fabricAddr (sOf (s.bead n).instr)).1 / 64 * 64) 64 = none →
    s.region (((s.bead n).fabricAddr (sOf (s.bead n).instr)).1 / 64 * 64) = .ddr ∨
      s.region (((s.bead n).fabricAddr (sOf (s.bead n).instr)).1 / 64 * 64) = .hbm → ∃ t, exec (.fst n) s = .next t ∧
      t.bead n = { s.bead n with pc := (s.bead n).pc + 1, stores := (s.bead n).stores + 1 } ∧
      t.mem.cells = (s.writeLine (s.beadAcc (s.bead n)) (((s.bead n).fabricAddr (sOf (s.bead n).instr)).1 / 64 * 64) 0
        ((s.bead n).line16 (dOf (s.bead n).instr)).1).1.mem.cells ∧
      (((s.bead n).line16 (dOf (s.bead n).instr)).2 = true →
        (s.writeLine (s.beadAcc (s.bead n)) (((s.bead n).fabricAddr (sOf (s.bead n).instr)).1 / 64 * 64) 0
          ((s.bead n).line16 (dOf (s.bead n).instr)).1).2 = St.OK →
        (t.line (((s.bead n).fabricAddr (sOf (s.bead n).instr)).1 / 64 * 64)).poison = true)) ∧
  (∀ s n k, Issues s n 0x27 → ((s.bead n).reg (sOf (s.bead n).instr)).p = false → ringOf s n = some k →
    ((s.bead n).line16 (dOf (s.bead n).instr)).2 = false → ∃ t, exec (.jsub n) s = .next t ∧
      (s.pRingOn k.page k.ring = true ∧ s.pRingFull k.page k.ring = false →
        Submits s t n k.page k.ring (ownDesc ((s.bead n).line16 (dOf (s.bead n).instr)).1 (s.beadAcc (s.bead n)).owner)) ∧
      (s.pRingOn k.page k.ring = false ∨ s.pRingFull k.page k.ring = true → OnlyBead s t n ∧
        t.bead n = { s.bead n with
          wait := .jsub (fld ((s.bead n).reg (sOf (s.bead n).instr)).v 3 0)
            (ownDesc ((s.bead n).line16 (dOf (s.bead n).instr)).1 (s.beadAcc (s.bead n)).owner) })) ∧
  (∀ s n h desc k, s.alive = true → s.clusterRuns (n / 64) = true → (s.bead n).run = 1 → (s.bead n).wait = .jsub h desc →
    s.handle (s.bead n) h = some k → s.pRingOn k.page k.ring = true → s.pRingFull k.page k.ring = false →
    ∃ t, exec (.jsubUnstall n) s = .next t ∧ Submits s t n k.page k.ring desc) ∧
  (∀ desc owner, desc.length = 64 → owner < 4096 → bits (leAt (ownDesc desc owner) 0 4) 27 16 = owner) ∧
  (∀ s n, Issues s n 0x28 → ∃ t, exec (.fnc n) s = .next t ∧ OnlyBead s t n ∧
    ((s.bead n).stores = 0 → t.bead n = { s.bead n with pc := (s.bead n).pc + 1 }) ∧
    ((s.bead n).stores ≠ 0 → t.bead n = { s.bead n with wait := .fnc })) ∧
  (∀ s n, s.alive = true → s.clusterRuns (n / 64) = true → (s.bead n).stores ≠ 0 → ∃ t, exec (.fncAccept n) s = .next t ∧ OnlyBead s t n ∧
    ((s.bead n).wait = .fnc → t.bead n = { s.bead n with stores := 0, wait := .none, pc := (s.bead n).pc + 1 }) ∧
    ((s.bead n).wait ≠ .fnc → t.bead n = { s.bead n with stores := 0 }))

/-- The vector operations lane by lane, and ebnd and halt -/
def Obligations.BeadVectorsAndEnds : Prop :=
  LaneWise .vadd 0x29 (fun k b i => { v := (b.lane (sOf i) k).v + (b.lane (tOf i) k).v, p := (b.lane (sOf i) k).p || (b.lane (tOf i) k).p }) ∧
  LaneWise .vxor 0x2A (fun k b i => { v := (b.lane (sOf i) k).v ^^^ (b.lane (tOf i) k).v, p := (b.lane (sOf i) k).p || (b.lane (tOf i) k).p }) ∧
  LaneWise .vand 0x2B (fun k b i => { v := (b.lane (sOf i) k).v &&& (b.lane (tOf i) k).v, p := (b.lane (sOf i) k).p || (b.lane (tOf i) k).p }) ∧
  LaneWise .vbc 0x2C (fun _ b i => b.reg (sOf i)) ∧
  LaneWise .vins 0x2E (fun k b i => if k = immOf i % 8 then b.reg (sOf i) else b.lane (dOf i) k) ∧
  LaneWise .vshuf 0x2F (fun k b i => { v := (b.lane (sOf i) ((b.reg (tOf i)).v.toNat / 2 ^ (3 * k) % 8)).v
                                       p := (b.lane (sOf i) ((b.reg (tOf i)).v.toNat / 2 ^ (3 * k) % 8)).p || (b.reg (tOf i)).p }) ∧
  LaneWise .gfmac 0x30 (fun k b i => { v := (b.lane (dOf i) k).v ^^^ gfWord (b.lane (sOf i) k).v ((b.reg (tOf i)).v.toNat % 256)
                                       p := (b.lane (dOf i) k).p || (b.lane (sOf i) k).p || (b.reg (tOf i)).p }) ∧
  (∀ s n, Issues s n 0x2D → ∃ t, exec (.vext n) s = .next t ∧
    WritesWord s t n (dOf (s.bead n).instr) ((s.bead n).lane (sOf (s.bead n).instr) (immOf (s.bead n).instr % 8))) ∧
  (∀ s n, Issues s n 0x31 → ∃ t, exec (.ebnd n) s = .next t ∧ OnlyBead s t n ∧
    ((∃ k, (s.bead n).strand = some k ∧ (s.strand k).st = 3) ∧ (∀ q < 7, (s.bead n).queue q = []) ∧ (s.bead n).flds = [] ∧
      (s.bead n).stores = 0 → t.bead n = { s.bead n with run := 2 }) ∧
    (¬((∃ k, (s.bead n).strand = some k ∧ (s.strand k).st = 3) ∧ (∀ q < 7, (s.bead n).queue q = []) ∧ (s.bead n).flds = [] ∧
      (s.bead n).stores = 0) → t.bead n = { s.bead n with pc := (s.bead n).pc + 1 })) ∧
  (∀ s n, Issues s n 0x32 → ∃ t, exec (.halt n) s = .next t ∧ OnlyBead s t n ∧ t.bead n = { s.bead n with run := 0 }) ∧
  (∀ s n, (s.bead n).run ≠ 1 → ∀ c ∈ [Instr.add n, .stw n, .beq n, .snd n, .rcv n, .fst n, .jsub n, .fnc n, .gfmac n, .ebnd n, .halt n],
    exec c s = .next s)

/-! ### Register accesses -/
namespace Sys2Proof.Machine

/-- Page `p` is released and takes writes of the register at `off` from `master`: its write rules name the master, and a master of the
partner writes only where remote writes are enabled and the register is not reserved (17 R648, R655, R698). -/
def MayWrite (s : State) (p off master : Nat) : Prop :=
  s.pageReady p = true ∧ s.mayWrite p off master = true ∧ deadCopy p off = false ∧
  (master < Ms.PARTNER ∨ (s.rb p Rg.PAGE_CTRL 2 = true ∧ mpOnly p off = false))

/-- A write of `v` to the register at `off` of page `p` is accepted: the head runs, the register may be written now, and `v` lies in the
range of every field (17 R648, R699). -/
def Accepts (s : State) (p off master v : Nat) : Prop :=
  s.alive = true ∧ MayWrite s p off master ∧ 0x100 ≤ off ∧ v < 2 ^ 32 ∧
  ∃ r, regRow? p off = some r ∧ r.acc ≠ .ro ∧ (r.acc = .rwl → s.rb p Rg.PAGE_LOCK 0 = false) ∧
    (r.acc = .wos → rkey p off (s.shown p off) ∉ s.wosDone) ∧ r.admits v = true ∧ s.admits p off v = true

/-- The state in which an accepted write has stored its value, by the register's access code, in the copy its selector shows. -/
def stored (s : State) (p off v : Nat) : State :=
  match regRow? p off with
  | none => s
  | some r =>
    let t := s.wrN p off (s.shown p off) (applied r.acc r.mask (s.rdN p off (s.shown p off)) v)
    if r.acc == .wos then { t with wosDone := insertNew (rkey p off (s.shown p off)) t.wosDone } else t

/-- An accepted write of the register at `off` of page `p` does nothing beside storing its value. -/
def Plain (s : State) (p off master v : Nat) : Prop :=
  s.ownRow p off v = false ∧ ¬(p = Pg.CLASP ∧ 0x1000 ≤ off ∧ off < 0x3000) ∧
  ¬(Pg.BEADC ≤ p ∧ p ≤ Pg.BEADC + 15 ∧ Rg.BEADC_EVSEL ≤ off) ∧ ¬(p = Pg.STRAND ∧ off = Rg.STRAND_LD_CMD) ∧
  ¬(p = Pg.BOOT ∧ off = Rg.BOOT_CMD) ∧ ¬(p = Pg.SNAPREP ∧ off = Rg.SNAPREP_CMD) ∧
  ¬(p = Pg.LOCKET ∧ (off = Rg.LOCKET_WIN_CURSOR_LO ∨ off = Rg.LOCKET_WIN_CURSOR_HI)) ∧ ¬(p = Pg.MGMT ∧ off = Rg.MGMT_I3C_CFG) ∧
  ¬(p = Pg.PWRSEQ ∧ (off = Rg.PWRSEQ_DOM_ICC ∨ (off = Rg.PWRSEQ_DUMP_RESERVE ∧ whoOf master = .svc)))

/-- A write of the register at `off` of page `p` is refused for `cause` (0 locked, 1 written once already, 2 master): it changes no
register but the page's header and Locket's page; PAGE_STATUS.lock_violation is set, ERR_INFO records it with type LOCKED, and it is
reported at once, or counted where the page's last report is less than 1 ms old. -/
def RefusesWrite (s t : State) (p off master cause : Nat) : Prop :=
  (∀ q o i, o < 0x10000 → i < 0x10000 → q ≠ Pg.LOCKET → q ≠ p ∨ 0x100 ≤ o → t.rd q o i = s.rd q o i) ∧
  t.rb p Rg.PAGE_STATUS 0 = true ∧
  t.rdN p Rg.ERR_INFO = master % 1024 + 2 ^ 10 + (if Ms.PARTNER ≤ master then 2 ^ 11 else 0) + 2 ^ 16 * St.LOCKED +
    (if s.rb p Rg.ERR_INFO 31 = true then 2 ^ 30 else 0) + 2 ^ 31 ∧
  (mget s.lockWins p = none → mget t.lockWins p = some {} ∧
    t.Told Ev.REG_LOCK_VIOLATION [.v 1 p, .v 2 off, .v 2 master, .v 1 cause, .v 4 1]) ∧
  (∀ w, mget s.lockWins p = some w → mget t.lockWins p = some { count := w.count + 1, off, master, cause, gts := s.gts } ∧
    t.locket = s.locket)

/-- The newest thing the block has sent outside. -/
def Sent (t : State) (o : Out) : Prop := t.out.head? = some o

/-- Bit `b` of the interrupt status of page `p` is set. -/
def Raised (t : State) (p b : Nat) : Prop := t.rb p Rg.IRQ_STATUS b = true

end Sys2Proof.Machine

/-- REGISTER_WRITE: what is stored, and what is refused, ignored, or turned away from a page not released -/
def Obligations.RegisterWrites : Prop :=
  (∀ s p off master v, p < 75 → off < 0x10000 → off % 4 = 0 → Accepts s p off master v → Plain s p off master v →
    exec (.registerWrite master (regAddr p off) 4 v) s = .next (stored s p off v)) ∧
  (∀ s p off v r, regRow? p off = some r → v < 2 ^ 32 →
    (stored s p off v).rdN p off (s.shown p off) = applied r.acc r.mask (s.rdN p off (s.shown p off)) v % 2 ^ 32 ∧
    (∀ q o i, rkey q o i ≠ rkey p off (s.shown p off) → (stored s p off v).rd q o i = s.rd q o i) ∧
    OnlyParts [.regs, .wos] s (stored s p off v)) ∧
  (∀ s p off master v, p < 75 → off < 0x10000 → off % 8 = 0 → s.alive = true → v < 2 ^ 64 →
    exec (.registerWrite master (regAddr p off) 8 v) s =
      .next ((s.plainWrite { page := p, off, master, value := v % 2 ^ 32 }).plainWrite
        { page := p, off := off + 4, master, value := v / 2 ^ 32 })) ∧
  (∀ s p off master v r, p < 75 → p ≠ Pg.CLASP → p ≠ Pg.LOCKET → off < 0x10000 → off % 4 = 0 → 0x100 ≤ off → s.alive = true → v < 2 ^ 32 →
    s.ownRow p off v = false → MayWrite s p off master → ¬(p = Pg.PWRSEQ ∧ off = Rg.PWRSEQ_DUMP_RESERVE) → regRow? p off = some r →
    ∃ t, exec (.registerWrite master (regAddr p off) 4 v) s = .next t ∧
      (r.acc = .rwl → s.rb p Rg.PAGE_LOCK 0 = true → RefusesWrite s t p off master 0) ∧
      (r.acc = .wos → rkey p off (s.shown p off) ∈ s.wosDone → RefusesWrite s t p off master 1) ∧
      (r.acc = .rw → (r.admits v = false ∨ s.admits p off v = false) →
        (∀ q o i, o < 0x10000 → i < 0x10000 → q ≠ p ∨ 0x100 ≤ o → t.rd q o i = s.rd q o i) ∧ OnlyParts [.regs] s t ∧
        t.rf p Rg.ERR_INFO 23 16 = St.BAD_INPUT ∧ t.rb p Rg.ERR_INFO 31 = true)) ∧
  (∀ s p off master v, p < 75 → p ≠ Pg.CLASP → p ≠ Pg.LOCKET → off < 0x10000 → off % 4 = 0 → s.alive = true → v < 2 ^ 32 →
    s.ownRow p off v = false → ¬(p = Pg.PWRSEQ ∧ off = Rg.PWRSEQ_DUMP_RESERVE) → s.pageReady p = true → master < 1024 →
    s.mayWrite p off master = false →
    ∃ t, exec (.registerWrite master (regAddr p off) 4 v) s = .next t ∧ RefusesWrite s t p off master 2) ∧
  (∀ s p off master v, p < 75 → p ≠ Pg.TOP → off < 0x10000 → off % 4 = 0 → s.alive = true → v < 2 ^ 32 → s.ownRow p off v = false →
    ¬(p = Pg.PWRSEQ ∧ off = Rg.PWRSEQ_DUMP_RESERVE) → s.pageReady p = false →
    ∃ t, exec (.registerWrite master (regAddr p off) 4 v) s = .next t ∧ OnlyParts [.regs] s t ∧
      (∀ q o i, o < 0x10000 → i < 0x10000 → q ≠ Pg.TOP → ¬(q = p ∧ o = Rg.PAGE_STATUS) → t.rd q o i = s.rd q o i) ∧
      t.rb p Rg.PAGE_STATUS 1 = true ∧ t.rf Pg.TOP Rg.ERR_INFO 23 16 = St.NOT_READY)

/-- Page headers: locks, forced interrupts, GTS snapshots, the reports of refusals; and the accesses of the partner -/
def Obligations.PageHeadersAndRemoteAccesses : Prop :=
  (∀ s p master v, p < 75 → s.alive = true → MayWrite s p Rg.PAGE_LOCK master → v < 2 ^ 32 →
    ∃ t, exec (.pageLockWrite master p v) s = .next t ∧ OnlyParts [.regs] s t ∧ OnlyPages [p] s t ∧
      t.rdN p Rg.PAGE_LOCK = s.rdN p Rg.PAGE_LOCK ||| v % 2 ^ lockBits p ∧
      ∀ b, s.rb p Rg.PAGE_LOCK b = true → t.rb p Rg.PAGE_LOCK b = true) ∧
  (∀ s p master v, p < 75 → s.alive = true → MayWrite s p Rg.IRQ_FORCE master → v < 2 ^ 32 →
    ∃ t, exec (.irqForceWrite master p v) s = .next t ∧ OnlyParts [.regs, .wake] s t ∧ OnlyPages [p] s t ∧
      t.rdN p Rg.IRQ_STATUS = s.rdN p Rg.IRQ_STATUS ||| v % 2 ^ irqBits p) ∧
  (∀ s p master v, p < 75 → s.alive = true → MayWrite s p Rg.PAGE_CTRL master → v < 2 ^ 32 → bitOf v 1 = true →
    ∃ t, exec (.pageSnap master p v) s = .next t ∧ OnlyParts [.regs] s t ∧ OnlyPages [p] s t ∧ t.rdN p Rg.PAGE_CTRL = v &&& 5 ∧
      t.rdN p Rg.GTS_SNAP_LO = s.gts % 2 ^ 32 ∧ t.rdN p Rg.GTS_SNAP_HI 1 = s.gts / 2 ^ 32 % 2 ^ 32) ∧
  (∀ s p master, p < 75 → s.alive = true → s.pageReady p = true → ∃ t, exec (.gtsSnapLoRead master p) s = .next t ∧
    Sent t (.readData master (regAddr p Rg.GTS_SNAP_LO) (leBytes 4 (s.rdN p Rg.GTS_SNAP_LO)) false) ∧
    t.rd p Rg.GTS_SNAP_HI 0 = s.rd p Rg.GTS_SNAP_HI 1 ∧ OnlyParts [.regs, .out] s t) ∧
  (∀ s page w, s.alive = true → mget s.lockWins page = some w → ∃ t, exec (.lockReportWindowEnd page false) s = .next t ∧
    (w.count = 0 → mget t.lockWins page = none ∧ OnlyParts [.lockWins] s t) ∧
    (w.count ≠ 0 → mget t.lockWins page = some {} ∧
      t.Told Ev.REG_LOCK_VIOLATION [.v 1 page, .v 2 w.off, .v 2 w.master, .v 1 w.cause, .v 4 w.count])) ∧
  (∀ s page w, s.alive = true → s.accWin = some w → ∃ t, exec (.lockReportWindowEnd page true) s = .next t ∧
    (w.count = 0 → t.accWin = none ∧ OnlyParts [.accWin] s t) ∧
    (w.count ≠ 0 → t.accWin = some {} ∧
      t.Told Ev.REG_ACCESS_REFUSED [.v 8 w.off, .v 2 w.master, .v 1 (w.cause / 4), .v 1 (w.cause % 4), .v 4 w.count])) ∧
  (∀ s master page off, s.alive = true → page < 75 → off < 0x10000 → off % 4 = 0 → whoOf master = .mp ∨ whoOf master = .svc →
    s.pageReady page = true → ∃ t, exec (.remoteAccess master page off false 0) s = .next t ∧ OnlyParts [.out] s t ∧
      Sent t (.seam 25 2 [master, off, s.viewFor (Ms.PARTNER + master) page off])) ∧
  (∀ s master page off v, page < 75 → off < 0x10000 → off % 4 = 0 → whoOf master = .mp ∨ whoOf master = .svc →
    Accepts s page off (Ms.PARTNER + master) v → Plain s page off (Ms.PARTNER + master) v →
    ∃ t, exec (.remoteAccess master page off true v) s = .next t ∧ t = (stored s page off v).emit (.seam 25 2 [master, off, 0])) ∧
  (∀ s id r value, s.alive = true → mget s.remotes id = some r → ∃ t, exec (.remoteAccessAnswer id value) s = .next t ∧
    OnlyParts [.remotes, .out] s t ∧ t.remotes = mdel s.remotes id ∧
    (r.write = false → Sent t (.readData r.master r.addr (leBytes 4 value.toNat) false))) ∧
  (∀ s id r, s.alive = true → mget s.remotes id = some r → ∃ t, exec (.remoteAccessTimeout id) s = .next t ∧
    t.remotes = mdel s.remotes id ∧ t.rf Pg.TOP Rg.ERR_INFO 23 16 = St.TIMEOUT ∧ t.rb Pg.TOP Rg.ERR_INFO 11 = true ∧
    t.Told Ev.REG_REMOTE_TIMEOUT [.v 8 r.addr, .v 2 r.master, .v 1 (b2n r.write), .v 1 St.TIMEOUT] ∧
    (r.write = false → Sent t (.readData r.master r.addr (leBytes 4 0) false)))

/-! ### Strands -/
namespace Sys2Proof.Machine

/-- STRAND_LD_STATUS shows phase, code and strand of the last command, and whether one is in progress. -/
def Shows (t : State) (phase code n : Nat) (busy : Bool) : Prop :=
  t.rf Pg.STRAND Rg.STRAND_LD_STATUS 2 0 = phase ∧ t.rf Pg.STRAND Rg.STRAND_LD_STATUS 15 8 = code ∧
  t.rf Pg.STRAND Rg.STRAND_LD_STATUS 21 16 = n ∧ t.rb Pg.STRAND Rg.STRAND_LD_STATUS 31 = busy

/-- The strand that STRAND_LD_SEL names. -/
def selected (s : State) : Nat := s.rf Pg.STRAND Rg.STRAND_LD_SEL 5 0

/-- An accepted command of code `k` to STRAND_LD_CMD while none is in progress. -/
def Commands (s : State) (master v k : Nat) : Prop :=
  Accepts s Pg.STRAND Rg.STRAND_LD_CMD master v ∧ v % 16 = k ∧ s.rb Pg.STRAND Rg.STRAND_LD_STATUS 31 = false

/-- The image that the STRAND registers name, with what reading it leaves, and the status of the read. -/
def imageRead (s : State) (v : Nat) : State × List Byte × Nat := (stored s Pg.STRAND Rg.STRAND_LD_CMD v).readImage

/-- A command in progress in phase `phase` on strand `n`, which is in state `st`. -/
def InPhase (s : State) (phase st n : Nat) : Prop :=
  s.rb Pg.STRAND Rg.STRAND_LD_STATUS 31 = true ∧ s.rf Pg.STRAND Rg.STRAND_LD_STATUS 2 0 = phase ∧
  s.rf Pg.STRAND Rg.STRAND_LD_STATUS 21 16 = n ∧ (s.strand n).st = st

end Sys2Proof.Machine

/-- Strands: LOAD, the end of a load, START and ABORT, and what a command not listed for the state does -/
def Obligations.StrandCommands : Prop :=
  (∀ s master v busy, Commands s master v 1 → (s.strand (selected s)).st = 0 → (imageRead s v).2.2 = St.OK →
    ∃ t, exec (.strandLoad master v busy) s = .next t ∧
      (parseImg (imageRead s v).2.1 ((imageRead s v).1.rdN Pg.STRAND Rg.STRAND_LD_LEN) = none → Shows t 5 St.BAD_INPUT (selected s) false ∧ t.bd = s.bd) ∧
      (∀ xs, parseImg (imageRead s v).2.1 ((imageRead s v).1.rdN Pg.STRAND Rg.STRAND_LD_LEN) = some xs → s.freeCount < xs.length →
        Shows t 5 St.NOT_READY (selected s) false ∧ t.bd = s.bd) ∧
      (∀ xs, parseImg (imageRead s v).2.1 ((imageRead s v).1.rdN Pg.STRAND Rg.STRAND_LD_LEN) = some xs → xs.length ≤ s.freeCount →
        Shows t 2 St.OK (selected s) true ∧ (t.strand (selected s)).st = 0 ∧
        (t.strand (selected s)).beads = s.chooseBeads xs.length busy ∧
        (t.strand (selected s)).owner = (imageRead s v).1.rf Pg.STRAND Rg.STRAND_LD_OWNER 11 0 ∧
        (t.strand (selected s)).family = imgFamily (imageRead s v).2.1 ∧ (t.strand (selected s)).version = imgVersion (imageRead s v).2.1 ∧
        (t.strand (selected s)).rings = imgRings (imageRead s v).2.1 ∧ (t.strand (selected s)).intakeClosed = true)) ∧
  (∀ s n, s.alive = true → InPhase s 2 0 n → (∀ b ∈ (s.strand n).beads, s.domOn (14 + b / 64) = true) →
    ∃ t, exec .strandLoadDone s = .next t ∧
      (sha256 (imgBody (s.strand n).image) = imgDigest (s.strand n).image → t.strand n = { s.strand n with st := 1 } ∧
        Shows t 5 St.OK n false ∧ t.Told Ev.STRAND_LOADED [.v 1 n, .v 4 (s.strand n).version, .v 4 (s.strand n).family]) ∧
      (sha256 (imgBody (s.strand n).image) ≠ imgDigest (s.strand n).image → t.strand n = {} ∧
        (∀ b ∈ (s.strand n).beads, t.bead b = {}) ∧ Shows t 5 St.AUTH_FAIL n false ∧
        t.Told Ev.STRAND_AUTH_FAIL [.v 1 n, .str ((imgDigest (s.strand n).image).take 16)])) ∧
  (∀ s master v, Commands s master v 2 → (s.strand (selected s)).st = 1 → ∃ t, exec (.strandStart master v) s = .next t ∧
    Shows t 5 St.OK (selected s) false ∧ OnlyParts [.regs, .bd] s t ∧
    t.strand (selected s) = { s.strand (selected s) with st := 2, epoch := 1, intakeClosed := false } ∧
    ∀ e ∈ (s.strand (selected s)).imgs (s.strand (selected s)).image, (t.bead e.2.1).run = 1) ∧
  (∀ s master v, Commands s master v 4 → (s.strand (selected s)).st ≠ 0 → ∃ t, exec (.strandAbort master v) s = .next t ∧
    Shows t 5 St.ABORTED_BY_RESET (selected s) false ∧ t.strand (selected s) = {} ∧
    (∀ b ∈ (s.strand (selected s)).beads, t.bead b = {}) ∧
    t.Told Ev.STRAND_ABORTED [.v 1 (selected s), .v 4 (s.queuedMsgs (s.strand (selected s)))]) ∧
  (∀ s master v busy, Commands s master v 1 → (s.strand (selected s)).st ≠ 0 →
    ∃ t, exec (.strandLoad master v busy) s = .next t ∧ Shows t 5 St.LOCKED (selected s) false ∧ t.bd = s.bd) ∧
  (∀ s master v, Commands s master v 2 → (s.strand (selected s)).st ≠ 1 →
    ∃ t, exec (.strandStart master v) s = .next t ∧ Shows t 5 St.LOCKED (selected s) false ∧ t.bd = s.bd) ∧
  (∀ s master v, Commands s master v 4 → (s.strand (selected s)).st = 0 →
    ∃ t, exec (.strandAbort master v) s = .next t ∧ Shows t 5 St.LOCKED (selected s) false ∧ t.bd = s.bd) ∧
  (∀ s master v, Accepts s Pg.STRAND Rg.STRAND_LD_CMD master v → s.rb Pg.STRAND Rg.STRAND_LD_STATUS 31 = true → v % 16 = 2 →
    ∃ t, exec (.strandStart master v) s = .next t ∧ t.rf Pg.STRAND Rg.STRAND_LD_STATUS 15 8 = St.LOCKED ∧ t.bd = s.bd)

/-- An exchange: what it requires, verification, drain, drain limit, and the new program -/
def Obligations.StrandExchange : Prop :=
  (∀ s master v, Commands s master v 3 → (s.strand (selected s)).st ≠ 2 →
    ∃ t, exec (.strandExchange master v) s = .next t ∧ Shows t 5 St.LOCKED (selected s) false ∧ t.bd = s.bd) ∧
  (∀ s master v, Commands s master v 3 → (s.strand (selected s)).st = 2 → (imageRead s v).2.2 = St.OK →
    ∃ t, exec (.strandExchange master v) s = .next t ∧
      (∀ xs, parseImg (imageRead s v).2.1 ((imageRead s v).1.rdN Pg.STRAND Rg.STRAND_LD_LEN) = some xs → xs.length = (s.strand (selected s)).beads.length →
        imgFamily (imageRead s v).2.1 = (s.strand (selected s)).family →
        t.strand (selected s) = { s.strand (selected s) with next := (imageRead s v).2.1 } ∧ Shows t 1 St.OK (selected s) true) ∧
      ((∀ xs, parseImg (imageRead s v).2.1 ((imageRead s v).1.rdN Pg.STRAND Rg.STRAND_LD_LEN) = some xs → xs.length ≠ (s.strand (selected s)).beads.length ∨
        imgFamily (imageRead s v).2.1 ≠ (s.strand (selected s)).family) → t.bd = s.bd ∧ Shows t 5 St.BAD_INPUT (selected s) false)) ∧
  (∀ s n, s.alive = true → InPhase s 1 2 n → ∃ t, exec .exchangeVerified s = .next t ∧
    (sha256 (imgBody (s.strand n).next) = imgDigest (s.strand n).next →
      t.strand n = { s.strand n with st := 3, intakeClosed := true } ∧ Shows t 3 St.OK n true) ∧
    (sha256 (imgBody (s.strand n).next) ≠ imgDigest (s.strand n).next →
      t.strand n = { s.strand n with next := [] } ∧ Shows t 5 St.AUTH_FAIL n false) ∧ t.bd.beads = s.bd.beads) ∧
  (∀ s n, s.alive = true → InPhase s 3 3 n → s.drained n = true → ∃ t, exec .drainComplete s = .next t ∧
    (t.strand n).st = 4 ∧ (t.strand n).intakeClosed = (s.strand n).intakeClosed ∧ (t.strand n).beads = (s.strand n).beads ∧
    (∀ b ∈ (s.strand n).beads, (t.bead b).run = 0) ∧ Shows t 4 St.OK n true) ∧
  (∀ s n, s.alive = true → InPhase s 3 3 n → ∃ t, exec .drainLimitExpiry s = .next t ∧
    t.strand n = { s.strand n with st := 2, intakeClosed := false, next := [] } ∧ Shows t 5 St.TIMEOUT n false ∧
    (∀ b ∈ (s.strand n).beads, (s.bead b).run = 2 → (t.bead b).run = 1) ∧ t.Told Ev.STRAND_EXCHANGE_ENDED [.v 1 n, .v 1 St.TIMEOUT, .v 1 3]) ∧
  (∀ s n, s.alive = true → InPhase s 4 4 n → ∃ t, exec .exchangeLoadComplete s = .next t ∧
    (t.strand n).st = 2 ∧ (t.strand n).epoch = ((s.strand n).epoch + 1) % 2 ^ 32 ∧ (t.strand n).intakeClosed = false ∧
    (t.strand n).beads = (s.strand n).beads ∧ (t.strand n).version = imgVersion (s.strand n).next ∧
    (t.strand n).rings = imgRings (s.strand n).next ∧ (∀ e ∈ (s.strand n).imgs (s.strand n).next, (t.bead e.2.1).run = 1) ∧
    Shows t 5 St.OK n false ∧ t.Told Ev.STRAND_EXCHANGED
      ([.v 1 n, .v 4 (s.strand n).version, .v 4 (imgVersion (s.strand n).next), .v 4 (((s.strand n).epoch + 1) % 2 ^ 32)] ++
        (s.strand n).counts.map fun c => .v 2 c))

/-! ### Memory -/
namespace Sys2Proof.Machine

/-- `n` bytes at `addr` lie in one line of DDR5 or HBM. -/
def InLine (s : State) (addr n : Nat) : Prop :=
  0 < n ∧ lineBase addr = lineBase (addr + n - 1) ∧ s.sameRegion addr (addr + n - 1) = true ∧
  (s.region addr = .ddr ∨ s.region addr = .hbm)

/-- The line at `a` answers `owner`: its memory holds it, it has been initialised, and in the Spool its page is the owner's (or the
access carries SYSTEM) and the line has been written since its page was given out (05 R201, R202, R220). -/
def Answers (s : State) (a owner : Nat) : Prop :=
  s.lineRetired a = false ∧
  (∀ p, spoolPageOf a = some p → s.spoolAdmits p owner = true ∧ ((s.spage p).zero = false ∨ bitOf (s.spage p).written (a / 64 % 64) = true)) ∧
  (spoolPageOf a = none → s.lineInit a = true)

/-- Retirement by count is off for the memory that holds the line (05 R218). -/
def NoLimit (s : State) (a : Nat) : Prop := s.rf (s.homeOf a) Rg.HBMC_UNCORR_LIMIT 7 0 = 0

/-- A read of `n` bytes at `addr` is answered with `data`, to a core as a load access fault where `fault`. -/
def AnsweredWith (t : State) (master addr : Nat) (data : List Byte) (fault : Bool) : Prop :=
  Sent t (.readData master addr data (fault && (whoOf master == .mp || whoOf master == .svc)))

/-- A counter of the memory that holds the line has risen by one, unless it was full. -/
def Counted (s t : State) (a off : Nat) : Prop := t.rdN (s.homeOf a) off = satAdd 32 (s.rdN (s.homeOf a) off) 1

/-- No byte of memory differs but those from `a` to `a + n - 1`. -/
def OnlyBytes (s t : State) (a n : Nat) : Prop := ∀ b, b < a ∨ a + n ≤ b → t.peek b 1 = s.peek b 1

end Sys2Proof.Machine

/-- MEMORY_READ: the check of a line in the order of R193, and what a line that does not answer returns -/
def Obligations.MemoryReads : Prop :=
  (∀ s master owner addr n u hit, s.alive = true → InLine s addr n → Answers s (lineBase addr) (s.ownerOf master owner) →
    NoLimit s (lineBase addr) → ∃ t, exec (.memoryRead master owner addr n u none hit) s = .next t ∧ t.mem.cells = s.mem.cells ∧
      ((s.line (lineBase addr)).poison = true → AnsweredWith t master addr (List.replicate n 0) true ∧ t.mem = s.mem) ∧
      ((s.line (lineBase addr)).poison = false →
        (u = .twoSym → AnsweredWith t master addr (List.replicate n 0) true ∧ (t.line (lineBase addr)).poison = true ∧
          Counted s t (lineBase addr) Rg.HBMC_UNCORR) ∧
        (u = .checkSym → AnsweredWith t master addr (s.peek addr n) false ∧ Counted s t (lineBase addr) Rg.HBMC_CHKFIX) ∧
        (u = .oneSym → AnsweredWith t master addr (s.peek addr n) false ∧ Counted s t (lineBase addr) Rg.HBMC_CORR) ∧
        (u = .badTag → AnsweredWith t master addr (List.replicate n 0) true ∧ Counted s t (lineBase addr) Rg.HBMC_TAGFAIL) ∧
        (u = .clean → (s.line (lineBase addr)).key ≠ s.mem.key → AnsweredWith t master addr (List.replicate n 0) true ∧
          Counted s t (lineBase addr) Rg.HBMC_TAGFAIL) ∧
        (u = .clean → (s.line (lineBase addr)).key = s.mem.key → AnsweredWith t master addr (s.peek addr n) false ∧ t.mem = s.mem))) ∧
  (∀ s master owner addr n u hit p, s.alive = true → InLine s addr n → spoolPageOf (lineBase addr) = some p → NoLimit s (lineBase addr) →
    ∃ t, exec (.memoryRead master owner addr n u none hit) s = .next t ∧
      (s.spoolAdmits p (s.ownerOf master owner) = false → AnsweredWith t master addr (List.replicate n 0) false ∧
        t.rf Pg.SPOOL Rg.SPOOL_REFUSALS 15 0 = satAdd 16 (s.rf Pg.SPOOL Rg.SPOOL_REFUSALS 15 0) 1 ∧ Raised t Pg.SPOOL 1 ∧
        t.Told Ev.SPOOL_REFUSED_ACCESS [.v 4 p, .v 2 (s.ownerOf master owner), .v 2 (s.spage p).owner, .v 2 master]) ∧
      (s.spoolAdmits p (s.ownerOf master owner) = true → s.lineRetired (lineBase addr) = true →
        AnsweredWith t master addr (List.replicate n 0) true) ∧
      (s.spoolAdmits p (s.ownerOf master owner) = true → s.lineRetired (lineBase addr) = false → (s.spage p).zero = true →
        bitOf (s.spage p).written (lineBase addr / 64 % 64) = false → AnsweredWith t master addr (List.replicate n 0) false ∧ t.mem = s.mem)) ∧
  (∀ s master owner addr n u way hit, s.alive = true → 0 < n → s.sameRegion addr (addr + n - 1) = true →
    s.region addr = .unmapped ∨ s.region addr = .beadTop ∨ (s.region addr = .bead ∧ mayReach .bead master false = false) ∨
      (s.region addr = .sram ∧ mayReach .sram master false = false) ∨ (s.region addr = .rom ∧ mayReach .rom master false = false) →
    ∃ t, exec (.memoryRead master owner addr n u way hit) s = .next t ∧ Sent t (.readData master addr (List.replicate n 0) false) ∧
      t.rb Pg.TOP Rg.ERR_INFO 31 = true ∧ (s.accWin = none → t.accWin = some {})) ∧
  (∀ s master owner addr n u way hit, s.alive = true → 0 < n → s.sameRegion addr (addr + n - 1) = true →
    s.region addr = .bead → mayReach .bead master false = true →
    ∃ t, exec (.memoryRead master owner addr n u way hit) s = .next t ∧ t = s.emit (.readData master addr (s.beadBytes addr n) false)) ∧
  (∀ s master owner p off u way hit, s.alive = true → p < 75 → off < 0x10000 → off % 4 = 0 → s.pageReady p = true →
    ¬(p = Pg.PWRSEQ ∧ off = Rg.PWRSEQ_MON_STATUS) → ∃ t, exec (.memoryRead master owner (regAddr p off) 4 u way hit) s = .next t ∧
      t = s.emit (.readData master (regAddr p off) (leBytes 4 (s.viewFor master p off)) false))

/-- PARTIAL_WRITE and FULL_LINE_WRITE: which bytes change, poison, and what is refused -/
def Obligations.MemoryWrites : Prop :=
  (∀ s master owner addr data hit, s.alive = true → data.length = 64 → addr % 64 = 0 → InLine s addr 64 → s.lineRetired addr = false →
    (∀ p, spoolPageOf addr = some p → s.spoolAdmits p (s.ownerOf master owner) = true) → (spoolPageOf addr = none → s.lineInit addr = true) →
    NoLimit s addr → ∃ t, exec (.fullLineWrite master owner addr data hit) s = .next t ∧ t.peek addr 64 = data ∧ OnlyBytes s t addr 64 ∧
      (t.line addr).poison = false ∧ (t.line addr).key = s.mem.key ∧
      (∀ p, spoolPageOf addr = some p → (t.line addr).owner = (s.spage p).owner ∧ (t.line addr).gen = (s.spage p).gen ∧
        ((s.spage p).zero = true → (t.spage p).written = (s.spage p).written ||| 2 ^ (addr / 64 % 64))) ∧ OnlyParts [.regs, .cells, .lines, .store] s t) ∧
  (∀ s master owner addr data u hit, s.alive = true → data.length < 64 → InLine s addr data.length →
    Answers s (lineBase addr) (s.ownerOf master owner) → NoLimit s (lineBase addr) →
    ∃ t, exec (.partialWrite master owner addr data u hit) s = .next t ∧
      ((s.line (lineBase addr)).poison = false → u = .oneSym ∨ u = .checkSym ∨ (u = .clean ∧ (s.line (lineBase addr)).key = s.mem.key) →
        t.peek addr data.length = data ∧ OnlyBytes s t addr data.length ∧ (t.line (lineBase addr)).poison = false) ∧
      ((s.line (lineBase addr)).poison = true ∨ u = .twoSym ∨ u = .badTag ∨ (u = .clean ∧ (s.line (lineBase addr)).key ≠ s.mem.key) →
        (s.locket.based = false → t.mem.cells = s.mem.cells ∧ (t.line (lineBase addr)).poison = true) ∧
        ∃ cause, t.Told Ev.SPOOL_POISONED_WRITE [.v 8 (lineBase addr), .v 2 (s.ownerOf master owner), .v 1 cause])) ∧
  (∀ s master owner addr data u hit p, s.alive = true → data.length < 64 → InLine s addr data.length → spoolPageOf (lineBase addr) = some p →
    s.spoolAdmits p (s.ownerOf master owner) = true → s.lineRetired (lineBase addr) = false → (s.spage p).zero = true →
    bitOf (s.spage p).written (lineBase addr / 64 % 64) = false → NoLimit s (lineBase addr) →
    ∃ t, exec (.partialWrite master owner addr data u hit) s = .next t ∧ t.peek addr data.length = data ∧
      (∀ b, lineBase addr ≤ b → b < lineBase addr + 64 → b < addr ∨ addr + data.length ≤ b → t.peek b 1 = [0]) ∧
      OnlyBytes s t (lineBase addr) 64) ∧
  (∀ s master owner addr data u hit p, s.alive = true → data.length < 64 → InLine s addr data.length → spoolPageOf (lineBase addr) = some p →
    s.spoolAdmits p (s.ownerOf master owner) = false → NoLimit s (lineBase addr) →
    ∃ t, exec (.partialWrite master owner addr data u hit) s = .next t ∧
      (s.locket.based = false → t.mem.cells = s.mem.cells ∧ t.mem.lines = s.mem.lines) ∧
      t.rf Pg.SPOOL Rg.SPOOL_REFUSALS 15 0 = satAdd 16 (s.rf Pg.SPOOL Rg.SPOOL_REFUSALS 15 0) 1 ∧
      t.Told Ev.SPOOL_REFUSED_ACCESS [.v 4 p, .v 2 (s.ownerOf master owner), .v 2 (s.spage p).owner, .v 2 master]) ∧
  (∀ s master owner n a data u hit, s.alive = true → n < 1024 → a < localWords → data.length = 4 → mayReach .bead master true = true →
    ∃ t, exec (.partialWrite master owner (0x030000000000 + n * 0x40000 + 4 * a) data u hit) s = .next t ∧
      (t.bead n).word? a = LW.mk' (BitVec.ofNat 32 (ofLE data)) false true ∧
      (∀ b, b ≠ a → (t.bead n).word? b = (s.bead n).word? b) ∧ OnlyParts [.bd] s t) ∧
  (∀ s master owner addr data u hit, s.alive = true → data.length < 64 → 0 < data.length → s.sameRegion addr (addr + data.length - 1) = true →
    s.region addr = .unmapped ∨ s.region addr = .beadTop ∨ s.region addr = .rom ∨
      (s.region addr = .bead ∧ mayReach .bead master true = false) ∨ (s.region addr = .sram ∧ mayReach .sram master true = false) →
    ∃ t, exec (.partialWrite master owner addr data u hit) s = .next t ∧ t.bd = s.bd ∧ t.rb Pg.TOP Rg.ERR_INFO 31 = true ∧
      (s.accWin = none → t.accWin = some {}))

/-- Memory controllers and cache: initialisation, scrub, retirement, temperature, disabled ways, mirror -/
def Obligations.MemoryControllers : Prop :=
  (∀ s ctl dimms ms, s.alive = true → ctl < 2 → ∃ t, exec (.memoryInitDone ctl false dimms ms) s = .next t ∧
    t.rf (Pg.HBMC + ctl) Rg.HBMC_STATUS 1 0 = 3 ∧
    ∀ a, hbmBase + spoolMax * 4096 ≤ a → a < 0x010C00000000 → s.ctlOf a = ctl → t.peek a 1 = [0]) ∧
  (∀ s c dimms ms, s.alive = true → c < 8 → dimms < 4 → ∃ t, exec (.memoryInitDone (c + 2) false dimms ms) s = .next t ∧
    t.rb (Pg.DDRC + c) Rg.DDRC_STATUS 0 = true ∧ t.rb (Pg.DDRC + c) Rg.DDRC_STATUS 1 = true ∧ t.rb (Pg.DDRC + c) Rg.DDRC_STATUS 2 = true ∧
    t.rf (Pg.DDRC + c) Rg.DDRC_STATUS 5 4 = dimms ∧ t.Told Ev.DDRC_INIT_DONE [.v 1 c, .v 4 (s.pins.ddrGiB.getD c 0), .v 4 ms]) ∧
  (∀ s ctl a u, s.alive = true → s.inMemory (lineBase a) 64 = true → s.ctlOf (lineBase a) = ctl → s.lineRetired (lineBase a) = false →
    s.lineInit (lineBase a) = true → exec (.scrub ctl [(a, u)]) s =
      .next ((s.readLine { master := 0, owner := sysOwner } (lineBase a) u).st.checkRetire (lineBase a))) ∧
  (∀ s master ch v, ch < 8 → Accepts s (Pg.DDRC + ch) Rg.DDRC_FAIL master v → bitOf v 0 = true → s.chFailed ch = false →
    ∃ t, exec (.ddrcFailWrite master ch v) s = .next t ∧ t.chFailed ch = true) ∧
  (∀ s master k v, k < 2 → Accepts s (Pg.HBMC + k) Rg.HBMC_PC_RETIRE master v →
    ∃ t, exec (.hbmcPcRetireWrite master k v) s = .next t ∧ ∀ i < 32, bitOf v i = true → t.pcRetired (32 * k + i) = true) ∧
  (∀ s k, s.alive = true → k < 2 → ∃ u : State, exec (.hbmStackFailure k) s = .next (u.yield 0x02) ∧
    ∀ i < 32, u.pcRetired (32 * k + i) = true) ∧
  (∀ s k temp, s.alive = true → k < 2 → ∃ t, exec (.hbmTemperatureHigh k temp) s = .next t ∧
    t.rf (Pg.HBMC + k) Rg.HBMC_TEMP 7 0 = min temp 255 ∧ t.rb (Pg.HBMC + k) Rg.HBMC_STATUS 3 = decide (95 < temp) ∧
    (95 < temp → t.Told Ev.HBMC_HOT [.v 1 k, .v 1 (min temp 255)])) ∧
  (∀ s sl way, s.alive = true → sl < 32 → way < 16 → ∃ t, exec (.cacheErrWindowEnd sl way) s = .next t ∧
    mgetD 0 t.mem.wayErrs (sl * 16 + way) = 0 ∧
    (mgetD 0 s.mem.wayErrs (sl * 16 + way) < s.rf (slicePage sl) Rg.SYSCACHE_ERR_CFG 7 0 → t.regs = s.regs) ∧
    (s.rf (slicePage sl) Rg.SYSCACHE_ERR_CFG 7 0 ≤ mgetD 0 s.mem.wayErrs (sl * 16 + way) →
      s.rb (slicePage sl) (Rg.SYSCACHE_WAY_DIS + 4 * (sl % 4)) way = false →
      s.rf (slicePage sl) (Rg.SYSCACHE_SLICE_STATUS + 4 * (sl % 4)) 19 17 < 4 →
      t.rb (slicePage sl) (Rg.SYSCACHE_WAY_DIS + 4 * (sl % 4)) way = true ∧
      t.Told Ev.SYSCACHE_WAY_DISABLED [.v 1 sl, .v 1 way, .v 1 0, .v 4 (mgetD 0 s.mem.wayErrs (sl * 16 + way))])) ∧
  (∀ s master k j v, k < 8 → j < 4 → Accepts s (Pg.SYSCACHE + k) (Rg.SYSCACHE_WAY_DIS + 4 * j) master v →
    ∃ t, exec (.syscacheWayDisWrite master k j v) s = .next t ∧
      ∀ w < 16, bitOf v w = true → t.rb (Pg.SYSCACHE + k) (Rg.SYSCACHE_WAY_DIS + 4 * j) w = true) ∧
  (∀ s master v, Accepts s Pg.DDRC Rg.DDRC_MAP_CFG master v → ∃ t, exec (.ddrcMapCfgWrite master 0 v) s = .next t ∧
    ((stored s Pg.DDRC Rg.DDRC_MAP_CFG v).mirrorFits (bits v 15 8) = true → t = stored s Pg.DDRC Rg.DDRC_MAP_CFG v) ∧
    ((stored s Pg.DDRC Rg.DDRC_MAP_CFG v).mirrorFits (bits v 15 8) = false →
      t.rf Pg.DDRC Rg.DDRC_MAP_CFG 15 8 = s.rf Pg.DDRC Rg.DDRC_MAP_CFG 15 8 ∧ t.rf Pg.DDRC Rg.ERR_INFO 23 16 = St.BAD_INPUT)) ∧
  (∀ s master k v, 0 < k → k < 8 → Accepts s (Pg.DDRC + k) Rg.DDRC_MAP_CFG master v → ∃ t, exec (.ddrcMapCfgWrite master k v) s = .next t ∧
    t.rd (Pg.DDRC + k) Rg.DDRC_MAP_CFG = s.rd (Pg.DDRC + k) Rg.DDRC_MAP_CFG ∧ OnlyParts [.regs, .wos] s t)

/-! ### Engine jobs -/
namespace Sys2Proof.Machine

/-- Job `id` of engine `e` and opcode `op` has been fetched and has not ended. -/
def Runs (s : State) (e : Engine) (op id : Nat) (j : Job) : Prop :=
  s.alive = true ∧ mget s.eng.jobs id = some j ∧ j.engine = e ∧ j.opcode = op ∧ j.res = none

/-- Job `id` has ended with result `r`; JOB_COMPLETE sends its record. -/
def Ends (t : State) (id : Nat) (j : Job) (r : JobRes) : Prop := mget t.eng.jobs id = some { j with res := some r }

/-- As `Ends`, whatever the result's counts and detail. -/
def EndsWith (t : State) (id : Nat) (j : Job) (code : Nat) : Prop :=
  ∃ r, Ends t id j r ∧ r.status = code

end Sys2Proof.Machine

/-- The Spool: pages given out and taken back, by jobs and by registers, and SPOOL_CFG -/
def Obligations.SpoolPages : Prop :=
  (∀ (s : State) owner p q, (s.allocPage owner p).spage p = (if owner = (s.spage p).last then { (s.spage p) with owner := owner } else
      { (s.spage p) with owner := owner, gen := ((s.spage p).gen + 1) % 16, zero := true, written := 0 }) ∧
    (q ≠ p → (s.allocPage owner p).spage q = s.spage q)) ∧
  (∀ s master v pick, Accepts s Pg.SPOOL Rg.SPOOL_ALLOC_CMD master v → v % 4096 ≠ 0 → v % 4096 ≠ sysOwner → s.spoolFree ≠ 0 →
    s.pageFree pick = true → ∃ t, exec (.spoolAllocCmd master v pick) s = .next t ∧ t.spage pick = (s.allocPage (v % 4096) pick).spage pick ∧
      (∀ q, q ≠ pick → t.spage q = s.spage q) ∧ t.rdN Pg.SPOOL Rg.SPOOL_CMD_STATUS = pick % 2 ^ 24) ∧
  (∀ s master v pick, Accepts s Pg.SPOOL Rg.SPOOL_ALLOC_CMD master v → ∃ t, exec (.spoolAllocCmd master v pick) s = .next t ∧
    (v % 4096 = 0 ∨ v % 4096 = sysOwner → t.rdN Pg.SPOOL Rg.SPOOL_CMD_STATUS = 2 ^ 24 * St.BAD_INPUT ∧ t.mem = s.mem) ∧
    (v % 4096 ≠ 0 ∧ v % 4096 ≠ sysOwner ∧ s.spoolFree = 0 → t.rdN Pg.SPOOL Rg.SPOOL_CMD_STATUS = 2 ^ 24 * St.NOT_READY ∧ t.mem = s.mem)) ∧
  (∀ s id j picks, Runs s .spool 1 id j → j.spoolBad = true ∨ j.owner = sysOwner →
    ∃ t, exec (.spoolAlloc id picks) s = .next t ∧ Ends t id j { status := St.BAD_INPUT } ∧ t.mem = s.mem) ∧
  (∀ s id j picks, Runs s .spool 1 id j → j.spoolBad = false → j.owner ≠ sysOwner → j.spoolCount ≤ s.spoolFree →
    s.picksOk j.spoolCount picks = true →
    ((picks.foldl (fun s p => s.allocPage j.owner p) s).writeBytes j.acc j.spoolList (picks.flatMap fun p => leBytes 4 p)).2 = St.OK →
    ∃ t, exec (.spoolAlloc id picks) s = .next t ∧ (∀ p ∈ picks, (t.spage p).owner = j.owner) ∧
      Ends t id j { status := St.OK, counts := picks.length }) ∧
  (∀ s id j, Runs s .spool 2 id j → j.spoolBad = true →
    ∃ t, exec (.spoolFree id) s = .next t ∧ Ends t id j { status := St.BAD_INPUT } ∧ t.mem = s.mem) ∧
  (∀ s id j p, Runs s .spool 2 id j → j.spoolBad = false → j.spoolCount = 1 → (s.readBytes j.acc j.spoolList 4).2.2 = St.OK →
    leAt (s.readBytes j.acc j.spoolList 4).2.1 0 4 = p → p < s.spoolPages → ∃ t, exec (.spoolFree id) s = .next t ∧
      ((s.spage p).owner ≠ 0 → (s.spage p).owner = j.owner → t.spage p = { s.spage p with last := j.owner, owner := 0 } ∧
        Ends t id j { status := St.OK, counts := 1 }) ∧
      ((s.spage p).owner = 0 → t.spage p = s.spage p ∧ Ends t id j { status := St.ALREADY_FREE, counts := 2 ^ 48 } ∧
        t.Told Ev.SPOOL_DOUBLE_FREE [.v 4 p, .v 2 j.owner, .v 2 (s.spage p).last]) ∧
      ((s.spage p).owner ≠ 0 → (s.spage p).owner ≠ j.owner → t.spage p = s.spage p ∧
        Ends t id j { status := St.NOT_OWNER, counts := 2 ^ 32 } ∧
        t.Told Ev.SPOOL_NOT_OWNER_FREE [.v 4 p, .v 2 j.owner, .v 2 (s.spage p).owner])) ∧
  (∀ s master v, Accepts s Pg.SPOOL Rg.SPOOL_FREE_CMD master v → v % 2 ^ 24 < s.spoolPages →
    ∃ t, exec (.spoolFreeCmd master v) s = .next t ∧
      ((s.spage (v % 2 ^ 24)).owner ≠ 0 → (s.spage (v % 2 ^ 24)).owner = s.rf Pg.SPOOL Rg.SPOOL_FREE_OWNER 11 0 →
        t.spage (v % 2 ^ 24) = { s.spage (v % 2 ^ 24) with last := (s.spage (v % 2 ^ 24)).owner, owner := 0 } ∧
        t.rdN Pg.SPOOL Rg.SPOOL_CMD_STATUS = v % 2 ^ 24) ∧
      ((s.spage (v % 2 ^ 24)).owner = 0 → t.mem.pages = s.mem.pages ∧
        t.rdN Pg.SPOOL Rg.SPOOL_CMD_STATUS = v % 2 ^ 24 + 2 ^ 24 * St.ALREADY_FREE) ∧
      ((s.spage (v % 2 ^ 24)).owner ≠ 0 → (s.spage (v % 2 ^ 24)).owner ≠ s.rf Pg.SPOOL Rg.SPOOL_FREE_OWNER 11 0 → t.mem.pages = s.mem.pages ∧
        t.rdN Pg.SPOOL Rg.SPOOL_CMD_STATUS = v % 2 ^ 24 + 2 ^ 24 * St.NOT_OWNER)) ∧
  (∀ s master v, Accepts s Pg.SPOOL Rg.SPOOL_CFG master v → s.spoolPages ≠ v % 2 ^ 24 → ∃ t, exec (.spoolCfgWrite master v) s = .next t ∧
    (s.mem.firstAlloc = false → t.spoolPages = v % 2 ^ 24 ∧ ∀ p, (t.spage p).owner = 0) ∧
    (s.mem.firstAlloc = true → t.spoolPages = s.spoolPages ∧ t.mem.pages = s.mem.pages ∧ t.rf Pg.SPOOL Rg.ERR_INFO 23 16 = St.BAD_INPUT))

namespace Sys2Proof.Machine

/-- The state and the 64 bytes of the descriptor that engine instance `inst` takes next from `ring`, with the status of the read. -/
def descRead (s : State) (e : Engine) (inst ring : Nat) : State × List Byte × Nat :=
  s.readBytes { master := e.master inst, owner := sysOwner } (s.descAddr e inst ring (s.ringCi e inst ring)) 64

/-- The page, the ring block's offset `k`, of an engine instance takes a write. -/
def RingAccepts (s : State) (e : Engine) (inst k master v : Nat) : Prop :=
  e.has inst = true ∧ Accepts s (e.page inst) (e.ringBase + k) master v

/-- Nothing of the job lists changes but that `t` holds one job more, `j`, as fetched. -/
def Fetched (s t : State) (j : Job) : Prop := t.eng.jobs = mput s.eng.jobs (freshKey s.eng.jobs 0) j

end Sys2Proof.Machine

/-- Descriptor rings and completions: producer index, fetch, completion, held records, ring heads -/
def Obligations.RingsAndJobs : Prop :=
  (∀ (s : State) (e : Engine) inst master v, RingAccepts s e inst 0x10 master v → ∃ t, exec (.ringPiWrite e inst master v) s = .next t ∧
    (s.ringOn e inst (s.ringSel e inst) = true → s.boundTo (e.page inst) (s.ringSel e inst) = none →
      t = stored s (e.page inst) (e.ringBase + 0x10) v) ∧
    (s.ringOn e inst (s.ringSel e inst) = false ∨ s.boundTo (e.page inst) (s.ringSel e inst) ≠ none →
      t.rf (e.page inst) Rg.ERR_INFO 23 16 = St.BAD_INPUT ∧ OnlyParts [.regs] s t ∧
      ∀ o i, 0x100 ≤ o → o < 0x10000 → i < 0x10000 → t.rd (e.page inst) o i = s.rd (e.page inst) o i)) ∧
  (∀ (s : State) (e : Engine) inst ring, s.alive = true → e.has inst = true → s.engEnabled e inst = true → s.nextRing e inst = some ring →
    unreadable (descRead s e inst ring).2.2 = false → bits (leAt (descRead s e inst ring).2.1 0 8) 39 28 ≤ 63 →
    ((descRead s e inst ring).1.consume e inst ring).cringOn e inst (bits (leAt (descRead s e inst ring).2.1 0 8) 39 28) = true →
    ∃ t j, exec (.descriptorFetch e inst) s = .next t ∧ Fetched s t j ∧ j.engine = e ∧ j.inst = inst ∧ j.ring = ring ∧
      j.cring = bits (leAt (descRead s e inst ring).2.1 0 8) 39 28 ∧ j.tag = leAt (descRead s e inst ring).2.1 8 4 ∧
      j.owner = bits (leAt (descRead s e inst ring).2.1 0 8) 27 16 ∧ j.opcode = bits (leAt (descRead s e inst ring).2.1 0 8) 7 0 ∧
      j.irq = bitOf (leAt (descRead s e inst ring).2.1 0 8) 8 ∧ j.fence = bitOf (leAt (descRead s e inst ring).2.1 0 8) 9 ∧
      j.desc = (descRead s e inst ring).2.1 ∧
      (j.owner ≠ 0 → j.opcode ∈ e.opcodes → j.res = none) ∧
      (j.owner = 0 ∨ j.opcode ∉ e.opcodes → j.res = some { status := St.BAD_INPUT }) ∧
      t = { (descRead s e inst ring).1.consume e inst ring with eng := t.eng } ∧
      mget t.eng.lastServed (e.page inst) = some ring) ∧
  (∀ (s : State) (e : Engine) inst ring, ((s.consume e inst ring).ringReg e inst 0x14 ring = (s.ringCi e inst ring + 1) % s.ringSize e inst ring)) ∧
  (∀ (s : State) id j r, s.alive = true → mget s.eng.jobs id = some j → j.res = some r → ∃ t, exec (.jobComplete id) s = .next t ∧
    mget t.eng.jobs id = none ∧
    (j.engine = .urt → Sent t (.jobDone j.tag r.status r.counts) ∧ t.mem = s.mem) ∧
    (j.engine ≠ .urt → s.cringOn j.engine j.inst j.cring = false →
      t.Told (j.engine.event j.inst Ev.RECORD_DROPPED) [.v 1 j.cring, .v 4 j.tag, .v 1 r.status]) ∧
    (j.engine ≠ .urt → s.cringOn j.engine j.inst j.cring = true → s.heldFor j.engine j.inst j.cring = true →
      t.eng.held = s.eng.held ++ [j.held r] ∧ OnlyParts [.eng] s t) ∧
    (j.engine ≠ .urt → s.cringOn j.engine j.inst j.cring = true → s.heldFor j.engine j.inst j.cring = false →
      s.cringFull j.engine j.inst j.cring = true → t.eng.held = s.eng.held ++ [j.held r] ∧
      t.Told (j.engine.event j.inst Ev.CRING_STALL) [.v 1 j.cring, .v 4 j.tag]) ∧
    (j.engine ≠ .urt → s.cringOn j.engine j.inst j.cring = true → s.heldFor j.engine j.inst j.cring = false →
      s.cringFull j.engine j.inst j.cring = false →
      t = ({ s with eng := { s.eng with jobs := mdel s.eng.jobs id } } : State).putRecord (j.held r))) ∧
  (∀ (s : State) (h : Held), (h.engine.page h.inst < 75 → h.cring < 64 → s.rd (h.engine.page h.inst) 0x804 h.cring = 0x10000 →
      2 ≤ (s.putRecord h).cringSize h.engine h.inst h.cring →
      ∀ u, u = s.writeBytes { master := h.engine.master h.inst, owner := sysOwner } (s.ringReg h.engine h.inst 0x18 h.cring * 65536)
        (recordBytes h.tag h.source s.gts 1 h.res) → (s.putRecord h).mem = u.1.mem)) ∧
  (∀ (s : State) (h : Held) b, h.irq = true → h.cring < 64 → irqBits (h.engine.page h.inst) = 8 → b = (if h.cring < 32 then 0x810 else 0x814) →
    (s.putRecord h).rb (h.engine.page h.inst) b (h.cring % 32) = true ∧ Raised (s.putRecord h) (h.engine.page h.inst) 7) ∧
  (∀ (s : State) (e : Engine) inst n (h : Held), s.alive = true → e.has inst = true → s.cringOn e inst n = true → s.cringFull e inst n = false →
    (s.eng.held.find? fun h => h.engine.page h.inst == e.page inst && h.cring == n) = some h →
    exec (.heldRecordWrite e inst n) s = .next (({ s with eng := { s.eng with held := s.eng.held.erase h } } : State).putRecord h)) ∧
  (∀ (s : State) (e : Engine) inst master v, e.has inst = true → Accepts s (e.page inst) 0x800 master v → s.shown (e.page inst) 0x800 = s.ringSel e inst →
    0 < s.cringSize e inst (s.ringSel e inst) → ∃ t, exec (.cringHeadWrite e inst master v) s = .next t ∧
      (v % 65536 < s.cringSize e inst (s.ringSel e inst) →
        (v % 65536 + s.cringSize e inst (s.ringSel e inst) - s.rdN (e.page inst) 0x800 (s.ringSel e inst)) % s.cringSize e inst (s.ringSel e inst) ≤
          (s.rf (e.page inst) 0x804 15 0 (s.ringSel e inst) + s.cringSize e inst (s.ringSel e inst) -
            s.rdN (e.page inst) 0x800 (s.ringSel e inst)) % s.cringSize e inst (s.ringSel e inst) → t = stored s (e.page inst) 0x800 v) ∧
      (s.cringSize e inst (s.ringSel e inst) ≤ v % 65536 → t.rf (e.page inst) Rg.ERR_INFO 23 16 = St.BAD_INPUT ∧
        t.rd (e.page inst) 0x800 (s.ringSel e inst) = s.rd (e.page inst) 0x800 (s.ringSel e inst)))

/-- Rings enabled and disabled, ring interrupts cleared, and engines enabled and disabled -/
def Obligations.RingConfiguration : Prop :=
  (∀ (s : State) (e : Engine) inst master v n, RingAccepts s e inst 0xC master v → n = s.ringSel e inst → s.ringOn e inst n = false → bitOf v 0 = true →
    s.cringOn e inst n = bitOf v 16 → ∃ t, exec (.ringEnableSet e inst master v) s = .next t ∧ OnlyParts [.regs, .wos] s t ∧
      t.ringReg e inst 0x10 n = 0 ∧ t.ringReg e inst 0x14 n = 0) ∧
  (∀ (s : State) (e : Engine) inst master v n, RingAccepts s e inst 0xC master v → n = s.ringSel e inst → s.ringOn e inst n = true → bitOf v 0 = false →
    s.cringOn e inst n = bitOf v 16 → ∃ t, exec (.ringEnableClear e inst master v) s = .next t ∧
      t.ringReg e inst 0x10 n = 0 ∧ t.ringReg e inst 0x14 n = 0 ∧ ∀ x ∈ s.jobsOf (e.page inst) n, mget t.eng.jobs x.1 = none) ∧
  (∀ (s : State) (e : Engine) inst master v n, RingAccepts s e inst 0xC master v → n = s.ringSel e inst → s.cringOn e inst n = false → bitOf v 16 = true →
    s.ringOn e inst n = bitOf v 0 → ∃ t, exec (.cringEnableSet e inst master v) s = .next t ∧ OnlyParts [.regs, .wos] s t ∧
      t.rdN (e.page inst) 0x800 n = 0 ∧ t.rdN (e.page inst) 0x804 n = 0x10000) ∧
  (∀ (s : State) (e : Engine) inst master v n, RingAccepts s e inst 0xC master v → n = s.ringSel e inst → s.cringOn e inst n = true → bitOf v 16 = false →
    s.ringOn e inst n = bitOf v 0 → ∃ t, exec (.cringEnableClear e inst master v) s = .next t ∧ t.heldFor e inst n = false ∧
      ∀ h l, (s.eng.held.filter fun h => h.engine.page h.inst == e.page inst && h.cring == n) = l ++ [h] →
        t.Told (h.engine.event h.inst Ev.RECORD_DROPPED) [.v 1 h.cring, .v 4 h.tag, .v 1 h.res.status]) ∧
  (∀ (s : State) (e : Engine) inst hi master v, e.has inst = true → Accepts s (e.page inst) (if hi = true then 0x814 else 0x810) master v →
    s.shown (e.page inst) (if hi = true then 0x814 else 0x810) = 0 → ∃ t, exec (.cringIrqClear e inst hi master v) s = .next t ∧
      OnlyParts [.regs, .wos, .wake] s t ∧
      (∀ b < 32, bitOf v b = true → t.rb (e.page inst) (if hi = true then 0x814 else 0x810) b = false) ∧
      (t.rdN (e.page inst) 0x810 ≠ 0 ∨ t.rdN (e.page inst) 0x814 ≠ 0 → irqBits (e.page inst) = 8 → Raised t (e.page inst) 7)) ∧
  (∀ (s : State) (e : Engine) inst master v, e.has inst = true → e ≠ .spool → Accepts s (e.page inst) 0x100 master v →
    s.rb (e.page inst) 0x100 (enableBit (e.page inst)) = false → bitOf v (enableBit (e.page inst)) = true →
    exec (.engineEnableSet e inst master v) s = .next (stored s (e.page inst) 0x100 v)) ∧
  (∀ (s : State) (e : Engine) inst master v, e.has inst = true → e ≠ .spool → Accepts s (e.page inst) 0x100 master v →
    s.rb (e.page inst) 0x100 (enableBit (e.page inst)) = true → bitOf v (enableBit (e.page inst)) = false →
    exec (.engineEnableClear e inst master v) s = .next (stored s (e.page inst) 0x100 v))

/-- Locket: records numbered in order and held, drops, spill to the vault, and the base of numbering -/
def Obligations.LocketKeepsRecords : Prop :=
  (∀ (s : State) gts source code payload, s.alive = true → bitOf s.boot.ready Pg.LOCKET = true → s.locket.dropPend = 0 →
    ∃ t, exec (.locketRecord gts source code payload) s = .next t ∧ t.locket.next = s.locket.next + 1 ∧
      t.locket.recs = (if s.locket.recs.length < locketDepth then s.locket.recs else s.locket.recs.drop 1) ++
        [{ s.mkRec gts source code payload with seq := s.locket.next }] ∧ t.locket.vault = s.locket.vault) ∧
  (∀ (s : State) gts source code payload, s.alive = true → bitOf s.boot.ready Pg.LOCKET = false → s.locket.boot.length < 256 →
    ∃ t, exec (.locketRecord gts source code payload) s = .next t ∧ OnlyParts [.locket] s t ∧
      t.locket = { s.locket with boot := s.locket.boot ++ [s.mkRec gts source code payload] }) ∧
  (∀ (s : State) gts source code payload, s.alive = true → bitOf s.boot.ready Pg.LOCKET = true → s.locket.dropPend ≠ 0 →
    s.locket.recs.length + 2 ≤ locketDepth → ∃ t, exec (.locketRecord gts source code payload) s = .next t ∧ t.locket.dropPend = 0 ∧
      t.locket.recs = s.locket.recs ++ [{ s.mkRec s.gts (srcOf Pg.LOCKET) Ev.LOCKET_DROPPED (packPayload [.v 4 s.locket.dropPend]) with
        seq := s.locket.next }, { s.mkRec gts source code payload with seq := s.locket.next + 1 }]) ∧
  (∀ (s : State), s.alive = true → ∃ t, exec .locketHandoverTimeout s = .next t ∧
    t.rdN Pg.LOCKET Rg.LOCKET_DROPPED = satAdd 32 (s.rdN Pg.LOCKET Rg.LOCKET_DROPPED) 1 ∧ Raised t Pg.LOCKET 0 ∧
    t.locket = { s.locket with dropPend := s.locket.dropPend + 1 }) ∧
  (∀ (s : State) l, s.alive = true → s.locket.based = true → s.rb Pg.LOCKET Rg.LOCKET_CFG 0 = true → bitOf s.boot.ready Pg.LOCKET = true →
    (s.unspilled.take 64).getLast? = some l → s.locket.vault.length + 64 ≤ vaultDepth → ∃ t, exec .spillPage s = .next t ∧
      t.locket.vault = s.locket.vault ++ s.unspilled.take 64 ∧
      (s.locket.gap = none → t.locket = { s.locket with vault := t.locket.vault, spilled := l.seq + 1 } ∧ OnlyParts [.locket] s t) ∧
      (∀ a b, s.locket.gap = some (a, b) → t.Told Ev.LOCKET_SPILL_GAP [.v 8 a, .v 8 b])) ∧
  (∀ (s : State) master v, Accepts s Pg.LOCKET Rg.LOCKET_SEQ_BASE_HI master v → ∃ t, exec (.locketSeqBaseHiWrite master v) s = .next t ∧
    OnlyParts [.regs, .wos, .locket] s t ∧
    t.locket.next = s.locket.next + (s.rdN Pg.LOCKET Rg.LOCKET_SEQ_BASE_LO +
      2 ^ 32 * (stored s Pg.LOCKET Rg.LOCKET_SEQ_BASE_HI v).rdN Pg.LOCKET Rg.LOCKET_SEQ_BASE_HI) ∧ t.locket.based = true ∧
    t.locket.recs.map (·.seq) = s.locket.recs.map fun r => r.seq + (s.rdN Pg.LOCKET Rg.LOCKET_SEQ_BASE_LO +
      2 ^ 32 * (stored s Pg.LOCKET Rg.LOCKET_SEQ_BASE_HI v).rdN Pg.LOCKET Rg.LOCKET_SEQ_BASE_HI))

/-- Locket read through its window and its latches, and cleared only with the right token -/
def Obligations.LocketIsReadAndCleared : Prop :=
  (∀ (s : State) master, s.alive = true → s.pageReady Pg.LOCKET = true → ∃ t, exec (.locketSeqNextLoRead master) s = .next t ∧
    Sent t (.readData master (regAddr Pg.LOCKET Rg.LOCKET_SEQ_NEXT_LO) (leBytes 4 (s.locket.next % 2 ^ 32)) false) ∧
    t.rdN Pg.LOCKET Rg.LOCKET_SEQ_NEXT_HI = s.locket.next / 2 ^ 32 % 2 ^ 32 ∧ t.locket = s.locket) ∧
  (∀ (s : State) master, s.alive = true → s.pageReady Pg.LOCKET = true → s.rb Pg.LOCKET Rg.LOCKET_CFG 1 = false →
    ∃ t, exec (.locketWinData0Read master) s = .next t ∧ t.locket = s.locket ∧
      (∀ r, (s.locket.recs.find? fun r => r.seq == max (s.rd64 Pg.LOCKET Rg.LOCKET_WIN_CURSOR_LO) s.oldestSeq) = some r →
        t.rb Pg.LOCKET Rg.LOCKET_WIN_STATUS 0 = false ∧
        ∀ i < 16, t.rdN Pg.LOCKET (Rg.LOCKET_WIN_DATA + 4 * i) = leAt r.bytes (4 * i) 4) ∧
      ((s.locket.recs.find? fun r => r.seq == max (s.rd64 Pg.LOCKET Rg.LOCKET_WIN_CURSOR_LO) s.oldestSeq) = none →
        t.rb Pg.LOCKET Rg.LOCKET_WIN_STATUS 0 = true ∧ ∀ i < 16, t.rdN Pg.LOCKET (Rg.LOCKET_WIN_DATA + 4 * i) = 0) ∧
      (s.rd64 Pg.LOCKET Rg.LOCKET_WIN_CURSOR_LO < s.oldestSeq → t.rb Pg.LOCKET Rg.LOCKET_WIN_STATUS 1 = true ∧
        (s.oldestSeq < 2 ^ 64 → t.rd64 Pg.LOCKET Rg.LOCKET_WIN_CURSOR_LO = s.oldestSeq))) ∧
  (∀ (s : State) master, s.alive = true → s.pageReady Pg.LOCKET = true → s.rb Pg.LOCKET Rg.LOCKET_CFG 1 = false →
    s.rb Pg.LOCKET Rg.LOCKET_WIN_STATUS 0 = false → s.rd64 Pg.LOCKET Rg.LOCKET_WIN_CURSOR_LO + 1 < 2 ^ 64 →
    ∃ t, exec (.locketWinData15Read master) s = .next t ∧ OnlyParts [.regs, .out] s t ∧
      Sent t (.readData master (regAddr Pg.LOCKET (Rg.LOCKET_WIN_DATA + 60)) (leBytes 4 (s.rdN Pg.LOCKET (Rg.LOCKET_WIN_DATA + 60))) false) ∧
      t.rd64 Pg.LOCKET Rg.LOCKET_WIN_CURSOR_LO = s.rd64 Pg.LOCKET Rg.LOCKET_WIN_CURSOR_LO + 1) ∧
  (∀ (s : State) master, s.alive = true → s.pageReady Pg.LOCKET = true → ∃ t, exec (.locketClearChalLoRead master) s = .next t ∧
    OnlyParts [.regs, .out] s t ∧ t.rdN Pg.LOCKET Rg.LOCKET_CLEAR_CHAL_HI = s.locket.chal / 2 ^ 32 % 2 ^ 32 ∧
    (s.locket.next < 2 ^ 64 → t.rd64 Pg.LOCKET Rg.LOCKET_CLEAR_SEQ_LO = s.locket.next) ∧
    Sent t (.readData master (regAddr Pg.LOCKET Rg.LOCKET_CLEAR_CHAL_LO) (leBytes 4 (s.locket.chal % 2 ^ 32)) false)) ∧
  (∀ (s : State) master v, Accepts s Pg.LOCKET Rg.LOCKET_CLEAR_CMD master v → bitOf v 0 = true → bitOf s.boot.ready Pg.LOCKET = true →
    s.locket.dropPend = 0 → s.locket.recs.length < locketDepth → ∃ t, exec (.locketClearCmd master v) s = .next t ∧
      t.locket.chal = (Config.free s.fresh).toNat + 2 ^ 32 * (Config.free (s.fresh + 1)).toNat ∧
      (s.clearCode = St.OK → (∀ r ∈ t.locket.recs, s.locket.next ≤ r.seq) ∧ (∀ r ∈ t.locket.vault, s.locket.next ≤ r.seq) ∧
        (∃ r ∈ t.locket.recs, r.seq = s.locket.next ∧ r.code = Ev.LOCKET_CLEARED) ∧ Raised t Pg.LOCKET 2 ∧
        t.rf Pg.LOCKET Rg.LOCKET_CLEAR_STATUS 15 8 = St.OK) ∧
      (s.clearCode ≠ St.OK → (∀ r ∈ s.locket.recs, r ∈ t.locket.recs) ∧ t.locket.vault = s.locket.vault ∧
        t.Told Ev.LOCKET_CLEAR_REFUSED [.v 2 master, .v 1 s.clearCode] ∧ Raised t Pg.LOCKET 3 ∧ t.locket.refusedAt = some s.gts)) ∧
  (∀ (s : State) t, s.locket.refusedAt = some t → s.gts < t + 1000000000 → s.clearCode = St.AUTH_FAIL)

/-! ### Host queues -/
namespace Sys2Proof.Machine

/-- What becomes of command `c`, taken into execution as number `n`: it ends with a status, goes to the partner, or is executed here, a
write on a native queue with the next journal sequence number (03 R126, R139, R140). -/
def TakenIn (s t : State) (n : Nat) (c : Cmd) : Prop :=
  t.hq.nextCmd = n + 1 ∧
  match s.route c with
  | .error st => mget t.hq.cmds n = some { c with phase := 2, sct := st.1, sc := st.2, result := [], away := false }
  | .ok true =>
    if c.compat = false ∧ isWrite (((s.nsp c.ns).map (·.kv)).getD false) c.op = true then
      mget t.hq.cmds n = some { c with jseq := some s.hq.jseq } ∧ t.hq.jseq = s.hq.jseq + 1
    else mget t.hq.cmds n = some c ∧ t.hq.jseq = s.hq.jseq
  | .ok false => mget t.hq.cmds n = some { c with phase := 1, away := true } ∧ ∃ f l, 17 ≤ f ∧ f ≤ 24 ∧ Sent t (.seam f 3 (n :: l))

/-- The queue is no longer connected, and each command of it that was not yet done has ended as aborted (03 R134). -/
def QueueEnds (s t : State) (ctrl qid : Nat) : Prop :=
  mget t.hq.queues (qkey ctrl qid) = none ∧
  ∀ i c, mget s.hq.cmds i = some c → i ≠ s.hq.nextCmd → c.ctrl = ctrl → c.qid = qid → c.fwd = false → c.phase ≠ 2 →
    mget t.hq.cmds i = some { c with phase := 2, away := false, sct := 0, sc := 8, result := [] }

/-- The controller is connected and the head runs. -/
def OnCtrl (s : State) (ctrl : Nat) (c : Ctrl) : Prop := s.alive = true ∧ mget s.hq.ctrls ctrl = some c

/-- The state with the controller's entry replaced. -/
def withCtrl (s : State) (ctrl : Nat) (c : Ctrl) : State := { s with hq := { s.hq with ctrls := mput s.hq.ctrls ctrl c } }

end Sys2Proof.Machine

/-- Capsules staged, commands admitted in queue order and routed, completions sent -/
def Obligations.HostQueuesAndAdmission : Prop :=
  (∀ (s : State) ctrl qid sqe data q, s.alive = true → 0 < qid → qid < 256 → mget s.hq.queues (qkey ctrl qid) = some q →
    ∃ t, exec (.capsuleReceive ctrl qid sqe data) s = .next t ∧
      (q.staged.length < q.size → t.hq = { s.hq with
        queues := mput s.hq.queues (qkey ctrl qid) { q with staged := q.staged ++ [{ sqe, data := data.take 16384 }] } }) ∧
      (q.staged.length < q.size → s.headState = 0 → OnlyParts [.hq] s t) ∧
      (q.staged.length < q.size → s.headState = 1 → t.headState = 0) ∧
      (q.size ≤ q.staged.length → QueueEnds s t ctrl qid ∧ t.Told Ev.HOSTQ_QUEUE_RESET [.v 2 ctrl, .v 2 qid, .v 1 4,
        .v 4 ((s.cmdsOf ctrl qid).filter fun e => e.2.phase != 2).length])) ∧
  (∀ (s : State) ctrl qid h q x rest, s.alive = true → s.admitting = true → s.choose = some (ctrl, qid, h) →
    mget s.hq.queues (qkey ctrl qid) = some q → q.staged = x :: rest → ∃ t, exec .commandAdmit s = .next t ∧
      TakenIn s t s.hq.nextCmd { ctrl, qid, sqe := padTo 64 x.sqe, data := x.data, compat := q.compat, admGts := s.gts } ∧
      mget t.hq.queues (qkey ctrl qid) = some { q with staged := rest, sqhd := if q.size = 0 then 0 else (q.sqhd + 1) % q.size } ∧
      (s.rdN Pg.HOSTQ Rg.HOSTQ_INFLIGHT < 524288 → t.rdN Pg.HOSTQ Rg.HOSTQ_INFLIGHT = s.rdN Pg.HOSTQ Rg.HOSTQ_INFLIGHT + 1) ∧
      (s.rdN Pg.HOSTQ Rg.HOSTQ_INFLIGHT = 524287 → t.rb Pg.HOSTQ Rg.HOSTQ_BP_STATUS 0 = true ∧
        t.Told Ev.HOSTQ_BP_ENTER [.v 1 0, .v 4 524288])) ∧
  (∀ (s : State) ctrl qid h, Rising s.hq.queues = true → s.choose = some (ctrl, qid, h) →
    ∃ q, mget s.hq.queues (qkey ctrl qid) = some q ∧ q.staged ≠ [] ∧ s.heldBack q = false ∧ qid ≠ 0) ∧
  (∀ (s : State), s.rb Pg.HOSTQ Rg.HOSTQ_BP_STATUS 0 = true → exec .commandAdmit s = .next s) ∧
  (∀ (s : State) fid ctrl qid compat sqe data, ∀ c : Cmd, c = { ctrl, qid, sqe := padTo 64 sqe, data, compat, fwd := true, fid, admGts := s.gts } →
    s.alive = true → s.power.standby = 0 → s.dumpHolds = false → s.headState = 0 → s.serving = true → s.rb Pg.HOSTQ Rg.HOSTQ_BP_STATUS 1 = false →
    ∃ t, exec (.forwardedCommand fid ctrl qid compat sqe data) s = .next t ∧ t.hq.queues = s.hq.queues ∧
      (s.route c = .ok true ∨ (∃ e, s.route c = .error e) → TakenIn s t s.hq.nextCmd c) ∧
      (s.route c = .ok false → mget t.hq.cmds s.hq.nextCmd = some { c with phase := 2, sct := 3, sc := 2 } ∧ OnlyParts [.hq] s t)) ∧
  (∀ (s : State) id back c d, s.alive = true → mget s.hq.cmds id = some c →
    d = (match back with
      | some b => if c.away = true ∧ c.phase = 1 then { c with phase := 2, sct := b.1, sc := b.2.1, result := b.2.2 } else c
      | none => c) →
    s.mayEnd id d = true → ∃ t, exec (.hostCompletionSend id back) s = .next t ∧ mget t.hq.cmds id = none ∧ t.hq.queues = s.hq.queues ∧
      (d.fwd = true → OnlyParts [.hq, .out] s t ∧ ∃ f, Sent t (.seam f 4 ([d.fid, d.sct, d.sc] ++ d.result.map (·.toNat)))) ∧
      (d.fwd = false → Sent t (.hostCpl d.ctrl d.qid d.cid (((mget s.hq.queues (qkey d.ctrl d.qid)).map (·.sqhd)).getD 0) d.sct d.sc d.result)) ∧
      (d.fwd = false → d.last = false → 0 < s.rdN Pg.HOSTQ Rg.HOSTQ_INFLIGHT →
        t.rdN Pg.HOSTQ Rg.HOSTQ_INFLIGHT + 1 = s.rdN Pg.HOSTQ Rg.HOSTQ_INFLIGHT ∧
        (s.rdN Pg.HOSTQ Rg.HOSTQ_INFLIGHT ≤ 520193 → t.rb Pg.HOSTQ Rg.HOSTQ_BP_STATUS 0 = false))) ∧
  (∀ (s : State) id c, mget s.hq.cmds id = some c → c.away = false → c.reads = true → s.releases = false →
    exec (.hostCompletionSend id none) s = .next s)

/-- Controllers and queues: connect, attributes, arbitration, enable, reset, Keep Alive, Abort, disconnect, loss of a connection -/
def Obligations.HostControllers : Prop :=
  (∀ (s : State) ctrl c cid, OnCtrl s ctrl c → ∃ t, exec (.abortCommand ctrl cid) s = .next t ∧ OnlyParts [.regs, .out] s t ∧
    Sent t (.hostCpl ctrl 0 cid 0 0 0 (leBytes 4 1)) ∧
    t.rdN Pg.HOSTQ Rg.HOSTQ_ABORT_COUNT = (s.rdN Pg.HOSTQ Rg.HOSTQ_ABORT_COUNT + 1) % 2 ^ 32) ∧
  (∀ (s : State) ctrl qid cid size conn host kato discovery notices, s.alive = true →
    exec (.nvmeofConnect ctrl qid cid size conn host kato discovery true notices) s = .next (s.emit (.hostCpl ctrl qid cid 0 1 0x82 []))) ∧
  (∀ (s : State) ctrl cid size conn host kato discovery notices, s.alive = true → s.hq.ctrls.length < 2048 →
    (discovery = true → ∀ e ∈ s.hq.ctrls, e.2.discovery = false) → 0 < size → size ≤ 32 →
    ∃ t n, exec (.nvmeofConnect ctrl 0 cid size conn host kato discovery false notices) s = .next t ∧ n = freshKey s.hq.ctrls 0 ∧
      mget t.hq.ctrls n = some { discovery, host, kato, kaSince := s.gts, anaNotice := notices } ∧
      mget t.hq.queues (qkey n 0) = some { size, conn } ∧ Sent t (.hostCpl n 0 cid 0 0 0 (leBytes 2 n))) ∧
  (∀ (s : State) ctrl c qid cid size conn host kato discovery notices, OnCtrl s ctrl c → c.ready = true → c.discovery = false → 0 < qid → qid ≤ 128 →
    0 < size → size ≤ 4096 → mget s.hq.queues (qkey ctrl qid) = none →
    (s.hq.queues.filter fun e => e.1 / 256 == ctrl && e.1 % 256 != 0).length < 128 → (s.hq.queues.filter fun e => e.1 % 256 != 0).length < 16384 →
    ∃ t, exec (.nvmeofConnect ctrl qid cid size conn host kato discovery false notices) s = .next t ∧
      mget t.hq.queues (qkey ctrl qid) = some { size, cls := mgetD 2 c.attrs qid % 4, compat := bitOf (mgetD 2 c.attrs qid) 2, conn } ∧
      mget t.hq.ctrls ctrl = some { c with attrs := mdel c.attrs qid } ∧ Sent t (.hostCpl ctrl qid cid 0 0 0 (leBytes 2 ctrl))) ∧
  (∀ (s : State) ctrl c qid cid size conn host kato discovery notices, OnCtrl s ctrl c → 0 < qid →
    128 ≤ (s.hq.queues.filter fun e => e.1 / 256 == ctrl && e.1 % 256 != 0).length →
    exec (.nvmeofConnect ctrl qid cid size conn host kato discovery false notices) s = .next (s.emit (.hostCpl ctrl qid cid 0 1 0x81 []))) ∧
  (∀ (s : State) ctrl qid cid q, s.alive = true → 0 < qid → qid < 256 → mget s.hq.queues (qkey ctrl qid) = some q →
    ∃ t c, exec (.disconnect ctrl qid cid) s = .next t ∧ QueueEnds s t ctrl qid ∧ mget t.hq.cmds s.hq.nextCmd = some c ∧
      c.ctrl = ctrl ∧ c.qid = qid ∧ c.cid = cid % 65536 ∧ c.phase = 2 ∧ c.last = true ∧ t.hq.nextCmd = s.hq.nextCmd + 1) ∧
  (∀ (s : State) ctrl c cid v, OnCtrl s ctrl c → ∃ t, exec (.setQueueAttributes ctrl cid v) s = .next t ∧
    (bits v 15 0 = 0 ∨ 128 < bits v 15 0 → t = s.emit (.hostCpl ctrl 0 cid 0 0 2 [])) ∧
    (0 < bits v 15 0 → bits v 15 0 ≤ 128 → mget s.hq.queues (qkey ctrl (bits v 15 0)) ≠ none → t = s.emit (.hostCpl ctrl 0 cid 0 0 0xC [])) ∧
    (0 < bits v 15 0 → bits v 15 0 ≤ 128 → mget s.hq.queues (qkey ctrl (bits v 15 0)) = none → bitOf v 18 = true →
      s.rb Pg.HOSTQ Rg.HOSTQ_CFG 0 = false → t = s.emit (.hostCpl ctrl 0 cid 0 0 2 [])) ∧
    (0 < bits v 15 0 → bits v 15 0 ≤ 128 → mget s.hq.queues (qkey ctrl (bits v 15 0)) = none →
      bitOf v 18 = false ∨ s.rb Pg.HOSTQ Rg.HOSTQ_CFG 0 = true →
      t = (withCtrl s ctrl { c with attrs := mput c.attrs (bits v 15 0) (bits v 18 16) }).emit
        (.hostCpl ctrl 0 cid 0 0 0 []))) ∧
  (∀ (s : State) ctrl c cid v, OnCtrl s ctrl c → exec (.arbitrationFeature ctrl cid v) s = .next
    ((withCtrl s ctrl { c with ab := bits v 2 0, low := bits v 15 8, medium := bits v 23 16, high := bits v 31 24 }).emit (.hostCpl ctrl 0 cid 0 0 0 []))) ∧
  (∀ (s : State) ctrl c cc, OnCtrl s ctrl c → c.enabled = false → bitOf cc 0 = true → ∃ t d, exec (.controllerEnable ctrl cc) s = .next t ∧
    t = withCtrl s ctrl d ∧
    (bits cc 13 11 ≤ 1 → d = { c with enabled := true, ready := true, wrr := bits cc 13 11 == 1 }) ∧
    (1 < bits cc 13 11 → d = { c with enabled := true, ready := false, cfs := true })) ∧
  (∀ (s : State) ctrl c, OnCtrl s ctrl c → c.enabled = true → ∃ t, exec (.controllerReset ctrl) s = .next t ∧
    (∀ q < 256, mget t.hq.queues (qkey ctrl q) = none) ∧ mget t.hq.ctrls ctrl =
      some { discovery := c.discovery, host := c.host, kato := c.kato, kaSince := s.gts, anaNotice := c.anaNotice }) ∧
  (∀ (s : State) ctrl c cid, OnCtrl s ctrl c → exec (.keepAlive ctrl cid) s = .next
    ((withCtrl s ctrl { c with kaSince := s.gts }).emit (.hostCpl ctrl 0 cid 0 0 0 []))) ∧
  (∀ (s : State) ctrl c, OnCtrl s ctrl c → c.kato ≠ 0 → c.kaSince + c.kato * 1000000 ≤ s.gts → ∃ t, exec (.keepAliveExpiry ctrl) s = .next t ∧
    (∀ q < 256, mget t.hq.queues (qkey ctrl q) = none) ∧ mget t.hq.ctrls ctrl = none) ∧
  (∀ (s : State) conn, s.alive = true → ∃ t, exec (.transportConnectionLoss conn) s = .next t ∧
    ∀ k q, mget s.hq.queues k = some q → q.conn = conn → mget t.hq.queues k = none ∧
      (∀ e ∈ t.hq.cmds, e.2.ctrl = k / 256 → e.2.qid = k % 256 → e.2.fwd = true) ∧ (k % 256 = 0 → mget t.hq.ctrls (k / 256) = none)) ∧
  (∀ (s : State) master v, Accepts s Pg.HOSTQ Rg.HOSTQ_QRESET master v → ∃ t, exec (.hostqQreset master v) s = .next t ∧
    (s.rb Pg.HOSTQ Rg.HOSTQ_QRESET_STATUS 0 = true → t.rf Pg.HOSTQ Rg.HOSTQ_QRESET_STATUS 15 8 = St.LOCKED ∧ t.hq = s.hq) ∧
    (s.rb Pg.HOSTQ Rg.HOSTQ_QRESET_STATUS 0 = false → mget s.hq.queues (qkey (bits v 10 0) (bits v 26 11)) = none →
      t.rf Pg.HOSTQ Rg.HOSTQ_QRESET_STATUS 15 8 = St.BAD_INPUT ∧ t.hq = s.hq) ∧
    (s.rb Pg.HOSTQ Rg.HOSTQ_QRESET_STATUS 0 = false → bits v 26 11 < 256 → mget s.hq.queues (qkey (bits v 10 0) (bits v 26 11)) ≠ none →
      t.rf Pg.HOSTQ Rg.HOSTQ_QRESET_STATUS 15 8 = St.OK ∧ QueueEnds s t (bits v 10 0) (bits v 26 11))) ∧
  (∀ (s : State) ctrl c cid ps, OnCtrl s ctrl c → ∃ t, exec (.setPowerState ctrl cid ps) s = .next t ∧
    (3 < ps → t = (match cid with | some n => s.emit (.hostCpl ctrl 0 n 0 0 2 []) | none => s)) ∧
    (ps ≤ 3 → mget t.hq.ctrls ctrl = some { c with ps }) ∧
    (ps ≤ 3 → s.headState = 0 → t = (match cid with
      | some n => (withCtrl s ctrl { c with ps }).emit (.hostCpl ctrl 0 n 0 0 0 [])
      | none => withCtrl s ctrl { c with ps })) ∧
    (ps = 0 → s.headState = 1 → t.headState = 0))

/-- Namespaces created and resized; ANA states written, counted, recorded, noticed and read -/
def Obligations.NamespacesAndAnaStates : Prop :=
  (∀ (s : State) ctrl c cid blocks group domain kv pi meta8, OnCtrl s ctrl c → blocks ≤ maxBlocks → 0 < group → group ≤ 128 → domain < 1024 → pi ≤ 3 →
    s.map.nss.length < 65536 → (kv = true → (s.map.nss.filter fun e => e.2.kv).length < 4096) →
    ∃ t x, exec (.namespaceCreate ctrl cid blocks group domain kv pi meta8) s = .next t ∧ mget t.map.nss (freshKey s.map.nss 0) = some x ∧
      x.group = group ∧ x.domain = domain ∧ x.kv = kv ∧ x.blocks = (if kv = true then 0 else blocks) ∧ x.pi = pi ∧ x.meta8 = meta8 ∧
      x.snaps = [] ∧ x.values = [] ∧ x.snapOf = none ∧ (kv = true → x.top = none ∧ t.map.pages = s.map.pages) ∧
      (kv = false → x.levels = levelsFor blocks ∧ ∃ p g, x.top = some p ∧ mget t.map.pages p = some g ∧ g.body = .dir []) ∧
      OnlyParts [.map, .out] s t ∧ Sent t (.hostCpl ctrl 0 cid 0 0 0 (leBytes 4 (freshKey s.map.nss 0 + 1)))) ∧
  (∀ m : SMap Ns, Rising m = true → mget m (freshKey m 0) = none ∧ ∀ k < freshKey m 0, mget m k ≠ none) ∧
  (∀ (s : State) ctrl c cid n blocks, OnCtrl s ctrl c → ∃ t, exec (.namespaceResize ctrl cid n blocks) s = .next t ∧
    (mget s.map.nss n = none → t = s.emit (.hostCpl ctrl 0 cid 0 0 0xB [])) ∧
    (∀ x, mget s.map.nss n = some x → blocks ≤ maxBlocks → x.kv = false → x.snapOf = none →
      OnlyParts [.map, .out] s t ∧ Sent t (.hostCpl ctrl 0 cid 0 0 0 []) ∧
      (∀ k, k ≠ n → mget t.map.nss k = mget s.map.nss k) ∧
      ∃ y, mget t.map.nss n = some y ∧ y = { x with blocks, levels := max x.levels (levelsFor blocks), top := y.top } ∧
        (levelsFor blocks ≤ x.levels → y.top = x.top ∧ t.map.pages = s.map.pages) ∧
        (levelsFor blocks = x.levels + 1 → ∀ o, x.top = some o → ∃ p, y.top = some p ∧ t.kids p = [(0, o)]))) ∧
  (∀ (s : State) master v g, Accepts s Pg.HOSTQ Rg.HOSTQ_ANA_STATE master v → s.shown Pg.HOSTQ Rg.HOSTQ_ANA_STATE = g →
    s.rf Pg.HOSTQ Rg.HOSTQ_ANA_SEL 6 0 = g → ∃ t, exec (.hostqAnaStateWrite master v) s = .next t ∧ t.anaState (g + 1) = bits v 3 0 ∧
      (s.anaState (g + 1) = bits v 3 0 →
        t.rd Pg.HOSTQ Rg.HOSTQ_ANA_CHGCNT = s.rd Pg.HOSTQ Rg.HOSTQ_ANA_CHGCNT ∧ t.out = s.out ∧ t.locket = s.locket) ∧
      (s.anaState (g + 1) ≠ bits v 3 0 → t.rdN Pg.HOSTQ Rg.HOSTQ_ANA_CHGCNT = (s.rdN Pg.HOSTQ Rg.HOSTQ_ANA_CHGCNT + 1) % 2 ^ 32 ∧
        t.Told Ev.HOSTQ_ANA_CHANGE [.v 1 (g + 1), .v 1 (s.anaState (g + 1)), .v 1 (bits v 3 0), .v 4 (t.rdN Pg.HOSTQ Rg.HOSTQ_ANA_CHGCNT)] ∧
        (t.out.length = s.out.length + (s.hq.ctrls.filter fun c => c.2.anaNotice).length))) ∧
  (∀ (s : State) ctrl c cid, OnCtrl s ctrl c → ∃ t b, exec (.anaLogPage ctrl cid) s = .next t ∧ t = s.emit (.hostCpl ctrl 0 cid 0 0 0 b) ∧
    b.take 8 = leBytes 8 (s.rdN Pg.HOSTQ Rg.HOSTQ_ANA_CHGCNT) ∧
    (∀ n x, s.map.nss = [(n, x)] → 0 < x.group → x.group ≤ 128 → b = leBytes 8 (s.rdN Pg.HOSTQ Rg.HOSTQ_ANA_CHGCNT) ++ leBytes 2 1 ++
      List.replicate 6 0 ++ leBytes 4 x.group ++ leBytes 4 1 ++ leBytes 8 (s.rdN Pg.HOSTQ Rg.HOSTQ_ANA_CHGCNT) ++ leBytes 1 (s.anaState x.group) ++
      List.replicate 15 0 ++ leBytes 4 (n + 1)))

/-! ### Host I/O commands -/
namespace Sys2Proof.Machine

/-- Command `id` is `c`, of namespace or key space `x`, has opcode `op`, is no half of a fused pair, and may start now (03 R128). -/
def Starts (s : State) (id : Nat) (c : Cmd) (x : Ns) (kv : Bool) (op : Nat) : Prop :=
  s.alive = true ∧ mget s.hq.cmds id = some c ∧ s.nsp c.ns = some x ∧ c.phase = 0 ∧ x.kv = kv ∧ c.op = op ∧ c.fuse = 0 ∧ s.mayStart id c = true

/-- The command's work is done, with status code type `sct`, status code `sc` and this result. -/
def DoneWith (t : State) (id sct sc : Nat) (result : List Byte) : Prop :=
  ∃ d, mget t.hq.cmds id = some d ∧ d.phase = 2 ∧ d.sct = sct ∧ d.sc = sc ∧ d.result = result

/-- The epoch under which this head writes journal records (13 R527). -/
def ownEpoch (s : State) : Nat := s.rd64 Pg.STITCH Rg.STITCH_ROLE_EPOCH_LO (s.headId + 8)

/-- The command ends with a status and no effect; the journal gains at most the VOID record of the number it held (13 R526). -/
def FailedWith (s t : State) (id : Nat) (c : Cmd) (sct sc : Nat) : Prop :=
  mget t.hq.cmds id = some { c with phase := 2, sct, sc, result := [], away := false } ∧
  (c.jseq = none → t.pair.journal = s.pair.journal) ∧
  ∀ q, c.jseq = some q → t.pair.journal = insertRec { jseq := q, kind := 7, admGts := c.admGts, recorded := true, epoch := ownEpoch s } s.pair.journal

/-- The command's one journal record `r` is made, under the number it holds or the next one; the command is done, or waits for the partner's
acknowledgement where the heads are paired (01 R38, 13 R526). -/
def Journals (s t : State) (id : Nat) (c : Cmd) (r : JRec) : Prop :=
  t.pair.journal = insertRec { r with
    jseq := c.jseq.getD s.hq.jseq, ns := c.ns, domain := ((s.nsp c.ns).map (·.domain)).getD 0, admGts := c.admGts, epoch := ownEpoch s }
    s.pair.journal ∧
  mget t.hq.cmds id = some { c with jseq := some (c.jseq.getD s.hq.jseq), phase := if s.pairState = 3 then 1 else 2 } ∧
  t.hq.jseq = (if c.jseq = none then s.hq.jseq + 1 else s.hq.jseq)

end Sys2Proof.Machine

/-- NVM commands: what a read gives, the one record a write makes, and the statuses that end them -/
def Obligations.BlockCommands : Prop :=
  (∀ (s : State) id c x got, Starts s id c x false 2 → ∃ t, exec (.nvmRead id got) s = .next t ∧
    (2 ^ 21 < c.nlb * x.blockBytes → DoneWith t id 0 2 [] ∧ OnlyParts [.hq] s t) ∧
    (s.blockBad c x c.nlb false true = none → c.nlb = 1 → ∀ q, s.overlay c.ns c.slba = some q →
      DoneWith t id 0 0 (if q.kind = 1 then sliceB q.data ((c.slba - q.loc) * x.blockBytes) x.blockBytes else List.replicate x.blockBytes 0)) ∧
    (s.blockBad c x c.nlb false true = none → c.nlb = 1 → s.overlay c.ns c.slba = none → ∀ e,
      (s.lookupGrain [] c.ns (c.slba / 4)).2.1 = .ok e → e.kind ≠ 1 → DoneWith t id 0 0 (List.replicate x.blockBytes 0)) ∧
    (s.blockBad c x c.nlb false true = none → c.nlb = 1 → s.overlay c.ns c.slba = none → ∀ e k g,
      (s.lookupGrain [] c.ns (c.slba / 4)).2.1 = .ok e → e.kind = 1 → s.chunk e.target = some k → k.lost = false → got = [g] → g.chunk = e.target →
      (g.verdict ≤ 2 → DoneWith t id 0 0 (sliceB g.data (c.slba % 4 * x.blockBytes) x.blockBytes)) ∧
      (g.verdict = 3 → DoneWith t id 2 0x81 []))) ∧
  (∀ (s : State) id c x data bad, Starts s id c x false 1 → ∃ t, exec (.nvmWrite id data bad) s = .next t ∧
    (2 ^ 21 < c.nlb * x.blockBytes → FailedWith s t id c 0 2) ∧
    (s.blockBad c x c.nlb true true = none → ∀ e, bad = some e → FailedWith s t id c e.1 e.2) ∧
    (c.nlb * x.blockBytes ≤ 2 ^ 21 → c.compat = false → x.blocks < c.slba + c.nlb → FailedWith s t id c 0 0x80) ∧
    (c.nlb * x.blockBytes ≤ 2 ^ 21 → c.compat = false → c.slba + c.nlb ≤ x.blocks → x.snapOf = none → s.conflicts c true = true →
      FailedWith s t id c 0 0x83) ∧
    (s.blockBad c x c.nlb true true = none → bad = none →
      Journals s t id c { jseq := 0, kind := 1, loc := c.slba, count := c.nlb, data := padTo (c.nlb * x.blockBytes) data })) ∧
  (∀ (s : State) id c x, Starts s id c x false 8 → ∃ t, exec (.writeZeroes id) s = .next t ∧
    (∀ e, s.blockBad c x c.nlb true false = some e → FailedWith s t id c e.1 e.2) ∧
    (s.blockBad c x c.nlb true false = none → Journals s t id c { jseq := 0, kind := 3, loc := c.slba, count := c.nlb })) ∧
  (∀ (s : State) id c x data, Starts s id c x false 9 → ∃ t, exec (.datasetManagement id data) s = .next t ∧
    (bitOf (c.dw 11) 2 = false → FailedWith s t id c 0 0) ∧
    (bitOf (c.dw 11) 2 = true → c.dw 10 % 256 = 0 → x.snapOf = none → s.conflicts c true = false → leAt data 4 4 ≠ 0 →
      (x.blocks < leAt data 8 8 + leAt data 4 4 → FailedWith s t id c 0 0x80) ∧
      (leAt data 8 8 + leAt data 4 4 ≤ x.blocks →
        Journals s t id c { jseq := 0, kind := 2, loc := leAt data 8 8, count := leAt data 4 4 }))) ∧
  (∀ (s : State) id c x got data u b, Starts s id c x false 5 → s.blockBad c x c.nlb false true = none →
    s.readBlocks c.ns x c.slba c.nlb got = (u, some (.ok b)) → u.hq = s.hq → ∃ t, exec (.compare id got data) s = .next t ∧
      (b = padTo b.length data → DoneWith t id 0 0 []) ∧ (b ≠ padTo b.length data → DoneWith t id 2 0x85 []) ∧ t.pair = u.pair) ∧
  (∀ (s : State) id c x got data u b n, Starts s id c x false 0x19 → n = (((copyRanges data (c.dw 12 % 256 + 1)).map (·.2)).sum : Nat) →
    s.blockBad c x n true true = none → (∀ r ∈ copyRanges data (c.dw 12 % 256 + 1), r.1 + r.2 ≤ x.blocks) →
    s.readRanges c.ns x got (copyRanges data (c.dw 12 % 256 + 1)) = (u, some (.ok b)) → u.hq = s.hq →
    ∃ t, exec (.copy id got data) s = .next t ∧ Journals u t id c { jseq := 0, kind := 1, loc := c.slba, count := n, data := b }) ∧
  (∀ (s : State) id c x wid w got cmp data u b, s.alive = true → mget s.hq.cmds id = some c → s.nsp c.ns = some x → c.phase = 0 → x.kv = false →
    c.op = 5 → c.fuse = 1 → s.mayStart id c = true → ((s.sameQueue c).find? fun e => decide (id < e.1)) = some (wid, w) →
    mget s.hq.cmds wid = some w → w.op = 1 → w.fuse = 2 → w.phase = 0 → w.ns = c.ns → w.slba = c.slba → w.nlb = c.nlb →
    s.blockBad c x c.nlb true true = none → s.blockBad w x w.nlb true true = none →
    s.readBlocks c.ns x c.slba c.nlb got = (u, some (.ok b)) → u.hq = s.hq → ∃ t, exec (.compareAndWrite id got cmp data) s = .next t ∧
      (b = padTo b.length cmp → DoneWith t id 0 0 [] ∧ Journals u t wid w
        { jseq := 0, kind := 1, loc := w.slba, count := w.nlb, data := padTo (w.nlb * x.blockBytes) data }) ∧
      (b ≠ padTo b.length cmp → DoneWith t id 2 0x85 [] ∧ DoneWith t wid 0 9 [] ∧ (c.jseq = none → w.jseq = none → t.pair = u.pair))) ∧
  (∀ (s : State) id c, s.alive = true → mget s.hq.cmds id = some c → c.phase = 0 → c.op = 0 → c.fuse = 0 → s.mayStart id c = true →
    ∃ t, exec (.flush id) s = .next t ∧ DoneWith t id 0 0 [] ∧ OnlyParts [.hq] s t) ∧
  (∀ (s : State) id c, s.alive = true → mget s.hq.cmds id = some c → c.phase = 0 → ((s.nsp c.ns).map (·.kv)).getD false = false →
    c.op ∉ [0x00, 0x01, 0x02, 0x05, 0x08, 0x09, 0x0D, 0x0E, 0x11, 0x15, 0x19] →
    ∃ t, exec (.unsupportedNvmCommand id) s = .next t ∧ FailedWith s t id c 0 1)

/-- Reservations registered, acquired, reported and released; Key Value store, retrieve, delete, exist and list -/
def Obligations.ReservationsAndKeyValues : Prop :=
  (∀ (s : State) id c x data host, Starts s id c x false 0xD → host = ((s.ctrl c.ctrl).map (·.host)).getD 0 →
    ∃ t, exec (.reservationRegister id data) s = .next t ∧ OnlyParts [.hq] s t ∧
      (c.dw 10 % 8 = 0 → (s.resv c.ns).key host = none → DoneWith t id 0 0 [] ∧
        t.resv c.ns = { s.resv c.ns with regs := (s.resv c.ns).regs ++ [(host, leAt data 8 8)], gen := (s.resv c.ns).gen + 1 }) ∧
      (c.dw 10 % 8 = 0 → ∀ k, (s.resv c.ns).key host = some k → k ≠ leAt data 8 8 → DoneWith t id 0 0x83 [] ∧ t.resv c.ns = s.resv c.ns)) ∧
  (∀ (s : State) id c x, Starts s id c x false 0xE → 5 ≤ c.dw 10 → ∃ t b, exec (.reservationReport id) s = .next t ∧ OnlyParts [.hq] s t ∧
    DoneWith t id 0 0 b ∧ leAt b 0 4 = (s.resv c.ns).gen % 2 ^ 32 ∧ leAt b 4 1 = (s.resv c.ns).rtype % 256 ∧
    leAt b 5 2 = (s.resv c.ns).regs.length % 65536) ∧
  (∀ (s : State) id c x data host, Starts s id c x false 0x11 → host = ((s.ctrl c.ctrl).map (·.host)).getD 0 → c.dw 10 % 8 = 0 →
    1 ≤ c.dw 10 / 256 % 256 → c.dw 10 / 256 % 256 ≤ 6 → ∃ t, exec (.reservationAcquire id data) s = .next t ∧ OnlyParts [.hq] s t ∧
      ((s.resv c.ns).key host ≠ some (leAt data 0 8) → DoneWith t id 0 0x83 [] ∧ t.resv c.ns = s.resv c.ns) ∧
      ((s.resv c.ns).key host = some (leAt data 0 8) → (s.resv c.ns).rtype = 0 → DoneWith t id 0 0 [] ∧
        t.resv c.ns = { s.resv c.ns with holder := some host, rtype := c.dw 10 / 256 % 256 }) ∧
      ((s.resv c.ns).key host = some (leAt data 0 8) → 1 ≤ (s.resv c.ns).rtype → (s.resv c.ns).rtype ≤ 4 → (s.resv c.ns).holder ≠ some host →
        DoneWith t id 0 0x83 [] ∧ t.resv c.ns = s.resv c.ns)) ∧
  (∀ (s : State) id c x data host, Starts s id c x false 0x15 → host = ((s.ctrl c.ctrl).map (·.host)).getD 0 → c.dw 10 % 8 = 0 →
    (s.resv c.ns).key host = some (leAt data 0 8) → ∃ t, exec (.reservationRelease id data) s = .next t ∧ OnlyParts [.hq] s t ∧
      ((s.resv c.ns).rtype ≠ 0 → (s.resv c.ns).holder = some host → (s.resv c.ns).rtype = c.dw 10 / 256 % 256 → DoneWith t id 0 0 [] ∧
        t.resv c.ns = { s.resv c.ns with holder := none, rtype := 0 }) ∧
      ((s.resv c.ns).rtype ≤ 4 → (s.resv c.ns).holder ≠ some host → DoneWith t id 0 0 [] ∧ t.resv c.ns = s.resv c.ns)) ∧
  (∀ (s : State) id c x data bad, Starts s id c x true 1 → ∃ t, exec (.kvStore id data bad) s = .next t ∧
    (c.keyLen = 0 ∨ 16 < c.keyLen → FailedWith s t id c 0 0x86) ∧
    (0 < c.keyLen → c.keyLen ≤ 16 → 2 ^ 28 < c.dw 10 → FailedWith s t id c 0 0x85) ∧
    (0 < c.keyLen → c.keyLen ≤ 16 → c.dw 10 ≤ 2 ^ 28 → x.snapOf = none → bad = none →
      (bitOf (c.dw 11) 9 = true → s.holdsKey c.ns x c.key false = true → FailedWith s t id c 0 0x89) ∧
      (bitOf (c.dw 11) 9 = false → bitOf (c.dw 11) 8 = true → s.holdsKey c.ns x c.key false = false → FailedWith s t id c 0 0x87) ∧
      ((bitOf (c.dw 11) 9 = true → s.holdsKey c.ns x c.key false = false) → (bitOf (c.dw 11) 8 = true → s.holdsKey c.ns x c.key false = true) →
        Journals s t id c { jseq := 0, kind := 4, loc := c.keyNum % 2 ^ 64, keyHi := c.keyNum / 2 ^ 64, keyLen := c.keyLen, count := c.dw 10,
                            data := padTo (c.dw 10) data }))) ∧
  (∀ (s : State) id c x got, Starts s id c x true 2 → 0 < c.keyLen → c.keyLen ≤ 16 → ∃ t, exec (.kvRetrieve id got) s = .next t ∧
    (∀ r, s.keyOverlay c.ns c.key true = some r → r.kind = 4 → DoneWith t id 0 0 (r.data.take (c.dw 10)) ∧ OnlyParts [.hq] s t) ∧
    (∀ r, s.keyOverlay c.ns c.key true = some r → r.kind ≠ 4 → DoneWith t id 0 0x87 []) ∧
    (s.keyOverlay c.ns c.key true = none → mget x.values c.key = none → DoneWith t id 0 0x87 []) ∧
    (s.keyOverlay c.ns c.key true = none → ∀ v k ch g, mget x.values c.key = some v → v.chunks = [k] → s.chunk k = some ch → ch.lost = false →
      got = [g] → g.chunk = k → g.verdict = 0 → DoneWith t id 0 0 ((padTo v.len g.data).take (c.dw 10)))) ∧
  (∀ (s : State) id c x, Starts s id c x true 0x10 → 0 < c.keyLen → c.keyLen ≤ 16 → x.snapOf = none → ∃ t, exec (.kvDelete id) s = .next t ∧
    (s.holdsKey c.ns x c.key false = false → FailedWith s t id c 0 0x87) ∧
    (s.holdsKey c.ns x c.key false = true →
      Journals s t id c { jseq := 0, kind := 5, loc := c.keyNum % 2 ^ 64, keyHi := c.keyNum / 2 ^ 64, keyLen := c.keyLen })) ∧
  (∀ (s : State) id c x, Starts s id c x true 0x14 → ∃ t, exec (.kvExist id) s = .next t ∧ OnlyParts [.hq] s t ∧
    (c.keyLen = 0 ∨ 16 < c.keyLen → DoneWith t id 0 0x86 []) ∧
    (0 < c.keyLen → c.keyLen ≤ 16 → s.holdsKey c.ns x c.key true = true → DoneWith t id 0 0 []) ∧
    (0 < c.keyLen → c.keyLen ≤ 16 → s.holdsKey c.ns x c.key true = false → DoneWith t id 0 0x87 [])) ∧
  (∀ (s : State) id c x k v, Starts s id c x true 6 → s.retained = [] → x.values = [(k, v)] → ∃ t, exec (.kvList id) s = .next t ∧ OnlyParts [.hq] s t ∧
    (k < c.key → 4 ≤ c.dw 10 → DoneWith t id 0 0 (leBytes 4 0)) ∧
    (c.key ≤ k → 4 + (keyEntry k).length ≤ c.dw 10 → DoneWith t id 0 0 (leBytes 4 1 ++ keyEntry k)))

/-- Power domains: requests, grants in priority order, ramps, latched reversals, quiesce, clamp and discharge -/
def Obligations.PowerDomains : Prop :=
  (∀ (s : State) master v d, Accepts s Pg.PWRSEQ Rg.PWRSEQ_DOM_CTRL master v → bitOf v 0 = true → s.rf Pg.PWRSEQ Rg.PWRSEQ_DOM_SEL 5 0 = d →
    ∃ t, exec (.pwrseqDomCtrlOn master v) s = .next t ∧
      (8 ≤ d → d ≤ 13 → s.headState ≤ 2 → s.withinBudget d = true → s.domSt d = 0 → t.domSt d = 1 ∧ ∀ e, e ≠ d → t.dom e = s.dom e) ∧
      (8 ≤ d → d ≤ 13 → s.headState ≤ 2 → s.withinBudget d = false → t.power.doms = s.power.doms ∧ Raised t Pg.PWRSEQ 3 ∧
        t.rdN Pg.PWRSEQ Rg.PWRSEQ_CMD_STATUS = 256 * St.LOCKED ∧
        t.Told Ev.PWRSEQ_GRANT_REFUSED [.v 1 d, .v 2 (s.iccOf d), .v 2 (s.rf Pg.PWRSEQ Rg.PWRSEQ_ICC_BUDGET 11 0)]) ∧
      (d < 8 ∨ 13 < d → t.power = s.power ∧ t.rf Pg.PWRSEQ Rg.ERR_INFO 23 16 = St.BAD_INPUT) ∧
      (8 ≤ d → d ≤ 13 → s.headState = 3 → t.power = s.power ∧ t.rf Pg.PWRSEQ Rg.ERR_INFO 23 16 = St.LOCKED)) ∧
  (∀ (s : State) master v d, Accepts s Pg.PWRSEQ Rg.PWRSEQ_DOM_CTRL master v → bitOf v 0 = false → bitOf v 1 = true →
    s.rf Pg.PWRSEQ Rg.PWRSEQ_DOM_SEL 5 0 = d → 8 ≤ d → d ≤ 13 → s.headState ≤ 2 → ∃ t, exec (.pwrseqDomCtrlOff master v) s = .next t ∧
      (whoOf master = .mp ∨ svcCluster master = some (d - 8) → s.domSt d = 4 → t.domSt d = 5 ∧ ∀ e, e ≠ d → t.dom e = s.dom e) ∧
      (whoOf master = .mp ∨ svcCluster master = some (d - 8) → s.domSt d = 2 → (t.dom d).latch = some false ∧ t.domSt d = 2 ∧
        t.Told Ev.PWRSEQ_REVERSED [.v 1 d, .v 1 2, .v 1 0]) ∧
      (whoOf master = .svc → svcCluster master ≠ some (d - 8) → RefusesWrite s t Pg.PWRSEQ Rg.PWRSEQ_DOM_CTRL master 2)) ∧
  (∀ (s : State) d, s.nextGrant = some d → d ∈ s.queued ∧ ∀ e ∈ s.queued, domPrio d < domPrio e ∨ (domPrio d = domPrio e ∧ d ≤ e)) ∧
  (∀ (s : State) d, s.power.aon = true → s.ramping = none → s.rb Pg.PWRSEQ Rg.PWRSEQ_CFG 0 = true → s.nextGrant = some d → d < 32 →
    ∃ t, exec .domainGrant s = .next t ∧
      (s.withinBudget d = true → (∀ e ∈ domGroup d, t.domSt e = 2) ∧ (∀ e, e ∉ domGroup d → t.dom e = s.dom e) ∧
        ∀ b, domRail d = some b → t.pins.pwrEn = s.pins.pwrEn ||| 2 ^ b) ∧
      (s.withinBudget d = false → s.headState ≠ 3 → (∀ e ∈ domGroup d, t.domSt e = 0) ∧
        t.Told Ev.PWRSEQ_GRANT_REFUSED [.v 1 d, .v 2 (s.iccOf d), .v 2 (s.rf Pg.PWRSEQ Rg.PWRSEQ_ICC_BUDGET 11 0)])) ∧
  (∀ (s : State) d us, s.power.aon = true → s.ramping = some d → ∃ t, exec (.rampEnd us) s = .next t ∧ OnlyParts [.power, .pins] s t ∧
    (t.dom d).rampUs = min us 65535 ∧ ((s.dom d).latch = some false → t.domSt d = 5) ∧ ((s.dom d).latch ≠ some false → t.domSt d = 3) ∧
    ∀ b, domRail d = some b → t.pins.pwrGood = s.pins.pwrGood ||| 2 ^ b) ∧
  (∀ (s : State) d us, s.power.aon = true → s.ramping = some d → s.headState ≠ 3 → ∃ t, exec (.rampTimeout us) s = .next t ∧
    t.domSt d = 0 ∧ (t.dom d).failed = true ∧ Raised t Pg.PWRSEQ 4 ∧ t.Told Ev.PWRSEQ_DOMAIN_FAILED [.v 1 d, .v 2 (min us 65535)] ∧
    ∀ b, domRail d = some b → t.pins.pwrEn = s.pins.pwrEn - (s.pins.pwrEn &&& 2 ^ b)) ∧
  (∀ (s : State) d, s.power.aon = true → isDomain d = true → s.domSt d = 3 → ∃ t, exec (.domainReady d) s = .next t ∧
    ((s.dom d).latch ≠ some false → t.domSt d = 4) ∧ ((s.dom d).latch = some false → t.domSt d = 5) ∧
    ∀ e, e ∉ domGroup d → t.dom e = s.dom e) ∧
  (∀ (s : State) d, s.power.aon = true → isDomain d = true → s.domSt d = 5 → ∃ t, exec (.quiesced d) s = .next t ∧ OnlyParts [.power] s t ∧
    t.domSt d = 6 ∧ ∀ e, e ∉ domGroup d → t.dom e = s.dom e) ∧
  (∀ (s : State) d, s.power.aon = true → isDomain d = true → s.domSt d = 6 → ∃ t, exec (.clamped d) s = .next t ∧
    OnlyParts [.power, .pins, .bd] s t ∧ t.domSt d = 7 ∧
    (∀ b, domRail d = some b → t.pins.pwrEn = s.pins.pwrEn - (s.pins.pwrEn &&& 2 ^ b)) ∧ (d < 14 ∨ 29 < d → t.bd = s.bd) ∧
    (14 ≤ d → d ≤ 29 → ∀ n, t.bead n = if n / 64 = d - 14 then {} else s.bead n)) ∧
  (∀ (s : State) d, s.power.aon = true → isDomain d = true → s.domSt d = 7 → ∃ t, exec (.dischargeDone d) s = .next t ∧
    OnlyParts [.power, .pins] s t ∧ ((s.dom d).latch = some true → t.domSt d = 1) ∧ ((s.dom d).latch ≠ some true → t.domSt d = 0))

/-- P0 to P4: idle steps, retention, standby entry, commit, arming, the wake bus and WAKE_N, power-on, held pads -/
def Obligations.HeadStatesAndStandby : Prop :=
  (∀ (s : State) h, s.alive = true → s.headState = h → h < 3 → s.power.standby = 0 → h < s.permitted → s.heldInP0 = false → s.idleAllows h = true →
    ∃ t, exec .idleTimerExpiry s = .next t ∧ t.headState = h + 1 ∧
      (h = 0 → t.Told Ev.HOSTQ_PWR_STEP [.v 1 0, .v 1 1, .v 1 0] ∧ t.power.doms = s.power.doms ∧ t.bd = s.bd) ∧
      (h = 1 → ∀ c < 16, s.domSt (14 + c) = 4 →
        (s.clusterUsed c = true → t.domSt (14 + c) = 4 ∧ (t.dom (14 + c)).retention = true) ∧
        (s.clusterUsed c = false → t.domSt (14 + c) = 5)) ∧
      (h = 2 → (t.power.p3Strands = (s.bd.strands.filter fun e => e.2.st == 2 || e.2.st == 3).map fun e => (e.1, e.2.owner, e.2.image)) ∧
        ∀ d ∈ p3Domains, s.domSt d = 4 → t.domSt d = 5)) ∧
  (∀ (s : State) h, s.headState = h → s.permitted ≤ h → exec .idleTimerExpiry s = .next s) ∧
  (∀ (s : State) master v, Accepts s Pg.PWRSEQ Rg.PWRSEQ_CMD master v → bitOf v 0 = true → ∃ t, exec (.pwrseqStandby master v) s = .next t ∧
    (s.rb Pg.PWRSEQ Rg.PWRSEQ_CFG 1 = false ∨ (s.pairState ≠ 5 ∧ s.pairState ≠ 6) ∨ s.dirtyBytes ≠ 0 ∨ s.pair.shadow ≠ [] ∨ s.power.standby ≠ 0 →
      t.rf Pg.PWRSEQ Rg.PWRSEQ_CMD_STATUS 15 8 = St.LOCKED ∧ t.power = s.power ∧ t.headState = s.headState) ∧
    (s.rb Pg.PWRSEQ Rg.PWRSEQ_CFG 1 = true → s.pairState = 6 → (∀ g, 1 ≤ g → g ≤ 128 → s.homeGroup g = false) → s.dirtyBytes = 0 → s.pair.shadow = [] →
      s.power.standby = 0 → t.power.standby = 1 ∧ t.headState = s.headState ∧
      ∀ d, 1 ≤ d → d ≤ 29 → d ≠ 5 → d ≠ 6 → s.domSt d = 4 → t.domSt d = 5)) ∧
  (∀ (s : State), s.alive = true → s.power.standby = 1 → (∀ e ∈ s.power.doms, e.1 = 0 ∨ e.2.st = 0) → ∃ t, exec .standbyCommit s = .next t ∧
    OnlyParts [.regs, .power] s t ∧ t.headState = 4 ∧ t.power.standby = 2 ∧ t.rdN Pg.THIMBLE Rg.THIMBLE_STATE = 1 ∧
    t.rdN Pg.THIMBLE Rg.THIMBLE_NACKS = 0 ∧
    t.rdN Pg.THIMBLE Rg.THIMBLE_P4_COUNT = (s.rdN Pg.THIMBLE Rg.THIMBLE_P4_COUNT + 1) % 65536 ∧
    (s.cal.seconds < 2 ^ 40 → t.rd64 Pg.THIMBLE Rg.THIMBLE_SECONDS_LO = s.cal.seconds) ∧
    (s.rb Pg.SELVEDGE Rg.SELVEDGE_CFG 0 = true → t.power.held = [0xFFFFFFFF, 0xFFFFFFFF, 0xFFFFFFFF, 0xF] ∧
      ∀ g < 4, t.power.level.getD g 0 = (s.coreLevel g &&& groupMask g))) ∧
  (∀ (s : State), s.power.aon = true → s.power.standby = 2 → s.rdN Pg.THIMBLE Rg.THIMBLE_STATE = 1 → s.pins.wakeN = true →
    ∃ t, exec .thimbleArm s = .next t ∧ t.headState = 4 ∧ t.power.standby = 3 ∧ t.rdN Pg.THIMBLE Rg.THIMBLE_STATE = 2 ∧ t.alive = false ∧
      t.power.doms = [] ∧ t.mem.cells = [] ∧ t.locket.recs = [] ∧ t.locket.vault = s.locket.vault ∧ t.boot.otp = s.boot.otp ∧
      t.power.dump = s.power.dump ∧ t.power.held = s.power.held ∧
      ∀ p o i, p = Pg.THIMBLE ∨ p = Pg.SELVEDGE → o < 0x10000 → i < 0x10000 → o ≠ Rg.THIMBLE_STATE → t.rd p o i = s.rd p o i) ∧
  (∀ (s : State) addr, s.power.aon = true → addr % 128 = s.rf Pg.THIMBLE Rg.THIMBLE_CFG 6 0 → ∃ t, exec (.wakeAddressMatch addr) s = .next t ∧
    (s.rdN Pg.THIMBLE Rg.THIMBLE_STATE = 0 → t = s) ∧
    (s.rdN Pg.THIMBLE Rg.THIMBLE_STATE = 1 → Sent t (.bus false) ∧ OnlyParts [.regs, .out] s t ∧
      t.rdN Pg.THIMBLE Rg.THIMBLE_NACKS = satAdd 16 (s.rdN Pg.THIMBLE Rg.THIMBLE_NACKS) 1) ∧
    (s.rdN Pg.THIMBLE Rg.THIMBLE_STATE = 2 → s.rb Pg.THIMBLE Rg.THIMBLE_CFG 7 = true → Sent t (.bus true) ∧
      t.rdN Pg.THIMBLE Rg.THIMBLE_STATE = 3 ∧ t.rb Pg.THIMBLE Rg.THIMBLE_WAKE_CAUSE 0 = true ∧
      (s.withinBudget 0 = true → s.domSt 0 = 0 → t.domSt 0 = 1)) ∧
    (s.rdN Pg.THIMBLE Rg.THIMBLE_STATE = 3 → t = s.emit (.bus false))) ∧
  (∀ (s : State) held, ∃ t, exec (.wakeNLow held) s = .next t ∧ t.pins = { s.pins with wakeN := !held } ∧
    (s.power.aon = true → s.rb Pg.THIMBLE Rg.THIMBLE_CFG 8 = true → s.rdN Pg.THIMBLE Rg.THIMBLE_STATE = 2 →
      t.rdN Pg.THIMBLE Rg.THIMBLE_STATE = 3 ∧ t.rb Pg.THIMBLE Rg.THIMBLE_WAKE_CAUSE 1 = true) ∧
    (s.rb Pg.THIMBLE Rg.THIMBLE_CFG 8 = false → OnlyParts [.pins] s t)) ∧
  (∀ (s : State), ∃ t, exec .pwrFailNRise s = .next t ∧ t.pins = { s.pins with pwrFailN := true } ∧
    (s.power.aon = true → s.rb Pg.THIMBLE Rg.THIMBLE_CFG 9 = true → s.rdN Pg.THIMBLE Rg.THIMBLE_STATE = 2 →
      t.rdN Pg.THIMBLE Rg.THIMBLE_STATE = 3 ∧ t.rb Pg.THIMBLE Rg.THIMBLE_WAKE_CAUSE 2 = true) ∧
    (s.rdN Pg.THIMBLE Rg.THIMBLE_STATE ≤ 1 → OnlyParts [.pins] s t)) ∧
  (∀ (s : State), s.power.aon = false → s.withinBudget 0 = true → s.domSt 0 = 0 → ∃ t, exec .aonPowerOn s = .next t ∧
    OnlyParts [.power, .pins] s t ∧ t.power.aon = true ∧ t.domSt 0 = 1) ∧
  (∀ (s : State), s.power.aon = true → ∃ t, exec .xtalAonRunning s = .next t ∧ OnlyParts [.regs] s t ∧ t.rb Pg.THIMBLE Rg.THIMBLE_XTAL 0 = true) ∧
  (∀ (s : State), ∃ t, exec .vddAonRemoval s = .next t ∧ t.power = { ({} : Power) with dump := s.power.dump } ∧ t.regs = [] ∧ t.mem.cells = [] ∧
    t.pins.thermtripN = true ∧ t.locket.recs = [] ∧ t.locket.vault = s.locket.vault ∧ t.boot.otp = s.boot.otp ∧ t.boot.slots = s.boot.slots ∧
    t.pair.members = s.pair.members ∧ t.map.nss = s.map.nss ∧ t.map.chunks = s.map.chunks ∧ t.hq.jseq = s.hq.jseq) ∧
  (∀ (s : State) master v g m, Accepts s Pg.SELVEDGE Rg.SELVEDGE_RELEASE master v → s.rf Pg.SELVEDGE Rg.SELVEDGE_GROUP_SEL 1 0 = g →
    g < s.power.held.length → m = (v &&& s.power.held.getD g 0) → m ≠ 0 → ∃ t, exec (.selvedgeRelease master v) s = .next t ∧
      t.power.held.getD g 0 = s.power.held.getD g 0 - m ∧ (∀ k, k ≠ g → t.power.held.getD k 0 = s.power.held.getD k 0) ∧
      t.Told Ev.SELVEDGE_RELEASED [.v 1 g, .v 4 m, .v 4 ((s.power.level.getD g 0 ^^^ s.coreLevel g) &&& m)])

/-- Brownout and its end, and the power-fail dump: start, commit and resumption -/
def Obligations.BrownoutAndDump : Prop :=
  (∀ (s : State) mon mv, s.alive = true → mon < 6 → ∃ t, exec (.brownoutStart mon mv) s = .next t ∧
    t.rb Pg.PWRSEQ Rg.PWRSEQ_MON_STATUS 0 mon = true ∧
    (s.power.brown = none → t.power.brown = some { below := 2 ^ mon, since := s.gts, mon, lowest := mv } ∧
      t.rb Pg.PWRSEQ Rg.PWRSEQ_STATE 4 = true ∧ Raised t Pg.PWRSEQ 1 ∧ t.rb Pg.STITCH Rg.STITCH_STATUS 0 = true ∧
      t.rdN Pg.PWRSEQ Rg.PWRSEQ_BROWNOUTS = satAdd 32 (s.rdN Pg.PWRSEQ Rg.PWRSEQ_BROWNOUTS) 1) ∧
    (∀ b, s.power.brown = some b → OnlyParts [.regs, .power] s t ∧ t.power.brown = some { b with
      below := b.below ||| 2 ^ mon
      mon := if mv < b.lowest then mon else b.mon
      lowest := min mv b.lowest })) ∧
  (∀ (s : State) b, s.alive = true → s.power.brown = some b → ∃ t, exec .brownoutEnd s = .next t ∧ t.power.brown = none ∧
    (∀ m < 6, t.rb Pg.PWRSEQ Rg.PWRSEQ_MON_STATUS 0 m = false) ∧ t.rb Pg.PWRSEQ Rg.PWRSEQ_STATE 4 = false ∧
    (s.dumpHolds = true → t.Told Ev.PWRSEQ_BROWNOUT [.v 1 b.mon, .v 2 b.lowest, .v 4 ((s.gts - b.since) / 1000)] ∧
      t.rb Pg.STITCH Rg.STITCH_STATUS 0 = s.rb Pg.STITCH Rg.STITCH_STATUS 0) ∧
    (s.dumpHolds = false → t.rb Pg.STITCH Rg.STITCH_STATUS 0 = false)) ∧
  (∀ (s : State), s.alive = true → ∃ t, exec .powerFail s = .next t ∧ t.pins = { s.pins with pwrFailN := false } ∧
    (s.dumpHolds = true → OnlyParts [.pins] s t) ∧
    (s.dumpHolds = false → t.power.dump.dumping = true ∧ t.power.dump.committed = false ∧ t.power.dump.started = s.gts ∧
      t.power.dump.journal = (s.pair.journal.filter fun r => !r.recorded) ∧ t.power.dump.dirty = s.quilt.dirty ∧
      t.power.dump.deltas = s.dedup.deltas ∧ t.power.dump.recs = (s.locket.recs.filter fun r => decide (s.locket.spilled ≤ r.seq)) ∧
      t.rb Pg.PWRSEQ Rg.PWRSEQ_STATE 5 = true ∧ t.rdN Pg.PWRSEQ Rg.PWRSEQ_DUMP_STATUS = 1 ∧ t.rb Pg.STITCH Rg.STITCH_STATUS 1 = true)) ∧
  (∀ (s : State) mon mv, s.alive = true → mon < 6 → s.dumpHolds = false → ∃ t, exec (.monitorTrip mon mv) s = .next t ∧
    t.power.brown ≠ none ∧ t.power.dump.dumping = true ∧ t.rb Pg.PWRSEQ Rg.PWRSEQ_STATE 5 = true) ∧
  (∀ (s : State) n us, s.alive = true → s.power.dump.dumping = true → ∃ t, exec (.dumpCommit n us) s = .next t ∧
    t.power.dump = { s.power.dump with dumping := false, committed := true, bytes := n } ∧
    t.rb Pg.PWRSEQ Rg.PWRSEQ_STATE 5 = false ∧ t.rb Pg.PWRSEQ Rg.PWRSEQ_STATE 6 = true ∧ t.rdN Pg.PWRSEQ Rg.PWRSEQ_DUMP_STATUS = 2 ∧
    (n < 2 ^ 64 → t.rd64 Pg.PWRSEQ Rg.PWRSEQ_DUMP_BYTES_LO = n) ∧ t.rdN Pg.PWRSEQ Rg.PWRSEQ_DUMP_US = us % 2 ^ 24 ∧ Raised t Pg.PWRSEQ 2 ∧
    t.Told Ev.PWRSEQ_DUMP_DONE [.v 8 n, .v 4 us, .v 8 s.power.dump.firstJ, .v 8 s.power.dump.lastJ]) ∧
  (∀ (s : State), s.alive = true → s.rb Pg.PWRSEQ Rg.PWRSEQ_STATE 6 = true → ∃ t, exec .dumpResume s = .next t ∧
    (s.pins.pwrFailN = false ∨ s.power.brown ≠ none → t = s) ∧
    (s.pins.pwrFailN = true → s.power.brown = none → t.power.dump = { s.power.dump with superseded := true } ∧
      t.rb Pg.PWRSEQ Rg.PWRSEQ_STATE 6 = false ∧ t.rb Pg.PWRSEQ Rg.PWRSEQ_DUMP_STATUS 2 = true ∧ t.rb Pg.STITCH Rg.STITCH_STATUS 0 = false ∧
      t.Told Ev.PWRSEQ_DUMP_RESUMED [.v 4 ((s.gts - s.power.dump.started) / 1000)]))

/-! ### URT and RoCEv2 -/
namespace Sys2Proof.Machine

/-- A packet of type `ty` reaches open flow `k` whole: the engine runs, its check and its epoch are right, and its payload is `body`
in the clear (04 R169). -/
def Reaches (s : State) (seam : Bool) (pkt : List Byte) (ty k : Nat) (body : List Byte) : Prop :=
  s.alive = true ∧ s.urtOn = true ∧ (parseUrt pkt).crcOk = true ∧ (parseUrt pkt).ty = ty ∧ k = fkey seam (parseUrt pkt).dst ∧ (s.flow k).st = 2 ∧
  (parseUrt pkt).epoch = (s.flow k).epoch ∧ s.urtOpenBody (s.flow k) (parseUrt pkt) = some body

/-- It is the packet expected next, a whole message by itself, with none held after it and no acknowledgement asked for. -/
def Alone (s : State) (pkt : List Byte) (k : Nat) : Prop :=
  psnDist (parseUrt pkt).psn (s.flow k).rxNext = 0 ∧ bitOf (parseUrt pkt).flags 6 = true ∧ bitOf (parseUrt pkt).flags 5 = true ∧
  bitOf (parseUrt pkt).flags 7 = false ∧ (s.flow k).held = []

/-- The engine takes the job that a descriptor describes: it runs, the opcode is `op`, the owner is not 0, and there is room (04 R157, R166). -/
def UrtTakes (s : State) (seam : Bool) (desc : List Byte) (op : Nat) : Prop :=
  s.alive = true ∧ s.urtOn = true ∧ (urtJobOf desc).opcode = op ∧ s.urtRoom seam (urtJobOf desc) = true ∧ (urtJobOf desc).owner ≠ 0

/-- The job's completion is the newest thing sent outside, with this status and these counts. -/
def JobSaid (t : State) (j : Job) (status counts : Nat) : Prop := Sent t (.jobDone j.tag status counts)

/-- A packet for flow `k` goes out, as the newest thing sent. -/
def Packet (t : State) (k : Nat) : Prop := ∃ b, Sent t (.packet k b)

/-- The flow has a packet to send, or has sent it and keeps it until it is acknowledged. -/
def UFlow.carries (f : UFlow) (x : UPkt) : Prop := x ∈ f.queue ∨ ∃ y ∈ f.sent, { y.pkt with psn := x.psn } = x

/-- Every NVMe queue of transport connection `c` is gone (03 R133). -/
def ConnGone (s t : State) (c : Nat) : Prop := ∀ k q, mget s.hq.queues k = some q → q.conn = c → mget t.hq.queues k = none

/-- None of these jobs is outstanding. -/
def JobsGone (t : State) (l : List Nat) : Prop := ∀ id ∈ l, mget t.eng.jobs id = none

end Sys2Proof.Machine

/-- URT packets and timers: discards, order, duplicates, placement, acknowledgements, resending, flow error -/
def Obligations.UrtPackets : Prop :=
  (∀ p ∈ [(Instr.urtSendPacket, 1), (Instr.urtWritePacket, 2), (Instr.readReq, 3), (Instr.readResp, 4), (Instr.urtAck, 5), (Instr.urtClosePacket, 8)],
    ∀ (s : State) seam pkt k, s.alive = true → s.urtOn = true → k = fkey seam (parseUrt pkt).dst → ∃ t, exec (p.1 seam pkt) s = .next t ∧
      ((parseUrt pkt).crcOk = false → OnlyParts [.regs] s t ∧ t.rdN Pg.URT Rg.URT_DROP_CRC = satAdd 32 (s.rdN Pg.URT Rg.URT_DROP_CRC) 1) ∧
      ((parseUrt pkt).crcOk = true → (parseUrt pkt).ty = p.2 → (s.flow k).st = 2 → (parseUrt pkt).epoch ≠ (s.flow k).epoch →
        OnlyParts [.regs] s t ∧ t.rdN Pg.URT Rg.URT_DROP_EPOCH = satAdd 32 (s.rdN Pg.URT Rg.URT_DROP_EPOCH) 1) ∧
      ((parseUrt pkt).crcOk = true → (parseUrt pkt).ty = p.2 → (s.flow k).st = 2 → (parseUrt pkt).epoch = (s.flow k).epoch →
        s.urtOpenBody (s.flow k) (parseUrt pkt) = none →
        OnlyParts [.regs] s t ∧ t.rdN Pg.URT Rg.URT_DROP_AUTH = satAdd 32 (s.rdN Pg.URT Rg.URT_DROP_AUTH) 1) ∧
      ((parseUrt pkt).crcOk = true → (s.flow k).st ≠ 2 → t = s)) ∧
  (∀ p ∈ [(Instr.urtSendPacket, 1), (Instr.urtWritePacket, 2), (Instr.readReq, 3), (Instr.readResp, 4)],
    ∀ (s : State) seam pkt k body d, Reaches s seam pkt p.2 k body → d = psnDist (parseUrt pkt).psn (s.flow k).rxNext →
    ∃ t, exec (p.1 seam pkt) s = .next t ∧
      (256 ≤ d → d < 2 ^ 23 → OnlyParts [.regs] s t ∧ t.rdN Pg.URT Rg.URT_DROP_WINDOW = satAdd 32 (s.rdN Pg.URT Rg.URT_DROP_WINDOW) 1) ∧
      (0 < d → d ≤ 255 → Packet t k ∧ (t.flow k).rxNext = (s.flow k).rxNext ∧ mget (t.flow k).held (parseUrt pkt).psn = some {
        psn := (parseUrt pkt).psn, ty := p.2, msg := (parseUrt pkt).msg, first := bitOf (parseUrt pkt).flags 6
        last := bitOf (parseUrt pkt).flags 5, ext := (parseUrt pkt).ext, data := body }) ∧
      (2 ^ 23 ≤ d → Packet t k ∧ t.flow k = { s.flow k with rxCount := 0, echo := (parseUrt pkt).ts } ∧ t.mem = s.mem)) ∧
  (∀ (s : State) seam pkt k body, Reaches s seam pkt 1 k body → Alone s pkt k → ∃ t, exec (.urtSendPacket seam pkt) s = .next t ∧
    ((s.flow k).recvs = [] → t = s) ∧
    (∀ id rest j, (s.flow k).recvs = id :: rest → mget s.eng.jobs id = some j → j.engine = .urt →
      (t.flow k).rxNext = psnAdd (s.flow k).rxNext 1 ∧ (t.flow k).recvs = rest ∧ mget t.eng.jobs id = none ∧
      (body.length ≤ j.f 32 4 → ∃ st, JobSaid t j st body.length) ∧ (j.f 32 4 < body.length → JobSaid t j St.OUT_FULL (j.f 32 4)) ∧
      ∃ u, OnlyParts [.regs, .urt] s u ∧ t.mem = (u.writeBytes j.acc (j.f 16 8) (body.take (j.f 32 4))).1.mem)) ∧
  (∀ (s : State) seam pkt k body o, Reaches s seam pkt 2 k body → Alone s pkt k → (s.flow k).owner = some o →
    ∃ t u, exec (.urtWritePacket seam pkt) s = .next t ∧ (t.flow k).rxNext = psnAdd (s.flow k).rxNext 1 ∧ OnlyParts [.regs, .urt] s u ∧
      t.mem = (u.writeBytes { master := Ms.URT, owner := o } (ofBE ((parseUrt pkt).ext.take 8)) body).1.mem) ∧
  (∀ (s : State) seam pkt k body m j, Reaches s seam pkt 4 k body → Alone s pkt k → mget (s.flow k).msgs (parseUrt pkt).msg = some m →
    mget s.eng.jobs m.job = some j → j.engine = .urt → ∃ t u st, exec (.readResp seam pkt) s = .next t ∧
      (t.flow k).rxNext = psnAdd (s.flow k).rxNext 1 ∧ mget t.eng.jobs m.job = none ∧ mget (t.flow k).msgs (parseUrt pkt).msg = none ∧
      JobSaid t j st (min body.length m.len + 2 ^ 32 * (m.retx % 65536)) ∧ OnlyParts [.regs, .urt] s u ∧
      t.mem = (u.writeBytes j.acc (j.f 16 8) (body.take m.len)).1.mem) ∧
  (∀ (s : State) seam pkt k body o n, Reaches s seam pkt 3 k body → Alone s pkt k → (s.flow k).owner = some o →
    n = ofBE (((parseUrt pkt).ext.drop 12).take 4) → n ≤ 2 ^ 30 → ∃ t u x, exec (.readReq seam pkt) s = .next t ∧
      (t.flow k).rxNext = psnAdd (s.flow k).rxNext 1 ∧ OnlyParts [.regs, .urt] s u ∧ (t.flow k).carries x ∧ x.ty = 4 ∧ x.msg = (parseUrt pkt).msg ∧
      x.first = true ∧
      x.data = ((u.readBytes { master := Ms.URT, owner := o } (ofBE ((parseUrt pkt).ext.take 8)) n).2.1).take (s.flow k).payload) ∧
  (∀ (s : State) seam pkt k body cum, Reaches s seam pkt 5 k body → cum = ofBE ((parseUrt pkt).ext.take 3) → (s.flow k).queue = [] →
    psnDist cum (s.flow k).txCum < 2 ^ 23 → ∃ t, exec (.urtAck seam pkt) s = .next t ∧ (t.flow k).txCum = cum ∧
      (∀ x ∈ (t.flow k).sent, 2 ^ 23 ≤ psnDist cum x.pkt.psn) ∧
      (∀ x n m j, (s.flow k).sent = [x] → (s.flow k).msgs = [(n, m)] → m.read = false → psnDist cum x.pkt.psn < 2 ^ 23 →
        mget s.eng.jobs m.job = some j → j.engine = .urt → JobSaid t j St.OK (m.len + 2 ^ 32 * (m.retx % 65536)) ∧ (t.flow k).msgs = [])) ∧
  (∀ (s : State) seam n k, s.alive = true → s.urtOn = true → k = fkey seam n → (s.flow k).st = 2 → (s.flow k).rxCount ≠ 0 →
    ∃ t, exec (.ackTimer seam n) s = .next t ∧ Packet t k ∧ t.flow k = { s.flow k with rxCount := 0 }) ∧
  (∀ (s : State) seam n k psn x, s.alive = true → s.urtOn = true → k = fkey seam n → (s.flow k).st = 2 →
    ((s.flow k).sent.find? fun y => y.pkt.psn == psn && !y.got) = some x → ∃ t, exec (.rtoExpiry seam n psn) s = .next t ∧
      (x.resends < s.rf Pg.URT Rg.URT_RETRY 3 0 → (s.flow k).enc = false → Packet t k ∧
        t.rdN Pg.URT Rg.URT_RETX = (s.rdN Pg.URT Rg.URT_RETX + 1) % 2 ^ 32 ∧
        ∃ y ∈ (t.flow k).sent, y.pkt = x.pkt ∧ y.resends = x.resends + 1) ∧
      (s.rf Pg.URT Rg.URT_RETRY 3 0 ≤ x.resends → (t.flow k).st = 3 ∧ JobsGone t (s.flow k).jobs ∧ ConnGone s t k)) ∧
  (∀ (s : State) seam n k p rest, s.alive = true → s.urtOn = true → k = fkey seam n → (s.flow k).st = 2 → (s.flow k).cwnd.lt (Frac.nat 1) = true →
    psnDist (s.flow k).txNext (s.flow k).txCum ≤ 256 → (s.flow k).queue = p :: rest → (s.flow k).enc = false →
    ∃ t, exec (.pacedSend seam n) s = .next t ∧ Packet t k ∧ (t.flow k).queue = rest ∧ (t.flow k).txNext = psnAdd (s.flow k).txNext 1 ∧
      (t.flow k).sent = (s.flow k).sent ++ [{ pkt := { p with psn := (s.flow k).txNext }, txNo := (s.flow k).txNo }]) ∧
  (∀ (s : State) seam pkt k body, Reaches s seam pkt 8 k body → ∃ t, exec (.urtClosePacket seam pkt) s = .next t ∧
    t.flow k = { epoch := (s.flow k).epoch } ∧ JobsGone t (s.flow k).jobs ∧ ConnGone s t k)

/-- URT flows set up and closed; URT jobs: OPEN, CLOSE, SEND, WRITE, READ, RECV -/
def Obligations.UrtFlowsAndJobs : Prop :=
  (∀ (s : State) seam pkt mtu psn lower k f, s.alive = true → s.urtOn = true → setupOk pkt = true → (parseUrt pkt).ty = 6 →
    k = fkey seam (parseUrt pkt).dst → f = s.flow k → ∃ t, exec (.urtConnect seam pkt mtu psn lower) s = .next t ∧
      (f.st = 0 → f.job = none → Packet t k ∧ (t.flow k).st = 2 ∧ (t.flow k).peer = (parseUrt pkt).src ∧
        (t.flow k).epoch = (parseUrt pkt).epoch % 2 ^ 32 ∧ (t.flow k).txNext = psn % 2 ^ 24 ∧ (t.flow k).rxNext = (parseUrt pkt).psn ∧
        (t.flow k).payload = payloadFor (if seam = true then 65536 else mtu) (setupOffer pkt) ∧
        (t.flow k).cwnd = Frac.nat (s.rf Pg.URT Rg.URT_CC_PARAMS 31 24) ∧ (t.flow k).srtt = Frac.nat (s.targetRtt k)) ∧
      (f.st = 2 → (t.flow k).st = 2 ∧ (t.flow k).epoch = (f.epoch + 1) % 2 ^ 32 ∧ JobsGone t f.jobs ∧
        t.Told Ev.URT_FLOW_RESET [.v 4 (k % 65536), .v 4 f.epoch, .v 4 (f.epoch + 1), .v 4 f.jobs.length]) ∧
      (f.st = 1 → (if seam = true then s.headId = 0 else lower = true) → Packet t k ∧ t.flow k = { f with peer := (parseUrt pkt).src })) ∧
  (∀ (s : State) seam pkt k, s.alive = true → s.urtOn = true → setupOk pkt = true → (parseUrt pkt).ty = 7 → k = fkey seam (parseUrt pkt).dst →
    (s.flow k).st = 1 → ∃ t, exec (.connectAck seam pkt) s = .next t ∧ (t.flow k).st = 2 ∧ (t.flow k).peer = (parseUrt pkt).src ∧
      (t.flow k).txNext = (s.flow k).txNext ∧ (t.flow k).rxNext = (parseUrt pkt).psn ∧ (t.flow k).epoch = (s.flow k).epoch ∧
      ∀ id j, (s.flow k).job = some id → mget s.eng.jobs id = some j → j.engine = .urt → JobSaid t j St.OK 0 ∧ mget t.eng.jobs id = none) ∧
  (∀ p ∈ [(Instr.urtClose, 2), (Instr.urtSend, 3), (Instr.urtWrite, 4), (Instr.urtRead, 5), (Instr.urtRecv, 6)], ∀ (s : State) seam desc,
    s.alive = true → s.urtOn = true → (urtJobOf desc).opcode = p.2 → s.urtRoom seam (urtJobOf desc) = true → (urtJobOf desc).owner = 0 →
    ∃ t, exec (p.1 seam desc) s = .next t ∧ JobSaid t (urtJobOf desc) St.BAD_INPUT 0) ∧
  (∀ p ∈ [(Instr.urtSend, 3), (Instr.urtWrite, 4), (Instr.urtRead, 5), (Instr.urtRecv, 6)], ∀ (s : State) seam desc, UrtTakes s seam desc p.2 →
    (urtJobOf desc).uQp = false → (s.flow ((urtJobOf desc).key seam)).st ≠ 2 →
    ∃ t, exec (p.1 seam desc) s = .next t ∧ JobSaid t (urtJobOf desc) St.NOT_READY 0 ∧ t.urt = s.urt) ∧
  (∀ p ∈ [(Instr.urtSend, 3), (Instr.urtWrite, 4), (Instr.urtRead, 5)], ∀ (s : State) seam desc, UrtTakes s seam desc p.2 →
    (urtJobOf desc).uQp = false → (s.flow ((urtJobOf desc).key seam)).st = 2 → 2 ^ 30 < (urtJobOf desc).uLen →
    ∃ t, exec (p.1 seam desc) s = .next t ∧ JobSaid t (urtJobOf desc) St.BAD_INPUT 0 ∧ t.urt = s.urt) ∧
  (∀ (s : State) seam desc peer mtu psn enc j k f, UrtTakes s seam desc 1 → j = urtJobOf desc → j.uQp = false → k = j.key seam → f = s.flow k →
    ∃ t, exec (.urtOpen seam desc peer mtu psn enc) s = .next t ∧
      (f.st = 0 ∨ f.st = 3 → Packet t k ∧ t.flow k = {
        st := 1, peer, epoch := f.epoch + 1, payload := payloadFor (if seam = true then 65536 else mtu) 4096, enc, slot := j.f 44 2 % 4096
        eq := j.f 46 2 % 64, owner := some j.owner, job := some (freshKey s.eng.jobs 0), txNext := psn % 2 ^ 24 }) ∧
      (f.st = 2 → JobSaid t j St.OK 0 ∧ (t.flow k).owner = some j.owner) ∧ (f.st = 1 → JobSaid t j St.LOCKED 0 ∧ t.urt = s.urt)) ∧
  (∀ (s : State) seam desc peer mtu psn enc j, UrtTakes s seam desc 1 → j = urtJobOf desc → j.uQp = true → (s.qp j.uFlow).st = 0 →
    ∃ t, exec (.urtOpen seam desc peer mtu psn enc) s = .next t ∧ (t.qp j.uFlow).st = 1 ∧ (t.qp j.uFlow).peer = peer ∧
      (t.qp j.uFlow).job = some (freshKey s.eng.jobs 0) ∧ Sent t (.roce j.uFlow (.cmReq (psn % 2 ^ 24) mtu))) ∧
  (∀ (s : State) seam desc j k, UrtTakes s seam desc 2 → j = urtJobOf desc → j.uQp = false → k = j.key seam →
    freshKey s.eng.jobs 0 ∉ (s.flow k).jobs → ∃ t, exec (.urtClose seam desc) s = .next t ∧
      ((s.flow k).st = 0 → JobSaid t j St.NOT_READY 0 ∧ t.urt = s.urt) ∧
      ((s.flow k).st ≠ 0 → JobSaid t j St.OK 0 ∧ t.flow k = { epoch := (s.flow k).epoch } ∧ JobsGone t (s.flow k).jobs ∧ ConnGone s t k)) ∧
  (∀ p ∈ [(Instr.urtSend, 3, 1), (Instr.urtWrite, 4, 2)], ∀ (s : State) seam desc j k f u, UrtTakes s seam desc p.2.1 → j = urtJobOf desc → j.uQp = false →
    k = j.key seam → f = s.flow k → f.st = 2 → f.enc = false → j.uLen ≤ 2 ^ 30 →
    u = ({ s with eng := { s.eng with jobs := mput s.eng.jobs (freshKey s.eng.jobs 0) j } } : State).readBytes j.acc j.uLocal j.uLen →
    ∃ t, exec (p.1 seam desc) s = .next t ∧
      (fine u.2.2 = false → JobSaid t j u.2.2 0) ∧
      (fine u.2.2 = true → mget (t.flow k).msgs f.nextMsg = some { job := freshKey s.eng.jobs 0, len := j.uLen } ∧
        (t.flow k).nextMsg = (f.nextMsg + 1) % 2 ^ 32 ∧ ∃ x, (t.flow k).carries x ∧ x.ty = p.2.2 ∧ x.msg = f.nextMsg ∧ x.first = true ∧
          x.ext = (if p.2.2 = 2 then extHeader j.uRaddr j.uRkey j.uLen else []) ∧ x.data = u.2.1.take f.payload)) ∧
  (∀ (s : State) seam desc j k f, UrtTakes s seam desc 5 → j = urtJobOf desc → j.uQp = false → k = j.key seam → f = s.flow k → f.st = 2 →
    j.uLen ≤ 2 ^ 30 → ∃ t, exec (.urtRead seam desc) s = .next t ∧
      mget (t.flow k).msgs f.nextMsg = some { job := freshKey s.eng.jobs 0, len := j.uLen, read := true } ∧
      ∃ x, (t.flow k).carries x ∧ x.ty = 3 ∧ x.msg = f.nextMsg ∧ x.ext = extHeader j.uRaddr j.uRkey j.uLen) ∧
  (∀ (s : State) seam desc j k f, UrtTakes s seam desc 6 → j = urtJobOf desc → j.uQp = false → k = j.key seam → f = s.flow k → f.st = 2 →
    f.ready = [] → ∃ t, exec (.urtRecv seam desc) s = .next t ∧ OnlyParts [.regs, .eng, .urt] s t ∧
      t.flow k = { f with recvs := f.recvs ++ [freshKey s.eng.jobs 0] } ∧ mget t.eng.jobs (freshKey s.eng.jobs 0) = some j)

/-- RoCEv2: connection requests, atomics, packets in order and out, CNP, retry exhaustion -/
def Obligations.RoceQueuePairs : Prop :=
  (∀ (s : State) n service peer mtu psn own, s.alive = true → s.urtOn = true → n < 65536 →
    ∃ t, exec (.roceCmRequest n service peer mtu psn own) s = .next t ∧
      (service ≠ 0 ∨ (s.qp n).st ≠ 0 ∨ mtu ∉ [1024, 2048, 4096] → t = s.emit (.roce n .cmRej)) ∧
      (service = 0 → (s.qp n).st = 0 → mtu ∈ [1024, 2048, 4096] → Sent t (.roce n (.cmRep (own % 2 ^ 24) mtu)) ∧ OnlyParts [.regs, .urt, .out] s t ∧
        t.qp n = { s.qp n with st := 2, peer, mtu, sq := own % 2 ^ 24, rq := psn % 2 ^ 24 })) ∧
  (∀ (s : State) n psn, s.alive = true → s.urtOn = true → (s.qp n).st = 2 → ∃ t, exec (.roceAtomicRequest n psn) s = .next t ∧
    (t.qp n).st = 3 ∧ Out.roce n (.nakInvalid (psn % 2 ^ 24)) ∈ t.out ∧ JobsGone t (s.qp n).recvs) ∧
  (∀ (s : State) n psn imm data, s.alive = true → s.urtOn = true → (s.qp n).st = 2 →
    ∃ t, exec (.rocePacket n (.send psn true true imm data) false) s = .next t ∧
      (psnDist psn (s.qp n).rq = 0 → (s.qp n).recvs = [] → t = s.emit (.roce n (.rnr psn))) ∧
      (∀ id rest j, psnDist psn (s.qp n).rq = 0 → (s.qp n).recvs = id :: rest → mget s.eng.jobs id = some j → Sent t (.roce n (.ack psn)) ∧
        (t.qp n).rq = psnAdd (s.qp n).rq 1 ∧ (t.qp n).recvs = rest ∧ mget t.eng.jobs id = none ∧
        ∃ u, OnlyParts [.regs, .urt] s u ∧ (j.engine = .urt → t.mem = (u.writeBytes j.acc j.uLocal (data.take j.uLen)).1.mem)) ∧
      (0 < psnDist psn (s.qp n).rq → psnDist psn (s.qp n).rq < 2 ^ 23 → (s.qp n).nakSent = false →
        Sent t (.roce n (.nakSeq (s.qp n).rq)) ∧ t.qp n = { s.qp n with nakSent := true }) ∧
      (2 ^ 23 ≤ psnDist psn (s.qp n).rq → t = s.emit (.roce n (.ack (psnDist (s.qp n).rq 1))))) ∧
  (∀ (s : State) n psn mtu, s.alive = true → s.urtOn = true → (s.qp n).st = 1 → ∃ t, exec (.rocePacket n (.cmRep psn mtu) false) s = .next t ∧
    t.qp n = { s.qp n with st := 2, rq := psn % 2 ^ 24, mtu, job := none } ∧
    ∀ id j, (s.qp n).job = some id → mget s.eng.jobs id = some j → j.engine = .urt → JobSaid t j St.OK 0) ∧
  (∀ (s : State) n psn, s.alive = true → s.urtOn = true → (s.qp n).st = 2 → ∃ t, exec (.rocePacket n (.nakInvalid psn) false) s = .next t ∧
    (t.qp n).st = 3 ∧ JobsGone t (s.qp n).recvs) ∧
  (∀ (s : State) n, s.alive = true → s.urtOn = true → (s.qp n).st = 2 → ∃ t, exec (.cnpReceive n) s = .next t ∧
    OnlyParts [.regs, .urt, .fresh] s t ∧ (0 < (s.qp n).rate → (t.qp n).rate < (s.qp n).rate) ∧ t.qp n = { s.qp n with rate := (t.qp n).rate }) ∧
  (∀ (s : State) n, s.alive = true → s.urtOn = true → (s.qp n).st = 2 → ∃ t, exec (.roceRetryExhausted n) s = .next t ∧ (t.qp n).st = 3 ∧
    JobsGone t (s.qp n).recvs ∧ ConnGone s t (qpConn n))

/-- Ethernet ports: links, FEC, PFC storms, breakout; URT internal error and reset; event queues after losses -/
def Obligations.PortsAndUrtEvents : Prop :=
  (∀ (s : State) port sub, s.alive = true → port < 2 → sub < 4 → s.pair.portsOff = false → s.rb (ethPage port) Rg.ETH_CFG 0 = true →
    ∃ t, exec (.subportLinkUp port sub) s = .next t ∧ t.rb (ethPage port) Rg.ETH_LINK_STATUS sub = true ∧
      t.Told Ev.ETH_LINK_UP [.v 1 port, .v 1 sub, .v 1 (s.rf (ethPage port) Rg.ETH_CFG 2 1)]) ∧
  (∀ (s : State) port sub, s.pair.portsOff = true → exec (.subportLinkUp port sub) s = .next s) ∧
  (∀ (s : State) port sub, s.alive = true → port < 2 → sub < 4 → ∃ t, exec (.subportLinkDown port sub) s = .next t ∧
    t.rb (ethPage port) Rg.ETH_LINK_STATUS sub = false ∧ t.Told Ev.ETH_LINK_DOWN [.v 1 port, .v 1 sub]) ∧
  (∀ (s : State) port sub corr uncorr dropped, s.alive = true → port < 2 → sub < 4 →
    ∃ t, exec (.fecSecondEnd port sub corr uncorr dropped) s = .next t ∧
      t.rdN (ethPage port) Rg.ETH_FEC_CORR = satAdd 32 (s.rdN (ethPage port) Rg.ETH_FEC_CORR) corr ∧
      t.rdN (ethPage port) Rg.ETH_FEC_UNCORR = satAdd 32 (s.rdN (ethPage port) Rg.ETH_FEC_UNCORR) uncorr ∧
      t.rdN (ethPage port) Rg.ETH_RX_DROP = satAdd 32 (s.rdN (ethPage port) Rg.ETH_RX_DROP) dropped ∧
      t.rb (ethPage port) Rg.ETH_LINK_STATUS (4 + sub) = decide (s.rdN (ethPage port) Rg.ETH_FEC_WARN < corr) ∧
      (s.rdN (ethPage port) Rg.ETH_FEC_WARN < corr → t.Told Ev.ETH_DEGRADED [.v 1 port, .v 1 sub, .v 4 corr])) ∧
  (∀ (s : State) port sub prio, s.alive = true → port < 2 → sub < 4 → prio < 8 → s.rb (ethPage port) Rg.ETH_CFG 3 = true →
    s.rb (ethPage port) Rg.ETH_PFC_PRIO prio = true → ∃ t, exec (.pfcPauseTimeout port sub prio) s = .next t ∧
      t.rb (ethPage port) Rg.ETH_PFC_PRIO prio = false ∧ t.rb (ethPage port) Rg.ETH_LINK_STATUS (8 + sub) = true ∧
      t.Told Ev.ETH_PFC_STORM [.v 1 port, .v 1 prio]) ∧
  (∀ (s : State) ty, s.alive = true → s.urt.fatal = false → ∃ t, exec (.urtInternalError ty) s = .next t ∧ t.urt.fatal = true ∧ t.urtOn = false ∧
    t.pairState = 6 ∧ (∀ k, (s.flow k).st = 1 ∨ (s.flow k).st = 2 → t.flow k = { s.flow k with st := 3 }) ∧
    ∀ n, (s.qp n).st = 1 ∨ (s.qp n).st = 2 → t.qp n = { s.qp n with st := 3 }) ∧
  (∀ (s : State) master v, Accepts s Pg.URT Rg.URT_CTRL master v → ∃ t, exec (.urtCtrlReset master v) s = .next t ∧
    (bitOf v 0 = false ∨ s.urt.fatal = false → t = stored s Pg.URT Rg.URT_CTRL v) ∧
    (bitOf v 0 = true → s.urt.fatal = true → t.urt = { phases := s.urt.phases } ∧
      ∀ id j, mget s.eng.jobs id = some j → j.engine = .urt → mget t.eng.jobs id = none)) ∧
  (∀ (s : State) master v q u, Accepts s Pg.URT Rg.URT_EQ_HEAD master v → s.rf Pg.URT Rg.URT_EQ_SEL 5 0 = q → u = stored s Pg.URT Rg.URT_EQ_HEAD v →
    ∃ t, exec (.urtEqHeadWrite master v) s = .next t ∧ (s.rdN Pg.URT Rg.URT_EQ_LOST q = 0 → t = u) ∧
      (s.rdN Pg.URT Rg.URT_EQ_LOST q ≠ 0 → u.eqOn q = true → u.eqFull q = false → t.rdN Pg.URT Rg.URT_EQ_LOST q = 0 ∧
        t = (u.putEvent q Et.EQ_OVERFLOW (srcOf Pg.URT) 0 (s.rdN Pg.URT Rg.URT_EQ_LOST q)).wrN Pg.URT Rg.URT_EQ_LOST q 0)) ∧
  (∀ (s : State) master port v, port < 2 → Accepts s (ethPage port) Rg.ETH_CFG master v → ∃ t, exec (.ethCfgWrite master port v) s = .next t ∧
    (s.rb (ethPage port) Rg.ETH_CFG 0 = true → s.rf (ethPage port) Rg.ETH_CFG 2 1 ≠ bits v 2 1 →
      t.rd (ethPage port) Rg.ETH_CFG = s.rd (ethPage port) Rg.ETH_CFG ∧ t.rf (ethPage port) Rg.ERR_INFO 23 16 = St.BAD_INPUT) ∧
    (s.rb (ethPage port) Rg.ETH_CFG 0 = false ∨ s.rf (ethPage port) Rg.ETH_CFG 2 1 = bits v 2 1 → t = stored s (ethPage port) Rg.ETH_CFG v))

/-- Hallmark: contexts, snooped streams and catch-up, DIGEST and FINISH, sealed compares, the last-word registers, seal units -/
def Obligations.HallmarkContexts : Prop :=
  (∀ (s : State) id j n a, Runs s .hallmark 1 id j → n = j.f 12 2 → a = j.f 14 1 → ∃ t, exec (.hallmarkInit id) s = .next t ∧
    (4096 ≤ n ∨ a % 4 = 3 ∨ bits a 5 4 = 3 → Ends t id j { status := St.BAD_INPUT } ∧ t.hall = s.hall) ∧
    (n < 4096 → a % 4 ≠ 3 → bits a 5 4 = 0 → (bitOf a 2 = true → j.f 16 2 ≤ 4095) →
      (s.hctx n ≠ none → Ends t id j { status := St.LOCKED } ∧ t.hall = s.hall) ∧
      (s.hctx n = none → bitOf a 2 = false → Ends t id j { status := St.OK } ∧ t.hctx n = some {
        alg := a % 4, sealed := bitOf a 3, unit := a / 64, list := j.f 24 8, cap := j.f 20 4, owner := j.owner
        master := j.engine.master j.inst }) ∧
      (s.hctx n = none → bitOf a 2 = true → ∀ c, s.keyFor (j.f 16 2) Us.hmac = .error c → Ends t id j { status := c } ∧ t.hall = s.hall) ∧
      (s.hctx n = none → bitOf a 2 = true → ∀ k, s.keyFor (j.f 16 2) Us.hmac = .ok k → Ends t id j { status := St.OK } ∧
        ∃ c, t.hctx n = some c ∧ c.key = some k ∧ c.msg = [] ∧ c.total = 0))) ∧
  (∀ (s : State) id j, Runs s .hallmark 2 id j → ∃ t, exec (.bind id) s = .next t ∧
    (s.openCtx (j.f 12 2) = none → Ends t id j { status := St.BAD_INPUT } ∧ t.hall = s.hall) ∧
    (∀ c, s.openCtx (j.f 12 2) = some c → c.bound = none → j.f 15 1 ∈ [0x17, 0x18, 0x1E, 0x20] → mget t.eng.jobs id = some j ∧
      t.hctx (j.f 12 2) = some { c with
        bound := some { producer := j.f 15 1, stream := j.f 18 2, job := id }, jobStart := c.total, jobEntries := c.entries, catchups := 0 })) ∧
  (∀ (s : State) p st off addr data bad n c, s.alive = true → s.streamCtx p st = some (n, c) → 0 < data.length → data.length ≤ 32 → c.total ≤ off →
    ∃ t, exec (.snoopBeat p st off addr data bad) s = .next t ∧
      (off = c.total → c.mode = 0 → t.hctx n = some { c with
        msg := c.msg ++ data, total := c.total + data.length, poison := c.poison || bad, anyPoison := c.anyPoison || bad }) ∧
      (off ≠ c.total → t.hctx n = some { c with ahead := c.ahead ++ [(off, addr, data.length, bad)] }) ∧
      (bad = true → off ≠ c.total ∨ c.mode = 0 → t.Told Ev.HALLMARK_SNOOP_POISON [.v 2 n, .v 2 st, .v 8 off]) ∧
      (off = c.total → c.mode = 1 → bad = false → c.poison = false → c.grainLeft = data.length → c.msg.length + data.length = 16384 →
        c.entries < c.cap → (∃ d, t.hctx n = some d ∧ d.entries = c.entries + 1 ∧ d.msg = [] ∧ d.start = c.total + data.length) ∧
        ∃ u, OnlyParts [.regs] s u ∧ t.mem = (u.writeBytes { master := c.master, owner := c.owner } (c.list + 64 * c.entries)
          (leBytes 8 c.start ++ leBytes 4 16384 ++ leBytes 4 0 ++ c.digest (c.msg ++ data) ++ List.replicate 16 0)).1.mem)) ∧
  (∀ (s : State) p st n c a, s.alive = true → s.streamCtx p st = some (n, c) → c.mode = 0 → (c.ahead.find? fun a => a.1 == c.total) = some a →
    ∃ t d, exec (.catchupRead p st) s = .next t ∧ t.hctx n = some d ∧ d.ahead = c.ahead.erase a ∧ d.catchups = c.catchups + 1 ∧
      d.msg = c.msg ++ (s.readBytes { master := c.master, owner := c.owner } a.2.1 a.2.2.1).2.1) ∧
  (∀ (s : State) p st n c id j, s.alive = true → s.streamCtx p st = some (n, c) → c.mode = 0 → c.sealed = false → c.ahead = [] →
    c.bound.map (·.job) = some id → mget s.eng.jobs id = some j → ∃ t u d r, exec (.streamEnd p st) s = .next t ∧ Ends t id j r ∧
      (c.anyPoison = true → fine r.status = false) ∧ t.hctx n = some d ∧ d.finished = true ∧ d.bound = none ∧ OnlyParts [.regs, .hall] s u ∧
      t.mem = (u.writeBytes j.acc (j.f 24 8) (c.digest c.msg)).1.mem) ∧
  (∀ (s : State) id j c r, Runs s .hallmark 3 id j → s.openCtx (j.f 12 2) = some c → r = s.readBytes j.acc (j.f 24 8) (j.f 20 4) →
    ∃ t, exec (.digest id) s = .next t ∧
      (j.f 20 4 % 32 ≠ 0 → Ends t id j { status := St.BAD_INPUT } ∧ t.hall = s.hall) ∧
      (j.f 20 4 % 32 = 0 → fine r.2.2 = false → Ends t id j { status := r.2.2 } ∧ t.hall = s.hall) ∧
      (j.f 20 4 % 32 = 0 → fine r.2.2 = true → c.mode = 0 → ∃ d, t.hctx (j.f 12 2) = some d ∧ d.msg = c.msg ++ r.2.1 ∧
        (c.full = false → EndsWith t id j r.2.2))) ∧
  (∀ (s : State) id j c, Runs s .hallmark 4 id j → s.openCtx (j.f 12 2) = some c → c.mode = 0 → c.anyPoison = false → c.full = false →
    ∃ t, exec (.finish id) s = .next t ∧
      (32 < j.f 15 1 → Ends t id j { status := St.BAD_INPUT } ∧ t.hall = s.hall) ∧
      (j.f 15 1 ≤ 32 → (∃ d, t.hctx (j.f 12 2) = some d ∧ d.finished = true) ∧
        (c.sealed = false → ∃ u, OnlyParts [.regs, .hall] s u ∧
          t.mem = (u.writeBytes j.acc (j.f 24 8) (c.digest (c.msg ++ sliceB j.desc 32 (j.f 15 1)))).1.mem) ∧
        (c.sealed = true → c.digest (c.msg ++ sliceB j.desc 32 (j.f 15 1)) = mgetD (List.replicate 32 0) s.hall.seals c.unit →
          EndsWith t id j St.OK ∧ t.mem = s.mem) ∧
        (c.sealed = true → c.digest (c.msg ++ sliceB j.desc 32 (j.f 15 1)) ≠ mgetD (List.replicate 32 0) s.hall.seals c.unit →
          EndsWith t id j St.AUTH_FAIL ∧ t.Told Ev.HALLMARK_SEAL_MISMATCH [.v 1 c.unit, .v 2 (j.f 12 2)]))) ∧
  (∀ (s : State) id j, Runs s .hallmark 5 id j → ∃ t, exec (.hallmarkRelease id) s = .next t ∧
    (s.hctx (j.f 12 2) = none → Ends t id j { status := St.BAD_INPUT }) ∧
    (s.hctx (j.f 12 2) ≠ none → Ends t id j { status := St.OK } ∧ t.hctx (j.f 12 2) = none)) ∧
  (∀ (s : State) master v n k, Accepts s Pg.HALLMARK Rg.HALLMARK_LW_CMD master v → bitOf v 0 = true → n = s.rf Pg.HALLMARK Rg.HALLMARK_LW_CTX 11 0 →
    k = s.rf Pg.HALLMARK Rg.HALLMARK_LW_VALID_BYTES 5 0 → ∃ t, exec (.hallmarkLwCmd master v) s = .next t ∧
      (s.openCtx n = none ∨ 32 < k → t.rdN Pg.HALLMARK Rg.HALLMARK_LW_STATUS = 256 * St.BAD_INPUT ∧ t.hall = s.hall) ∧
      (∀ c m, s.openCtx n = some c → k ≤ 32 → c.mode = 0 → c.sealed = false → c.anyPoison = false → c.full = false →
        m = ((List.range 8).flatMap fun i => leBytes 4 (s.rdN Pg.HALLMARK (Rg.HALLMARK_LW_DATA + 4 * i))).take k →
        t.rdN Pg.HALLMARK Rg.HALLMARK_LW_STATUS = 256 * St.OK ∧ (∃ d, t.hctx n = some d ∧ d.finished = true) ∧
        ∀ i < 8, t.rdN Pg.HALLMARK (Rg.HALLMARK_LW_RESULT + 4 * i) = leAt (c.digest (c.msg ++ m)) (4 * i) 4)) ∧
  (∀ (s : State) master i v u, i < 8 → Accepts s Pg.HALLMARK (Rg.HALLMARK_SEAL_EXP + 4 * i) master v → master < Ms.PARTNER →
    u = s.rf Pg.HALLMARK Rg.HALLMARK_SEAL_SEL 1 0 → ∃ t, exec (.hallmarkSealExpWrite master i v) s = .next t ∧
      (u = 3 → RefusesWrite s t Pg.HALLMARK (Rg.HALLMARK_SEAL_EXP + 4 * i) master 2 ∧ t.hall = s.hall) ∧
      (u ≠ 3 → t.rb Pg.HALLMARK Rg.HALLMARK_SEAL_STATUS (2 * u) = false ∧ ∀ e, e = mgetD (List.replicate 32 0) s.hall.seals u →
        mget t.hall.seals u = some (e.take (4 * i) ++ leBytes 4 v ++ e.drop (4 * i + 4))))

/-- Dedup: LOOKUP with hits, misses and waits, COMMIT, RELEASE, REBUILD, TAKEOVER, manifests sealed, deltas committed -/
def Obligations.DedupEngine : Prop :=
  (∀ p ∈ ([(fun n => Instr.lookup n [], 1), (Instr.commit, 2), (Instr.dedupRelease, 3)] : List ((Nat → Instr) × Nat)), ∀ (s : State) id j c,
    Runs s .dedup p.2 id j →
    s.dedupBad j true = some c → ∃ t, exec (p.1 id) s = .next t ∧ Ends t id j { status := c } ∧ t.dedup = s.dedup ∧ t.map = s.map) ∧
  (∀ (s : State) j, (s.domOwned j.dom = false → j.dcount = 0 → s.dedupBad j false = some St.NOT_OWNER) ∧
    (s.domOwned j.dom = false → 0 < j.dcount → j.dcount ≤ 1024 → j.f 16 8 % 64 = 0 → s.dedupBad j true = some St.NOT_OWNER)) ∧
  (∀ (s : State) id j differs u e v, Runs s .dedup 1 id j → s.dedupBad j true = none → s.domState j.dom ≠ 1 → mget s.dedup.looks id = none →
    s.mapMode ≠ 2 → s.readEntries j = (u, .ok [e]) → isHook e.fp = false → v = (u.loadMans []).1 → ∃ t, exec (.lookup id differs) s = .next t ∧
      (e.skip = true → Ends t id j { status := St.OK } ∧ t.dedup.pending = s.dedup.pending) ∧
      (∀ k c, e.skip = false → v.firstLive (v.findFp j.dom [] e.fp) = some k → s.chunk k = some c → c.refs < 2 ^ 32 - 1 → differs = [] →
        Ends t id j { status := St.OK, counts := 1 } ∧ t.chunk k = some { c with refs := c.refs + 1 } ∧
        t.rdN Pg.DEDUP Rg.DEDUP_HITS = (s.rdN Pg.DEDUP Rg.DEDUP_HITS + 1) % 2 ^ 32) ∧
      (e.skip = false → v.firstLive (v.findFp j.dom [] e.fp) = none → (j.dom, e.fp) ∈ s.dedup.pending →
        mget t.eng.jobs id = some j ∧ mget t.dedup.looks id = some { waits := 1 }) ∧
      (e.skip = false → v.firstLive (v.findFp j.dom [] e.fp) = none → (j.dom, e.fp) ∉ s.dedup.pending → s.dedup.pending.length < 65536 →
        Ends t id j { status := St.OK, counts := 2 ^ 16 } ∧ t.dedup.pending = s.dedup.pending ++ [(j.dom, e.fp)])) ∧
  (∀ (s : State) id j differs u e L, Runs s .dedup 1 id j → mget s.dedup.looks id = some L → L.at' = 0 → s.readEntries j = (u, .ok [e]) →
    e.skip = false → (∃ t, exec (.lookupResume id differs) s = .next t ∧
      ((j.dom, e.fp) ∈ s.dedup.pending → mget t.eng.jobs id = some j ∧ mget t.dedup.looks id = some L) ∧
      ((j.dom, e.fp) ∉ s.dedup.pending → u.firstLive (u.findFp j.dom L.champs e.fp) = none → s.dedup.pending.length < 65536 →
        Ends t id j { status := St.OK, counts := ({ L with misses := L.misses + 1 } : Look).counts } ∧
        t.dedup.pending = s.dedup.pending ++ [(j.dom, e.fp)] ∧ mget t.dedup.looks id = none)) ∧
    ∃ t, exec (.pendingWaitTimeout id differs) s = .next t ∧ mget t.dedup.looks id = none ∧
      Ends t id j { status := St.OK, counts := ({ L with misses := L.misses + 1 } : Look).counts }) ∧
  (∀ (s : State) id j u e, Runs s .dedup 2 id j → s.dedupBad j true = none → s.domState j.dom ≠ 1 → s.readEntries j = (u, .ok [e]) →
    ∃ t, exec (.commit id) s = .next t ∧ Ends t id j { status := St.OK } ∧ (j.dom, e.fp) ∉ t.dedup.pending ∧
      (∀ c, s.chunk e.chunk = some c → c.st = 0 → t.chunk e.chunk = some { c with st := 1, refs := 1 } ∧
        t.dedup.deltas = s.dedup.deltas ++ [{ dom := chunkDom e.chunk, seq := j.dseq, idx := 0, chunk := e.chunk, up := true }]) ∧
      (∀ c, s.chunk e.chunk = some c → c.st ≠ 0 → t.chunk e.chunk = some c ∧ t.dedup.deltas = s.dedup.deltas)) ∧
  (∀ (s : State) id j r k, Runs s .dedup 3 id j → s.dedupBad j true = none → s.domState j.dom ≠ 1 → j.dcount = 1 →
    r = s.readBytes j.acc (j.f 16 8) (8 * j.dcount) → fine r.2.2 = true → k = leAt r.2.1 0 8 → ∃ t, exec (.dedupRelease id) s = .next t ∧
      Ends t id j { status := St.OK } ∧
      (∀ c, s.chunk k = some c → c.st = 1 → 2 ≤ c.refs → t.chunk k = some { c with refs := c.refs - 1 } ∧
        t.dedup.deltas = s.dedup.deltas ++ [{ dom := chunkDom k, seq := j.dseq, idx := 0, chunk := k, up := false }]) ∧
      (∀ c, s.chunk k = some c → c.st = 1 → c.refs = 1 → (∀ b, s.bolt c.bolt = some b → 2 ≤ b.valid) →
        t.chunk k = some { c with refs := 0, st := 2 } ∧ ∀ b, s.bolt c.bolt = some b → t.bolt c.bolt = some { b with valid := b.valid - 1 }) ∧
      (s.chunk k = none ∨ (∃ c, s.chunk k = some c ∧ (c.st ≠ 1 ∨ c.refs = 0)) → t.map = s.map ∧ t.dedup = s.dedup ∧
        t.Told Ev.DEDUP_REF_UNDERFLOW [.v 2 (chunkDom k), .v 8 k, .v 8 j.dseq])) ∧
  (∀ (s : State) id j, Runs s .dedup 4 id j → s.dedupBad j false = none → ∃ t n k, exec (.rebuild id) s = .next t ∧ Ends t id j { status := St.OK } ∧
    t.domState j.dom = 3 ∧ t.Told Ev.DEDUP_HOOK_REBUILD_DONE [.v 2 j.dom, .v 4 n, .v 4 k] ∧
    n = (s.dedup.mans.filter fun e => e.1 / 2 ^ 54 == j.dom).length ∧ k ≤ 252 * n) ∧
  (∀ (s : State) id j again us, Runs s .dedup 5 id j → s.dedupBad j false = none →
    (∃ t, exec (.takeover id again us false) s = .next t ∧ t.domState j.dom = 1 ∧ mget t.eng.jobs id = some j ∧ OnlyParts [.regs] s t) ∧
    ∃ t, exec (.takeover id [] us true) s = .next t ∧ t.domState j.dom = 2 ∧ Ends t id j { status := St.OK } ∧
      (∀ x ∈ t.dedup.deltas, x.dom ≠ j.dom) ∧ t.dedup.log = s.dedup.log ∧
      t.Told Ev.DEDUP_DOMAIN_TAKEOVER [.v 2 j.dom, .v 4 0, .v 4 us, .v 1 St.OK] ∧
      ∀ x c, s.dedup.deltas = [x] → x.dom = j.dom → x.up = true → s.chunk x.chunk = some c → c.st = 1 → 2 ≤ c.refs →
        t.chunk x.chunk = some { c with refs := c.refs - 1 }) ∧
  (∀ (s : State) d m, s.alive = true → mget s.dedup.opens d = some m → ∃ t n, exec (.manifestSealTimeout d) s = .next t ∧
    n = (mget s.dedup.nextMan d).getD 1 ∧ mget t.dedup.opens d = none ∧ mget t.dedup.mans (d * 2 ^ 54 + n) = some m ∧
    mget t.dedup.nextMan d = some (n + 1)) ∧
  (∀ (s : State), s.alive = true → ∃ t, exec .deltaBatchCommit s = .next t ∧ (s.rb Pg.STITCH Rg.STITCH_STATUS 2 = true → t = s) ∧
    (s.rb Pg.STITCH Rg.STITCH_STATUS 2 = false → OnlyParts [.dedup] s t ∧ t.dedup = { s.dedup with
      deltas := s.dedup.deltas.drop 4096, log := s.dedup.log ++ (s.dedup.deltas.take 4096).map fun x => (x.dom, x.seq, x.idx, x.up) })) ∧
  (∀ (s : State) master v i, Accepts s Pg.DEDUP Rg.DEDUP_DOM_CFG master v → s.shown Pg.DEDUP Rg.DEDUP_DOM_CFG = i →
    ∃ t, exec (.dedupDomCfgWrite master v) s = .next t ∧
      (s.rb Pg.DEDUP Rg.DEDUP_DOM_CFG 0 i = true → s.rf Pg.DEDUP Rg.DEDUP_DOM_CFG 27 16 i ≠ bits v 27 16 →
        t.rdN Pg.DEDUP Rg.DEDUP_DOM_CFG i = s.rdN Pg.DEDUP Rg.DEDUP_DOM_CFG i ∧ t.rf Pg.DEDUP Rg.ERR_INFO 23 16 = St.BAD_INPUT) ∧
      (s.rb Pg.DEDUP Rg.DEDUP_DOM_CFG 0 i = false ∨ s.rf Pg.DEDUP Rg.DEDUP_DOM_CFG 27 16 i = bits v 27 16 →
        t = stored s Pg.DEDUP Rg.DEDUP_DOM_CFG v))

/-- Cipher: GCM, XTS and CTR jobs, nonces, key slots, key jobs, key commands, nonce floor and grants -/
def Obligations.CipherEngine : Prop :=
  (∀ p ∈ [(Instr.gcmSeal, 1, Us.gcm), (Instr.gcmOpen, 2, Us.gcm), (Instr.ctr, 5, Us.ctr)], ∀ (s : State) id j, Runs s .cipher p.2.1 id j →
    ∃ t, exec (p.1 id) s = .next t ∧ (j.cipherBad = true → Ends t id j { status := St.BAD_INPUT }) ∧
      (j.cipherBad = false → 0 < j.len → (s.slot j.keySlot).key = none → Ends t id j { status := St.KEY_EMPTY } ∧ t.cipher = s.cipher) ∧
      (j.cipherBad = false → 0 < j.len → (s.slot j.keySlot).key ≠ none → bitOf (s.slot j.keySlot).usage p.2.2 = false →
        Ends t id j { status := St.LOCKED } ∧ t.cipher = s.cipher)) ∧
  (∀ (s : State) id j k, Runs s .cipher 1 id j → j.cipherBad = false → s.keyFor j.keySlot Us.gcm = .ok k → j.eflag 11 = false → j.eflag 12 = false →
    ∃ t, exec (.gcmSeal id) s = .next t ∧
      ((s.nonceEng j.inst).cur = none → Ends t id j { status := St.NOT_READY } ∧
        t.rdN Pg.CIPHER Rg.CIPHER_NONCE_STARVED = satAdd 32 (s.rdN Pg.CIPHER Rg.CIPHER_NONCE_STARVED) 1) ∧
      (∀ b c n r q, (s.nonceEng j.inst).cur = some (b, c) → n = leBytes 1 j.inst ++ leBytes 1 s.headId ++ [0, 0] ++ beBytes 8 (b * 2 ^ 32 + c) →
        r = (s.takeNonce j.inst).1.readBytes j.acc j.src j.len → q = r.1.readBytes j.acc (j.f 40 8) j.aadLen → fine r.2.2 = true → fine q.2.2 = true →
        t.mem = (q.1.writeBytes j.acc j.dst ((if j.eflag 10 = true then n else []) ++ gcmCrypt k n r.2.1 ++
          gcmTag k n q.2.1 (gcmCrypt k n r.2.1))).1.mem ∧
        (∃ x, Ends t id j x ∧ (fine x.status = true → x.counts = j.len + 2 ^ 32 * ofLE n)) ∧
        (c < 2 ^ 32 - 1 → (t.nonceEng j.inst).cur = some (b, c + 1)) ∧
        (c = 2 ^ 32 - 1 → (t.nonceEng j.inst).cur = (s.nonceEng j.inst).pend.map fun b => (b, 0)))) ∧
  (∀ (s : State) id j k r q, Runs s .cipher 2 id j → j.cipherBad = false → s.keyFor j.keySlot Us.gcm = .ok k → j.eflag 10 = false → j.eflag 11 = false →
    j.eflag 12 = false → r = s.readBytes j.acc j.src (j.len + 16) → q = r.1.readBytes j.acc (j.f 40 8) j.aadLen → fine r.2.2 = true → fine q.2.2 = true →
    ∃ t, exec (.gcmOpen id) s = .next t ∧
      (r.2.1.drop j.len = gcmTag k (j.iv.take 12) q.2.1 (r.2.1.take j.len) →
        t.mem = (q.1.writeBytes j.acc j.dst (gcmCrypt k (j.iv.take 12) (r.2.1.take j.len))).1.mem) ∧
      (r.2.1.drop j.len ≠ gcmTag k (j.iv.take 12) q.2.1 (r.2.1.take j.len) → Ends t id j { status := St.AUTH_FAIL, counts := j.len } ∧
        t.Told Ev.CIPHER_AUTH_FAIL [.v 1 j.inst, .v 2 j.keySlot, .v 1 j.opcode, .v 4 j.len] ∧ Raised t Pg.CIPHER 2 ∧
        (j.len ≤ 65536 → s.locket.based = false → t.mem = q.1.mem))) ∧
  (∀ p ∈ [(Instr.xtsEnc, 3, true), (Instr.xtsDec, 4, false)], ∀ (s : State) id j, Runs s .cipher p.2.1 id j → j.cipherBad = false →
    ∃ t, exec (p.1 id) s = .next t ∧
      (j.len < 16 ∨ (j.len % 2 ^ j.duLog ≠ 0 ∧ j.len % 2 ^ j.duLog < 16) → Ends t id j { status := St.BAD_INPUT }) ∧
      (∀ k k2 r, 16 ≤ j.len → (j.len % 2 ^ j.duLog = 0 ∨ 16 ≤ j.len % 2 ^ j.duLog) → j.keySlot % 2 = 0 → s.keyFor j.keySlot Us.xts = .ok k →
        s.keyFor (j.keySlot + 1) Us.xts = .ok k2 → j.eflag 11 = false → j.eflag 12 = false → r = s.readBytes j.acc j.src j.len → fine r.2.2 = true →
        t.mem = (r.1.writeBytes j.acc j.dst (((chunksOf (2 ^ j.duLog) ((j.len + 2 ^ j.duLog - 1) / 2 ^ j.duLog) r.2.1).zip
          (List.range (chunksOf (2 ^ j.duLog) ((j.len + 2 ^ j.duLog - 1) / 2 ^ j.duLog) r.2.1).length)).flatMap fun e =>
            xtsUnit p.2.2 k k2 (ofLE j.iv + e.2) e.1)).1.mem)) ∧
  (∀ (s : State) id j k r, Runs s .cipher 5 id j → j.cipherBad = false → 0 < j.len → s.keyFor j.keySlot Us.ctr = .ok k → j.eflag 11 = false →
    j.eflag 12 = false → r = s.readBytes j.acc j.src j.len → ∃ t, exec (.ctr id) s = .next t ∧
      (fine (worse St.OK r.2.2) = false → Ends t id j { status := worse St.OK r.2.2 }) ∧
      (fine r.2.2 = true → t.mem = (r.1.writeBytes j.acc j.dst (aesCtr k j.iv r.2.1)).1.mem)) ∧
  (∀ (s : State) id j, Runs s .cipher 0x10 id j → j.cipherBad = false → ∃ t k, exec (.keyGen id) s = .next t ∧
    k = ((List.range 8).flatMap fun i => leBytes 4 (Config.free (s.fresh + i)).toNat) ∧
    t.slot j.keySlot = { key := some k, usage := j.usage % 32, exportable := bitOf j.usage 5 } ∧ t.fresh = s.fresh + 8 ∧
    t.Told Ev.CIPHER_KEY_CHANGED [.v 2 j.keySlot, .v 1 2, .v 4 (kcvOf k)] ∧ Ends t id j { status := St.OK, counts := 2 ^ 32 * kcvOf k }) ∧
  (∀ (s : State) id j, Runs s .cipher 0x13 id j → j.cipherBad = false → ∃ t, exec (.keyClear id) s = .next t ∧ t.slot j.keySlot = {} ∧
    t.Told Ev.CIPHER_KEY_CHANGED [.v 2 j.keySlot, .v 1 4, .v 4 0] ∧ Ends t id j { status := St.OK }) ∧
  (∀ (s : State) id j kek, Runs s .cipher 0x11 id j → j.cipherBad = false → s.keyFor j.kekSlot Us.kek = .ok kek → j.eflag 12 = false →
    ∃ t, exec (.keyWrap id) s = .next t ∧
      ((s.slot j.keySlot).key = none → Ends t id j { status := St.KEY_EMPTY }) ∧
      (∀ k, (s.slot j.keySlot).key = some k → (s.slot j.keySlot).exportable = false → Ends t id j { status := St.LOCKED } ∧ t.mem = s.mem) ∧
      (∀ k, (s.slot j.keySlot).key = some k → (s.slot j.keySlot).exportable = true → t.mem = (s.writeBytes j.acc j.dst (kwWrap kek k)).1.mem)) ∧
  (∀ (s : State) id j kek r, Runs s .cipher 0x12 id j → j.cipherBad = false → s.keyFor j.kekSlot Us.kek = .ok kek → j.eflag 11 = false →
    r = s.readBytes j.acc j.src 40 → fine r.2.2 = true → ∃ t, exec (.keyUnwrap id) s = .next t ∧
      (kwUnwrap kek r.2.1 = none → EndsWith t id j St.AUTH_FAIL ∧ t.cipher = s.cipher ∧ Raised t Pg.CIPHER 2) ∧
      (∀ k, kwUnwrap kek r.2.1 = some k → t.slot j.keySlot = { key := some k, usage := j.usage % 32, exportable := bitOf j.usage 5 } ∧
        t.Told Ev.CIPHER_KEY_CHANGED [.v 2 j.keySlot, .v 1 3, .v 4 (kcvOf k)])) ∧
  (∀ (s : State) master v n k, Accepts s Pg.CIPHER Rg.CIPHER_KEY_CMD master v → v % 4 = 1 → n = s.rf Pg.CIPHER Rg.CIPHER_KEY_SEL 11 0 →
    k = ((List.range 8).flatMap fun i => leBytes 4 (s.rdN Pg.CIPHER (Rg.CIPHER_KEY_DATA + 4 * i))) → ∃ t, exec (.keyCmdLoad master v) s = .next t ∧
      (s.rb Pg.CIPHER Rg.CIPHER_CFG 1 = true → t.cipher = s.cipher ∧ t.rdN Pg.CIPHER Rg.CIPHER_KEY_CMD_STATUS = 256 * St.LOCKED ∧
        t.rb Pg.CIPHER Rg.PAGE_STATUS 0 = true ∧ t.rf Pg.CIPHER Rg.ERR_INFO 23 16 = St.LOCKED) ∧
      (s.rb Pg.CIPHER Rg.CIPHER_CFG 1 = false → t.slot n = {
          key := some k, usage := s.rf Pg.CIPHER Rg.CIPHER_KEY_ATTR 4 0, exportable := s.rb Pg.CIPHER Rg.CIPHER_KEY_ATTR 5 } ∧
        t.rdN Pg.CIPHER Rg.CIPHER_KEY_CMD_STATUS = 256 * St.OK ∧ (∀ i < 8, t.rdN Pg.CIPHER (Rg.CIPHER_KEY_DATA + 4 * i) = 0) ∧
        t.Told Ev.CIPHER_KEY_CHANGED [.v 2 n, .v 1 0, .v 4 (kcvOf k)])) ∧
  (∀ (s : State) master v n, Accepts s Pg.CIPHER Rg.CIPHER_KEY_CMD master v → v % 4 = 2 → n = s.rf Pg.CIPHER Rg.CIPHER_KEY_SEL 11 0 →
    ∃ t, exec (.keyCmdClear master v) s = .next t ∧ t.slot n = {} ∧ (∀ i < 8, t.rdN Pg.CIPHER (Rg.CIPHER_KEY_DATA + 4 * i) = 0) ∧
      t.Told Ev.CIPHER_KEY_CHANGED [.v 2 n, .v 1 1, .v 4 0]) ∧
  (∀ (s : State) master v, Accepts s Pg.CIPHER Rg.CIPHER_NONCE_FLOOR master v → ∃ t, exec (.cipherNonceFloorWrite master v) s = .next t ∧
    t.rdN Pg.CIPHER Rg.CIPHER_NONCE_NEXT = v ∧ t.cipher = { s.cipher with floored := true }) ∧
  (∀ (s : State) master v e, Accepts s Pg.CIPHER Rg.CIPHER_NONCE_GRANT master v → e = s.rf Pg.CIPHER Rg.CIPHER_NONCE_ENG 3 0 →
    ∃ t, exec (.cipherNonceGrantWrite master v) s = .next t ∧
      (s.cipher.floored = false ∨ v < s.rdN Pg.CIPHER Rg.CIPHER_NONCE_NEXT ∨ (s.nonceEng e).pend ≠ none → t.cipher = s.cipher ∧
        t.rf Pg.CIPHER Rg.ERR_INFO 23 16 = St.BAD_INPUT ∧
        t.Told Ev.CIPHER_GRANT_REFUSED [.v 1 e, .v 4 v, .v 4 (s.rdN Pg.CIPHER Rg.CIPHER_NONCE_NEXT)]) ∧
      (s.cipher.floored = true → s.rdN Pg.CIPHER Rg.CIPHER_NONCE_NEXT ≤ v → (s.nonceEng e).pend = none →
        t.rdN Pg.CIPHER Rg.CIPHER_NONCE_NEXT = (v + 1) % 2 ^ 32 ∧
        ((s.nonceEng e).cur ≠ none → t.nonceEng e = { s.nonceEng e with pend := some v }) ∧
        ((s.nonceEng e).cur = none → t.nonceEng e = { cur := some (v, 0) } ∧ t.Told Ev.CIPHER_NONCE_BLOCK_TAKEN [.v 1 e, .v 4 v])))

/-! ### Pleat and Pattern -/
namespace Sys2Proof.Machine

/-- A Pleat job runs whose descriptor is good and whose areas are no gather lists, with input `inp` read and `u` the state after the reading. -/
def Pleats (s : State) (op id : Nat) (j : Job) (u : State) (inp : List Byte) : Prop :=
  Runs s .pleat op id j ∧ j.pleatBad = false ∧ j.eflag 13 = false ∧ j.eflag 14 = false ∧ s.pleatIn j = (u, .ok inp)

/-- The job starts on a free context. -/
def Job.startsNew (s : State) (j : Job) : Prop := j.resume = false ∧ mget s.pleat j.ctx = none

/-- The job has written `out` at dst after state `u`, and where the write succeeded it ends with `status` and `counts`. -/
def GivesOut (u t : State) (id : Nat) (j : Job) (out : List Byte) (status counts : Nat) : Prop :=
  t.mem = (u.writeBytes j.acc j.dst out).1.mem ∧
  ((u.writeBytes j.acc j.dst out).2 = St.OK → Ends t id j { status, counts })

/-- The job's context is free. -/
def CtxFree (t : State) (j : Job) : Prop := mget t.pleat j.ctx = none

/-- A media chunk that fails is counted and recorded, and the job ends with BAD_INPUT (07 R284). -/
def CrcFails (s t : State) (id : Nat) (j : Job) (stored crc detail : Nat) : Prop :=
  (∃ c, Ends t id j { status := St.BAD_INPUT, detail, counts := c }) ∧ t.pleat = s.pleat ∧ Raised t Pg.PLEAT 1 ∧
  t.rdN Pg.PLEAT Rg.PLEAT_CRC_FAIL = satAdd 32 (s.rdN Pg.PLEAT Rg.PLEAT_CRC_FAIL) 1 ∧
  t.Told Ev.PLEAT_CRC_FAIL [.v 2 j.ctx, .v 4 stored, .v 4 crc, .v 1 detail]

/-- Modules that may give a bolt of family `f` a member. -/
def candidates (s : State) (f : Option Nat) : List Nat := s.eligible.filter fun n => !(s.okDies n f).isEmpty

/-- The members that CHOOSE_BOLT chooses, in the order of 12 R492, and whether the zone rule was relaxed. -/
def boltMembers (s : State) (layout stream f : Nat) : List Nat × List Member × Bool :=
  let w := s.layoutK layout + s.layoutM layout
  let c := s.takeModules w (sortBy s.before (candidates s (some f))) w (s.layoutM layout) false
  (c.1, c.1.filterMap fun n => s.pickMember n stream (some f), c.2)

/-- The bolt record's bytes that CHOOSE_BOLT writes (09 R376). -/
def boltRecord (s : State) (layout stream f : Nat) : List Byte :=
  let c := boltMembers s layout stream f
  List.replicate 8 (0 : Byte) ++ leBytes 4 (layout + 2 ^ 16 * stream + 2 ^ 27 * s.headId) ++ List.replicate 8 0 ++
    leBytes 2 (s.stripesOf (c.1.headD 0) f) ++ leBytes 1 f ++ List.replicate 233 0 ++ padTo 256 (c.2.1.flatMap fun y => leBytes 8 y.word)

/-- Of the modules that may replace a member of the bolt whose record is `b`, those whose zone holds fewer than m others, in order. -/
def substitutes (s : State) (b : List Byte) (idx : Nat) : List Nat :=
  let layout := leAt b 8 1 % 8
  let ms := recordMembers b (s.layoutK layout + s.layoutM layout)
  let others := ((ms.zip (List.range ms.length)).filter fun x => x.2 != idx).map fun x => x.1.module
  (sortBy s.before (s.eligible.filter fun n => !(s.okDies n (some (leAt b 22 1))).isEmpty && decide (n ∉ ms.map (·.module)))).filter
    fun n => decide (s.inZone others (s.zone n) < s.layoutM layout)

/-- The members that CHOOSE_COPIES chooses: by used fraction, then distance from the cursor, one in a zone (12 R497). -/
def copyMembers (s : State) (fam : Option Nat) : List Member :=
  let used := fun n => (s.usedIn n, s.blocksIn n)
  let far := fun n => (n + 32 - s.rf Pg.PATTERN Rg.PATTERN_CURSOR 4 0) % 32
  let lt := fun a b => fracLt (used a) (used b) || (!fracLt (used b) (used a) && decide (far a < far b))
  (s.takeCap 3 1 (sortBy lt (candidates s fam))).filterMap fun n => s.pickMember n 3 fam

/-- The blocks of members are in use. -/
def Used (t : State) (l : List Member) : Prop := ∀ y ∈ l, mget t.pat.used (blockKey y.module y.die y.block) = some 1

/-- A choice that no set of modules allows is counted and recorded (12 R492). -/
def NoSet (s t : State) (id : Nat) (j : Job) (layout family cand : Nat) : Prop :=
  Ends t id j { status := St.NOT_READY, counts := chooseCounts cand 0 false } ∧ t.pat = s.pat ∧ Raised t Pg.PATTERN 1 ∧
  t.rdN Pg.PATTERN Rg.PATTERN_NO_SET = satAdd 32 (s.rdN Pg.PATTERN Rg.PATTERN_NO_SET) 1 ∧
  t.Told Ev.PATTERN_NO_SET [.v 1 layout, .v 1 family, .v 4 cand]

/-- A module runs too hot for new members: it is attached, and above 80 °C, or excluded for it and above the rejoin temperature (12 R487). -/
def tooHot (s : State) (n : Nat) : Bool :=
  s.modState n == 4 && (decide (80 < s.hottestOf n) || (s.rb Pg.PATTERN Rg.PATTERN_EXCL_HOT n &&
    decide (sext 8 (s.rf Pg.PATTERN Rg.PATTERN_TEMP_CFG 7 0) < s.hottestOf n)))

end Sys2Proof.Machine

/-- Pleat: contexts, media chunks with and without gain, Zstandard frames and chains, UNPLEAT checks, OUT_FULL and expiry -/
def Obligations.PleatJobs : Prop :=
  (∀ p ∈ ([(fun n => Instr.pleat n [], 1), (Instr.unpleat, 2)] : List ((Nat → Instr) × Nat)), ∀ (s : State) id j, Runs s .pleat p.2 id j →
    ∃ t, exec (p.1 id) s = .next t ∧ (j.pleatBad = true → Ends t id j { status := St.BAD_INPUT } ∧ t.pleat = s.pleat) ∧
      (j.pleatBad = false → j.resume = false → mget s.pleat j.ctx ≠ none → Ends t id j { status := St.LOCKED } ∧ t.pleat = s.pleat) ∧
      (j.pleatBad = false → j.resume = true → mget s.pleat j.ctx = none → Ends t id j { status := St.BAD_INPUT } ∧ t.pleat = s.pleat) ∧
      (∀ c, j.pleatBad = false → j.resume = true → mget s.pleat j.ctx = some c → c.op ≠ j.opcode ∨ c.fmt ≠ j.fmt →
        Ends t id j { status := St.BAD_INPUT } ∧ CtxFree t j)) ∧
  (∀ (s : State) id j u inp out h full gain, Pleats s 1 id j u inp → j.startsNew s → j.media = true → mediaPayloadOk inp out = true →
    h = ({ method := 1, orig := inp.length, stored := out.length, crc := crc32c inp } : MediaHdr) → full = h.bytes ++ out →
    (gain ↔ full.length + u.rf Pg.PLEAT Rg.PLEAT_NO_GAIN_MARGIN 12 0 ≤ inp.length) → ∃ t, exec (.pleat id out) s = .next t ∧
      (gain → full.length ≤ j.outLen → CtxFree t j ∧ GivesOut u t id j full St.OK (pleatCounts j.inLen full.length (crc32c inp) 0)) ∧
      (gain → j.outLen < full.length → t.mem = (u.writeBytes j.acc j.dst (full.take j.outLen)).1.mem ∧
        ((u.writeBytes j.acc j.dst (full.take j.outLen)).2 = St.OK → EndsWith t id j St.OUT_FULL ∧
          ∃ c, mget t.pleat j.ctx = some c ∧ c.pending = full.drop j.outLen ∧ c.stopped = true)) ∧
      (¬gain → 16 ≤ j.outLen → CtxFree t j ∧ GivesOut u t id j { h with method := 0, stored := inp.length }.bytes St.NO_GAIN
        (pleatCounts j.inLen 16 (crc32c inp) 0))) ∧
  (∀ (s : State) id j u inp out, Pleats s 1 id j u inp → j.media = false → out.length ≤ j.outLen → (∃ t, exec (.pleat id out) s = .next t ∧
      (j.startsNew s → j.more = false → zFrameOk out inp j.windowLog j.checksum true = true →
        CtxFree t j ∧ GivesOut u t id j out St.OK (pleatCounts j.inLen out.length (crc32c inp) 0)) ∧
      (j.startsNew s → j.more = true → j.flush = false → GivesOut u t id j out St.OK (pleatCounts j.inLen out.length (crc32c inp) 0) ∧
        ((u.writeBytes j.acc j.dst out).2 = St.OK →
          mget t.pleat j.ctx = some { j.newCtx with chainIn := inp, chainOut := out, check := crc32c inp })) ∧
      (∀ c, j.resume = true → mget s.pleat j.ctx = some c → c.stopped = false → c.op = 1 → c.fmt = j.fmt → c.zparams = j.f 44 2 → j.more = false →
        zFrameOk (c.chainOut ++ out) (c.chainIn ++ inp) j.windowLog j.checksum false = true →
        t.mem = (u.writeBytes j.acc j.dst out).1.mem ∧ CtxFree t j))) ∧
  (∀ (s : State) id j u inp, Pleats s 2 id j u inp → j.startsNew s → j.media = true → ∃ t, exec (.unpleat id) s = .next t ∧
    (mediaHdr inp = none → CrcFails s t id j (leAt inp 12 4) 0 2) ∧
    (∀ h, mediaHdr inp = some h → 16 + h.stored ≤ inp.length →
      (j.outLimit ≠ 0 → j.outLimit < h.orig → EndsWith t id j St.OUT_LIMIT ∧ t.mem = u.mem ∧ t.pleat = s.pleat) ∧
      (j.outLimit = 0 ∨ h.orig ≤ j.outLimit →
        (mediaBody h ((inp.drop 16).take h.stored) = none → CrcFails s t id j h.crc 0 4 ∧ (s.locket.based = false → t.mem = u.mem)) ∧
        (∀ o, mediaBody h ((inp.drop 16).take h.stored) = some o → crc32c o ≠ h.crc →
          CrcFails s t id j h.crc (crc32c o) 1 ∧ (s.locket.based = false → t.mem = u.mem)) ∧
        (∀ o, mediaBody h ((inp.drop 16).take h.stored) = some o → crc32c o = h.crc → o.length ≤ j.outLen →
          CtxFree t j ∧ GivesOut u t id j o St.OK (pleatCounts inp.length o.length h.crc h.crc))))) ∧
  (∀ (s : State) id j u inp z, Pleats s 2 id j u inp → j.startsNew s → j.media = false → z = zDecode inp → ∃ t, exec (.unpleat id) s = .next t ∧
    (z.err ≠ 0 → EndsWith t id j St.BAD_INPUT ∧ t.mem = u.mem ∧ t.pleat = s.pleat) ∧
    (z.err = 0 → z.out.length ≤ j.outLen → (j.outLimit = 0 ∨ z.out.length ≤ j.outLimit) →
      CtxFree t j ∧ GivesOut u t id j z.out St.OK (pleatCounts inp.length z.out.length z.xxh z.stored)) ∧
    (z.err = 0 → j.outLimit ≠ 0 → j.outLimit < z.out.length → j.outLimit ≤ j.outLen →
      CtxFree t j ∧ GivesOut u t id j (z.out.take j.outLimit) St.OUT_LIMIT (pleatCounts inp.length (min j.outLimit z.out.length) z.xxh z.stored))) ∧
  (∀ (s : State) id j c, Runs s .pleat 2 id j → j.pleatBad = false → j.eflag 13 = false → j.eflag 14 = false → j.resume = true → j.media = true →
    mget s.pleat j.ctx = some c → c.stopped = true → c.op = 2 → c.fmt = j.fmt → c.zparams = j.f 44 2 → c.flags = (j.f 0 2 / 2 ^ 10) % 4 →
    c.pending.length ≤ j.outLen → c.final = St.OK → ∃ t, exec (.unpleat id) s = .next t ∧ CtxFree t j ∧
      GivesOut s t id j c.pending St.OK (pleatCounts j.inLen c.pending.length c.check c.stored)) ∧
  (∀ (s : State) n c, s.alive = true → mget s.pleat n = some c → ∃ t, exec (.pleatCtxExpiry n) s = .next t ∧ (c.stopped = false → t = s) ∧
    (c.stopped = true → mget t.pleat n = none ∧ t.Told Ev.PLEAT_CTX_EXPIRED [.v 2 n, .v 4 c.consumed, .v 4 c.produced] ∧ Raised t Pg.PLEAT 0 ∧
      t.rdN Pg.PLEAT Rg.PLEAT_CTX_EXPIRED = satAdd 32 (s.rdN Pg.PLEAT Rg.PLEAT_CTX_EXPIRED) 1))

/-- Pattern: bolts, substitutes and copies chosen, eligibility evaluated, shares recomputed, PATTERN_BLOCK_USE -/
def Obligations.PatternChoices : Prop :=
  (∀ (s : State) id j layout, Runs s .pattern 1 id j → layout = j.f 12 1 → ∃ t, exec (.chooseBolt id) s = .next t ∧
    (s.layoutOk layout = false ∨ s.badFamily j = true ∨ j.f 16 8 % 64 ≠ 0 → Ends t id j { status := St.BAD_INPUT } ∧ t.pat = s.pat) ∧
    (∀ f cand w, s.layoutOk layout = true → s.badFamily j = false → j.f 16 8 % 64 = 0 → f = s.familyOf j → cand = (candidates s (some f)).length →
      w = s.layoutK layout + s.layoutM layout →
      (cand < w → NoSet s t id j layout f cand) ∧
      (∀ c q, w ≤ cand → c = boltMembers s layout (j.f 13 1) f → q = s.writeBytes j.acc (j.f 16 8) (boltRecord s layout (j.f 13 1) f) →
        (q.2 ≠ St.OK → Ends t id j { status := q.2 } ∧ t.pat = s.pat) ∧
        (q.2 = St.OK → Ends t id j { status := St.OK, counts := chooseCounts cand (s.worstZone c.1) c.2.2 } ∧ Used t c.2.1 ∧
          t.rf Pg.PATTERN Rg.PATTERN_CURSOR 4 0 = (s.rf Pg.PATTERN Rg.PATTERN_CURSOR 4 0 + 1) % 32 ∧
          t.rdN Pg.PATTERN Rg.PATTERN_BOLTS_CHOSEN = (s.rdN Pg.PATTERN Rg.PATTERN_BOLTS_CHOSEN + 1) % 2 ^ 32 ∧
          (c.2.2 = false → t.mem = q.1.mem) ∧
          (c.2.2 = true → Raised t Pg.PATTERN 2 ∧ t.Told Ev.PATTERN_ZONE_RELAXED [.v 1 layout, .v 1 (s.worstZone c.1), .v 4 cand]))))) ∧
  (∀ (s : State) id j r layout w, Runs s .pattern 2 id j → r = s.readBytes j.acc (j.f 24 8) 512 → layout = leAt r.2.1 8 1 % 8 →
    w = r.1.layoutK layout + r.1.layoutM layout → ∃ t, exec (.chooseSubst id) s = .next t ∧
    (fine r.2.2 = false → Ends t id j { status := r.2.2 }) ∧
    (fine r.2.2 = true → r.1.layoutOk layout = false ∨ w ≤ j.f 15 1 ∨ j.f 16 8 % 64 ≠ 0 → Ends t id j { status := St.BAD_INPUT } ∧ t.pat = s.pat) ∧
    (∀ n l y q, fine r.2.2 = true → r.1.layoutOk layout = true → j.f 15 1 < w → j.f 16 8 % 64 = 0 → substitutes r.1 r.2.1 (j.f 15 1) = n :: l →
      r.1.pickMember n (leAt r.2.1 10 1) (some (leAt r.2.1 22 1)) = some y →
      q = r.1.writeBytes j.acc (j.f 16 8) (leBytes 8 (y.word + 2 ^ 40 + 2 ^ 56 * j.f 15 1)) → t.mem = q.1.mem ∧
      (fine q.2 = true → EndsWith t id j St.OK ∧ Used t [y] ∧ y.module = n)) ∧
    (fine r.2.2 = true → r.1.layoutOk layout = true → j.f 15 1 < w → j.f 16 8 % 64 = 0 → s.rdN Pg.PATTERN Rg.PATTERN_ELIGIBLE = 0 →
      NoSet s t id j layout (leAt r.2.1 22 1) 0)) ∧
  (∀ (s : State) id j fam, Runs s .pattern 3 id j → fam = (if j.f 14 1 = 0xFF then none else some (j.f 14 1)) →
    ∃ t, exec (.chooseCopies id) s = .next t ∧
    (s.badFamily j = true ∨ j.f 16 8 % 64 ≠ 0 → Ends t id j { status := St.BAD_INPUT } ∧ t.pat = s.pat) ∧
    (s.badFamily j = false → j.f 16 8 % 64 = 0 →
      ((copyMembers s fam).length < 3 → NoSet s t id j (j.f 12 1) (j.f 14 1) (candidates s fam).length) ∧
      (∀ l q, l = copyMembers s fam → 3 ≤ l.length → q = s.writeBytes j.acc (j.f 16 8) (l.flatMap fun y => leBytes 8 y.word) →
        l.length = 3 ∧ (l.map fun y => s.zone y.module).Nodup ∧ (∀ y ∈ l, y.module ∈ s.eligible ∧ y.die ∈ s.okDies y.module fam) ∧ t.mem = q.1.mem ∧
        (fine q.2 = true → Used t l ∧ Ends t id j { status := St.OK, counts := chooseCounts (candidates s fam).length 1 false })))) ∧
  (∀ (s : State), s.alive = true → ∃ t, exec .eligibilityChange s = .next t ∧ OnlyParts [.regs, .cells, .lines, .locket, .wake] s t ∧
    (∀ n < 32, t.rb Pg.PATTERN Rg.PATTERN_EXCL_HOT n = tooHot s n ∧ t.rb Pg.PATTERN Rg.PATTERN_ELIGIBLE n =
      (s.modState n == 4 && !tooHot s n && !s.rb (stPage n) Rg.STITCH_MOD_STATUS 12 (n % 8) && !s.rb Pg.QUILT Rg.QUILT_DRAIN_MASK n &&
        !(s.okDies n none).isEmpty)) ∧
    (t.rdN Pg.PATTERN Rg.PATTERN_ELIGIBLE ≠ s.rdN Pg.PATTERN Rg.PATTERN_ELIGIBLE → Raised t Pg.PATTERN 0)) ∧
  (∀ (s : State) a b c d pc rb, s.alive = true → pc = (fun x => 100 * x / (a + b + c + d)) →
    rb = (if s.rdN Pg.QUILT Rg.QUILT_MOD_REBUILDING = 0 then 0 else s.rf Pg.QUILT Rg.QUILT_REBUILD_FLOOR 6 0) →
    ∃ t, exec (.shareRecompute a b c d) s = .next t ∧
      (0 < a + b + c + d → t.rdN Pg.PATTERN Rg.PATTERN_SHARE_NOW = pc a + 2 ^ 8 * pc b + 2 ^ 16 * pc c + 2 ^ 24 * pc d) ∧
      (∀ hi, hi = s.rf Pg.PATTERN Rg.PATTERN_GC_SHARE 14 8 → s.rf Pg.PATTERN Rg.PATTERN_GC_SHARE 6 0 ≤ hi → hi ≤ 100 - rb →
        0 < s.rf Pg.MAPPER Rg.MAPPER_GC_CFG 9 0 → s.freeBolts = 0 →
        t.pat.weights = [(100 - rb) * t.pat.weightDen - hi * t.pat.weightDen, hi * t.pat.weightDen, rb * t.pat.weightDen]) ∧
      (s.rf Pg.MAPPER Rg.MAPPER_GC_CFG 9 0 ≤ s.freeBolts → s.gcWork = false →
        t.pat.weights = [(100 - rb) * t.pat.weightDen, 0, rb * t.pat.weightDen]) ∧
      (s.rf Pg.MAPPER Rg.MAPPER_GC_CFG 9 0 ≤ s.freeBolts → s.gcWork = true → s.rf Pg.PATTERN Rg.PATTERN_GC_SHARE 6 0 ≤ 100 - rb →
        t.pat.weights = [(100 - rb) * t.pat.weightDen - s.rf Pg.PATTERN Rg.PATTERN_GC_SHARE 6 0 * t.pat.weightDen,
          s.rf Pg.PATTERN Rg.PATTERN_GC_SHARE 6 0 * t.pat.weightDen, rb * t.pat.weightDen])) ∧
  (∀ (s : State) master v, Accepts s Pg.PATTERN Rg.PATTERN_BLOCK_USE master v → ∃ t, exec (.patternBlockUseWrite master v) s = .next t ∧
    (bitOf v 0 = true → s.rb Pg.STITCH Rg.STITCH_ROLE_HELD 0 = false ∨ s.rb Pg.STITCH Rg.STITCH_ROLE_HELD 1 = false →
      t.rdN Pg.PATTERN Rg.PATTERN_BLOCK_USE = s.rdN Pg.PATTERN Rg.PATTERN_BLOCK_USE ∧ t.rf Pg.PATTERN Rg.ERR_INFO 23 16 = St.BAD_INPUT) ∧
    (bitOf v 0 = false ∨ (s.rb Pg.STITCH Rg.STITCH_ROLE_HELD 0 = true ∧ s.rb Pg.STITCH Rg.STITCH_ROLE_HELD 1 = true) →
      t = stored s Pg.PATTERN Rg.PATTERN_BLOCK_USE v))

/-! ### Quilt -/
namespace Sys2Proof.Machine

/-- The job's list of `w` buffers reads, and `g` is what reading the ranges that `wanted` picks gives, with no access refused. -/
def Gathers (s : State) (j : Job) (w off : Nat) (wanted : Nat → Bool) (addrs : List Nat) (g : Gather) : Prop :=
  ∃ u, s.buffers j w = (u, .ok addrs) ∧ g = u.gather j addrs off wanted ∧ g.hard = none

/-- The patches of a stripe that were read, and where their syndromes, the checks recomputed against those stored, stand. -/
def syndromes (j : Job) (bufs : List (Option (List Byte))) : List (List Byte) :=
  (checksOf j.qm j.qlen ((bufs.map (·.getD [])).take j.qk)).zipWith xorB ((bufs.map (·.getD [])).drop j.qk)

/-- A command of QUILT_RESHAPE_CMD is accepted. -/
def Reshapes (s : State) (master v c : Nat) : Prop := Accepts s Pg.QUILT Rg.QUILT_RESHAPE_CMD master v ∧ bits v 1 0 = c

/-- The command's code shows, and what it had to do with the reshape is nothing. -/
def ReshapeRefused (s t : State) (code : Nat) : Prop :=
  t.rf Pg.QUILT Rg.QUILT_RESHAPE_STATUS 15 8 = code ∧ t.reshape = s.reshape ∧ t.quilt = s.quilt ∧ t.map = s.map

end Sys2Proof.Machine

/-- Quilt: ENCODE, RECONSTRUCT, VERIFY with its verdicts, RESOLVE, dirty maps, resynchronisation -/
def Obligations.QuiltJobs : Prop :=
  (∀ p ∈ [(Instr.encode, 1), (Instr.reconstruct, 2), (Instr.verify, 3)], ∀ (s : State) id j, Runs s .quilt p.2 id j → j.qlayout = false →
    ∃ t, exec (p.1 id) s = .next t ∧ Ends t id j { status := St.BAD_INPUT } ∧ t.mem = s.mem) ∧
  (∀ (s : State) id j addrs g outs, Runs s .quilt 1 id j → j.qlayout = true →
    Gathers s j (j.qk + j.qm) j.qoff (fun i => decide (i < j.qk)) addrs g →
    outs = ((List.range j.qm).map fun i => addrs.getD (j.qk + i) 0 + j.qoff) → ∃ t, exec (.encode id) s = .next t ∧
      (none ∉ g.bufs.take j.qk → t.mem = (g.st.putOuts j (outs.zip (checksOf j.qm j.qlen ((g.bufs.take j.qk).map (·.getD [])))) g.status).1.mem ∧
        ∃ r, Ends t id j r ∧ r.counts = j.qlen) ∧
      (none ∈ g.bufs.take j.qk → t.mem = (outs.foldl (fun s a => s.putPoison j a j.qlen) g.st).mem ∧
        Ends t id j { status := St.POISON, counts := j.qlen })) ∧
  (∀ (s : State) id j, Runs s .quilt 2 id j → j.qlayout = true → popCount 32 j.qmask ≤ j.qm → j.qmask < 2 ^ (j.qk + j.qm) →
    (s.noSource j.qbolt j.qstripe = true ∨ s.stripeDirty j.qbolt j.qstripe = true →
      ∃ t, exec (.reconstruct id) s = .next t ∧ Ends t id j { status := St.LOCKED } ∧ t.mem = s.mem) ∧
    (∀ addrs g e outs, s.noSource j.qbolt j.qstripe = false → s.stripeDirty j.qbolt j.qstripe = false →
      Gathers s j (j.qk + j.qm) j.qoff (fun i => !bitOf j.qmask i) addrs g → e = maskOf g.bufs → outs = setBitsOf 32 j.qmask →
      ∃ t, exec (.reconstruct id) s = .next t ∧
        (popCount 32 e ≤ j.qm → t.mem = (g.st.putOuts j (outs.map fun i => (addrs.getD i 0 + j.qoff,
            (recover j.qk j.qm j.qlen g.bufs).getD i [])) g.status).1.mem ∧
          ∃ r, Ends t id j r ∧ r.counts = (if outs = [] then 0 else j.qlen) + 2 ^ 32 * e) ∧
        (j.qm < popCount 32 e → t.mem = (outs.foldl (fun s i => s.putPoison j (addrs.getD i 0 + j.qoff) j.qlen) g.st).mem ∧
          EndsWith t id j St.POISON))) ∧
  (∀ (s : State) id j addrs g sy v w, Runs s .quilt 3 id j → j.qlayout = true → Gathers s j (j.qk + j.qm) j.qoff (fun _ => true) addrs g →
    none ∉ g.bufs → sy = syndromes j g.bufs → v = verdictOf j.qk j.qm (g.st.stripeDirty j.qbolt j.qstripe) sy →
    w = g.st.putOut j (addrs.getD v.2 0 + j.qoff)
      (xorB ((g.bufs.getD v.2 none).getD []) (if v.1 = 2 then sy.getD (v.2 - j.qk) [] else sy.getD 0 [])) →
    ∃ t, exec (.verify id) s = .next t ∧
      (v.1 ≤ 1 → EndsWith t id j (worse g.status St.OK) ∧ t.mem = g.st.mem ∧ t.quilt = s.quilt) ∧
      (v.1 = 2 → (s.locket.based = false → t.mem = w.1.mem) ∧ (j.qbolt, j.qstripe) ∈ t.quilt.unprot ∧
        t.Told Ev.QUILT_CHECK_FIXED [.v 8 j.qbolt, .v 4 j.qstripe, .v 1 v.2] ∧ (w.2 = St.OK → EndsWith t id j St.CHECK_ONLY_FIXED)) ∧
      (v.1 = 3 → (s.locket.based = false → t.mem = w.1.mem) ∧ (j.qbolt, j.qstripe) ∈ t.quilt.unprot ∧
        t.Told Ev.QUILT_DATA_FIXED [.v 8 j.qbolt, .v 4 j.qstripe, .v 1 v.2] ∧ (w.2 = St.OK → ∃ r, Ends t id j r ∧ fine r.status = true)) ∧
      (v.1 = 4 → t.stripeFrozen j.qbolt j.qstripe = true ∧ EndsWith t id j St.DIVERGENT ∧ Raised t Pg.QUILT 2)) ∧
  (∀ k m sy, (∀ j < m, ∀ b ∈ sy.getD j [], b = 0) → ∀ dirty, verdictOf k m dirty sy = (0, 0)) ∧
  (∀ k m sy, (∃ j < m, ∃ b ∈ sy.getD j [], b ≠ 0) → verdictOf k m true sy = (1, 0)) ∧
  (∀ k m sy j, j < m → (∃ b ∈ sy.getD j [], b ≠ 0) → (∀ i < m, i ≠ j → ∀ b ∈ sy.getD i [], b = 0) → verdictOf k m false sy = (2, k + j)) ∧
  (∀ (s : State) id j, Runs s .quilt 4 id j →
    (j.qk < 2 ∨ 5 < j.qk ∨ j.qrange 0 = false ∨ 2 ^ j.qk ≤ j.qmask → ∃ t, exec (.resolve id) s = .next t ∧ Ends t id j { status := St.BAD_INPUT }) ∧
    (∀ addrs g l v, 2 ≤ j.qk → j.qk ≤ 5 → j.qrange 0 = true → j.qmask < 2 ^ j.qk → Gathers s j j.qk 0 (fun i => !bitOf j.qmask i) addrs g →
      l = ((g.bufs.zip (List.range j.qk)).filterMap fun x => x.1.map fun b => (x.2, b)) → v = Machine.resolve l →
      ∃ t, exec (.resolve id) s = .next t ∧ (l = [] → Ends t id j { status := St.POISON }) ∧
        (l ≠ [] → v.1 ≠ 3 → Ends t id j { status := g.status, counts := 2 ^ 64 * v.1 + 2 ^ 67 * v.2 }) ∧
        (l ≠ [] → v.1 = 3 → EndsWith t id j St.DIVERGENT ∧ t.Told Ev.QUILT_DIVERGENT [.v 8 j.qlist, .v 4 0] ∧ Raised t Pg.QUILT 2))) ∧
  (∀ l c, c ∈ l → (∀ d ∈ l, d.2 = c.2) → (Machine.resolve l).1 = 0) ∧
  (∀ l c, l.Nodup → c ∈ l → (∃ d ∈ l, d.2 ≠ c.2) → (∀ d ∈ l, d ≠ c → copyRank d.2 < copyRank c.2) → Machine.resolve l = (1, c.1)) ∧
  (∀ (s : State) id j b r, Runs s .quilt 0x10 id j → b = j.qbolt → r = j.f 14 1 → ∃ t, exec (.dirtySet id) s = .next t ∧
    (63 < r → Ends t id j { status := St.BAD_INPUT } ∧ t.quilt = s.quilt) ∧
    (r ≤ 63 → mget s.quilt.acks id = none → mget s.quilt.dirty b = none → 512 ≤ s.quilt.dirty.length →
      Ends t id j { status := St.NOT_READY } ∧ t.quilt = s.quilt) ∧
    (r ≤ 63 → mget s.quilt.acks id = none → (mget s.quilt.dirty b ≠ none ∨ s.quilt.dirty.length < 512) →
      mget t.quilt.dirty b = some (mgetD 0 s.quilt.dirty b ||| 2 ^ r) ∧ (s.pairState ≠ 3 → Ends t id j { status := St.OK }) ∧
      (s.pairState = 3 → mget t.eng.jobs id = some j ∧ mget t.quilt.acks id = some (b, r) ∧ Sent t (.seam (1 + b % 16) 3 [b, r, 1])))) ∧
  (∀ (s : State) id j, s.alive = true → mget s.eng.jobs id = some j → mget s.quilt.acks id ≠ none →
    ∃ t, exec (.dirtySetMirrorAck id) s = .next t ∧ Ends t id j { status := St.OK } ∧ mget t.quilt.acks id = none) ∧
  (∀ (s : State) b r set, s.alive = true → r < 64 → ∃ t, exec (.dirtyMapMirror b r set) s = .next t ∧
    bitOf (mgetD 0 t.quilt.mirror b) r = set ∧ (∀ q, q ≠ r → bitOf (mgetD 0 t.quilt.mirror b) q = bitOf (mgetD 0 s.quilt.mirror b) q) ∧
    (set = true → Sent t (.seam (1 + b % 16) 4 [b, r]))) ∧
  (∀ (s : State) id j r, Runs s .quilt 0x11 id j → r = j.f 14 1 → ∃ t, exec (.dirtyClear id) s = .next t ∧
    (63 < r → Ends t id j { status := St.BAD_INPUT } ∧ t.quilt = s.quilt) ∧
    (r ≤ 63 → Ends t id j { status := St.OK } ∧ bitOf (mgetD 0 t.quilt.dirty j.qbolt) r = false ∧
      ∀ q, q ≠ r → bitOf (mgetD 0 t.quilt.dirty j.qbolt) q = bitOf (mgetD 0 s.quilt.dirty j.qbolt) q)) ∧
  (∀ (s : State) b r un lost, s.alive = true → bitOf (mgetD 0 s.quilt.resync b) r = true → ∃ t, exec (.resynchronisation b r un lost) s = .next t ∧
    bitOf (mgetD 0 t.quilt.resync b) r = false ∧ bitOf (mgetD 0 t.quilt.dirty b) r = false ∧
    (∀ x ∈ un, s.regionOf b x = r → (b, x) ∈ t.quilt.unprot) ∧
    (t.quilt.resync = [] → t.quilt.settled = 0 ∧ t.Told Ev.QUILT_RESYNC_DONE [.v 4 (s.quilt.settled + 1),
      .v 4 (s.quilt.unsettled + (un.filter fun x => s.regionOf b x == r).length), .v 4 ((s.gts - s.quilt.resyncSince) / 1000000)]))

/-- Quilt: reshape commands and boundary, rebuilds begun and ended, UNFREEZE, the drain mask, layouts -/
def Obligations.QuiltReshapeAndRebuild : Prop :=
  (∀ (s : State) master v kind lay, Reshapes s master v 1 → kind = s.rf Pg.QUILT Rg.QUILT_RESHAPE_CFG 5 4 → lay = s.rf Pg.QUILT Rg.QUILT_RESHAPE_CFG 2 0 →
    ∃ t, exec (.reshapeStart master v) s = .next t ∧ (s.reshape ≠ 0 → ReshapeRefused s t St.LOCKED) ∧
      (s.reshape = 0 → (kind = 1 ∧ s.rdN Pg.QUILT Rg.QUILT_DRAIN_MASK = 0) ∨ (kind = 0 ∧ s.layoutOk lay = false) → ReshapeRefused s t St.BAD_INPUT) ∧
      (s.reshape = 0 → s.map.nextBolt < 2 ^ 63 → (kind = 1 → s.rdN Pg.QUILT Rg.QUILT_DRAIN_MASK ≠ 0) → (kind = 0 → s.layoutOk lay = true) →
        t.rf Pg.QUILT Rg.QUILT_RESHAPE_STATUS 15 8 = St.OK ∧ t.target = s.map.nextBolt - 1 ∧ t.quilt.kind = kind ∧ t.quilt.since = s.gts ∧
        (kind = 0 → t.rf Pg.QUILT Rg.QUILT_WRITE_LAYOUT 2 0 = lay) ∧
        (s.map.bolts = [] → t.reshape = 0 ∧ Raised t Pg.QUILT 1 ∧ t.Told Ev.QUILT_RESHAPE_DONE [.v 1 kind, .v 4 0, .v 4 0]) ∧
        (kind = 0 → (∃ e ∈ s.map.bolts, e.1 < s.map.nextBolt ∧ e.2.st ∈ [1, 2, 3] ∧ e.2.layout ≠ lay) →
          t.reshape = 1 ∧ t.quilt.vault = some (kind, lay, t.bound, t.target)))) ∧
  (∀ (s : State) master v, Reshapes s master v 2 → ∃ t, exec (.reshapePause master v) s = .next t ∧
    (s.reshape ∈ [1, 2] → t.reshape = 3 ∧ t.rf Pg.QUILT Rg.QUILT_RESHAPE_STATUS 15 8 = St.OK ∧
      t.quilt.vault = some (s.quilt.kind, s.quilt.layout, s.bound, s.target) ∧ t.Told Ev.QUILT_RESHAPE_HELD [.v 8 s.bound, .v 1 1]) ∧
    (s.reshape ∉ [1, 2] → ReshapeRefused s t St.LOCKED)) ∧
  (∀ (s : State) master v, Reshapes s master v 3 → ∃ t, exec (.reshapeResume master v) s = .next t ∧
    (s.reshape ≠ 3 → ReshapeRefused s t St.LOCKED) ∧
    (s.reshape = 3 → t.rf Pg.QUILT Rg.QUILT_RESHAPE_STATUS 15 8 = St.OK ∧ (s.rdN Pg.QUILT Rg.QUILT_MOD_REBUILDING ≠ 0 → t.reshape = 2) ∧
      (s.rdN Pg.QUILT Rg.QUILT_MOD_REBUILDING = 0 → s.quilt.kind ≠ 2 → (∃ e ∈ s.map.bolts, s.inScope e.1 e.2 = true) → t.reshape = 1))) ∧
  (∀ (s : State) b peer, s.alive = true → s.reshape = 1 → s.bound ≤ b → b ≤ s.target → s.target < 2 ^ 63 → (∀ x, s.bolt b = some x → x.st = 4) →
    ∃ t, exec (.reshapeBoltEmptied b peer) s = .next t ∧ t.quilt.emptied = s.quilt.emptied + 1 ∧ t.bound = s.newBound ∧
      (s.target < s.newBound → t.reshape = 0 ∧ Raised t Pg.QUILT 1) ∧ (s.newBound ≤ s.target → s.quilt.kind ≠ 2 → t.reshape = 1) ∧
      (s.map.bolts = [] → ∀ n < 32, t.rb Pg.QUILT Rg.QUILT_MOD_DRAINED n =
        (s.rb Pg.QUILT Rg.QUILT_DRAIN_MASK n && (bitOf peer n || s.rb Pg.QUILT Rg.QUILT_MOD_DRAINED n)))) ∧
  (∀ (s : State) n, s.alive = true → n < 32 → s.modFailed n = true → s.rb Pg.QUILT Rg.QUILT_MOD_REBUILDING n = false →
    ∃ t, exec (.rebuildStart n) s = .next t ∧ t.rb Pg.QUILT Rg.QUILT_MOD_REBUILDING n = true ∧ mget t.quilt.rebuilds n = some { since := s.gts } ∧
      (∀ e ∈ s.boltsOn n, s.validBytes e.1 * 100 < s.rf Pg.QUILT Rg.QUILT_REBUILD_FLOOR 15 8 * (s.layoutK e.2.layout * 65536 * e.2.stripes) →
        (2, e.1, none) ∈ t.map.gc) ∧
      (s.reshape = 1 → t.reshape = 2 ∧ t.Told Ev.QUILT_RESHAPE_HELD [.v 8 s.bound, .v 1 0]) ∧ (s.reshape ≠ 1 → t.reshape = s.reshape)) ∧
  (∀ (s : State) n r, s.alive = true → n < 32 → s.rb Pg.QUILT Rg.QUILT_MOD_REBUILDING n = true → s.boltsOn n = [] → r = mgetD {} s.quilt.rebuilds n →
    ∃ t, exec (.rebuildEnd n) s = .next t ∧ t.rb Pg.QUILT Rg.QUILT_MOD_REBUILDING n = false ∧ mget t.quilt.rebuilds n = none ∧ Raised t Pg.QUILT 0 ∧
      (s.reshape ≠ 2 → t.reshape = s.reshape ∧
        t.Told Ev.QUILT_REBUILD_DONE [.v 1 n, .v 8 r.stripes, .v 4 r.emptied, .v 4 ((s.gts - r.since) / 1000000000)]) ∧
      (s.reshape = 2 → t.rdN Pg.QUILT Rg.QUILT_MOD_REBUILDING ≠ 0 → t.reshape = 2)) ∧
  (∀ (s : State) master v b, Accepts s Pg.QUILT Rg.QUILT_UNFREEZE_HI master v → b = s.rdN Pg.QUILT Rg.QUILT_UNFREEZE_LO + 2 ^ 32 * v →
    ∃ t, exec (.quiltUnfreeze master v) s = .next t ∧ b ∉ t.quilt.frozenBolts ∧ (∀ x, (b, x) ∉ t.quilt.frozen) ∧
      (∀ x ∈ s.quilt.frozen, (x.1 = b → x ∈ t.quilt.unprot) ∧ (x.1 ≠ b → x ∈ t.quilt.frozen)) ∧ ∀ y, t.bolt b = some y → y.frozen = false) ∧
  (∀ (s : State) master v m, Accepts s Pg.QUILT Rg.QUILT_DRAIN_MASK master v →
    m = (stored s Pg.QUILT Rg.QUILT_DRAIN_MASK v).rdN Pg.QUILT Rg.QUILT_DRAIN_MASK → ∃ t, exec (.quiltDrainMaskWrite master v) s = .next t ∧
      t.rdN Pg.QUILT Rg.QUILT_DRAIN_MASK = m ∧ t.rdN Pg.QUILT Rg.QUILT_MOD_DRAINED = s.rdN Pg.QUILT Rg.QUILT_MOD_DRAINED &&& m ∧
      (∀ n < 32, t.rb Pg.PATTERN Rg.PATTERN_ELIGIBLE n = (s.rb Pg.PATTERN Rg.PATTERN_ELIGIBLE n && !bitOf m n)) ∧
      (s.rdN Pg.PATTERN Rg.PATTERN_ELIGIBLE &&& m ≠ 0 → Raised t Pg.PATTERN 0)) ∧
  (∀ (s : State) master v k m l, Accepts s Pg.QUILT Rg.QUILT_LAYOUT master v → k = bits v 4 0 → m = bits v 6 5 →
    l = s.shown Pg.QUILT Rg.QUILT_LAYOUT → ∃ t, exec (.quiltLayoutWrite master v) s = .next t ∧
      (s.rb Pg.QUILT Rg.QUILT_LAYOUT 7 l = true ∨ k < 4 ∨ 30 < k ∨ m < 2 ∨ 32 < k + m →
        t.rdN Pg.QUILT Rg.QUILT_LAYOUT l = s.rdN Pg.QUILT Rg.QUILT_LAYOUT l ∧ t.rf Pg.QUILT Rg.ERR_INFO 23 16 = St.BAD_INPUT) ∧
      (s.rb Pg.QUILT Rg.QUILT_LAYOUT 7 l = false → 4 ≤ k → k ≤ 30 → 2 ≤ m → k + m ≤ 32 → t = stored s Pg.QUILT Rg.QUILT_LAYOUT v)) ∧
  (∀ (s : State) master v, Accepts s Pg.QUILT Rg.QUILT_WRITE_LAYOUT master v → ∃ t, exec (.quiltWriteLayoutWrite master v) s = .next t ∧
    (s.layoutOk (bits v 2 0) = false → t.rdN Pg.QUILT Rg.QUILT_WRITE_LAYOUT = s.rdN Pg.QUILT Rg.QUILT_WRITE_LAYOUT ∧
      t.rf Pg.QUILT Rg.ERR_INFO 23 16 = St.BAD_INPUT) ∧
    (s.layoutOk (bits v 2 0) = true → t = stored s Pg.QUILT Rg.QUILT_WRITE_LAYOUT v))

/-! ### The Mapper -/
namespace Sys2Proof.Machine

/-- Namespace `n` is `x`, a block namespace with an empty map and no snapshot, in NORMAL map mode; its tree has a size R366 gives, and there
are page numbers left. -/
def EmptyMap (s : State) (n : Nat) (x : Ns) : Prop :=
  s.nsp n = some x ∧ x.kv = false ∧ x.top = none ∧ x.snapOf = none ∧ x.snaps = [] ∧ x.levels ≤ 3 ∧ s.mapMode = 0 ∧ s.map.pages.length < 2 ^ 29

/-- A recording job of this head starts on it, and one update of grain `g` need not wait (09 R363, R380). -/
def MayRecord (s : State) (id n g seq : Nat) (x : Ns) : Prop :=
  s.domOwned x.domain = true ∧ g < x.grains ∧ mget s.map.recs id = none ∧ (∀ w ∈ s.map.order, w.job ≠ id) ∧ s.orderUsed < 2097152 ∧
  s.cacheDirty = false ∧ s.blocked n g seq = false

/-- The commands that record into block namespaces, each with its opcode and the kind of the entry it makes. -/
def clears : List ((Nat → Instr) × Nat × Nat) := [(Instr.dealloc, 3, 0), (Instr.mapperZero, 4, 2)]

/-- A bolt that GC may empty is being emptied, or, with no valid chunk left, erased (09 R377). -/
def Emptied (t : State) (b : Nat) : Prop := ∃ y, t.bolt b = some y ∧ (y.st = 3 ∨ y.st = 4)

/-- Nothing of the Mapper's part has changed. -/
def SameMap (s t : State) : Prop := t.map = s.map

end Sys2Proof.Machine

/-- Mapper: lookups, RECORD, DEALLOC and ZERO, the ordering table, chunk records, relocation, bolts, RECOUNT -/
def Obligations.MapperRecording : Prop :=
  (∀ (s : State) id j bad q w, Runs s .mapper 1 id j → j.mlistOk = true → j.mcount = 1 → (∃ x, s.nsp j.mns = some x ∧ x.kv = false ∧ j.mfirst < x.grains) →
    q = s.lookupBytes bad j.mns j.mfirst → w = q.1.writeBytes j.acc j.mlist q.2.1 → ∃ t, exec (.mapLookup id bad) s = .next t ∧ t.mem = w.1.mem ∧
      (q.2.2.1 = St.OK → w.2 = St.OK → Ends t id j { status := St.OK, counts := mapCounts 1 0 q.2.2.2 0 })) ∧
  (∀ (s : State) bad n g q e, q = s.lookupGrain bad n g → q.2.1 = .ok e → e.kind ≠ 1 → (s.lookupBytes bad n g).2.1 = padTo 64 e.bytes) ∧
  (∀ (s : State) id j bad, Runs s .mapper 1 id j → s.nsp j.mns = none ∨ j.mlistOk = false →
    ∃ t, exec (.mapLookup id bad) s = .next t ∧ Ends t id j { status := St.BAD_INPUT }) ∧
  (∀ (s : State) id j x b, Runs s .mapper 2 id j → j.mlistOk = true → s.nsp j.mns = some x → ∃ t, exec (.record id) s = .next t ∧
    (s.domOwned x.domain = false → Ends t id j { status := St.NOT_OWNER } ∧ SameMap s t) ∧
    (s.domOwned x.domain = true → x.kv = false → x.grains < j.mfirst + j.mcount → Ends t id j { status := St.BAD_INPUT } ∧ SameMap s t) ∧
    (∀ u e, s.mapList j 16 = (u, .ok [b]) → e = parseEntry b 0 j.mseq → e.kind ≤ 2 → EmptyMap s j.mns x → MayRecord s id j.mns j.mfirst j.mseq x →
      0 < j.mseq → j.eflag 10 = false → j.mcount = 1 → Ends t id j { status := St.OK, counts := mapCounts 1 0 0 0 } ∧ t.entry j.mns j.mfirst = e) ∧
    (∀ u o, s.mapList j 16 = (u, .ok [b]) → (parseEntry b 0 0).kind ≤ 2 → x.kv = false → s.mapMode = 0 → j.mcount = 1 → j.eflag 10 = false →
      s.domOwned x.domain = true → j.mfirst < x.grains → x.snapOf = none → mget s.map.recs id = none → s.orderUsed < 2097152 → s.cacheDirty = false →
      (∀ w ∈ s.map.order, w.job ≠ id) → (s.lookup [] x.top x.levels j.mfirst).2.1 = .ok o →
      (j.mseq ≤ o.seq → t.map.nss = s.map.nss ∧ ∃ m, Ends t id j { status := St.OK, counts := mapCounts 0 0 m 1 }) ∧
      (o.seq < j.mseq → s.blocked j.mns j.mfirst j.mseq = true → mget t.eng.jobs id = some j ∧ t.map.nss = s.map.nss ∧
        t.map.order = s.map.order ++ [{ job := id, ns := j.mns, grain := j.mfirst, entry := parseEntry b 0 j.mseq, idx := 0 }]))) ∧
  (∀ (s : State) id j x u b r, Runs s .mapper 2 id j → j.mlistOk = true → j.mcount = 1 → s.nsp j.mns = some x → x.kv = true → x.snapOf = none →
    s.domOwned x.domain = true → s.mapList j 16 = (u, .ok [b]) → (parseEntry b 0 0).kind = 1 → s.mapMode = 0 → mget s.map.recs id = none →
    (∀ w ∈ s.map.order, w.job ≠ id) → s.keyRecord j.mns j.mseq = some r → r.kind = 4 → ∃ t, exec (.record id) s = .next t ∧
      (s.partBytes (mput (mgetD [] s.map.parts r.jseq) j.mfirst (leAt b 0 8)) < r.count →
        Ends t id j { status := St.OK, counts := mapCounts 1 0 0 0 } ∧
        mget t.map.parts r.jseq = some (mput (mgetD [] s.map.parts r.jseq) j.mfirst (leAt b 0 8))) ∧
      (r.count ≤ s.partBytes [(j.mfirst, leAt b 0 8)] → mget s.map.parts r.jseq = none → s.keyBlocked j.mns r.key r.jseq = false →
        s.frozenOut j.mns r.jseq = false → mget x.values r.key = none → ∃ y v, t.nsp j.mns = some y ∧ mget y.values r.key = some v ∧
          v.seq = r.jseq ∧ v.len = r.count ∧ v.chunks = [leAt b 0 8] ∧ mget t.map.parts r.jseq = none)) ∧
  (∀ c ∈ clears, ∀ (s : State) id j x, Runs s .mapper c.2.1 id j → s.nsp j.mns = some x → ∃ t, exec (c.1 id) s = .next t ∧
    (s.domOwned x.domain = false → Ends t id j { status := St.NOT_OWNER } ∧ SameMap s t) ∧
    (s.domOwned x.domain = true → x.kv = false → x.grains < j.mfirst + j.mlist → Ends t id j { status := St.BAD_INPUT } ∧ SameMap s t) ∧
    (EmptyMap s j.mns x → MayRecord s id j.mns j.mfirst j.mseq x → 0 < j.mseq → j.mlist = 1 →
      Ends t id j { status := St.OK, counts := mapCounts 1 0 0 0 } ∧ t.entry j.mns j.mfirst = { kind := c.2.2, target := 0, seq := j.mseq })) ∧
  (∀ (s : State) i w x, s.alive = true → s.map.order[i]? = some w → EmptyMap s w.ns x → 0 < w.entry.seq →
    ∃ t, exec (.orderedRecordApply i) s = .next t ∧ (s.blocked w.ns w.grain w.entry.seq = true → t = s) ∧
      (s.blocked w.ns w.grain w.entry.seq = false → t.map.order = s.map.order.eraseIdx i ∧ t.entry w.ns w.grain = w.entry ∧
        ∀ j r, mget s.eng.jobs w.job = some j → r = mgetD {} s.map.recs w.job → (∀ y ∈ s.map.order.eraseIdx i, y.job ≠ w.job) →
          Ends t w.job j { status := r.status, counts := mapCounts (r.done + 1) 0 r.misses r.already })) ∧
  (∀ (s : State) id j r, Runs s .mapper 5 id j → j.mlistOk = true → r = s.readBytes j.acc j.mlist (32 * j.mcount) →
    ∃ t, exec (.chunkNew id) s = .next t ∧
      ((∃ i < j.mcount, s.domOwned (chunkDom (j.mfirst + i)) = false ∨ s.chunk (j.mfirst + i) ≠ none) →
        Ends t id j { status := St.BAD_INPUT } ∧ SameMap s t) ∧
      (fine r.2.2 = true → (∀ i < j.mcount, s.domOwned (chunkDom (j.mfirst + i)) = true ∧ s.chunk (j.mfirst + i) = none) →
        Ends t id j { status := St.OK, counts := mapCounts j.mcount 0 0 0 } ∧ ∀ i < j.mcount, t.chunk (j.mfirst + i) =
          some { parseChunk (sliceB r.2.1 (32 * i) 32) with refs := 0, st := 0, since := s.gts })) ∧
  (∀ (s : State) id c, s.alive = true → s.chunk id = some c → ∃ t, exec (.chunkNewExpiry id) s = .next t ∧
    (c.st = 0 → c.since + 1000000000 ≤ s.gts → (∃ d, t.chunk id = some d ∧ d.st = 3) ∧ t.Told Ev.MAPPER_CHUNK_EXPIRED [.v 8 id]) ∧
    (c.st ≠ 0 ∨ s.gts < c.since + 1000000000 → t = s)) ∧
  (∀ (s : State) id j back u b, Runs s .mapper 6 id j → j.mlistOk = true → s.mapList j 32 = (u, .ok [b]) →
    ∃ t, exec (.relocate id back) s = .next t ∧
      (∀ c, s.domOwned j.mdom = true → s.chunk (leAt b 0 8) = some c →
        (c.bytes.take 12 ≠ sliceB b 8 12 → Ends t id j { status := St.OK, counts := mapCounts 0 1 0 0 } ∧ SameMap s t) ∧
        (c.bytes.take 12 = sliceB b 8 12 → (∀ y, s.bolt c.bolt = some y → 2 ≤ y.valid) →
          Ends t id j { status := St.OK, counts := mapCounts 1 0 0 0 } ∧ t.chunk (leAt b 0 8) =
            some { c with bolt := leAt b 20 6, stripe := leAt b 26 2, place := leAt b 28 4 })) ∧
      (s.domOwned j.mdom = false → (back = none → mget t.eng.jobs id = some j ∧
          Sent t (.seam (17 + j.mdom % 8) 1 (j.mdom :: b.map (·.toNat)))) ∧
        (∀ st n m, back = some (st, n, m) → Ends t id j { status := st, counts := mapCounts n m 0 0 }) ∧ SameMap s t)) ∧
  (∀ (s : State) d l, s.alive = true → ∃ t, exec (.forwardedRelocate d l) s = .next t ∧
    (s.domOwned d = false → Sent t (.seam (17 + d % 8) 2 [d, St.NOT_OWNER, 0, 0]) ∧ SameMap s t) ∧
    (s.domOwned d = true → ∃ n m, n + m = l.length / 32 ∧ Sent t (.seam (17 + d % 8) 2 [d, St.OK, n, m]))) ∧
  (∀ (s : State) id j r ids, Runs s .mapper 7 id j → j.mlistOk = true → r = s.readBytes j.acc j.mlist (8 * j.mcount) → fine r.2.2 = true →
    ids = ((List.range j.mcount).map fun i => leAt (sliceB r.2.1 (8 * i) 8) 0 8).filter (fun i => (s.chunk i).isSome) →
    ∃ t, exec (.chunkLost id) s = .next t ∧ Ends t id j { status := St.OK, counts := mapCounts ids.length 0 0 0 } ∧
      ∀ i ∈ ids, ∃ c d, s.chunk i = some c ∧ t.chunk i = some d ∧ d.lost = true ∧ d.refs = c.refs ∧ d.st = c.st) ∧
  (∀ (s : State) id j r l, Runs s .mapper 0x10 id j → j.mlist % 64 = 0 → r = s.readBytes j.acc j.mlist 512 → fine r.2.2 = true → l = leAt r.2.1 8 1 % 8 →
    ∃ t, exec (.boltOpen id) s = .next t ∧
      (s.layoutOk l = false ∨ s.bolt j.mbolt ≠ none → Ends t id j { status := St.BAD_INPUT } ∧ SameMap s t) ∧
      (s.layoutOk l = true → s.bolt j.mbolt = none → Ends t id j { status := St.OK } ∧ t.map.nextBolt = s.map.nextBolt + 1 ∧
        ∃ y, t.bolt s.map.nextBolt = some y ∧ y.st = 1 ∧ y.layout = l ∧ y.valid = 0 ∧ y.stream = leAt r.2.1 10 1 % 16 ∧ y.family = leAt r.2.1 22 1 ∧
          y.stripes = leAt r.2.1 20 2 ∧ y.minute = s.cal.seconds / 60 ∧ y.members.length = s.layoutK l + s.layoutM l)) ∧
  (∀ (s : State) id j, Runs s .mapper 0x11 id j → ∃ t, exec (.boltClose id) s = .next t ∧
    (∀ x, s.bolt j.mbolt = some x → x.st = 1 → Ends t id j { status := St.OK } ∧ t.bolt j.mbolt = some { x with st := 2 }) ∧
    (s.bolt j.mbolt = none ∨ (∃ x, s.bolt j.mbolt = some x ∧ x.st ≠ 1) → Ends t id j { status := St.BAD_INPUT } ∧ SameMap s t)) ∧
  (∀ (s : State) id j r x i w, Runs s .mapper 0x12 id j → r = s.readBytes j.acc j.mlist 8 → fine r.2.2 = true → s.bolt j.mbolt = some x →
    i = leAt r.2.1 7 1 → w = leAt r.2.1 0 7 → ∃ t, exec (.boltSubst id) s = .next t ∧
      (x.members.length ≤ i ∨ x.st = 4 ∨ j.mlist % 64 ≠ 0 → Ends t id j { status := St.BAD_INPUT } ∧ SameMap s t) ∧
      (i < x.members.length → x.st ≠ 4 → j.mlist % 64 = 0 → Ends t id j { status := St.OK } ∧ ∃ y, t.bolt j.mbolt = some y ∧
        y.members = x.members.set i { module := bits w 4 0, die := bits w 12 5, block := bits w 31 13, temp := bits w 39 32, subst := true } ∧
        y.failed = y.members.any fun m => s.modFailed m.module)) ∧
  (∀ (s : State) id j, Runs s .mapper 0x20 id j → ∃ t, exec (.recount id) s = .next t ∧
    (j.mcount ≠ 0 → Ends t id j { status := St.BAD_INPUT } ∧ SameMap s t) ∧
    (j.mcount = 0 → EndsWith t id j St.OK ∧ (∃ n big, t.Told Ev.MAPPER_RECOUNT_DONE [.v 2 j.mdom, .v 4 n, .v 4 big]) ∧
      ∀ i c, s.map.chunks = [(i, c)] → chunkDom i = j.mdom → c.st = 1 ∨ c.st = 2 → ∃ d, t.chunk i = some d ∧
        d.refs = ((s.map.nss.filter fun e => e.2.domain == j.mdom && e.2.snapOf.isNone).flatMap fun e => s.nsChunks e.2).count i))

/-- Mapper: checkpoints, write-back, compaction, degraded mode, replay, garbage collection, failures, thresholds, cache size -/
def Obligations.MapperUpkeep : Prop :=
  (∀ (s : State), s.alive = true → ∃ t, exec .mapperCheckpoint s = .next t ∧ OnlyParts [.map] s t ∧
    t.map = { s.map with ckpt := s.seqPersist, ckptReads := s.map.reads, changed := [] }) ∧
  (∀ (s : State) p b st sl crc x, s.alive = true → mget s.map.pages p = some x → ∃ t, exec (.dirtyPageWriteback p b st sl crc) s = .next t ∧
    (x.dirty = none → t = s) ∧
    (x.dirty ≠ none → OnlyParts [.map] s t ∧ mget t.map.pages p = some { x with dirty := none } ∧ p ∈ t.map.changed ∧
      ∀ body, s.pageBytes x.body = some body →
        mget t.map.mpt p = some { hi := p / 2 ^ 30 % 2 ^ 16, bolt := b, stripe := st, slot := sl, crc := crc32c body })) ∧
  (∀ (s : State) n g base old es, s.alive = true → g % 64 = 0 → s.nsp n ≠ none →
    (∀ i < 64, ∃ c, s.chunk (base + i) = some c ∧ c.st = 1 ∧ c.refs = 1 ∧ ∀ y, s.bolt c.bolt = some y → 65 ≤ y.valid) →
    es = ((List.range 64).map fun j => s.entry n (g + j)) → ∃ t, exec (.compaction n g base old) s = .next t ∧
      (es.map (·.target) = old → s.compactable n g = true → t = s.applyRun n g ((es.map (·.seq)).foldl max 0) base) ∧
      (es.map (·.target) ≠ old ∨ s.compactable n g = false → ∀ i < 64, ∃ c, t.chunk (base + i) = some c ∧ c.refs = 0 ∧ c.st = 2)) ∧
  (∀ (s : State), s.alive = true → ∃ t, exec .degradedModeEntered s = .next t ∧
    (s.mapMode = 1 → (∀ e ∈ s.map.pages, e.2.dirty = none) → t.mapMode = 2 ∧ t.Told Ev.MAPPER_MODE_CHANGE [.v 1 1, .v 1 2, .v 2 s.cacheCap]) ∧
    (s.mapMode ≠ 1 ∨ (∃ e ∈ s.map.pages, e.2.dirty ≠ none) → t = s)) ∧
  (∀ (s : State) n l, s.alive = true → l = mgetD [] s.map.logs n → ∃ t, exec (.logBoltFold n) s = .next t ∧ (l.length < 4 → t = s) ∧
    (4 ≤ l.length → (∀ y, s.bolt ((l.head?.map (·.1)).getD 0) = some y → y.st ≠ 1) → mgetD [] t.map.logs n = l.dropLast ∧ t = s.foldLog n)) ∧
  (∀ (s : State) start unclean ms loaded, s.alive = true → ∃ t k, exec (.mapperReplay start unclean loaded ms) s = .next t ∧
    t.Told Ev.MAPPER_REPLAY_DONE [.v 4 k, .v 4 ms] ∧ k ≤ s.retained.length ∧ t.rb Pg.MAPPER Rg.MAPPER_STATUS 2 = false ∧
    (∀ n x b y, loaded = { nss := [(n, x)], bolts := [(b, y)] } → s.bolt b = none → s.retained = [] → s.map.logs = [] → s.quilt.vault = none →
      k = 0 ∧ t.nsp n = some x ∧ t.bolt b = some y) ∧
    (∀ r g x, loaded = {} → s.map.logs = [] → s.quilt.vault = none → s.retained = [r] → s.map.ckpt ≤ r.jseq → r.recorded = false → r.kind = 2 →
      r.loc = 4 * g → r.count = 4 → 0 < r.jseq → EmptyMap s r.ns x → k = 1 ∧ t.entry r.ns g = { kind := 0, target := 0, seq := r.jseq })) ∧
  (∀ (s : State), s.alive = true → ∃ t, exec .greedyGc s = .next t ∧
    (s.rf Pg.MAPPER Rg.MAPPER_GC_CFG 9 0 ≤ s.freeBolts → s.rf Pg.MAPPER Rg.MAPPER_GC_CFG 25 16 ≤ s.freeBolts →
      t.rb Pg.MAPPER Rg.MAPPER_GC_STATUS 0 = false ∧ SameMap s t) ∧
    (s.freeBolts < s.rf Pg.MAPPER Rg.MAPPER_GC_CFG 9 0 → t.rb Pg.MAPPER Rg.MAPPER_GC_STATUS 0 = true ∧
      ((∀ e ∈ s.map.bolts, s.victim e.2 = false) → SameMap s t) ∧
      (∀ e ∈ s.map.bolts, s.victim e.2 = true → s.map.bolts.Pairwise (fun a b => a.1 < b.1) →
        ∃ f ∈ s.map.bolts, s.victim f.2 = true ∧ f.2.valid ≤ e.2.valid ∧ Emptied t f.1))) ∧
  (∀ (s : State), s.alive = true → ∃ t, exec .priorityGc s = .next t ∧
    ((∀ q ∈ s.map.gc, ∀ x, s.bolt q.2.1 = some x → s.victim x = false) → t = s) ∧
    (∀ q ∈ s.map.gc, ∀ x, s.bolt q.2.1 = some x → s.victim x = true → ∃ p ∈ s.map.gc, p.1 ≤ q.1 ∧ p ∉ t.map.gc ∧
      (p.2.2 = none → Emptied t p.2.1))) ∧
  (∀ (s : State), s.alive = true → ∃ t, exec .wearLevelling s = .next t ∧ (s.wearSpread ≤ s.rf Pg.MAPPER Rg.MAPPER_WEAR_CFG 15 0 → t = s) ∧
    (s.rf Pg.MAPPER Rg.MAPPER_WEAR_CFG 15 0 < s.wearSpread → ∀ e ∈ s.map.bolts, s.victim e.2 = true →
      ∃ f ∈ s.map.bolts, s.victim f.2 = true ∧ (s.wear f.2).sum ≤ (s.wear e.2).sum ∧ (4, f.1, none) ∈ t.map.gc)) ∧
  (∀ (s : State) n d k st b x i, s.alive = true → s.boltAt n d k = some (b, x, i) → s.bolt b = some x → ∃ t, exec (.programFailure n d k st) s = .next t ∧
    (1, b, none) ∈ t.map.gc ∧ t.Told Ev.MAPPER_PROGRAM_FAIL [.v 8 b, .v 1 n, .v 1 d, .v 4 k, .v 4 st] ∧
    ∃ y, t.bolt b = some y ∧ y.st ≠ 1 ∧ y.progFail = true ∧ i ∈ y.bad) ∧
  (∀ (s : State) b i x y, s.alive = true → s.bolt b = some x → x.members[i]? = some y → x.st = 4 → i ∈ x.erasing →
    ∃ t, exec (.eraseFailure b i) s = .next t ∧ mget t.pat.used (blockKey y.module y.die y.block) = some 2 ∧
      t.rdN Pg.MAPPER Rg.MAPPER_RETIRED_BLOCKS = satAdd 32 (s.rdN Pg.MAPPER Rg.MAPPER_RETIRED_BLOCKS) 1 ∧
      ∃ z, t.bolt b = some z ∧ i ∉ z.erasing ∧ z.members[i]? = some { y with retired := true }) ∧
  (∀ (s : State) b x, s.alive = true → s.bolt b = some x → x.st = 4 → (x.members.map fun y => blockKey y.module y.die y.block).Nodup →
    ∃ t, exec (.eraseComplete b) s = .next t ∧ t.bolt b = none ∧ ∀ i y k, x.members[i]? = some y → k = blockKey y.module y.die y.block →
      mget t.map.reads k = none ∧
      (i ∈ x.erasing → mget t.pat.used k = none ∧ mget t.pat.erases k = some (mgetD 0 s.pat.erases k + 1)) ∧
      (i ∉ x.erasing → i ∈ x.bad → mget t.pat.used k = some 2)) ∧
  (∀ (s : State) master v a f, Accepts s Pg.MAPPER Rg.MAPPER_THR_CMD master v → bitOf v 0 = true → f = s.rf Pg.MAPPER Rg.MAPPER_THR_SEL 2 0 →
    a = s.rdN Pg.MAPPER Rg.MAPPER_THR_SRC_LO + 2 ^ 32 * s.rf Pg.MAPPER Rg.MAPPER_THR_SRC_HI 15 0 → ∃ t, exec (.mapperThrLoad master v) s = .next t ∧
      (s.rb Pg.MAPPER Rg.MAPPER_THR_STATUS 0 = true → t.rf Pg.MAPPER Rg.MAPPER_THR_STATUS 15 8 = St.LOCKED ∧ SameMap s t) ∧
      (∀ r, s.rb Pg.MAPPER Rg.MAPPER_THR_STATUS 0 = false →
        r = (stored s Pg.MAPPER Rg.MAPPER_THR_CMD v).readBytes { master := Ms.MAPPER, owner := sysOwner } a 16512 →
        (fine r.2.2 = true → thrOk r.2.1 = false → t.rf Pg.MAPPER Rg.MAPPER_THR_STATUS 15 8 = St.BAD_INPUT ∧ SameMap s t) ∧
        (fine r.2.2 = true → thrOk r.2.1 = true → mget t.map.thr f = some r.2.1 ∧ t.rb Pg.MAPPER Rg.MAPPER_THR_STATUS (16 + f) = true))) ∧
  (∀ (s : State) b x tb reads age, s.alive = true → s.bolt b = some x → mget s.map.thr x.family = some tb → x.st ≠ 4 → (3, b, none) ∉ s.map.gc →
    reads = (x.members.map fun y => mgetD 0 s.map.reads (blockKey y.module y.die y.block)).foldl max 0 →
    age = (x.regions.map fun r => s.ageOf x r.1).foldl max 0 → ∃ t, exec (.retentionLimit b) s = .next t ∧
      (thrReads tb ≤ reads → (3, b, none) ∈ t.map.gc ∧ t.Told Ev.MAPPER_REFRESH [.v 8 b, .v 1 0, .v 4 reads]) ∧
      (reads < thrReads tb → x.regions ≠ [] → thrAge tb ≤ age → (3, b, none) ∈ t.map.gc ∧ t.Told Ev.MAPPER_REFRESH [.v 8 b, .v 1 1, .v 4 age]) ∧
      (reads < thrReads tb → age < thrAge tb → t = s)) ∧
  (∀ (s : State) master v n, Accepts s Pg.MAPPER Rg.MAPPER_CACHE_SIZE master v → n = bits v 9 0 → ∃ t, exec (.mapperCacheSizeWrite master v) s = .next t ∧
    (768 < n ∨ n < s.rf Pg.MAPPER Rg.MAPPER_CACHE_MIN 9 0 → t.rdN Pg.MAPPER Rg.MAPPER_CACHE_SIZE = s.rdN Pg.MAPPER Rg.MAPPER_CACHE_SIZE ∧
      t.rf Pg.MAPPER Rg.ERR_INFO 23 16 = St.BAD_INPUT) ∧
    (n ≤ 768 → s.rf Pg.MAPPER Rg.MAPPER_CACHE_MIN 9 0 ≤ n → t = stored s Pg.MAPPER Rg.MAPPER_CACHE_SIZE v))

/-! ### Snapshots and replication -/
namespace Sys2Proof.Machine

/-- A command of SNAPREP_CMD is accepted, none is under way, and SNAPREP is enabled. -/
def SnapTakes (s : State) (master v c : Nat) : Prop :=
  Accepts s Pg.SNAPREP Rg.SNAPREP_CMD master v ∧ bits v 3 0 = c ∧ s.rb Pg.SNAPREP Rg.SNAPREP_CMD_STATUS 0 = false ∧ s.rb Pg.SNAPREP Rg.SNAPREP_CFG 0 = true

/-- SNAPREP_CMD_STATUS shows that the command has ended with `code`, for pair `p`. -/
def SnapSays (t : State) (code p : Nat) : Prop :=
  t.rdN Pg.SNAPREP Rg.SNAPREP_CMD_STATUS = 256 * code + 2 ^ 16 * p ∧ Raised t Pg.SNAPREP 0

/-- It has ended with `code`, and changed neither the map nor a session. -/
def SnapOnlySays (s t : State) (code p : Nat) : Prop := SnapSays t code p ∧ t.map = s.map ∧ t.repl = s.repl ∧ t.hq = s.hq

/-- The namespace's snapshots. -/
def snapsOf (t : State) (n : Nat) : List Snap := ((t.nsp n).map (·.snaps)).getD []

/-- The newest thing sent is this message of the pair (10 R420). -/
def Said (t : State) (p ty cursor : Nat) (body : List Byte) : Prop := Sent t (.repl (t.pairFlow p) (replMsg ty p cursor body))

/-- The session has ended in error with `code`, recorded (10 R432). -/
def SessFails (s t : State) (p code : Nat) : Prop :=
  t.pairState' p = 5 ∧ t.rf Pg.SNAPREP Rg.SNAPREP_PAIR_STATE 15 8 p = code ∧ Raised t Pg.SNAPREP 2 ∧
  t.Told Ev.REPL_FAILED [.v 4 p, .v 1 code, .v 8 (s.cursor p)]

/-- The grains a source sends next: those that differ from where the session stands, at most 256 and no more than up to the next CKPT. -/
def nextGrains (s : State) (p : Nat) (x : Ns) (q : Snap) : List Nat :=
  let z := s.sess p
  (((List.range (x.grains - z.pos)).map (z.pos + ·)).filter fun g =>
    s.differs (if z.full then none else z.base.bind x.snap) q g).take (min 256 (s.rf Pg.SNAPREP Rg.SNAPREP_CKPT_GRAINS 23 0 - z.sent))

/-- The source goes on as `State.advance` says, from a state that differs from `s` in no map page. -/
def GoesOn (s t : State) (p : Nat) (fps : SMap (List Byte)) (u : State) : Prop :=
  u.map = s.map ∧ u.pairState' p = 2 ∧ t = State.advance fps p (((s.nsp (s.pairNs p)).map Ns.grains).getD 0 + 1) u

end Sys2Proof.Machine

/-- Snapshots: SNAP_CREATE and the freeze, SNAP_DELETE and its dead list, SNAP_ATTACH and SNAP_DETACH, command codes -/
def Obligations.SnapshotCommands : Prop :=
  (∀ p ∈ [(Instr.snapCreate, 1), (Instr.snapDelete, 2), (Instr.snapAttach, 3), (Instr.snapDetach, 4), (Instr.sessionStart, 5), (Instr.sessionStop, 6)],
    ∀ (s : State) master v, Accepts s Pg.SNAPREP Rg.SNAPREP_CMD master v → bits v 3 0 = p.2 → ∃ t, exec (p.1 master v) s = .next t ∧
      (s.rb Pg.SNAPREP Rg.SNAPREP_CMD_STATUS 0 = true →
        t.rf Pg.SNAPREP Rg.SNAPREP_CMD_STATUS 15 8 = St.LOCKED ∧ t.map = s.map ∧ t.repl = s.repl ∧ t.hq = s.hq) ∧
      (s.rb Pg.SNAPREP Rg.SNAPREP_CMD_STATUS 0 = false → s.rb Pg.SNAPREP Rg.SNAPREP_CFG 0 = false → SnapOnlySays s t St.NOT_READY 0)) ∧
  (∀ (s : State) master v hi a n r g, SnapTakes s master v 1 → hi = s.rdN Pg.SNAPREP Rg.SNAPREP_ARG_HI → n = bits hi 23 16 →
    a = s.rdN Pg.SNAPREP Rg.SNAPREP_ARG_LO + 2 ^ 32 * bits hi 15 0 →
    r = (stored s Pg.SNAPREP Rg.SNAPREP_CMD v).readBytes { master, owner := sysOwner } a (2 * n) →
    g = ((List.range n).map fun i => leAt r.2.1 (2 * i) 2).eraseDups → ∃ t, exec (.snapCreate master v) s = .next t ∧
      (n = 0 ∨ 64 < n ∨ a % 64 ≠ 0 → SnapOnlySays s t St.BAD_INPUT 0) ∧
      (0 < n → n ≤ 64 → a % 64 = 0 → fine r.2.2 = false → SnapOnlySays s t r.2.2 0) ∧
      (∀ c, 0 < n → n ≤ 64 → a % 64 = 0 → fine r.2.2 = true → s.groupBad g = some c → SnapOnlySays s t c 0) ∧
      (0 < n → n ≤ 64 → a % 64 = 0 → fine r.2.2 = true → s.groupBad g = none → t.rdN Pg.SNAPREP Rg.SNAPREP_CMD_STATUS = 1 ∧
        t.hq.jseq = s.hq.jseq + 1 ∧ ((∀ q ∈ s.pair.journal, q.jseq ≠ s.hq.jseq) →
          ∃ q ∈ t.pair.journal, q.jseq = s.hq.jseq ∧ q.kind = 6 ∧ q.ns = g.headD 0) ∧
        ∀ m ∈ g, ∃ x, s.nsp m = some x ∧ t.nsp m = some { x with
          nextEpoch := x.nextEpoch + 1, snaps := x.snaps ++ [{ epoch := x.nextEpoch, point := s.hq.jseq, since := s.gts }] })) ∧
  (∀ (s : State) n x, s.nsp n = some x →
    (x.snapOf ≠ none → s.groupBad [n] = some St.BAD_INPUT) ∧
    (x.snapOf = none → s.domOwned x.domain = false → s.groupBad [n] = some St.NOT_OWNER) ∧
    (x.snapOf = none → s.domOwned x.domain = true → 1024 ≤ x.snaps.length ∨ 262144 ≤ s.snapCount → s.groupBad [n] = some St.OUT_LIMIT) ∧
    (x.snapOf = none → s.domOwned x.domain = true → x.snaps.length < 1024 → s.snapCount < 262144 → s.groupBad [n] = none)) ∧
  (∀ (s : State) j n x, s.alive = true → s.nsp n = some x → (∃ q ∈ x.snaps, q.point = j ∧ q.frozen = false) → ∃ t, exec (.snapFreeze j) s = .next t ∧
    (s.horizon ≤ j ∨ (s.pairState = 3 ∧ s.ackedJ < j) → t = s) ∧
    (j < s.horizon → (s.pairState ≠ 3 ∨ j ≤ s.ackedJ) → (t.nsp n = some { x with snaps := x.snaps.map fun q => if q.point = j ∧ !q.frozen then
        { q with frozen := true, floor := s.pageFloor, top := x.top, levels := x.levels, values := x.values } else q }) ∧
      (s.rb Pg.SNAPREP Rg.SNAPREP_CMD_STATUS 0 = true → SnapSays t St.OK 0))) ∧
  (∀ p ∈ [(Instr.snapDelete, 2), (Instr.snapAttach, 3), (Instr.snapDetach, 4)], ∀ (s : State) master v, SnapTakes s master v p.2 → s.argSnap = none →
    ∃ t, exec (p.1 master v) s = .next t ∧ SnapOnlySays s t St.BAD_INPUT 0) ∧
  (∀ (s : State) master v n x q, SnapTakes s master v 2 → s.argSnap = some (n, x, q) → ∃ t, exec (.snapDelete master v) s = .next t ∧
    (s.domOwned x.domain = false → SnapOnlySays s t St.NOT_OWNER 0) ∧
    (s.domOwned x.domain = true → q.attached ≠ none ∨ q.frozen = false ∨ s.inSession n q.epoch = true → SnapOnlySays s t St.LOCKED 0) ∧
    (s.domOwned x.domain = true → q.attached = none → q.frozen = true → s.inSession n q.epoch = false → SnapSays t St.OK 0 ∧ t.argSnap = none ∧
      (q.dead ≠ [] → ∃ z ∈ snapsOf t n, z = { q with deleting := true }))) ∧
  (∀ (s : State) n x q d rest older, s.alive = true → s.nsp n = some x → (x.snaps.filter fun z => z.deleting) = [q] → q.dead = d :: rest →
    older = (x.snaps.filter fun y => decide (y.epoch < q.epoch)).getLast? → ∃ t, exec (.deadListEntry n q.epoch) s = .next t ∧
      (∀ y id sq, older = some y → d = .chunk id sq → sq < y.point → t.map.chunks = s.map.chunks ∧
        (∃ z ∈ snapsOf t n, z.epoch = y.epoch ∧ d ∈ z.dead) ∧
        (rest = [] → t.Told Ev.SNAP_DELETED [.v 2 n, .v 4 q.epoch, .v 4 q.released, .v 4 (q.moved + 1)])) ∧
      (∀ id sq c, (older = none ∨ ∃ y, older = some y ∧ y.point ≤ sq) → d = .chunk id sq → s.chunk id = some c → c.st = 1 → 2 ≤ c.refs →
        t.chunk id = some { c with refs := c.refs - 1 } ∧
        (rest = [] → t.Told Ev.SNAP_DELETED [.v 2 n, .v 4 q.epoch, .v 4 (q.released + 1), .v 4 q.moved] ∧ ∀ z ∈ snapsOf t n, z.deleting = false)) ∧
      (∀ pg, older = none → d = .page pg → mget t.map.pages pg = none)) ∧
  (∀ (s : State) master v n x q i, SnapTakes s master v 3 → s.argSnap = some (n, x, q) → i = freshKey s.map.nss 0 →
    ∃ t, exec (.snapAttach master v) s = .next t ∧ (q.frozen = false ∨ q.attached ≠ none → SnapOnlySays s t St.LOCKED 0) ∧
      (q.frozen = true → q.attached = none → 65536 ≤ s.map.nss.length → SnapOnlySays s t St.OUT_LIMIT 0) ∧
      (q.frozen = true → q.attached = none → s.map.nss.length < 65536 → (x.kv = true → (s.map.nss.filter fun e => e.2.kv).length < 4096) →
        s.nsp i = none → SnapSays t St.OK 0 ∧ (∃ z ∈ snapsOf t n, z.epoch = q.epoch ∧ z.attached = some i) ∧
        ∃ y, t.nsp i = some y ∧ y.snapOf = some (n, q.epoch) ∧ y.top = q.top ∧ y.levels = q.levels ∧ y.values = q.values ∧ y.group = x.group)) ∧
  (∀ (s : State) master v n x q, SnapTakes s master v 4 → s.argSnap = some (n, x, q) → ∃ t, exec (.snapDetach master v) s = .next t ∧
    (q.attached = none → SnapOnlySays s t St.BAD_INPUT 0) ∧
    (∀ i, q.attached = some i → SnapSays t St.OK 0 ∧ t.nsp i = none ∧ ∀ z ∈ snapsOf t n, z.epoch = q.epoch → z.attached = none))

/-- Replication: sessions started, stopped, opened and retried, fingerprints, data, clears, checkpoints, DONE -/
def Obligations.ReplicationSessions : Prop :=
  (∀ (s : State) master v p, SnapTakes s master v 5 → p = s.rf Pg.SNAPREP Rg.SNAPREP_PAIR_SEL 7 0 → ∃ t, exec (.sessionStart master v) s = .next t ∧
    (s.argSnap = none → SnapOnlySays s t St.BAD_INPUT p) ∧
    (∀ n x q, s.argSnap = some (n, x, q) →
      (n ≠ s.pairNs p ∨ x.kv = true ∨ q.frozen = false → SnapOnlySays s t St.BAD_INPUT p) ∧
      (n = s.pairNs p → x.kv = false → q.frozen = true →
        (s.domOwned x.domain = false → SnapOnlySays s t St.NOT_OWNER p) ∧
        (s.domOwned x.domain = true → p ∈ s.activePairs → SnapOnlySays s t St.LOCKED p) ∧
        (s.domOwned x.domain = true → p ∉ s.activePairs → 16 ≤ s.activePairs.length → SnapOnlySays s t St.OUT_LIMIT p) ∧
        (s.domOwned x.domain = true → p ∉ s.activePairs → s.activePairs.length < 16 → SnapSays t St.OK p ∧ t.pairState' p = 1 ∧ t.cursor p = 0 ∧
          (t.sess p).epoch = q.epoch ∧ (t.sess p).base = ((s.sess p).base.filter fun e => (x.snap e).isSome && e != q.epoch) ∧
          Said t p 1 0 (leBytes 4 ((t.sess p).base.getD 0) ++ leBytes 4 q.epoch ++ leBytes 4 (s.pairKcv p)))))) ∧
  (∀ (s : State) master v p, SnapTakes s master v 6 → p = s.rf Pg.SNAPREP Rg.SNAPREP_PAIR_SEL 7 0 → ∃ t, exec (.sessionStop master v) s = .next t ∧
    (p ∉ s.activePairs → SnapOnlySays s t St.BAD_INPUT p) ∧
    (p ∈ s.activePairs → SnapSays t St.OK p ∧ t.pairState' p = 0 ∧ (t.sess p).fps = [])) ∧
  (∀ (s : State) p cursor base epoch kcv fps z from', s.alive = true → s.rb Pg.SNAPREP Rg.SNAPREP_CFG 0 = true → s.isSource p [1, 3] = true → z = s.sess p →
    from' = (if (z.base ≠ none ∧ base = 0) ∧ z.full = false then 0 else s.cursor p) →
    ∃ t, exec (.replOpen p cursor base epoch kcv fps) s = .next t ∧ (kcv ≠ s.pairKcv p → SessFails s t p St.BAD_INPUT) ∧
      (kcv = s.pairKcv p → ∃ u, GoesOn s t p fps u ∧ u.cursor p = from' ∧
        u.sess p = { z with full := z.full || (z.base.isSome && base == 0), opened := true, pos := from', sent := 0, fps := [] })) ∧
  (∀ (s : State) p cursor base epoch kcv fps x, s.alive = true → p < 256 → s.rb Pg.SNAPREP Rg.SNAPREP_CFG 0 = true → s.isSource p [1, 2, 3] = false →
    s.nsp (s.pairNs p) = some x → x.kv = false → s.domOwned x.domain = true → (p ∈ s.activePairs ∨ s.activePairs.length < 16) →
    ∃ t, exec (.replOpen p cursor base epoch kcv fps) s = .next t ∧ (t.sess p).target = true ∧ (t.sess p).epoch = epoch ∧
      Said t p 1 cursor (leBytes 4 (if (x.snap base).isSome then base else 0) ++ leBytes 4 epoch ++ leBytes 4 (s.pairKcv p)) ∧
      (kcv = s.pairKcv p → t.pairState' p = 2) ∧ (kcv ≠ s.pairKcv p → SessFails s t p St.BAD_INPUT)) ∧
  (∀ (s : State) p fps fuel x q l, p < 256 → s.nsp (s.pairNs p) = some x → x.snap (s.sess p).epoch = some q → l = nextGrains s p x q →
    (l = [] → Said (State.advance fps p (fuel + 1) s) p 9 (s.sess p).pos (leBytes 4 (s.sess p).epoch)) ∧
    (∀ t, t = State.advance fps p (fuel + 1) s → l ≠ [] → (∀ g ∈ l, (s.snapEntry q g).kind = 1) →
      (s.sess p).sent + l.length < s.rf Pg.SNAPREP Rg.SNAPREP_CKPT_GRAINS 23 0 → (t.sess p).pos = l.getLast?.getD 0 + 1 ∧
      (t.sess p).fps.map (·.1) = l ∧ Said t p 2 (l.headD 0) (l.flatMap fun g => leBytes 8 g ++ padTo 32 (mgetD [] fps g)))) ∧
  (∀ (s : State) p bitmap frames fps b need, s.alive = true → s.isSource p [2] = true → b = (s.sess p).fps → b ≠ [] →
    need = (((b.zip (List.range b.length)).filter fun e => bitOf bitmap e.2).map fun e => e.1.1) →
    ∃ t u, exec (.fpReply p bitmap frames fps) s = .next t ∧ GoesOn s t p fps u ∧ (u.sess p).fps = [] ∧
      (∀ e ∈ need.zip frames, Out.repl (s.pairFlow p) (replMsg 4 p e.1 (leBytes 8 e.1 ++ leBytes 4 e.2.1 ++ leBytes 4 0 ++ e.2.2)) ∈ u.out) ∧
      u.rdN Pg.SNAPREP Rg.SNAPREP_PAIR_HAVE p = satAdd 32 (s.rdN Pg.SNAPREP Rg.SNAPREP_PAIR_HAVE p) (b.length - need.length) ∧
      u.rdN Pg.SNAPREP Rg.SNAPREP_PAIR_NEED p = satAdd 32 (s.rdN Pg.SNAPREP Rg.SNAPREP_PAIR_NEED p) need.length) ∧
  (∀ (s : State) p c, s.alive = true → s.isSource p [2] = true → c < 2 ^ 64 → ∃ t, exec (.ckptAck p c) s = .next t ∧ t.cursor p = c ∧
    mget t.repl.vault p = some c) ∧
  (∀ (s : State) p z, s.alive = true → s.isSource p [3] = true → z = s.sess p → ∃ t, exec (.replRetry p) s = .next t ∧
    Said t p 1 (s.cursor p) (leBytes 4 (if z.full then 0 else z.base.getD 0) ++ leBytes 4 z.epoch ++ leBytes 4 (s.pairKcv p))) ∧
  (∀ (s : State) p l x, s.alive = true → s.isTarget p = true → s.nsp (s.pairNs p) = some x → ∃ t, exec (.fpBatch p l) s = .next t ∧
    (256 < l.length ∨ (∃ e ∈ l, x.grains ≤ e.1) → SessFails s t p St.BAD_INPUT) ∧
    (∀ g fp, l = [(g, fp)] → g < x.grains → s.mapMode ≠ 2 →
      (s.firstLive (s.findFp x.domain [] fp) = none → Said t p 3 g (leBytes 32 1) ∧ mget (t.sess p).fps g = some fp ∧
        t.rdN Pg.SNAPREP Rg.SNAPREP_PAIR_NEED p = satAdd 32 (s.rdN Pg.SNAPREP Rg.SNAPREP_PAIR_NEED p) 1) ∧
      (∀ k c, s.firstLive (s.findFp x.domain [] fp) = some k → s.chunk k = some c → c.refs < 2 ^ 32 - 1 → EmptyMap s (s.pairNs p) x →
        Said t p 3 g (leBytes 32 0) ∧ t.chunk k = some { c with refs := c.refs + 1 } ∧
        t.entry (s.pairNs p) g = { kind := 1, target := k, seq := s.hq.jseq } ∧
        t.rdN Pg.SNAPREP Rg.SNAPREP_PAIR_HAVE p = satAdd 32 (s.rdN Pg.SNAPREP Rg.SNAPREP_PAIR_HAVE p) 1))) ∧
  (∀ (s : State) p g len frame k fp c z, s.alive = true → s.isTarget p = true → mget (s.sess p).fps g = some fp → s.chunk k = some c → c.st = 1 →
    z = zDecode frame → ∃ t, exec (.replData p g len frame k) s = .next t ∧
      (∀ e, s.keyFor (s.pairSlot p) Us.hmac = .error e → SessFails s t p e) ∧
      (∀ key, s.keyFor (s.pairSlot p) Us.hmac = .ok key →
        (z.err ≠ 0 ∨ z.xxh ≠ z.stored ∨ z.out.length ≠ len ∨ fp ≠ hmac 0 key z.out → SessFails s t p St.AUTH_FAIL ∧ t.map = s.map) ∧
        (∀ x, z.err = 0 → z.xxh = z.stored → z.out.length = len → fp = hmac 0 key z.out → EmptyMap s (s.pairNs p) x →
          t.entry (s.pairNs p) g = { kind := 1, target := k, seq := s.hq.jseq } ∧ mget (t.sess p).fps g = none ∧ t.hq.jseq = s.hq.jseq + 1))) ∧
  (∀ c ∈ [(Instr.replUnmap, 0), (Instr.replZero, 2)], ∀ (s : State) p first n x, s.alive = true → s.isTarget p = true → s.nsp (s.pairNs p) = some x →
    ∃ t, exec (c.1 p first n) s = .next t ∧ (x.grains < first + n → SessFails s t p St.BAD_INPUT ∧ t.map = s.map) ∧
      (n = 1 → first < x.grains → EmptyMap s (s.pairNs p) x → t.entry (s.pairNs p) first = { kind := c.2, target := 0, seq := s.hq.jseq })) ∧
  (∀ (s : State) p cursor, s.alive = true → s.isTarget p = true → cursor < 2 ^ 64 → ∃ t, exec (.replCkpt p cursor) s = .next t ∧
    ((∀ e ∈ (s.sess p).fps, cursor ≤ e.1) → Said t p 8 cursor [] ∧ t.cursor p = cursor) ∧ ((∃ e ∈ (s.sess p).fps, e.1 < cursor) → t = s)) ∧
  (∀ (s : State) p epoch, s.alive = true → (s.sess p).epoch = epoch →
    (s.isSource p [2] = true → ∃ t, exec (.done p epoch) s = .next t ∧ t.pairState' p = 4 ∧ t.sess p = { base := some epoch, epoch } ∧
      mget t.repl.vault p = none ∧ t.Told Ev.REPL_DONE [.v 4 p, .v 4 epoch, .v 4 (s.rdN Pg.SNAPREP Rg.SNAPREP_PAIR_HAVE p),
        .v 4 (s.rdN Pg.SNAPREP Rg.SNAPREP_PAIR_NEED p), .v 8 (s.sess p).wire]) ∧
    (∀ x, s.isTarget p = true → (s.sess p).fps = [] → s.nsp (s.pairNs p) = some x → ∃ t, exec (.done p epoch) s = .next t ∧ t.pairState' p = 4 ∧
      Said t p 9 0 (leBytes 4 epoch) ∧ (t.sess p).base = some epoch ∧
      snapsOf t (s.pairNs p) = x.snaps ++ [{ epoch, point := s.hq.jseq, since := s.gts }]))

/-! ### Stitchline -/
namespace Sys2Proof.Machine

/-- Command `id` of job `k` is outstanding at its module, no soft decode is under way, and the other port has had nothing executed
before it. -/
def Outstanding (s : State) (id k : Nat) (j : Job) (c : ModCmd) (a : ModAns) : Prop :=
  s.alive = true ∧ mget s.stitch.cmds id = some c ∧ c.soft = [] ∧ c.job = some k ∧ mget s.eng.jobs k = some j ∧ a.peer = []

/-- What the module makes of the command, and what it read from head memory for it. -/
def ran (s : State) (c : ModCmd) (a : ModAns) : Module × ModRes := (s.module c.module).run c a (s.modRead c).2.1

/-- The command is no longer outstanding. -/
def Answered (t : State) (id : Nat) : Prop := mget t.stitch.cmds id = none

/-- Module `n` has failed: its state, its reset pin, Quilt's mark, and none of its commands is outstanding (11 R471, R472). -/
def ModFailed (t : State) (n : Nat) : Prop :=
  t.modState n = 5 ∧ bitOf t.pins.modPerstN n = false ∧ t.modFailed n = true ∧ (∀ e ∈ t.stitch.cmds, e.2.module ≠ n) ∧
  (t.module n).failedOnce = true ∧ (t.module n).qps = []

/-- Module `n` trains again, with none of its commands outstanding. -/
def Trains (t : State) (n : Nat) : Prop := t.modState n = 2 ∧ (∀ e ∈ t.stitch.cmds, e.2.module ≠ n) ∧ (t.module n).qps = []

/-- A write of STITCH_MOD_CTRL on page `i` is accepted, bit `b` the lowest set, and shows module `n`. -/
def ModCtrl (s : State) (i master v b n : Nat) : Prop :=
  i < 4 ∧ Accepts s (Pg.STITCH + i) Rg.STITCH_MOD_CTRL master v ∧ bitOf v b = true ∧ v % 2 ^ b = 0 ∧ n = s.selMod i

/-- It is ignored and recorded (11 R482). -/
def ModIgnored (s t : State) (i : Nat) : Prop :=
  t.rf (Pg.STITCH + i) Rg.ERR_INFO 23 16 = St.BAD_INPUT ∧ t.stitch = s.stitch ∧ t.power = s.power ∧ t.pins = s.pins

/-- Power has been asked for: the domain is queued, or, where the request is refused for its inrush, the module stays absent. -/
def PowerAsked (s t : State) (n : Nat) : Prop :=
  (s.withinBudget (32 + n) = true → s.domSt (32 + n) = 0 → t.domSt (32 + n) = 1 ∧ t.modState n = 1) ∧
  (s.withinBudget (32 + n) = false → s.domSt (32 + n) = 0 → t.domSt (32 + n) = 0 ∧ t.modState n = 0 ∧ Raised t Pg.PWRSEQ 3)

end Sys2Proof.Machine

/-- Stitchline: jobs sent to modules, completions and their effects, hard and soft decodes, timeouts, telemetry -/
def Obligations.ModuleCommands : Prop :=
  (∀ p ∈ ([(Instr.read, 1), (Instr.softRead, 2), (Instr.program, 3), (Instr.erase, 4), (Instr.identify, 0x12), (Instr.loadProfile, 0x13), (Instr.defectMap, 0x14), (Instr.telemetry, 0x15), 
    (Instr.getWitness, 0x16), (Instr.wCas, 0x17), (Instr.setEpoch, 0x18)] : List ((Nat → Instr) × Nat)), ∀ (s : State) id j n q, Runs s .stitch p.2 id j → bitOf (j.f 14 1) 0 = false → n = j.module → q = s.queueOf n p.2 (j.f 28 1) →
    ∃ t, exec (p.1 id) s = .next t ∧ (s.sent id = true → t = s) ∧
      (s.sent id = false → s.modState n ≠ 4 ∨ (s.module n).detaching = true → Ends t id j { status := St.NOT_READY } ∧ t.stitch = s.stitch) ∧
      (s.sent id = false → s.modState n = 4 → (s.module n).detaching = false →
        (p.2 ∈ [3, 4] → s.roleHeld j.role = false → Ends t id j { status := St.LOCKED } ∧ t.stitch = s.stitch) ∧
        ((p.2 ∈ [3, 4] → s.roleHeld j.role = true) → s.rdN Pg.STITCH Rg.STITCH_INFLIGHT < 65536 →
          (p.2 ≤ 4 → s.onDie n (j.f 28 1) < s.rf Pg.PATTERN Rg.PATTERN_DIE_QD 5 0) → mget t.eng.jobs id = some j ∧
          t.rdN Pg.STITCH Rg.STITCH_INFLIGHT = s.rdN Pg.STITCH Rg.STITCH_INFLIGHT + 1 ∧
          (∃ k, mget t.stitch.cmds k = some { s.cmdOf id j with entry := mgetD 0 (s.module n).tails q }) ∧
          Sent t (.module n p.2 ([q * 1024 + mgetD 0 (s.module n).tails q, j.role, s.roleEpoch j.role] ++
            (((j.desc.drop 16).take 48).map (·.toNat))))))) ∧
  (∀ p ∈ [(Instr.createQp, 0x10), (Instr.deleteQp, 0x11)], ∀ (s : State) id j, Runs s .stitch p.2 id j →
    ∃ t, exec (p.1 id) s = .next t ∧ Ends t id j { status := St.BAD_INPUT } ∧ t.stitch = s.stitch) ∧
  (∀ (s : State) id k j c a r, Outstanding s id k j c a → r = ran s c a → ∃ t, exec (.moduleCompletion id a) s = .next t ∧
    (r.2.mstatus = 4 → (s.modRead c).2.2 = St.OK → Answered t id ∧ EndsWith t k j St.STALE_EPOCH ∧
      t.Told Ev.STITCH_STALE_EPOCH [.v 1 c.module, .v 1 c.role, .v 8 c.epoch, .v 8 ((s.module c.module).roles.getD c.role 0)]) ∧
    (r.2.mstatus = 7 → (s.modRead c).2.2 = St.OK → Answered t id ∧ EndsWith t k j St.POISON ∧ dieKey c.module c.die ∈ t.pat.deadDies) ∧
    (r.2.mstatus ∈ [5, 6] → (s.modRead c).2.2 = St.OK → Answered t id ∧ EndsWith t k j St.BAD_INPUT) ∧
    (c.opcode = 3 → r.2.mstatus = 0 → (s.modRead c).2.2 = St.OK → Answered t id ∧ EndsWith t k j St.OK ∧
      mget (t.module c.module).wptr (c.die * 2 ^ 19 + c.block) = some (c.offset + c.length)) ∧
    (c.opcode = 4 → r.2.mstatus = 0 → Answered t id ∧ EndsWith t k j St.OK ∧ mget (t.module c.module).wptr (c.die * 2 ^ 19 + c.block) = some 0) ∧
    (c.opcode = 1 → r.2.mstatus = 0 → c.list = false → Answered t id ∧
      t.rdN Pg.MAPPER Rg.MAPPER_THR_FIRST_OK = (s.rdN Pg.MAPPER Rg.MAPPER_THR_FIRST_OK + 1) % 2 ^ 32 ∧
      ∃ u, OnlyParts [.regs, .stitch, .map] s u ∧ t.mem = (u.writeBytes c.acc c.addr (padTo c.length a.data)).1.mem ∧
        ((u.writeBytes c.acc c.addr (padTo c.length a.data)).2 = St.OK → EndsWith t k j St.OK)) ∧
    (∀ bad, c.opcode = 1 → r.2.mstatus = 1 → bad = (c.words.filter fun i => bitOf a.failed i) → bad ≠ [] → mget t.eng.jobs k = some j ∧
      (∃ d, mget t.stitch.cmds id = some d ∧ d.soft = bad ∧ d.softReads = bad.length) ∧ (∀ i ∈ bad, Out.module c.module 2 [i] ∈ t.out) ∧
      t.rdN Pg.MAPPER Rg.MAPPER_THR_FIRST_FAIL = (s.rdN Pg.MAPPER Rg.MAPPER_THR_FIRST_FAIL + 1) % 2 ^ 32) ∧
    (c.opcode = 0x12 → r.2.mstatus = 0 → Answered t id ∧ ∃ u, OnlyParts [.regs, .stitch] s u ∧
      t.mem = (u.writeBytes c.acc c.addr (padTo 4096 a.data)).1.mem) ∧
    (c.opcode = 0x15 → r.2.mstatus = 0 → Answered t id ∧ (t.module c.module).temps = (padTo 257 a.data).map (·.toNat) ∧
      mget t.stitch.tempAt c.module = some s.gts) ∧
    (∀ old, c.opcode = 0x17 → c.arg < 4 → old = (s.module c.module).slots.getD c.arg (0, 0) → Answered t id ∧ EndsWith t k j St.OK ∧
      (old = (c.addr2, c.f 56 2) → old.1 < c.f 48 8 → (t.module c.module).slots = (s.module c.module).slots.set c.arg (c.f 48 8, c.f 58 2)) ∧
      (old ≠ (c.addr2, c.f 56 2) ∨ c.f 48 8 ≤ old.1 → (t.module c.module).slots = (s.module c.module).slots)) ∧
    (c.opcode = 0x18 → c.arg < (s.module c.module).roles.length → c.arg < 4 → Answered t id ∧ EndsWith t k j St.OK ∧
      (t.module c.module).roles.getD c.arg 0 = max ((s.module c.module).roles.getD c.arg 0) c.addr2)) ∧
  (∀ (s : State) id k j c cw user plane fixed, s.alive = true → mget s.stitch.cmds id = some c → c.job = some k → mget s.eng.jobs k = some j → cw ∈ c.soft →
    c.list = false → ∃ t, exec (.deepDecodeDone id cw user plane fixed) s = .next t ∧
      ((c.soft.filter (· != cw)) ≠ [] → mget t.eng.jobs k = some j ∧ ∃ d, mget t.stitch.cmds id = some d ∧ d.soft = c.soft.filter (· != cw)) ∧
      (user = none → t.Told Ev.STITCH_DEEP_FAIL [.v 1 c.module, .v 1 c.die, .v 4 c.block, .v 1 cw]) ∧
      ((c.soft.filter (· != cw)) = [] → Answered t id ∧
        (∀ u, user = some u → c.lost = 0 → c.access = St.OK →
          (s.writeBytes c.acc (c.addr + (c.part cw).1) (padTo (c.part cw).2 ((padTo 4096 u).drop ((c.part cw).1 + c.offset - (c.offset / 65536 * 65536 + 4096 * cw))))).2 = St.OK →
          (c.part cw).1 + (c.part cw).2 ≤ c.length → 0 < (c.part cw).2 → EndsWith t k j St.OK) ∧
        (user = none → (∃ code, EndsWith t k j code ∧ fine code = false)))) ∧
  (∀ (s : State) id c, s.alive = true → mget s.stitch.cmds id = some c → s.modState c.module = 4 → (s.module c.module).deleting = none → c.queue ≠ 0 →
    ∃ t n, exec (.commandTimeoutExpiry id) s = .next t ∧ (t.module c.module).deleting = some c.queue ∧
      t.Told Ev.STITCH_CMD_TIMEOUT [.v 1 c.module, .v 1 c.queue, .v 2 (c.queue * 1024 + c.entry), .v 1 c.opcode] ∧
      Sent t (.module c.module 0x11 ([n, 0, 0] ++ (((List.replicate 48 (0 : Byte)).set 13 (BitVec.ofNat 8 c.queue)).map (·.toNat))))) ∧
  (∀ (s : State), s.alive = true → ∃ t, exec .telemetryTimer s = .next t ∧ (s.attachedMods = [] → t = s) ∧
    ∀ n ∈ s.attachedMods, ∃ l, Out.module n 0x15 l ∈ t.out)

/-- Modules: presence, power, link training, configuration, detach, hot reset, removal, failure, port errors, role epochs -/
def Obligations.ModulesAttachAndFail : Prop :=
  (∀ (s : State) n, s.alive = true → n < 32 → ∃ t, exec (.modulePresent n) s = .next t ∧ bitOf t.pins.modPrsntN n = false ∧
    (s.modState n = 0 → s.rb (stPage n) Rg.STITCH_MOD_CFG 4 (n % 8) = true → PowerAsked s t n) ∧
    (s.modState n ≠ 0 ∨ s.rb (stPage n) Rg.STITCH_MOD_CFG 4 (n % 8) = false → t.modState n = s.modState n ∧ t.power = s.power)) ∧
  (∀ (s : State) i master v n, ModCtrl s i master v 0 n → ∃ t, exec (.stitchModAttach i master v) s = .next t ∧
    (s.modState n = 5 → t.modState n = 0) ∧ (s.modState n = 0 → PowerAsked s t n) ∧ (s.modState n ∉ [0, 5] → ModIgnored s t i)) ∧
  (∀ (s : State) i master v n, ModCtrl s i master v 1 n → ∃ t, exec (.stitchModDetach i master v) s = .next t ∧
    (s.modState n = 4 → (t.module n).detaching = true ∧ t.modState n = 4) ∧ (s.modState n ≠ 4 → ModIgnored s t i)) ∧
  (∀ (s : State) i master v n, ModCtrl s i master v 2 n → ∃ t, exec (.stitchModPowerOff i master v) s = .next t ∧
    (s.domSt (32 + n) = 4 → t.domSt (32 + n) = 7 ∧ bitOf t.pins.modPwren n = false) ∧ (s.domSt (32 + n) = 1 → t.domSt (32 + n) = 0) ∧
    (s.domSt (32 + n) ∈ [2, 3] → (t.dom (32 + n)).latch = some false)) ∧
  (∀ (s : State) i master v n, ModCtrl s i master v 3 n → ∃ t, exec (.stitchModHotReset i master v) s = .next t ∧
    (s.modState n = 4 → Trains t n) ∧ (s.modState n ≠ 4 → ModIgnored s t i)) ∧
  (∀ (s : State) d, s.power.aon = true → s.nextGrant = some d → 32 ≤ d → s.ramping = none → s.rb Pg.PWRSEQ Rg.PWRSEQ_CFG 0 = true →
    ∃ t, exec .modulePowerGrant s = .next t ∧ (s.withinBudget d = true → t.domSt d = 2 ∧ bitOf t.pins.modPwren (d - 32) = true) ∧
      (s.withinBudget d = false → t.domSt d = 0 ∧ t.Told Ev.PWRSEQ_GRANT_REFUSED
        [.v 1 d, .v 2 (s.iccOf d), .v 2 (s.rf Pg.PWRSEQ Rg.PWRSEQ_ICC_BUDGET 11 0)])) ∧
  (∀ (s : State) n, s.alive = true → n < 32 → s.modState n = 1 → bitOf s.pins.modPwren n = true → ∃ t, exec (.perstReleaseTimer n) s = .next t ∧
    bitOf t.pins.modPerstN n = true ∧ t.modState n = 2) ∧
  (∀ (s : State) n w g flit l, s.alive = true → n < 32 → w < 8 → g < 8 → s.modState n = 2 → bitOf s.pins.modPerstN n = true →
    s.rb (pciePage n) Rg.PCIE_CFG 0 = true → ∃ t, exec (.moduleLinkUp n w g flit l) s = .next t ∧ t.modState n = 3 ∧
      t.rf (stPage n) Rg.STITCH_MOD_STATUS 7 5 (n % 8) = w ∧ t.rf (stPage n) Rg.STITCH_MOD_STATUS 10 8 (n % 8) = g ∧
      t.rb (stPage n) Rg.STITCH_MOD_STATUS 4 (n % 8) = decide (w < 4 ∨ g < 6) ∧ t.rb (pciePage n) Rg.PCIE_PORT_STATUS 0 (n % 8) = true) ∧
  (∀ p ∈ [(Instr.linkTrainTimeout, 2), (Instr.configureTimeout, 3), (Instr.moduleFatal, 4)], ∀ (s : State) n, s.alive = true → n < 32 →
    ∃ t, exec (p.1 n) s = .next t ∧ (s.modState n = p.2 → ModFailed t n) ∧ (s.modState n ≠ p.2 → t = s)) ∧
  (∀ (s : State) n k c j, s.alive = true → n < 32 → s.modState n = 4 → s.pair.members = [] → mget s.stitch.cmds k = some c → c.module = n →
    ∀ q, c.job = some q → mget s.eng.jobs q = some j → ∃ t, exec (.moduleFatal n) s = .next t ∧ EndsWith t q j St.ABORTED_BY_RESET) ∧
  (∀ (s : State) n serial dies profiles defects slots roles, s.alive = true → n < 32 → s.modState n = 3 → slots.length = 4 → roles.length = 4 →
    (∀ p ∈ profiles, profileOk p = true) → dies.length ≤ 256 →
    ∃ t, exec (.configureComplete n serial dies profiles defects slots roles) s = .next t ∧ t.modState n = 4 ∧ t.modFailed n = false ∧
      (t.module n).slots = slots ∧ (t.module n).roles = roles ∧ (t.module n).dies = dies ∧ (t.module n).serial = padTo 16 serial ∧
      (t.module n).failedOnce = false ∧ 63 ∈ (t.module n).qps ∧ t.rb (stPage n) Rg.STITCH_MOD_STATUS 12 (n % 8) =
        ((s.module n).failedOnce || decide (ofLE (padTo 16 serial) ∉ s.pair.members)) ∧
      (∀ r < 3, s.roleHeld r = true → s.roleEpoch r < roles.getD r 0 → t.rb Pg.STITCH Rg.STITCH_STATUS 2 = true ∧ Raised t Pg.STITCH 2)) ∧
  (∀ (s : State) n, s.alive = true → n < 32 → s.modState n = 4 → ∃ t, exec (.deleteQpTimeout n) s = .next t ∧
    ((s.module n).deleting ≠ none → Trains t n ∧ (t.module n).deleting = none) ∧ ((s.module n).deleting = none → t = s)) ∧
  (∀ (s : State) n, s.alive = true → n < 32 → s.modState n = 4 → bitOf s.pins.modPrsntN n = false →
    (∃ t, exec (.moduleLinkDown n) s = .next t ∧ Trains t n ∧ t.rdN (pciePage n) Rg.PCIE_PORT_STATUS (n % 8) = 0) ∧
    ∃ t, exec (.pcieCompletionTimeout n) s = .next t ∧ Trains t n ∧ t.rb (pciePage n) Rg.PCIE_PORT_ERR 3 (n % 8) = true) ∧
  (∀ (s : State) n, s.alive = true → n < 32 → ∃ t, exec (.surpriseRemoval n) s = .next t ∧ bitOf t.pins.modPrsntN n = true ∧
    (s.modState n = 5 → t.modState n = 0) ∧ (s.modState n ∉ [4, 5] → t.modState n = s.modState n ∧ t.stitch = s.stitch) ∧
    (s.modState n = 4 → ModFailed t n ∧ t.rb (pciePage n) Rg.PCIE_PORT_ERR 4 (n % 8) = true ∧ (s.domSt (32 + n) = 4 → t.domSt (32 + n) = 7))) ∧
  (∀ (s : State) n b, s.alive = true → n < 32 → b % 16 ≠ 0 → ∃ t, exec (.moduleAlert n b) s = .next t ∧ bitOf t.pins.modAlertN n = false ∧
    t.rb (stPage n) Rg.STITCH_MOD_STATUS 11 (n % 8) = true ∧
    mget (t.module n).slm 0xC = some (mgetD 0 (s.module n).slm 0xC ||| BitVec.ofNat 32 (b % 16))) ∧
  (∀ (s : State) n, s.alive = true → n < 32 → s.modState n = 4 → (s.module n).detaching = true → ∃ t, exec (.detachComplete n) s = .next t ∧
    ((∃ e ∈ s.stitch.cmds, e.2.module = n) → t = s) ∧
    ((∀ e ∈ s.stitch.cmds, e.2.module ≠ n) → t.modState n = 0 ∧ bitOf t.pins.modPerstN n = false ∧ (t.module n).detaching = false ∧
      t.Told Ev.STITCH_MOD_DETACHED [.v 1 n] ∧ (s.domSt (32 + n) = 4 → t.domSt (32 + n) = 7) ∧
      ∀ q ∈ (s.module n).qps, Out.module n 0x11 [q] ∈ t.out)) ∧
  (∀ (s : State) n b k, s.alive = true → n < 32 → ∃ t, exec (.pcieError n b k) s = .next t ∧
    (∀ i < 3, t.rb (pciePage n) Rg.PCIE_PORT_ERR i (n % 8) = (s.rb (pciePage n) Rg.PCIE_PORT_ERR i (n % 8) || bitOf b i)) ∧
    t.rdN (pciePage n) Rg.PCIE_FLIT_REPLAY (n % 8) = satAdd 32 (s.rdN (pciePage n) Rg.PCIE_FLIT_REPLAY (n % 8)) k ∧
    (bitOf b 0 = true → t.rdN (pciePage n) Rg.PCIE_CORR_COUNT (n % 8) = satAdd 32 (s.rdN (pciePage n) Rg.PCIE_CORR_COUNT (n % 8)) 1) ∧
    (bitOf b 2 = true → t.Told Ev.PCIE_FATAL [.v 1 (n / 8), .v 1 (n % 8), .v 1 (b % 8)])) ∧
  (∀ (s : State) master v r e, Accepts s Pg.STITCH Rg.STITCH_ROLE_EPOCH_HI master v → r = s.rdN Pg.STITCH Rg.STITCH_ROLE_SEL → r < 4 →
    e = s.rdN Pg.STITCH Rg.STITCH_ROLE_EPOCH_LO r + 2 ^ 32 * v → ∃ t, exec (.stitchRoleEpochHiWrite master v) s = .next t ∧
      (s.roleEpoch r ≤ e → t.roleEpoch r = e) ∧
      (e < s.roleEpoch r → t.roleEpoch r = s.roleEpoch r ∧ t.rf Pg.STITCH Rg.ERR_INFO 23 16 = St.BAD_INPUT))

/-! ### Clasp -/
namespace Sys2Proof.Machine

/-- GO of channel `c` is written with go set, by the channel's sender, while it is clear and Clasp is enabled. -/
def Goes (s : State) (c master v : Nat) : Prop :=
  c < 64 ∧ Accepts s Pg.CLASP (outGo c) master v ∧ bitOf v 0 = true ∧ s.rb Pg.CLASP (outGo c) 0 = false ∧ s.rb Pg.CLASP Rg.CLASP_CFG 0 = true

/-- The GO asks for a reply, now or by an await written before it. -/
def Awaits (s : State) (c v : Nat) : Prop := bitOf v 1 = true ∨ s.rb Pg.CLASP (outGo c) 1 = true

/-- Inbox `c` holds the words, from this sender, and the doorbell bit is set in the receiver bank. -/
def Latched (s t : State) (c sender : Nat) (words : List Nat) : Prop :=
  (∀ i < 16, t.rdN Pg.CLASP (inMsg c i) = words.getD i 0 % 2 ^ 32) ∧ t.rb Pg.CLASP (inStatus c) 0 = true ∧
  t.rf Pg.CLASP (inStatus c) 25 16 = sender % 1024 ∧
  t.rb Pg.CLASP (Rg.CLASP_DB_PEND + 4 * s.claspBank c) (s.rf Pg.CLASP (bindReg c) 19 15) = true

/-- Channel `c`'s message is no longer under way: go and busy are clear, and its status shows `code`. -/
def GoEnds (t : State) (c code : Nat) : Prop :=
  t.rb Pg.CLASP (outGo c) 0 = false ∧ t.ostat c 0 = false ∧ t.rf Pg.CLASP (outStatus c) 15 8 = code

/-- Every reverse channel that waited for a reply has it. -/
def Replies (s t : State) (c : Nat) : Prop := ∀ d ∈ s.reverseOf c, s.ostat d 2 = true → t.ostat d 2 = false ∧ t.ostat d 3 = true

/-- The outbox, the inbox and the doorbells are as before. -/
def BoxesKept (s t : State) : Prop := ∀ i < 0x10000, t.rd Pg.CLASP i = s.rd Pg.CLASP i ∨ ¬((0x400 ≤ i ∧ i < 0x480) ∨ 0x3000 ≤ i ∨ (0x1000 ≤ i ∧ i % 0x80 < 0x40))

end Sys2Proof.Machine

/-- Clasp: GO, delivery, a full inbox, release, replies, crossed waits, timeouts, the partner's messages and their acknowledgement -/
def Obligations.ClaspChannels : Prop :=
  (∀ (s : State) c master v us, Goes s c master v → ∃ t, exec (.claspGo master c v us) s = .next t ∧
    OnlyParts [.regs, .cells, .lines, .locket, .wake, .power, .out] s t ∧ OnlyPages [Pg.CLASP, Pg.LOCKET, Pg.PWRSEQ] s t ∧
    (s.chRemote c = true → Sent t (.seam 25 0 (c :: master :: s.outWords c)) ∧ t.rb Pg.CLASP (outGo c) 0 = true ∧ t.ostat c 0 = true) ∧
    (s.chRemote c = false → s.bankMaster (s.claspBank c) = none → GoEnds t c St.NOT_READY ∧ BoxesKept s t) ∧
    (∀ m, s.chRemote c = false → s.bankMaster (s.claspBank c) = some m →
      (s.rb Pg.CLASP (inStatus c) 0 = false → Latched s t c master (s.outWords c) ∧ GoEnds t c St.OK ∧ t.ostat c 1 = true ∧
        (¬Awaits s c v → Replies s t c)) ∧
      (s.rb Pg.CLASP (inStatus c) 0 = true → t.rb Pg.CLASP (outGo c) 0 = true ∧ t.ostat c 0 = true ∧ t.ostat c 1 = false ∧
        (¬Awaits s c v → BoxesKept s t)) ∧
      (s.chWakeOk c = true → ∀ d ∈ s.asleep c, s.ostat c 5 = false → t.ostat c 5 = true ∧ (s.domSt d = 0 → s.withinBudget d = true → t.domSt d = 1))) ∧
    (Awaits s c v → t.ostat c 2 = true ∧ t.ostat c 3 = false ∧
      ∀ d ∈ s.reverseOf c, d ≠ c → s.ostat d 2 = true → t.ostat c 4 = true ∧ t.ostat d 4 = true ∧
        (s.ostat d 4 = false → t.rb Pg.CLASP (Rg.CLASP_DB_PEND + 4 * s.claspBank c) 31 = true ∧
          t.rb Pg.CLASP (Rg.CLASP_DB_PEND + 4 * s.claspBank d) 31 = true ∧ Raised t Pg.CLASP 1))) ∧
  (∀ (s : State) c master v us, c < 64 → Accepts s Pg.CLASP (outGo c) master v →
    ∃ t, exec (.claspGo master c v us) s = .next t ∧ (s.rb Pg.CLASP (outGo c) 0 = true → t = s) ∧
      (s.rb Pg.CLASP (outGo c) 0 = false → bitOf v 0 = true → s.rb Pg.CLASP Rg.CLASP_CFG 0 = false → GoEnds t c St.NOT_READY ∧ BoxesKept s t)) ∧
  (∀ (s : State) c master v us, s.alive = true → s.pageReady Pg.CLASP = true → c < 64 → s.claspSender c ≠ some master →
    ∃ t, exec (.claspGo master c v us) s = .next t ∧ BoxesKept s t ∧ t.rd Pg.CLASP (outGo c) = s.rd Pg.CLASP (outGo c) ∧ t.rb Pg.CLASP Rg.PAGE_STATUS 0 = true ∧
      Raised t Pg.CLASP 2 ∧ t.Told Ev.CLASP_REFUSED [.v 1 c, .v 2 master, .v 2 (outGo c)] ∧
      (s.chBound c = false → t.rf Pg.CLASP (outStatus c) 15 8 = St.NOT_READY)) ∧
  (∀ (s : State) c master v us, c < 64 → Accepts s Pg.CLASP (Rg.CLASP_IN_REL + 0x80 * c) master v → bitOf v 0 = true →
    ∃ t, exec (.claspInRel master c v us) s = .next t ∧
      OnlyParts [.regs, .cells, .lines, .locket, .wake, .power, .out, .clasp] s t ∧ OnlyPages [Pg.CLASP, Pg.LOCKET, Pg.PWRSEQ] s t ∧
      (mget s.clasp.waiting c = none → s.rb Pg.CLASP (outGo c) 0 = false ∨ s.chRemote c = true →
        t.rb Pg.CLASP (inStatus c) 0 = false ∧ t.ostat c 1 = s.ostat c 1) ∧
      (∀ m, mget s.clasp.waiting c = none → s.rb Pg.CLASP (outGo c) 0 = true → s.chRemote c = false → s.claspSender c = some m →
        Latched s t c m (s.outWords c) ∧ GoEnds t c St.OK ∧ t.ostat c 1 = true ∧ (s.rb Pg.CLASP (outGo c) 1 = false → Replies s t c)) ∧
      (∀ snd ws, mget s.clasp.waiting c = some (snd, ws) → Latched s t c snd ws ∧ Sent t (.seam 25 1 [c, St.OK]) ∧
        mget t.clasp.waiting c = none)) ∧
  (∀ (s : State) c, s.alive = true → c < 64 → s.rb Pg.CLASP (outGo c) 0 = true → ∃ t, exec (.claspTimeoutExpiry c) s = .next t ∧
    (s.ostat c 5 = true → t = s) ∧
    (s.ostat c 5 = false → GoEnds t c St.TIMEOUT ∧ BoxesKept s t ∧ Raised t Pg.CLASP 0 ∧ OnlyPages [Pg.CLASP, Pg.LOCKET] s t ∧
      t.rdN Pg.CLASP Rg.CLASP_TIMEOUTS = satAdd 32 (s.rdN Pg.CLASP Rg.CLASP_TIMEOUTS) 1 ∧ t.ostat c 2 = s.ostat c 2 ∧
      t.Told Ev.CLASP_TIMEOUT [.v 1 c, .v 2 ((s.claspSender c).getD 0), .v 1 (s.claspBank c), .v 1 (b2n (s.chRemote c))])) ∧
  (∀ (s : State) c m ws us, s.alive = true → c < 64 → ∃ t, exec (.remoteClaspMessage c m ws us) s = .next t ∧
    (s.claspSender c ≠ some (0x200 + m) → t = s.emit (.seam 25 1 [c, St.LOCKED])) ∧
    (s.claspSender c = some (0x200 + m) →
      (s.rb Pg.CLASP (inStatus c) 0 = false → Latched s t c (0x200 + m) ws ∧ Sent t (.seam 25 1 [c, St.OK]) ∧ Replies s t c) ∧
      (s.rb Pg.CLASP (inStatus c) 0 = true → mget t.clasp.waiting c = some (0x200 + m, ws) ∧ BoxesKept s t ∧ t.out = s.out))) ∧
  (∀ (s : State) c b, s.alive = true → c < 64 → s.chRemote c = true → s.rb Pg.CLASP (outGo c) 0 = true →
    ∃ t, exec (.remoteLatchAck c b) s = .next t ∧ OnlyParts [.regs] s t ∧ OnlyPages [Pg.CLASP] s t ∧ BoxesKept s t ∧
      (b = true → GoEnds t c St.OK ∧ t.ostat c 1 = true ∧ (s.rb Pg.CLASP (outGo c) 1 = false → Replies s t c)) ∧
      (b = false → GoEnds t c St.LOCKED))

/-! ### Seam and the pair -/
namespace Sys2Proof.Machine

/-- The head runs, link `l` is not DOWN, and both links have their entries. -/
def LinkUp (s : State) (l : Nat) : Prop := s.alive = true ∧ l < 2 ∧ s.pair.links.length = 2 ∧ s.linkState l ≠ 0

/-- The state in which 13 R518 leaves a link in state `st` whose higher counter is `hi`. -/
def linkAfter (st hi : Nat) : Nat :=
  if st = 2 then (if 128 ≤ hi then 5 else 2)
  else if st = 3 then (if hi = 255 then 5 else if 128 ≤ hi then 4 else 3)
  else if st = 4 then (if hi = 255 then 5 else if hi < 96 then 3 else 4)
  else st

/-- Link `l` has come to a state: its status shows it, the interrupt is set, and 13 R547's bits for CAUTIONED and RETIRED. -/
def LinkIs (t : State) (l st : Nat) : Prop :=
  t.linkState l = st ∧ Raised t (seamPage l) 0 ∧ (st = 4 → Raised t (seamPage l) 1) ∧ (st = 5 → Raised t (seamPage l) 2)

/-- The change is the newest record. -/
def LinkTold (s t : State) (l st : Nat) : Prop :=
  t.Told Ev.SEAM_STATE [.v 1 l, .v 1 (s.linkState l), .v 1 st, .v 1 (t.rxCount l), .v 1 (t.txCount l)]

/-- The links' counters keep to their rules: this link's RX counter is `rx`, and its state follows. -/
def RxIs (s t : State) (l rx : Nat) : Prop := t.rxCount l = rx ∧ t.linkState l = linkAfter (s.linkState l) (max rx (s.txCount l))

/-- From `s` to `t` the head has been asked to yield for `cause` (13 R539, R541). -/
def Yields (s t : State) (cause : Nat) : Prop :=
  (s.pairState = 6 → t.pairState = 6 ∧ t.out = s.out ∧ t.pair = s.pair) ∧
  (s.pairState = 5 → cause ∉ [2, 3, 7, 8, 10] → t.pairState = 5 ∧ t.out = s.out ∧ t.pair = s.pair ∧ t.hq = s.hq ∧
    t.Told Ev.HEADPAIR_YIELD [.v 1 cause, .v 1 5]) ∧
  (s.pairState ≠ 6 → (s.pairState = 5 → cause ∈ [2, 3, 7, 8, 10]) → t.pairState = 6 ∧ Raised t Pg.HEADPAIR 0 ∧
    t.rf Pg.HEADPAIR Rg.HEADPAIR_YIELD_CAUSE 7 0 = cause % 256 ∧ t.pins.headYieldN = some false ∧
    t.rb Pg.HEADPAIR Rg.HEADPAIR_STATE 6 = true ∧ t.rb Pg.HEADPAIR Rg.HEADPAIR_STATE 3 = false ∧ t.pair.portsOff = true ∧
    (∀ p < 2, t.rf (Pg.ETH + p) Rg.ETH_LINK_STATUS 3 0 = 0) ∧ t.hq.ctrls = [] ∧ t.hq.queues = [] ∧ Out.seam 0 1 [s.headId, cause, 0] ∈ t.out)

/-- A write that waited for the partner's acknowledgement of its record, of those up to `n`, is acknowledged (01 R38, 13 R534). -/
def Acked (s t : State) (n : Nat) : Prop :=
  ∀ k c q, mget s.hq.cmds k = some c → c.phase = 1 → c.jseq = some q → q ≤ n → mget t.hq.cmds k = some { c with phase := 2 }

/-- The head acknowledges on its own, and reports every group as Optimized (13 R534, R536). -/
def ServesAlone (s t : State) : Prop :=
  (∀ n, Acked s t n) ∧ t.quilt.acks = [] ∧ ∀ g, 1 ≤ g → g ≤ 128 → t.anaState g = 1

/-- Acknowledgements have stopped, and the partner's present epoch is barred (13 R533). -/
def Bars (s t : State) : Prop :=
  t.rb Pg.HEADPAIR Rg.HEADPAIR_STATE 6 = true ∧ ∃ e, t.pair.barred = some e ∧ s.roleEpoch s.peerRole ≤ e

/-- The head takes over on a yield. -/
def TakesOver (s t : State) : Prop :=
  t.pairState = 4 ∧ t.rb Pg.HEADPAIR Rg.HEADPAIR_STATE 3 = false ∧ Bars s t ∧ ServesAlone s t

/-- The head arbitrates; from PAIRED the partner's groups are in ANA Change. -/
def Arbitrates (s t : State) : Prop :=
  t.pairState = 1 ∧ Bars s t ∧ (s.pairState = 3 → ∀ g, 1 ≤ g → g ≤ 128 → t.anaState g = if s.homeGroup g then s.anaState g else 0xF)

/-- The survivor hands the joiner's role over (13, Joining steps 3 and 4). -/
def HandsOver (s t : State) : Prop :=
  t.pair.inStep = true ∧ t.rb Pg.STITCH Rg.STITCH_ROLE_HELD s.peerRole = false ∧ t.rb Pg.PATTERN Rg.PATTERN_BLOCK_USE 0 = false ∧
  Out.seam 0 4 [s.headId, 0, t.ackedJ] ∈ t.out ∧ Sent t (.seam 0 5 [s.headId, s.peerRole, s.roleEpoch s.peerRole])

/-- The record is whole: both checks hold and its kind is one of 13 R527. -/
def RecGood (hdr data : List Byte) (r : JRec) : Prop :=
  r = parseRec hdr data ∧ 64 ≤ hdr.length ∧ crc32c (hdr.take 60) = leAt hdr 60 4 ∧ crc32c data = leAt hdr 36 4 ∧ 1 ≤ r.kind ∧ r.kind ≤ 7

/-- A role stands at `epoch` or above at module `n`. -/
def EpochAt (t : State) (n role epoch : Nat) : Prop := epoch ≤ (t.module n).roles.getD role 0

end Sys2Proof.Machine

/-- Seam links: training, probation, caution, retirement, frames and the counters they move, the heartbeats sent -/
def Obligations.SeamLinks : Prop :=
  (∀ (s : State) l master v, l < 2 → Accepts s (seamPage l) Rg.SEAM_CFG master v → bitOf v 0 = true → ∃ t, exec (.seamEnable master l v) s = .next t ∧
    t.rb (seamPage l) Rg.SEAM_CFG 0 = true ∧ (s.rb (seamPage l) Rg.SEAM_CFG 0 = false → s.linkState l = 0 → LinkIs t l 1 ∧ LinkTold s t l 1) ∧
    (s.rb (seamPage l) Rg.SEAM_CFG 0 = true ∨ s.linkState l ≠ 0 → t.linkState l = s.linkState l)) ∧
  (∀ (s : State) l, LinkUp s l → s.linkState l = 1 →
    (∃ t, exec (.lanesAligned l) s = .next t ∧ LinkIs t l 2 ∧ LinkTold s t l 2 ∧ t.rxCount l = 0 ∧ t.txCount l = 0 ∧
      t.rf (seamPage l) Rg.SEAM_STATUS 20 4 = 2 ^ 17 - 1) ∧
    ∃ t, exec (.trainingTimeout l) s = .next t ∧ LinkIs t l 0 ∧ LinkTold s t l 0) ∧
  (∀ (s : State) l, LinkUp s l → s.linkState l = 2 → ∃ t, exec (.probationEnd l) s = .next t ∧
    (s.rxCount l < 128 → s.txCount l < 128 → LinkIs t l 3 ∧ LinkTold s t l 3) ∧ (128 ≤ s.rxCount l ∨ 128 ≤ s.txCount l → t = s)) ∧
  (∀ (s : State) l, s.alive = true → l < 2 → s.rb (seamPage l) Rg.SEAM_CFG 0 = true → ∃ t, exec (.seamRetrainTimer l) s = .next t ∧
    (s.linkState l ∈ [0, 5] → LinkIs t l 1 ∧ LinkTold s t l 1) ∧ (s.linkState l ∉ [0, 5] → t = s)) ∧
  (∀ (s : State) l master v, l < 2 → Accepts s (seamPage l) Rg.SEAM_CTRL master v → bitOf v 0 = true →
    ∃ t, exec (.seamCtrlRetire master l v) s = .next t ∧ (s.linkState l ∉ [3, 4] → t.linkState l = s.linkState l ∧ t.urt = s.urt) ∧
      (s.linkState l ∈ [3, 4] → LinkIs t l 5 ∧ (s.urt.flows = [] → t.Told Ev.SEAM_RETIRED [.v 1 l, .v 1 1, .v 4 0]) ∧
        ∀ k f x, s.urt.flows = [(k, f)] → 65536 ≤ k → s.flowLink (k % 65536) = l → f.st = 2 → f.enc = false → f.sent = [x] → x.got = false →
          x.resends < s.rf Pg.URT Rg.URT_RETRY 3 0 → (t.flow k).sent = [{ x with txNo := f.txNo, resends := x.resends + 1 }] ∧
            ∃ b, Sent t (.packet k b))) ∧
  (∀ (s : State) l master v, l < 2 → Accepts s (seamPage l) Rg.SEAM_CTRL master v → bitOf v 1 = true → bitOf v 0 = false →
    ∃ t, exec (.seamCtrlRetrain master l v) s = .next t ∧ (s.linkState l = 5 → LinkIs t l 1 ∧ LinkTold s t l 1) ∧
      (s.linkState l ≠ 5 → t.linkState l = s.linkState l)) ∧
  (∀ (s : State) l q first corr uncorr, LinkUp s l → ∃ t, exec (.seamDataFrame l q first corr uncorr true) s = .next t ∧
    t.rdN (seamPage l) Rg.SEAM_FEC_CORR = satAdd 32 (s.rdN (seamPage l) Rg.SEAM_FEC_CORR) corr ∧
    t.rdN (seamPage l) Rg.SEAM_FEC_UNCORR = satAdd 32 (s.rdN (seamPage l) Rg.SEAM_FEC_UNCORR) uncorr ∧
    t.rdN (seamPage l) Rg.SEAM_FRAMES_RX = (s.rdN (seamPage l) Rg.SEAM_FRAMES_RX + 1) % 2 ^ 32 ∧ (t.link l).lastSeq = some (q % 2 ^ 32) ∧
    (first ≠ 0xFFFF → (t.link l).resync = false) ∧
    (∀ n, n < 2 ^ 32 → ((s.link l).lastSeq = none → n = 0) → (∀ p, (s.link l).lastSeq = some p → (p + 1 + n) % 2 ^ 32 = q % 2 ^ 32) →
      t.rdN (seamPage l) Rg.SEAM_MISSED = satAdd 32 (s.rdN (seamPage l) Rg.SEAM_MISSED) n ∧ (t.link l).lost = (s.link l).lost + n ∧
      (first = 0xFFFF → (t.link l).resync = ((s.link l).resync || decide (n ≠ 0))) ∧
      RxIs s t l (min 255 (s.rxCount l + 8 * n) - ((s.link l).rx1024 + 1) / 1024) ∧
      (t.link l).rx1024 = ((s.link l).rx1024 + 1) % 1024)) ∧
  (∀ (s : State) l q first corr uncorr, LinkUp s l → ∃ t, exec (.seamDataFrame l q first corr uncorr false) s = .next t ∧
    t.rdN (seamPage l) Rg.SEAM_CRC_DROP = satAdd 32 (s.rdN (seamPage l) Rg.SEAM_CRC_DROP) 1 ∧
    t.rdN (seamPage l) Rg.SEAM_MISSED = s.rdN (seamPage l) Rg.SEAM_MISSED ∧ (t.link l).resync = true ∧
    (t.link l).lastSeq = (s.link l).lastSeq ∧ RxIs s t l (min 255 (s.rxCount l + 8))) ∧
  (∀ (s : State) l lane, LinkUp s l → lane < 16 → ∃ t, exec (.laneLockLoss l lane) s = .next t ∧ RxIs s t l 255 ∧
    t.rb (seamPage l) Rg.SEAM_STATUS (4 + lane) = false ∧ t.rb (seamPage l) Rg.SEAM_STATUS 20 = false) ∧
  (∀ (s : State) l, LinkUp s l → ∃ t, exec (.noFrameTimeout l) s = .next t ∧ (s.linkState l ∈ [3, 4] → RxIs s t l 255 ∧ t.linkState l = 5) ∧
    (s.linkState l ∉ [3, 4] → t = s)) ∧
  (∀ (s : State), s.alive = true → s.pair.links.length = 2 → s.rb Pg.HEADPAIR Rg.HEADPAIR_CFG 0 = true →
    ∃ t, exec .heartbeatSend s = .next t ∧ OnlyParts [.pair, .out] s t ∧
      ∀ l < 2, (t.link l).lost = 0 ∧ (t.link l).good = 0 ∧
        (s.linkState l ∈ [1, 2, 3, 4] ∨ (s.linkState 0 = 5 ∧ s.linkState 1 = 5) → (t.link l).txSeq = ((s.link l).txSeq + 1) % 2 ^ 32 ∧
          ∃ age hold, Out.seam (256 + l) 0x02 [(s.link l).txSeq, s.headId, s.pairState, b2n s.releases + 2 * b2n (s.pairState == 4) +
            4 * b2n (s.pairState == 6) + 8 * b2n s.portsUp, age, s.gts, (s.link l).echo, hold, s.shadowJ, s.rd64 Pg.HEADPAIR Rg.HEADPAIR_KEEPER_LO,
            (s.link 0).lost, (s.link 1).lost, (s.link 0).good, (s.link 1).good] ∈ t.out ∧
            (s.pair.lastHb = none → age = 2 ^ 32 - 1) ∧ (∀ h, s.pair.lastHb = some h → s.gts - h < 2 ^ 32 → age = s.gts - h) ∧
            ((s.link l).echo = 0 → hold = 0) ∧ ((s.link l).echo ≠ 0 → s.gts - (s.link l).echoAt < 2 ^ 32 → hold = s.gts - (s.link l).echoAt)) ∧
        (¬(s.linkState l ∈ [1, 2, 3, 4] ∨ (s.linkState 0 = 5 ∧ s.linkState 1 = 5)) → (t.link l).txSeq = (s.link l).txSeq))

/-- Heartbeats delivered: offset, lease, counts, the pair state; silence; the journal, its acknowledgements and its horizon -/
def Obligations.HeartbeatsAndJournal : Prop :=
  (∀ (s : State) l q hb, LinkUp s l → s.rb Pg.HEADPAIR Rg.HEADPAIR_CFG 0 = true → ∃ t, exec (.heartbeat l q hb) s = .next t ∧
    t.pair.lastHb = some s.gts ∧ t.pair.heard = hbF hb 4 4 ∧ t.pair.peerState = hbF hb 1 1 ∧ t.pair.peerPortsUp = bitOf (hbF hb 2 2) 3 ∧
    t.rb Pg.HEADPAIR Rg.HEADPAIR_STATE 5 = false ∧ (t.link l).echo = hbF hb 8 8 ∧ (t.link l).echoAt = s.gts ∧
    (∀ i < 2, s.pair.counted < hbF hb 8 8 → t.txCount i =
      min 255 (s.txCount i + 8 * hbF hb (48 + 4 * i) 4) - ((s.link i).tx1024 + hbF hb (56 + 4 * i) 4) / 1024 ∧
      (i ≠ l → t.linkState i = linkAfter (s.linkState i) (max (s.rxCount i) (t.txCount i)))) ∧
    (hbF hb 8 8 ≤ s.pair.counted → ∀ i < 2, t.txCount i = s.txCount i) ∧
    (hbF hb 0 1 % 2 = s.headId → t.rb Pg.HEADPAIR Rg.HEADPAIR_STATE 4 = true ∧ t.pairState = s.pairState ∧
      (s.rb Pg.HEADPAIR Rg.HEADPAIR_STATE 4 = false → t.Told Ev.HEADPAIR_ID_CONFLICT [.v 1 s.headId])) ∧
    (hbF hb 0 1 % 2 ≠ s.headId → t.rd64 Pg.HEADPAIR Rg.HEADPAIR_KEEPER_LO = max (s.rd64 Pg.HEADPAIR Rg.HEADPAIR_KEEPER_LO) (hbF hb 40 8) ∧
      t.ackedJ = max s.ackedJ (hbF hb 32 8) ∧
      ((∀ i < 2, t.linkState i = 5 → s.linkState i = 5) → Acked s t (hbF hb 32 8)) ∧ (bitOf (hbF hb 2 2) 2 = false → t.pins.peerYieldN = true) ∧
      (s.pairState = 3 → hbF hb 4 4 < 1000 * s.rf Pg.HEADPAIR Rg.HEADPAIR_READ_LEASE 15 0 → bitOf (hbF hb 2 2) 1 = false →
        bitOf (hbF hb 2 2) 2 = false → t.rb Pg.HEADPAIR Rg.HEADPAIR_STATE 3 = true) ∧
      (∀ rtt off : Int, hbF hb 16 8 ≠ 0 → rtt = (s.gts : Int) - hbF hb 16 8 - hbF hb 24 8 → off = (hbF hb 8 8 : Int) + rtt / 2 - s.gts →
        t.pair.offsets = (off :: s.pair.offsets).take 16 ∧
        t.rb Pg.HEADPAIR Rg.HEADPAIR_GTS_STATUS 0 = decide (-8 ≤ median t.pair.offsets ∧ median t.pair.offsets ≤ 8) ∧
        (s.rb Pg.HEADPAIR Rg.HEADPAIR_GTS_STATUS 0 = true → t.rb Pg.HEADPAIR Rg.HEADPAIR_GTS_STATUS 0 = false → Raised t Pg.HEADPAIR 2)) ∧
      (s.pairState = 0 → hbF hb 1 1 = 5 → t.pairState = 2 ∧ Sent t (.seam 0 3 [s.headId, 0, 0]) ∧
        (hbF hb 16 8 = 0 → t.gts = s.gts + (sext 16 (s.rf Pg.HEADPAIR Rg.HEADPAIR_GTS_STATUS 31 16)).toNat)) ∧
      (s.pairState = 0 → hbF hb 1 1 = 0 → s.headId = 0 → Arbitrates s t) ∧
      (s.pairState = 0 → hbF hb 1 1 ≠ 5 → ¬(hbF hb 1 1 = 0 ∧ s.headId = 0) → t.pairState = 0) ∧
      (s.pairState = 5 → s.pair.inStep = true → s.pair.joinSince ≠ 0 → hbF hb 1 1 = 3 → t.pairState = 3 ∧
        t.rb Pg.HEADPAIR Rg.HEADPAIR_STATE 6 = false ∧ t.pair.joinSince = 0) ∧
      (s.pairState ∈ [1, 2, 3, 4, 6] → t.pairState = s.pairState))) ∧
  (∀ (s : State), s.alive = true → s.rb Pg.HEADPAIR Rg.HEADPAIR_CFG 0 = true → ∃ t, exec .partnerSilent s = .next t ∧
    (s.rb Pg.HEADPAIR Rg.HEADPAIR_STATE 5 = true → t = s) ∧
    (s.rb Pg.HEADPAIR Rg.HEADPAIR_STATE 5 = false → t.rb Pg.HEADPAIR Rg.HEADPAIR_STATE 5 = true ∧ Raised t Pg.HEADPAIR 3 ∧
      (s.pairState = 3 ∨ (s.pairState = 0 ∧ s.rb Pg.HEADPAIR Rg.HEADPAIR_STATE 4 = false) → Arbitrates s t ∧ t.rb Pg.HEADPAIR Rg.HEADPAIR_STATE 3 = false) ∧
      (s.pairState ∉ [0, 3] ∨ (s.pairState = 0 ∧ s.rb Pg.HEADPAIR Rg.HEADPAIR_STATE 4 = true) → t.pairState = s.pairState ∧ OnlyParts [.regs, .wake] s t))) ∧
  (∀ (s : State), s.alive = true → s.rb Pg.HEADPAIR Rg.HEADPAIR_STATE 3 = true → ∃ t, exec .leaseLapse s = .next t ∧ t.pairState = s.pairState ∧
    t.rb Pg.HEADPAIR Rg.HEADPAIR_STATE 3 = false ∧ Raised t Pg.HEADPAIR 1 ∧ t.Told Ev.HEADPAIR_LEASE [.v 1 0, .v 4 s.pair.heard]) ∧
  (∀ (s : State) hdr data r, s.alive = true → s.rb Pg.HEADPAIR Rg.HEADPAIR_CFG 0 = true → r = parseRec hdr data →
    ∃ t, exec (.journalRecord hdr data) s = .next t ∧
      (¬RecGood hdr data r → t = s.emit (.seam 0 7 [s.headId, 0, r.jseq])) ∧
      (RecGood hdr data r → ∀ e, s.pair.barred = some e → r.epoch ≤ e → t = s) ∧
      (RecGood hdr data r → (∀ e, s.pair.barred = some e → e < r.epoch) →
        ((∀ x ∈ s.pair.shadow, x.jseq ≠ r.jseq) → r ∈ t.pair.shadow) ∧ (∀ x ∈ s.pair.shadow, x ∈ t.pair.shadow) ∧
        (s.pair.shadow = [] → s.pairState ∈ [2, 3] → s.rb Pg.HEADPAIR Rg.HEADPAIR_STATE 6 = false → s.pair.base ≤ s.shadowJ →
          (r.jseq = s.shadowJ + 1 → t.shadowJ = r.jseq ∧ Sent t (.seam (1 + r.jseq % 16) 2 [r.jseq])) ∧
          (s.shadowJ + 1 < r.jseq → t.shadowJ = s.shadowJ ∧ t.out = s.out)) ∧
        (s.rb Pg.HEADPAIR Rg.HEADPAIR_STATE 6 = true → t.shadowJ = s.shadowJ ∧ t.out = s.out))) ∧
  (∀ (s : State) n, s.alive = true → n < 2 ^ 64 → ∃ t, exec (.mirrorAck n) s = .next t ∧ t.ackedJ = max s.ackedJ n ∧ Acked s t n ∧
    (s.pairState = 5 → s.pair.joinSince ≠ 0 → s.pair.inStep = false → (∀ r ∈ s.pair.journal, r.jseq ≤ n) → HandsOver s t) ∧
    (s.pairState ≠ 5 → t.out = s.out ∧ OnlyParts [.regs, .hq] s t)) ∧
  (∀ (s : State) n, s.alive = true → ∃ t, exec (.nack n) s = .next t ∧ ((∀ r ∈ s.pair.journal, r.jseq ≠ n) → t = s) ∧
    (∀ r, s.pair.journal = [r] → r.jseq = n → Sent t (.seam (1 + n % 16) 1 ((r.bytes ++ r.data).map (·.toNat))) ∧ t.pair = s.pair)) ∧
  (∀ (s : State), s.alive = true → s.rb Pg.HEADPAIR Rg.HEADPAIR_CFG 0 = true → ∃ t, exec .retainSend s = .next t ∧
    t.pair.journal = (s.pair.journal.filter fun r => decide (s.retainHorizon ≤ r.jseq)) ∧ Sent t (.seam 0 6 [s.headId, 0, s.retainHorizon])) ∧
  (∀ (s : State) h, s.alive = true → ∃ t, exec (.retain h) s = .next t ∧
    t.pair.shadow = (s.pair.shadow.filter fun r => decide (h ≤ r.jseq)) ∧ t.pair.journal = s.pair.journal)

/-- The pair: yields, takeovers, arbitration and the fence, joining, the epochs the partner sets, and its register accesses -/
def Obligations.PairStates : Prop :=
  (∀ (s : State) master v, Accepts s Pg.HEADPAIR Rg.HEADPAIR_CMD master v → bitOf v 0 = true →
    ∃ t, exec (.headpairCmdYield master v) s = .next t ∧ Yields s t 1) ∧
  (∀ (s : State), s.alive = true → s.portsUp = false → s.pair.peerPortsUp = true → ∃ t, exec .hostPortsTimeout s = .next t ∧ Yields s t 5) ∧
  (∀ (s : State), s.alive = true → ∃ t, exec .thermalLimit s = .next t ∧ Yields s t 10) ∧
  (∀ (s : State) e, s.alive = true → e ≠ .urt → ∃ t, exec (.engineUncorrectableError e) s = .next t ∧ Yields s t 7) ∧
  (∀ (s : State), s.alive = true → s.pairState ∈ [1, 4] → ∃ t, exec .arbitrationLimitExpiry s = .next t ∧ Yields s t 9) ∧
  (∀ (s : State) c, s.alive = true → ∃ t, exec (.yieldMessage c) s = .next t ∧ t.rf Pg.HEADPAIR Rg.HEADPAIR_YIELD_CAUSE 15 8 = c % 256 ∧
    (s.pairState = 3 → TakesOver s t) ∧ (s.pairState ≠ 3 → t.pairState = s.pairState ∧ OnlyParts [.regs] s t)) ∧
  (∀ (s : State), s.alive = true → s.rb Pg.HEADPAIR Rg.HEADPAIR_CFG 0 = true → ∃ t, exec .peerYieldSeen s = .next t ∧ t.pins.peerYieldN = false ∧
    (s.pairState = 3 → TakesOver s t) ∧ (s.pairState = 0 → s.rb Pg.HEADPAIR Rg.HEADPAIR_STATE 4 = false → Arbitrates s t) ∧
    (s.pairState ∉ [0, 3] → t.pairState = s.pairState ∧ OnlyParts [.pins] s t)) ∧
  (∀ (s : State) r e, s.alive = true → r < 4 → ∃ t, exec (.fenceMessage r e) s = .next t ∧ OnlyParts [.stitch] s t ∧
    (∀ n ∈ s.attachedMods, r < (s.module n).roles.length → (t.module n).roles.getD r 0 = max ((s.module n).roles.getD r 0) e) ∧
    (∀ n, n ∉ s.attachedMods → t.module n = s.module n)) ∧
  (∀ (s : State), s.alive = true → s.pairState = 5 → ∃ t, exec .join s = .next t ∧ t.pairState = 5 ∧ t.pair.joinSince ≠ 0 ∧
    t.pair.shipped = s.pair.journal.length ∧
    (∀ r ∈ s.pair.journal, Out.seam (1 + r.jseq % 16) 1 ((r.bytes ++ r.data).map (·.toNat)) ∈ t.out) ∧
    (s.pair.journal = [] → HandsOver s t) ∧ (s.pair.journal ≠ [] → t.pair.inStep = false)) ∧
  (∀ (s : State) n, s.alive = true → s.pairState = 2 → ∃ t, exec (.catchupDone n) s = .next t ∧ OnlyParts [.pair] s t ∧ t.pair.inStep = true ∧
    t.pair.base = max s.pair.base (min n s.shadowJ)) ∧
  (∀ (s : State) e, s.alive = true → s.pairState = 2 → e + 1 < 2 ^ 64 → ∃ t, exec (.roleRelease s.headId e) s = .next t ∧ t.pairState = 3 ∧
    t.rb Pg.HEADPAIR Rg.HEADPAIR_STATE 6 = false ∧ t.roleEpoch s.headId = e + 1 ∧ t.rb Pg.STITCH Rg.STITCH_ROLE_HELD s.headId = true ∧
    (∀ n ∈ s.attachedMods, s.headId < (s.module n).roles.length → EpochAt t n s.headId (e + 1)) ∧
    (∀ g, 1 ≤ g → g ≤ 128 → t.anaState g = if s.homeGroup g then 1 else if s.rb Pg.HOSTQ Rg.HOSTQ_CFG 1 then 2 else 3)) ∧
  (∀ (s u w : State) b b2 late, s.alive = true → s.pairState ∈ [1, 4] → u = s.peerOps b → w = u.peerOps b2 →
    ∃ t, exec (.arbitrationRound b b2 late) s = .next t ∧ ∀ theirs won e,
      theirs = ((u.slotReads 1).filter fun x => x.2.2 == 0x100 + s.peerRole && decide (x.1 ∈ u.memberMods)).length →
      won = ((u.slotReads 1).filter fun x => (w.module x.1).slots.getD 1 (0, 0) == x.2 && decide (x.1 ∈ w.memberMods)).length →
      e = ((u.slotReads 1).map (·.2.1)).foldl max 0 →
      (s.pair.members.length < 2 * theirs →
        (s.pairState = 1 → s.pair.lastHb ≠ none → s.rb Pg.HEADPAIR Rg.HEADPAIR_STATE 5 = false → t.pairState = 2 ∧ Sent t (.seam 0 3 [s.headId, 0, 0])) ∧
        (s.pairState = 4 ∨ s.pair.lastHb = none ∨ s.rb Pg.HEADPAIR Rg.HEADPAIR_STATE 5 = true → Yields s t 9)) ∧
      (2 * theirs ≤ s.pair.members.length → 2 * won ≤ s.pair.members.length → t.pairState = s.pairState ∧
        t.pair.arbRounds = s.pair.arbRounds + 1 ∧ t.Told Ev.HEADPAIR_ARBITRATION [.v 4 t.pair.arbRounds, .v 1 won, .v 1 theirs, .v 1 2]) ∧
      (2 * theirs ≤ s.pair.members.length → s.pair.members.length < 2 * won → t.pairState = 5 ∧ ServesAlone s t ∧
        t.rd64 Pg.HEADPAIR Rg.HEADPAIR_KEEPER_LO = (e + 1) % 2 ^ 64 ∧
        t.roleEpoch s.peerRole = (s.roleEpoch s.peerRole + 1) % 2 ^ 64 ∧ t.roleEpoch 2 = (s.roleEpoch 2 + 1) % 2 ^ 64 ∧
        t.rf Pg.STITCH Rg.STITCH_ROLE_HELD 2 0 = 7 ∧ t.rb Pg.PATTERN Rg.PATTERN_BLOCK_USE 0 = true ∧
        Out.seam 0 2 [s.headId, s.peerRole, s.roleEpoch s.peerRole + 1] ∈ t.out ∧ (∀ x, x ∈ t.pair.shadow → x ∈ s.pair.shadow ∧ x.jseq ≤ s.shadowJ) ∧
        (∀ x ∈ s.pair.shadow, x.jseq ≤ s.shadowJ → x ∈ t.pair.shadow) ∧ t.pair.fencing = (s.attachedMods.filter fun n => decide (n ∈ late)) ∧
        ∀ n ∈ s.attachedMods, n ∉ late → (s.module n).roles.length = 4 → EpochAt t n s.peerRole (s.roleEpoch s.peerRole + 1) ∧
          EpochAt t n 2 (s.roleEpoch 2 + 1))) ∧
  (∀ (s : State) n, s.alive = true → n < 32 → n ∈ s.pair.fencing → s.modState n = 4 → ∃ t, exec (.setEpochTimeout n) s = .next t ∧ ModFailed t n ∧
    n ∉ t.pair.fencing) ∧
  (∀ (s : State) m p off, s.alive = true → p < 75 → off < 0x10000 → off % 4 = 0 → (whoOf m = .mp ∨ whoOf m = .svc) →
    (s.pageReady p = true → ∀ v, exec (.remoteAccess m p off false v) s = .next (s.emit (.seam 25 2 [m, off, s.viewFor (0x200 + m) p off]))) ∧
    (s.pageReady p = false → ∀ w v, ∃ t, exec (.remoteAccess m p off w v) s = .next t ∧ Sent t (.seam 25 2 [m, off, 0]) ∧
      (s.ownRow p off v = false → v < 2 ^ 32 → t.rb p Rg.PAGE_STATUS 1 = true)) ∧
    (∀ v, Accepts s p off (0x200 + m) v → Plain s p off (0x200 + m) v →
      exec (.remoteAccess m p off true v) s = .next ((stored s p off v).emit (.seam 25 2 [m, off, 0]))))

/-! ### Boot and resets -/
namespace Sys2Proof.Machine

/-- The head has been reset (18 R678): registers are at their reset values but for Thimble's and Selvedge's, MP SRAM is zero, no key and no
job is left, the power domains and the OTP are as they were, and a URT job outstanding was aborted. -/
def HeadReset (s t : State) (cause : Option Nat) : Prop :=
  t.boot.up = false ∧ t.boot.ready = 0 ∧ t.eng.jobs = [] ∧ t.power.doms = s.power.doms ∧ t.cipher = State.reset.cipher ∧ t.hq.ctrls = [] ∧
  t.boot.otp = s.boot.otp ∧ t.boot.svnFloor = s.boot.svnFloor ∧
  (∀ a, 0x0FF000100000 ≤ a → mgetD 0 t.mem.cells a = 0) ∧
  (∀ p ∈ [Pg.THIMBLE, Pg.SELVEDGE], ∀ off < 0x10000, ∀ i < 0x10000, t.rd p off i = s.rd p off i) ∧
  (∀ p off i, p ∉ [Pg.THIMBLE, Pg.SELVEDGE] → off < 0x10000 → i < 0x10000 → ¬(p = Pg.TOP ∧ off = Rg.TOP_RESET_CAUSE) →
    t.rd p off i = resetAt p off i) ∧
  (∀ b < 32, cause = some b → t.rdN Pg.TOP Rg.TOP_RESET_CAUSE = 2 ^ b) ∧
  (∀ k j, mget s.eng.jobs k = some j → j.engine = .urt → ∃ c, Out.jobDone j.tag St.ABORTED_BY_RESET c ∈ t.out)

/-- As `HeadReset`, with nothing else done: with no job outstanding Locket's record store and the rest of memory are kept (14 R700), and
so are the slots and their control. -/
def OnlyReset (s t : State) (cause : Option Nat) : Prop :=
  HeadReset s t cause ∧ t.boot.slots = s.boot.slots ∧ t.boot.ctl = s.boot.ctl ∧
  (s.eng.jobs = [] → t.locket.recs = s.locket.recs ∧ t.locket.next = s.locket.next ∧
    ∀ a < 0x0FF000100000, mgetD 0 t.mem.cells a = mgetD 0 s.mem.cells a)

/-- Boot control calls for `active` and `trial`, after `attempts`. -/
def Calls (t : State) (active trial attempts : Nat) : Prop :=
  ∃ i c, t.bootCtl = some (i, c) ∧ c.active = active ∧ c.trial = trial ∧ c.attempts = attempts

/-- Both control copies are there, and their sequence numbers are of 32 bits. -/
def CtlWhole (s : State) : Prop := s.boot.ctl.length = 2 ∧ ∀ c ∈ s.boot.ctl, c.seq < 2 ^ 32

/-- A stage-1 image that 16 R620 accepts. -/
def Stage1Good (s : State) (im : List Byte) : Prop :=
  st1Header im = true ∧ (s.boot.otp.getD (st1Entry im) {}).valid = true ∧ (s.boot.otp.getD (st1Entry im) {}).revoked = false ∧
  s.boot.svnFloor ≤ st1Svn im ∧ sha256 (im.take (st1Len im)) = padTo 32 (s.boot.otp.getD (st1Entry im) {}).digest

/-- A package that 16 R625 accepts, `sig` being the verdict on its signature. -/
def PackageGood (s : State) (p : List Byte) (sig : Bool) : Prop :=
  pkgHeader p = true ∧ sig = true ∧ s.boot.svnFloor ≤ pkgSvn p ∧ ∀ e ∈ pkgEntries p, sha256 (sliceB p e.2.1 e.2.2.1) = e.2.2.2

/-- The slot that boots fails at a stage with `code`: it is recorded, and the other is tried, or recovery mode entered (16 R618). -/
def SlotFails (s t : State) (stage code : Nat) : Prop :=
  t.Told Ev.BOOT_SLOT_FAILED [.v 1 s.bootSlot, .v 1 stage, .v 1 code] ∧ s.bootSlot ∈ t.boot.tried ∧ t.rf Pg.BOOT Rg.BOOT_STATUS 15 8 = code ∧
  (1 - s.bootSlot ∈ s.boot.tried → t.bootPhase = 4 ∧ t.boot.recCause = 0) ∧
  (1 - s.bootSlot ∉ s.boot.tried → t.bootPhase = 0 ∧ t.bootSlot = 1 - s.bootSlot)

/-- An accepted write of command `k` to BOOT_CMD while none is busy. -/
def BootCmd (s : State) (master v k : Nat) : Prop :=
  Accepts s Pg.BOOT Rg.BOOT_CMD master v ∧ bits v 3 0 = k ∧ s.rb Pg.BOOT Rg.BOOT_CMD_STATUS 0 = false

/-- The command has completed with `code`, and raised its interrupt. -/
def CmdDone (t : State) (code : Nat) : Prop :=
  t.rb Pg.BOOT Rg.BOOT_CMD_STATUS 0 = false ∧ t.rf Pg.BOOT Rg.BOOT_CMD_STATUS 15 8 = code ∧ Raised t Pg.BOOT 0

/-- It completes with LOCKED, and nothing but registers and the wake flag changes. -/
def CmdLocked (s t : State) : Prop := CmdDone t St.LOCKED ∧ OnlyParts [.regs, .wake] s t

/-- What the MP reads at BOOT_SRC, and the state after: the write of the command comes first. -/
def srcRead (s : State) (v n : Nat) : State × List Byte × Nat := (stored s Pg.BOOT Rg.BOOT_CMD v).bootSrc n

end Sys2Proof.Machine

/-- Resets, reset release, the ROM's choice of a slot, the checks of stage-1 and package, the start's replay of a dump -/
def Obligations.ResetAndBoot : Prop :=
  (∀ (s : State), s.power.aon = true → s.boot.up = false → s.domSt 0 ∈ [3, 4] → ∃ t, exec .resetRelease s = .next t ∧
    t.boot.up = true ∧ t.boot.ready = 2 ^ Pg.TOP + 2 ^ Pg.BOOT + 2 ^ Pg.THIMBLE ∧ t.domSt 0 = 4 ∧ t.headState = 0 ∧ t.headId = b2n s.pins.headSel ∧
    t.pins.headYieldN = some true ∧ t.rb Pg.TOP Rg.TOP_STRAPS 1 = s.pins.recoveryN ∧ rkey Pg.HEADPAIR Rg.HEADPAIR_HEAD_ID 0 ∈ t.wosDone ∧
    (∀ d ∈ bootDomains, s.domSt d = 0 → s.withinBudget d = true → t.domSt d = 1) ∧
    (s.locket.cold = true → s.rdN Pg.THIMBLE Rg.THIMBLE_STATE ≠ 3 → t.rdN Pg.TOP Rg.TOP_RESET_CAUSE = 1) ∧
    (s.locket.cold = true → s.rdN Pg.THIMBLE Rg.THIMBLE_STATE = 3 → t.rdN Pg.TOP Rg.TOP_RESET_CAUSE = 32 ∧ t.rdN Pg.THIMBLE Rg.THIMBLE_STATE = 0 ∧
      t.cal.seconds = s.rd64 Pg.THIMBLE Rg.THIMBLE_SECONDS_LO % 2 ^ 40) ∧
    (s.locket.cold = false → t.rdN Pg.TOP Rg.TOP_RESET_CAUSE = s.rdN Pg.TOP Rg.TOP_RESET_CAUSE) ∧
    (s.boot.recoverNext = true → t.bootPhase = 4 ∧ t.boot.recCause = 2) ∧
    (s.boot.recoverNext = false → s.pins.recoveryN = false → t.bootPhase = 4 ∧ t.boot.recCause = 1) ∧
    (s.boot.recoverNext = false → s.pins.recoveryN = true → t.bootPhase = 0 ∧
      (s.bootCtl = none → t.bootSlot = 0 ∧ t.boot.rewrite = true) ∧
      ∀ i c, s.bootCtl = some (i, c) → (c.trial = 0xFF → t.bootSlot = c.active % 2 ∧ t.boot.ctl = s.boot.ctl) ∧
        (c.trial ≠ 0xFF → c.attempts < 3 → CtlWhole s → t.bootSlot = c.trial % 2 ∧ t.onTrial = true ∧ Calls t c.active c.trial (c.attempts + 1)) ∧
        (c.trial ≠ 0xFF → 3 ≤ c.attempts → CtlWhole s → t.bootSlot = c.active % 2 ∧ Calls t c.active 0xFF 0 ∧
          t.rb Pg.BOOT Rg.BOOT_STATUS 5 = true ∧ Raised t Pg.BOOT 1))) ∧
  (∀ (s : State) ctx fmt pages im, s.alive = true → s.bootPhase = 0 → im = (s.fwSlot s.bootSlot).stage1 →
    ∃ t, exec (.stage1VerifyDone ctx fmt pages) s = .next t ∧
      (Stage1Good s im → t.bootPhase = 1 ∧ t.boot.runEntry = st1Entry im ∧ t.boot.runSvn = st1Svn im ∧ t.boot.loader.format = fmt ∧
        (∀ p < 75, bitOf pages p = true ∨ bitOf s.boot.ready p = true → bitOf t.boot.ready p = true) ∧
        (s.boot.loader.format = fmt → t.boot.loader = s.boot.loader) ∧
        (s.rb Pg.LOCKET Rg.LOCKET_CFG 1 = false → t.peek 0x0FF000100000 (st1Len im) = im.take (st1Len im)) ∧
        (s.boot.rewrite = true → ∀ c ∈ t.boot.ctl, c.valid = true ∧ c.active = s.bootSlot ∧ c.trial = 0xFF ∧ c.attempts = 0)) ∧
      (st1Header im = false → SlotFails s t 1 St.BAD_INPUT) ∧
      (st1Header im = true → ¬Stage1Good s im → SlotFails s t 1 St.AUTH_FAIL)) ∧
  (∀ (s : State) ctx sig conv p, s.alive = true → s.bootPhase = 1 → s.boot.slots.length = 2 → p = (s.fwSlot s.bootSlot).package →
    ∃ t, exec (.packageVerifyDone ctx sig conv) s = .next t ∧
      (PackageGood s p sig → t.bootPhase = 3 ∧ (t.fwSlot s.bootSlot).verified = true ∧ (∀ q < 75, bitOf t.boot.ready q = true) ∧
        (∃ r ∈ t.boot.firmware, r.format = leAt p 20 2) ∧ ((∃ r ∈ s.boot.firmware, r.format = leAt p 20 2) → t.boot.firmware = s.boot.firmware) ∧
        t.Told Ev.BOOT_DONE [.v 1 s.bootSlot, .v 4 (pkgVersion p), .v 1 (b2n s.onTrial), .v 4 ((s.gts - s.boot.upSince) / 1000000)]) ∧
      (pkgHeader p = false → SlotFails s t 2 St.BAD_INPUT) ∧
      (pkgHeader p = true → ¬PackageGood s p sig → SlotFails s t 2 St.AUTH_FAIL)) ∧
  (∀ (s : State), s.alive = true → s.bootPhase ∈ [1, 2] → ∃ t, exec .bootWatchdogExpiry s = .next t ∧ OnlyReset s t (some 1)) ∧
  (∀ (s : State), s.alive = true → s.bootPhase = 3 → s.onTrial = true → ∃ t, exec .trialTimeout s = .next t ∧ OnlyReset s t (some 1)) ∧
  (∀ (s : State) master, Accepts s Pg.TOP Rg.TOP_SW_RESET master 0xA5A5 →
    ∃ t, exec (.topSwResetWrite master 0xA5A5) s = .next t ∧ OnlyReset s t (some 2)) ∧
  (∀ (s : State), ∃ t, exec .sysRstNLow s = .next t ∧ t.pins.sysRstN = false ∧ (3 ≤ s.domSt 0 → OnlyReset s t none) ∧
    (s.domSt 0 < 3 → OnlyParts [.pins] s t)) ∧
  (∀ (s : State), ∃ t, exec .jtagReset s = .next t ∧ (3 ≤ s.domSt 0 → OnlyReset s t (some 3)) ∧ (s.domSt 0 < 3 → t = s)) ∧
  (∀ (s : State), s.power.aon = true → ∃ t, exec .thermtrip s = .next t ∧ t.pins.thermtripN = false ∧ (3 ≤ s.domSt 0 → OnlyReset s t (some 4)) ∧
    (s.domSt 0 < 3 → OnlyParts [.pins] s t)) ∧
  (∀ (s : State) partner mirror d, s.alive = true → d = s.power.dump → ∃ t, exec (.dumpReplay partner mirror) s = .next t ∧ t.power.dump = {} ∧
    (∀ r ∈ s.pair.journal, r ∈ t.pair.journal) ∧ (∀ r ∈ partner, ∃ x ∈ t.pair.journal, x.jseq = r.jseq) ∧
    (d.committed = true → d.superseded = false → (∀ r ∈ d.journal, ∃ x ∈ t.pair.journal, x.jseq = r.jseq) ∧
      t.dedup.deltas = s.dedup.deltas ++ d.deltas ∧ t.locket.vault = s.locket.vault ++ d.recs) ∧
    (d.committed = false → d.dumping = true → t.rb Pg.PWRSEQ Rg.PWRSEQ_DUMP_STATUS 3 = true ∧ t.dedup.deltas = s.dedup.deltas) ∧
    (∀ b x, s.bolt b = some x → x.st = 1 → x.opener = s.headId → ∃ y, t.bolt b = some y ∧ y.st = 2))

/-- BOOT_CMD: STAGE, ACTIVATE, CONFIRM, RECOVER, OTP_ADD, OTP_REVOKE, SVN_RAISE; the bundle received in recovery -/
def Obligations.UpdateAndOtp : Prop :=
  (∀ p ∈ ([(Instr.confirm, 3), (Instr.recover, 4), (Instr.otpAdd, 5), (Instr.otpRevoke, 6), (Instr.svnRaise, 7), (fun m v => Instr.activate m v 0, 2),
      (fun m v => Instr.stage m v 0 true, 1)] : List ((Nat → Nat → Instr) × Nat)), ∀ (s : State) m v, Accepts s Pg.BOOT Rg.BOOT_CMD m v → bits v 3 0 = p.2 →
    s.rb Pg.BOOT Rg.BOOT_CMD_STATUS 0 = true → ∃ t, exec (p.1 m v) s = .next t ∧ t.rf Pg.BOOT Rg.BOOT_CMD_STATUS 15 8 = St.LOCKED ∧
      t.rb Pg.BOOT Rg.BOOT_CMD_STATUS 0 = true ∧ OnlyParts [.regs] s t) ∧
  (∀ (s : State) m v ctx sig b x n, BootCmd s m v 1 → b = (if fine (srcRead s v (s.rdN Pg.BOOT Rg.BOOT_LEN)).2.2 then
      (srcRead s v (s.rdN Pg.BOOT Rg.BOOT_LEN)).2.1 else []) → x = splitBundle b → n = 1 - s.activeSlot → s.boot.slots.length = 2 →
    ∃ t, exec (.stage m v ctx sig) s = .next t ∧ (s.trialSlot ≠ 0xFF → CmdLocked s t) ∧
      (s.trialSlot = 0xFF → (t.fwSlot n).stage1 = x.1 ∧ (t.fwSlot n).package = x.2 ∧ t.fwSlot (1 - n) = s.fwSlot (1 - n) ∧ t.boot.ctl = s.boot.ctl ∧
        (Stage1Good s x.1 → PackageGood s x.2 sig → CmdDone t St.OK ∧ (t.fwSlot n).staged = true ∧ (t.fwSlot n).verified = true ∧
          t.Told Ev.BOOT_STAGED [.v 1 n, .v 4 (pkgVersion x.2), .v 1 St.OK]) ∧
        (¬(Stage1Good s x.1 ∧ PackageGood s x.2 sig) → CmdDone t St.AUTH_FAIL ∧ (t.fwSlot n).staged = false ∧ (t.fwSlot n).verified = false))) ∧
  (∀ (s : State) m v ms, BootCmd s m v 2 → ∃ t, exec (.activate m v ms) s = .next t ∧
    (s.pairState ≠ 3 ∨ (s.fwSlot (1 - s.bootSlot)).staged = false → CmdLocked s t) ∧
    (s.pairState = 3 → (s.fwSlot (1 - s.bootSlot)).staged = true → HeadReset s t (some 2) ∧ t.boot.slots = s.boot.slots ∧
      Out.seam 0 1 [s.headId, 1, 0] ∈ t.out ∧ (CtlWhole s → Calls t s.activeSlot (1 - s.bootSlot) 0))) ∧
  (∀ (s : State) m v, BootCmd s m v 3 → s.boot.slots.length = 2 → ∃ t, exec (.confirm m v) s = .next t ∧
    (s.onTrial = false ∨ s.pairState ∉ [3, 5] ∨ s.packageStrandsRun = false → CmdLocked s t) ∧
    (s.onTrial = true → s.pairState ∈ [3, 5] → s.packageStrandsRun = true → CmdDone t St.OK ∧ t.onTrial = false ∧
      (t.fwSlot s.bootSlot).staged = false ∧ (CtlWhole s → Calls t s.bootSlot 0xFF 0) ∧
      t.boot.firmware = (s.boot.firmware.filter fun r => r.format == leAt (s.fwSlot s.bootSlot).package 20 2) ∧
      t.Told Ev.BOOT_CONFIRMED [.v 1 s.bootSlot, .v 4 (pkgVersion (s.fwSlot s.bootSlot).package)])) ∧
  (∀ (s : State) m v, BootCmd s m v 4 → ∃ t, exec (.recover m v) s = .next t ∧ OnlyReset s t (some 2) ∧ t.boot.recoverNext = true) ∧
  (∀ (s : State) b path ctx sig x, s.alive = true → s.bootPhase = 4 → s.boot.slots.length = 2 → x = splitBundle b →
    ∃ t, exec (.recoveryBundleReceived b path ctx sig) s = .next t ∧
      (Stage1Good s x.1 → PackageGood s x.2 sig → HeadReset s t (some 2) ∧
        (s.activeSlot < 2 → t.fwSlot s.activeSlot = { stage1 := x.1, package := x.2, verified := true }) ∧ (CtlWhole s → Calls t s.activeSlot 0xFF 0)) ∧
      (¬(Stage1Good s x.1 ∧ PackageGood s x.2 sig) → t.bootPhase = 4 ∧ t.boot.slots = s.boot.slots ∧ t.boot.ctl = s.boot.ctl ∧
        ∃ code ∈ [St.BAD_INPUT, St.AUTH_FAIL], t.rf Pg.BOOT Rg.BOOT_STATUS 15 8 = code ∧
          t.Told Ev.BOOT_RECOVERY [.v 1 s.boot.recCause, .v 1 path, .v 1 code])) ∧
  (∀ (s : State) m v, BootCmd s m v 5 → ∃ t, exec (.otpAdd m v) s = .next t ∧ (s.bootPhase ∉ [1, 2, 3] → CmdLocked s t) ∧
    (s.bootPhase ∈ [1, 2, 3] → ((∀ e ∈ s.boot.otp, e.valid = true) → CmdDone t St.OUT_LIMIT ∧ t.boot = s.boot) ∧
      ∀ i, i < s.boot.otp.length → (s.boot.otp.getD i {}).valid = false → (∀ k < i, (s.boot.otp.getD k {}).valid = true) →
        fine (srcRead s v 32).2.2 = true → CmdDone t St.OK ∧ (t.boot.otp.getD i {}).valid = true ∧
          (t.boot.otp.getD i {}).digest = (srcRead s v 32).2.1 ∧ (t.boot.otp.getD i {}).revoked = (s.boot.otp.getD i {}).revoked ∧
          (∀ k, k ≠ i → t.boot.otp.getD k {} = s.boot.otp.getD k {}) ∧
          t.Told Ev.BOOT_OTP_CHANGED [.v 1 5, .v 1 i, .v 1 s.boot.svnFloor])) ∧
  (∀ (s : State) m v i, BootCmd s m v 6 → i = s.rf Pg.BOOT Rg.BOOT_OTP_SEL 3 0 → ∃ t, exec (.otpRevoke m v) s = .next t ∧
    (s.bootPhase ∉ [1, 2, 3] ∨ i = s.boot.runEntry → CmdLocked s t) ∧
    (s.bootPhase ∈ [1, 2, 3] → i ≠ s.boot.runEntry → s.boot.otp.length = 16 → CmdDone t St.OK ∧
      t.boot.otp.getD i {} = { s.boot.otp.getD i {} with revoked := true } ∧ (∀ k, k ≠ i → t.boot.otp.getD k {} = s.boot.otp.getD k {}) ∧
      t.Told Ev.BOOT_OTP_CHANGED [.v 1 6, .v 1 i, .v 1 s.boot.svnFloor])) ∧
  (∀ (s : State) m v, BootCmd s m v 7 → ∃ t, exec (.svnRaise m v) s = .next t ∧
    (s.bootPhase ∉ [1, 2, 3] ∨ s.boot.runSvn ≤ s.boot.svnFloor → CmdLocked s t) ∧
    (s.bootPhase ∈ [1, 2, 3] → s.boot.svnFloor < s.boot.runSvn → (64 ≤ s.boot.svnFloor → CmdDone t St.OUT_LIMIT ∧ t.boot = s.boot) ∧
      (s.boot.svnFloor < 64 → CmdDone t St.OK ∧ t.boot.svnFloor = s.boot.svnFloor + 1 ∧ t.boot.otp = s.boot.otp ∧
        t.Told Ev.BOOT_OTP_CHANGED [.v 1 7, .v 1 0, .v 1 (s.boot.svnFloor + 1)])))

/-- The MP, SVC and MGMT pages: lockstep, service cores, the management link, PTP and GPIO; GTS and calendar time -/
def Obligations.ManagementPagesAndTime : Prop :=
  (∀ s, s.alive = true → ∃ t u : State, exec .lockstepDisagreement s = .next t ∧ t = u.yield 3 ∧ Yields s t 3 ∧ t.rb Pg.MP Rg.MP_STATUS 1 = true ∧ 
    u.rb Pg.MP Rg.MP_STATUS 0 = false ∧ u.Told Ev.MP_LOCKSTEP_MISMATCH [.v 8 s.gts] ∧ OnlyPages [Pg.MP, Pg.LOCKET] s u) ∧
  (∀ s master c v, c < 6 → Accepts s (Pg.SVC + c) Rg.SVC_CTRL master v → ∃ t, exec (.svcCtrlWrite master c v) s = .next t ∧
    OnlyParts [.regs, .wos] s t ∧ t.rf (Pg.SVC + c) Rg.SVC_STATUS 7 0 = v % 256) ∧
  (∀ s master c v, c < 6 → c < s.pair.reports.length → Accepts s (Pg.SVC + c) Rg.SVC_REPORT master v →
    ∃ t, exec (.svcReportWrite master c v) s = .next t ∧ OnlyParts [.regs, .wos, .pair] s t ∧ t.pair.reports[c]? = some s.gts) ∧
  (∀ s, s.alive = true → (∃ c < 6, s.domOn (8 + c) = true) →
    (∀ c < 6, s.domOn (8 + c) = true → s.pair.reports.getD c 0 + 100000000 ≤ s.gts) →
    ∃ t, exec .svcStallTimeout s = .next t ∧ Yields s t 4) ∧
  (∀ s up, s.alive = true → ∃ t, exec (.mgmtLinkChange up) s = .next t ∧ t.rb Pg.MGMT Rg.MGMT_ETH_STATUS 0 = up ∧ Raised t Pg.MGMT 0 ∧
    t.Told Ev.MGMT_LINK [.v 1 (b2n up)] ∧ OnlyPages [Pg.MGMT, Pg.LOCKET] s t) ∧
  (∀ s, s.alive = true → ∃ t, exec .ptpLockLoss s = .next t ∧ t.rb Pg.MGMT Rg.MGMT_ETH_STATUS 1 = false ∧ Raised t Pg.MGMT 1 ∧
    t.Told Ev.MGMT_PTP_LOST [.v 2 (s.rf Pg.MGMT Rg.MGMT_ETH_STATUS 31 16)] ∧ OnlyPages [Pg.MGMT, Pg.LOCKET] s t) ∧
  (∀ s i level, s.alive = true → i < 32 → bitOf s.pins.gpioIn i ≠ level → ∃ t, exec (.gpioEdge i level) s = .next t ∧
    t.pins = { s.pins with gpioIn := (s.pins.gpioIn ^^^ 2 ^ i) % 2 ^ 32 } ∧
    (s.rb Pg.MGMT Rg.MGMT_GPIO_EDGE_EN i = true → t.rb Pg.MGMT Rg.MGMT_GPIO_EDGE i = true ∧ Raised t Pg.MGMT 2) ∧
    (s.rb Pg.MGMT Rg.MGMT_GPIO_EDGE_EN i = false → OnlyParts [.pins] s t)) ∧
  (∀ (s : State) master, s.alive = true → s.pageReady Pg.GTS = true → ∃ t, exec (.gtsNowLoRead master) s = .next t ∧ OnlyParts [.regs, .out] s t ∧
    Sent t (.readData master (regAddr Pg.GTS Rg.GTS_NOW_LO) (leBytes 4 (s.gts % 2 ^ 32)) false) ∧
    t.rdN Pg.GTS Rg.GTS_NOW_HI = s.gts / 2 ^ 32 % 2 ^ 32) ∧
  (∀ (s : State) master, s.alive = true → s.pageReady Pg.GTS = true → s.cal.ns < 2 ^ 30 → ∃ t, exec (.gtsCalSecondsLoRead master) s = .next t ∧
    OnlyParts [.regs, .out] s t ∧
    Sent t (.readData master (regAddr Pg.GTS Rg.GTS_CAL_SECONDS_LO) (leBytes 4 (s.cal.seconds % 2 ^ 32)) false) ∧
    t.rdN Pg.GTS Rg.GTS_CAL_SECONDS_HI = s.cal.seconds / 2 ^ 32 % 256 ∧ t.rf Pg.GTS Rg.GTS_CAL_NS 29 0 = s.cal.ns ∧
    t.rb Pg.GTS Rg.GTS_CAL_NS 31 = s.cal.unsync) ∧
  (∀ (s : State) master v, Accepts s Pg.GTS Rg.GTS_CAL_CMD master v → bitOf v 0 = true → ∃ t, exec (.gtsCalCmd master v) s = .next t ∧ t.gts = s.gts ∧
    (s.rf Pg.GTS Rg.GTS_CAL_SET_NS 29 0 ≤ 999999999 →
      t.cal.seconds = s.rd64 Pg.GTS Rg.GTS_CAL_SET_LO % 2 ^ 40 ∧ t.cal.ns = s.rf Pg.GTS Rg.GTS_CAL_SET_NS 29 0 ∧ t.cal.unsync = false ∧
      t.Told Ev.GTS_CAL_SET [.v 8 s.cal.seconds, .v 8 (s.rd64 Pg.GTS Rg.GTS_CAL_SET_LO % 2 ^ 40),
        .v 4 (s.rf Pg.GTS Rg.GTS_CAL_SET_NS 29 0), .v 1 (b2n s.cal.unsync)]) ∧
    (999999999 < s.rf Pg.GTS Rg.GTS_CAL_SET_NS 29 0 → t.cal = s.cal ∧ t.rf Pg.GTS Rg.ERR_INFO 23 16 = St.BAD_INPUT)) ∧
  (∀ (s : State), s.alive = true → s.cal.ns ≤ 1000000000 → ∃ t, exec .calSecondRollover s = .next t ∧ OnlyParts [.gts, .cal] s t ∧
    t.gts + s.cal.ns = s.gts + 1000000000 ∧ t.cal = { s.cal with seconds := (s.cal.seconds + 1) % 2 ^ 40, ns := 0 }) ∧
  (∀ (s : State), s.headState = 4 → s.power.aon = true → ∃ t, exec .calSecondRollover s = .next t ∧ OnlyParts [.regs] s t ∧
    t.rd64 Pg.THIMBLE Rg.THIMBLE_SECONDS_LO = (s.rd64 Pg.THIMBLE Rg.THIMBLE_SECONDS_LO + 1) % 2 ^ 40)
end

