-- ==== Sys2Proof/Laws/Bits.lean ====
section
/-! SUPPORT. Bit fields: what a field reads after it, or one beside it, has been written. -/
namespace Sys2Proof.Machine

/-- A number cut at two places. -/
theorem nat_cut (n lo k : Nat) : n = n / 2 ^ (lo + k) * 2 ^ (lo + k) + n / 2 ^ lo % 2 ^ k * 2 ^ lo + n % 2 ^ lo := by
  have h1 := Nat.div_add_mod n (2 ^ lo)
  have h2 := Nat.div_add_mod (n / 2 ^ lo) (2 ^ k)
  rw [Nat.div_div_eq_div_mul, ← Nat.pow_add] at h2
  rw [Nat.pow_add]
  rw [Nat.pow_add] at h2
  generalize n / (2 ^ lo * 2 ^ k) = q at *
  generalize n / 2 ^ lo % 2 ^ k = b at *
  generalize n / 2 ^ lo = c at *
  rw [← Nat.mul_assoc, Nat.mul_comm b] at *
  have h3 : 2 ^ lo * (2 ^ k * q + b) = q * 2 ^ lo * 2 ^ k + 2 ^ lo * b := by
    rw [Nat.mul_add, ← Nat.mul_assoc, Nat.mul_comm _ q, Nat.mul_assoc q]
  rw [h2] at h3
  omega

/-- The number whose bits [hi:lo] have been replaced. -/
def patch (n hi lo v : Nat) : Nat := n - bits n hi lo * 2 ^ lo + v % 2 ^ (hi + 1 - lo) * 2 ^ lo

theorem patch_eq (n hi lo v : Nat) (h : lo ≤ hi) :
    patch n hi lo v = n / 2 ^ (hi + 1) * 2 ^ (hi + 1) + v % 2 ^ (hi + 1 - lo) * 2 ^ lo + n % 2 ^ lo := by
  unfold patch bits
  have := nat_cut n lo (hi + 1 - lo)
  rw [show lo + (hi + 1 - lo) = hi + 1 by omega] at this
  omega

theorem patch_low (hi lo n v : Nat) (h : lo ≤ hi) : v % 2 ^ (hi + 1 - lo) * 2 ^ lo + n % 2 ^ lo < 2 ^ (hi + 1) := by
  have h1 : v % 2 ^ (hi + 1 - lo) + 1 ≤ 2 ^ (hi + 1 - lo) := Nat.mod_lt _ (Nat.two_pow_pos _)
  have h2 : n % 2 ^ lo < 2 ^ lo := Nat.mod_lt _ (Nat.two_pow_pos _)
  have h3 := Nat.mul_le_mul_right (2 ^ lo) h1
  rw [← Nat.pow_add, show hi + 1 - lo + lo = hi + 1 by omega, Nat.add_mul] at h3
  omega

theorem patch_lt {n hi lo v : Nat} (h : lo ≤ hi) (hh : hi < 32) (hn : n < 2 ^ 32) : patch n hi lo v < 2 ^ 32 := by
  rw [patch_eq n hi lo v h]
  have h1 := patch_low hi lo n v h
  have h2 : n / 2 ^ (hi + 1) + 1 ≤ 2 ^ (32 - (hi + 1)) := by
    have : n / 2 ^ (hi + 1) < 2 ^ (32 - (hi + 1)) := by
      rw [Nat.div_lt_iff_lt_mul (Nat.two_pow_pos _), ← Nat.pow_add, show 32 - (hi + 1) + (hi + 1) = 32 by omega]
      exact hn
    omega
  have h3 := Nat.mul_le_mul_right (2 ^ (hi + 1)) h2
  rw [← Nat.pow_add, show 32 - (hi + 1) + (hi + 1) = 32 by omega, Nat.add_mul] at h3
  omega

theorem bits_patch_self (n hi lo v : Nat) (h : lo ≤ hi) : bits (patch n hi lo v) hi lo = v % 2 ^ (hi + 1 - lo) := by
  rw [patch_eq n hi lo v h]
  unfold bits
  have h2 : n % 2 ^ lo < 2 ^ lo := Nat.mod_lt _ (Nat.two_pow_pos _)
  rw [show n / 2 ^ (hi + 1) * 2 ^ (hi + 1) + v % 2 ^ (hi + 1 - lo) * 2 ^ lo + n % 2 ^ lo =
    n % 2 ^ lo + (n / 2 ^ (hi + 1) * 2 ^ (hi + 1 - lo) + v % 2 ^ (hi + 1 - lo)) * 2 ^ lo by
      rw [Nat.add_mul, Nat.mul_assoc, ← Nat.pow_add, show hi + 1 - lo + lo = hi + 1 by omega]; omega]
  rw [Nat.add_mul_div_right _ _ (Nat.two_pow_pos _), Nat.div_eq_of_lt h2, Nat.zero_add, Nat.mul_comm _ (2 ^ (hi + 1 - lo)), Nat.mul_add_mod,
    Nat.mod_mod]

theorem bits_patch_above (n hi lo v a b : Nat) (h : lo ≤ hi) (hb : hi < b) : bits (patch n hi lo v) a b = bits n a b := by
  rw [patch_eq n hi lo v h]
  unfold bits
  have h1 := patch_low hi lo n v h
  obtain ⟨k, rfl⟩ := Nat.exists_eq_add_of_le (show hi + 1 ≤ b by omega)
  congr 1
  rw [Nat.pow_add 2 (hi + 1) k, ← Nat.div_div_eq_div_mul, ← Nat.div_div_eq_div_mul n, Nat.add_assoc,
    Nat.mul_comm (n / 2 ^ (hi + 1)), Nat.mul_add_div (Nat.two_pow_pos _), Nat.div_eq_of_lt h1, Nat.add_zero]

theorem bits_patch_below (n hi lo v a b : Nat) (h : lo ≤ hi) (ha : a < lo) : bits (patch n hi lo v) a b = bits n a b := by
  rw [patch_eq n hi lo v h]
  unfold bits
  by_cases hab : a + 1 ≤ b
  · rw [show a + 1 - b = 0 by omega, Nat.pow_zero, Nat.mod_one, Nat.mod_one]
  · have key : ∀ m : Nat, m / 2 ^ b % 2 ^ (a + 1 - b) = m % 2 ^ lo / 2 ^ b % 2 ^ (a + 1 - b) := fun m => by
      rw [← Nat.mod_mul_right_div_self, ← Nat.mod_mul_right_div_self (m % 2 ^ lo), ← Nat.pow_add, show b + (a + 1 - b) = a + 1 by omega,
        Nat.mod_mod_of_dvd _ (Nat.pow_dvd_pow 2 (show a + 1 ≤ lo by omega))]
    rw [key, key n]
    congr 2
    rw [show n / 2 ^ (hi + 1) * 2 ^ (hi + 1) + v % 2 ^ (hi + 1 - lo) * 2 ^ lo + n % 2 ^ lo =
      n % 2 ^ lo + 2 ^ lo * (n / 2 ^ (hi + 1) * 2 ^ (hi + 1 - lo) + v % 2 ^ (hi + 1 - lo)) by
        rw [Nat.mul_comm (2 ^ lo), Nat.add_mul, Nat.mul_assoc, ← Nat.pow_add, show hi + 1 - lo + lo = hi + 1 by omega]; omega]
    rw [Nat.add_mul_mod_self_left, Nat.mod_mod]

theorem toNat_putFld (w : Word) (hi lo v : Nat) (h : lo ≤ hi) (hh : hi < 32) : (putFld w hi lo v).toNat = patch w.toNat hi lo v := by
  unfold putFld
  rw [BitVec.toNat_ofNat]
  exact Nat.mod_eq_of_lt (patch_lt h hh w.isLt)

theorem fld_putFld (w : Word) (hi lo v : Nat) (h : lo ≤ hi) (hh : hi < 32) : fld (putFld w hi lo v) hi lo = v % 2 ^ (hi + 1 - lo) := by
  rw [fld, toNat_putFld w hi lo v h hh, bits_patch_self _ _ _ _ h]

theorem fld_putFld_ne (w : Word) (hi lo v a b : Nat) (h : lo ≤ hi) (hh : hi < 32) (hd : a < lo ∨ hi < b) :
    fld (putFld w hi lo v) a b = fld w a b := by
  rw [fld, toNat_putFld w hi lo v h hh]
  exact hd.elim (bits_patch_below _ _ _ _ _ _ h) (bits_patch_above _ _ _ _ _ _ h)

theorem bitW_eq (w : Word) (i : Nat) : bitW w i = (fld w i i == 1) := by
  simp [bitW, fld, bits, Nat.testBit_eq_decide_div_mod_eq]
  rfl

@[simp] theorem bitW_putBit (w : Word) (i : Nat) (b : Bool) (h : i < 32) : bitW (putBit w i b) i = b := by
  rw [bitW_eq, putBit, fld_putFld _ _ _ _ (Nat.le_refl i) h]
  cases b <;> simp [b2n]

theorem bitW_putBit_ne (w : Word) (i j : Nat) (b : Bool) (h : i < 32) (hij : j ≠ i) : bitW (putBit w i b) j = bitW w j := by
  rw [bitW_eq, bitW_eq, putBit, fld_putFld_ne _ _ _ _ _ _ (Nat.le_refl i) h (by omega)]

theorem fld_putBit_ne (w : Word) (i hi lo : Nat) (b : Bool) (h : i < 32) (hij : hi < i ∨ i < lo) : fld (putBit w i b) hi lo = fld w hi lo :=
  fld_putFld_ne _ _ _ _ _ _ (Nat.le_refl i) h hij

theorem bitW_putFld_ne (w : Word) (hi lo v i : Nat) (h : lo ≤ hi) (hh : hi < 32) (hd : i < lo ∨ hi < i) :
    bitW (putFld w hi lo v) i = bitW w i := by
  rw [bitW_eq, bitW_eq, fld_putFld_ne _ _ _ _ _ _ h hh hd]

end Sys2Proof.Machine
end

