-- ==== Sys2Proof/Laws/Maps.lean ====
section
/-! SUPPORT. Laws of the sparse tables: what is read after a write, and that every operation keeps the one form. -/
namespace Sys2Proof.Machine

variable {α : Type}

theorem rising_iff (m : SMap α) : Rising m = true ↔ m.Pairwise fun a b => a.1 < b.1 := by
  induction m with
  | nil => simp [Rising]
  | cons a t ih =>
    cases t with
    | nil => simp [Rising]
    | cons b t =>
      simp only [Rising, Bool.and_eq_true, decide_eq_true_eq, ih, List.pairwise_cons, List.mem_cons, forall_eq_or_imp]
      constructor
      · rintro ⟨h, hb, ht⟩
        exact ⟨⟨h, fun c hc => Nat.lt_trans h (hb c hc)⟩, hb, ht⟩
      · rintro ⟨⟨h, _⟩, hb, ht⟩
        exact ⟨h, hb, ht⟩

theorem rising_filter {m : SMap α} (p : Nat × α → Bool) (h : Rising m = true) : Rising (m.filter p) = true := by
  rw [rising_iff] at *
  exact h.filter p

theorem mem_mput {m : SMap α} {k : Nat} {v : α} {e : Nat × α} (h : e ∈ mput m k v) : e = (k, v) ∨ e ∈ m := by
  induction m with
  | nil => simpa [mput] using h
  | cons a t ih =>
    obtain ⟨a, w⟩ := a
    simp only [mput] at h
    split at h
    · simpa using h
    · split at h
      · rcases List.mem_cons.1 h with h | h
        · exact .inl h
        · exact .inr (by simp [h])
      · rcases List.mem_cons.1 h with h | h
        · exact .inr (by simp [h])
        · rcases ih h with h | h
          · exact .inl h
          · exact .inr (by simp [h])

theorem rising_mput {m : SMap α} (k : Nat) (v : α) (h : Rising m = true) : Rising (mput m k v) = true := by
  rw [rising_iff] at *
  induction m with
  | nil => simp [mput]
  | cons a t ih =>
    obtain ⟨a, w⟩ := a
    obtain ⟨ha, ht⟩ := List.pairwise_cons.1 h
    simp only [mput]
    split
    · refine List.pairwise_cons.2 ⟨fun e he => ?_, h⟩
      rcases List.mem_cons.1 he with rfl | he
      · assumption
      · exact Nat.lt_trans ‹_› (ha e he)
    · split
      · subst k
        exact List.pairwise_cons.2 ⟨ha, ht⟩
      · refine List.pairwise_cons.2 ⟨fun e he => ?_, ih ht⟩
        rcases mem_mput he with rfl | he
        · change a < k; omega
        · exact ha e he

theorem rising_mdel {m : SMap α} (k : Nat) (h : Rising m = true) : Rising (mdel m k) = true := rising_filter _ h

theorem rising_mputD [DecidableEq α] (d : α) {m : SMap α} (k : Nat) (v : α) (h : Rising m = true) :
    Rising (mputD d m k v) = true := by
  unfold mputD
  split
  · exact rising_mdel k h
  · exact rising_mput k v h

theorem mem_mputD [DecidableEq α] {d : α} {m : SMap α} {k : Nat} {v : α} {e : Nat × α} (h : e ∈ mputD d m k v) :
    (e = (k, v) ∧ v ≠ d) ∨ e ∈ m := by
  unfold mputD at h
  split at h
  · exact .inr ((List.mem_filter.1 h).1)
  · exact (mem_mput h).imp (fun h => ⟨h, ‹_›⟩) id

theorem mget_mput_self (m : SMap α) (k : Nat) (v : α) : mget (mput m k v) k = some v := by
  induction m with
  | nil => simp [mput, mget]
  | cons a t ih =>
    obtain ⟨a, w⟩ := a
    simp only [mput]
    split
    · simp [mget]
    · split
      · simp [mget]
      · rw [mget, if_neg (by omega), ih]

theorem mget_mput_ne (m : SMap α) {k q : Nat} (v : α) (h : q ≠ k) : mget (mput m k v) q = mget m q := by
  induction m with
  | nil => simp [mput, mget, h.symm]
  | cons a t ih =>
    obtain ⟨a, w⟩ := a
    simp only [mput]
    split
    · rw [mget, if_neg h.symm]
    · split
      · subst k
        rw [mget, mget, if_neg h.symm, if_neg h.symm]
      · rw [mget, mget, ih]

theorem mget_filter_ne (m : SMap α) {k q : Nat} (h : q ≠ k) : mget (mdel m k) q = mget m q := by
  induction m with
  | nil => rfl
  | cons a t ih =>
    obtain ⟨a, w⟩ := a
    unfold mdel at *
    by_cases hk : a = k
    · rw [List.filter_cons_of_neg (by simp [hk]), ih, mget, if_neg (by omega)]
    · rw [List.filter_cons_of_pos (by simp [hk]), mget, mget, ih]

theorem mget_mdel_self (m : SMap α) (k : Nat) : mget (mdel m k) k = none := by
  induction m with
  | nil => rfl
  | cons a t ih =>
    obtain ⟨a, w⟩ := a
    unfold mdel at *
    by_cases hk : a = k
    · rw [List.filter_cons_of_neg (by simp [hk]), ih]
    · rw [List.filter_cons_of_pos (by simp [hk]), mget, if_neg hk, ih]

@[simp] theorem mgetD_mput_self (d : α) (m : SMap α) (k : Nat) (v : α) : mgetD d (mput m k v) k = v := by
  simp [mgetD, mget_mput_self]

@[simp] theorem mgetD_mputD_self [DecidableEq α] (d : α) (m : SMap α) (k : Nat) (v : α) : mgetD d (mputD d m k v) k = v := by
  unfold mputD
  split
  · simp [mgetD, mget_mdel_self, *]
  · simp

theorem mgetD_mputD_ne [DecidableEq α] (d d' : α) (m : SMap α) {k q : Nat} (v : α) (h : q ≠ k) :
    mgetD d (mputD d' m k v) q = mgetD d m q := by
  unfold mputD mgetD
  split
  · rw [mget_filter_ne m h]
  · rw [mget_mput_ne m v h]

end Sys2Proof.Machine
end

