-- ==== Sys2Proof/Laws/Kept.lean ====
section
/-! SUPPORT. What every command keeps, and how it carries over the ways in which meanings are put together. -/
namespace Sys2Proof.Machine

/-- From `s0` to `s` the queue is the same, memory and registers stay in their one form, the OTP has lost nothing, and nothing has
changed but the parts `F`. -/
structure Kept (F : List Part) (s0 s : State) : Prop where
  pend : s.pending = s0.pending
  mem : s0.mem.wf = true → s.mem.wf = true
  regs : s0.regsRise = true → s.regsRise = true
  otp : OtpKept s0 s
  only : OnlyParts F s0 s

theorem OtpEntry.Becomes.refl (a : OtpEntry) : a.Becomes a := ⟨fun h => ⟨h, rfl⟩, id⟩

theorem OtpEntry.Becomes.trans {a b c : OtpEntry} (h : a.Becomes b) (k : b.Becomes c) : a.Becomes c :=
  ⟨fun x => ⟨(k.1 (h.1 x).1).1, (k.1 (h.1 x).1).2.trans (h.1 x).2⟩, fun x => k.2 (h.2 x)⟩

theorem OtpKept.trans {a b c : State} (h : OtpKept a b) (k : OtpKept b c) : OtpKept a c :=
  ⟨fun i => (h.1 i).trans (k.1 i), Nat.le_trans h.2 k.2⟩

theorem Part.same.refl (f : Part) (s : State) : f.same s s := by cases f <;> rfl

theorem Part.same.trans {f : Part} {a b c : State} (h : f.same a b) (k : f.same b c) : f.same a c := by
  cases f <;> simp only [Part.same] at * <;> (rw [k, h])

theorem OnlyParts.refl (F : List Part) (s : State) : OnlyParts F s s := fun f => .inr (.refl f s)

theorem OnlyParts.trans {F : List Part} {a b c : State} (h : OnlyParts F a b) (k : OnlyParts F b c) : OnlyParts F a c :=
  fun f => (h f).elim .inl fun x => (k f).imp id x.trans

theorem Kept.refl (F : List Part) (s : State) : Kept F s s :=
  ⟨rfl, id, id, ⟨fun _ => .refl _, Nat.le_refl _⟩, .refl F s⟩

variable {F G : List Part} {s0 s t : State}

theorem Kept.trans {a b c : State} (h : Kept F a b) (k : Kept F b c) : Kept F a c :=
  ⟨k.pend.trans h.pend, fun x => k.mem (h.mem x), fun x => k.regs (h.regs x), h.otp.trans k.otp, h.only.trans k.only⟩

/-- The parts `G` are among `F`, which a callee needs. -/
theorem Part.le {H : List Part} (hF : H ⊆ F) (h : (G.all fun f => H.contains f) = true := by decide) : G ⊆ F :=
  fun f hf => hF (List.contains_iff_mem.1 (List.all_eq_true.1 h f hf))

/-- A part of `G` is among `F`. -/
theorem Part.mem {f : Part} (hF : G ⊆ F) (h : G.contains f = true := by decide) : f ∈ F := hF (List.contains_iff_mem.1 h)

theorem Part.mem_all (f : Part) : f ∈ Part.all := by cases f <;> decide

/-- A state that differs from a kept one neither in memory's bytes, nor in registers, nor in the OTP. -/
theorem Kept.same (h : Kept F s0 s) (h1 : t.pending = s.pending) (h2 : t.mem.cells = s.mem.cells) (h3 : t.regs = s.regs)
    (h4 : t.boot.otp = s.boot.otp) (h5 : t.boot.svnFloor = s.boot.svnFloor) (h6 : OnlyParts F s t) : Kept F s0 t := by
  refine ⟨h1.trans h.pend, fun x => ?_, fun x => ?_, ⟨fun i => ?_, ?_⟩, h.only.trans h6⟩
  · have := h.mem x
    unfold Memory.wf at *
    rwa [h2]
  · have := h.regs x
    unfold State.regsRise at *
    rwa [h3]
  · rw [h4]; exact h.otp.1 i
  · rw [h5]; exact h.otp.2

/-- `Kept` of a state written out, taken apart so that only a state written out matches it. -/
def KeptLit (F : List Part) (s0 : State) (p : List Instr) (x1 : Nat) (x2 : Calendar) (x3 : Pins) (r : SMap Word) (x5 : List Nat)
    (x6 : SMap LockWin) (x7 : Option LockWin) (x8 : SMap RemoteRead) (m : Memory) (x10 : Engines) (x11 : Locket) (w : Power) (b : Boot)
    (x14 : Beads) (x15 : Hostq) (x16 : Pair) (x17 : Clasp) (x18 : Cipher) (x19 : Hallmark) (x20 : SMap PleatCtx) (x21 : Stitch)
    (x22 : Urt) (x23 : Dedup) (x24 : Mapper) (x25 : Pattern) (x26 : Quilt) (x27 : Repl) (x28 : List Out) (x29 : Nat) : Prop :=
  Kept F s0 (State.mk p x1 x2 x3 r x5 x6 x7 x8 m x10 x11 w b x14 x15 x16 x17 x18 x19 x20 x21 x22 x23 x24 x25 x26 x27 x28 x29)

theorem Kept.lit_iff {p x1 x2 x3 r x5 x6 x7 x8 m x10 x11 w b x14 x15 x16 x17 x18 x19 x20 x21 x22 x23 x24 x25 x26 x27 x28 x29} :
    Kept F s0 (State.mk p x1 x2 x3 r x5 x6 x7 x8 m x10 x11 w b x14 x15 x16 x17 x18 x19 x20 x21 x22 x23 x24 x25 x26 x27 x28 x29) ↔
      KeptLit F s0 p x1 x2 x3 r x5 x6 x7 x8 m x10 x11 w b x14 x15 x16 x17 x18 x19 x20 x21 x22 x23 x24 x25 x26 x27 x28 x29 := .rfl

/-! One part of a state set anew. -/

theorem Kept.upd_gts {x} (hF : [.gts] ⊆ F) (h : Kept F s0 s) : KeptLit F s0 s.pending x s.cal s.pins s.regs s.wosDone s.lockWins
    s.accWin s.remotes s.mem s.eng s.locket s.power s.boot s.bd s.hq s.pair s.clasp s.cipher s.hall s.pleat s.stitch s.urt
    s.dedup s.map s.pat s.quilt s.repl s.out s.fresh :=
  Kept.same h rfl rfl rfl rfl rfl fun f => by cases f <;> first | exact .inr rfl | exact .inl (hF (.head _))

theorem Kept.upd_cal {x} (hF : [.cal] ⊆ F) (h : Kept F s0 s) : KeptLit F s0 s.pending s.gts x s.pins s.regs s.wosDone s.lockWins
    s.accWin s.remotes s.mem s.eng s.locket s.power s.boot s.bd s.hq s.pair s.clasp s.cipher s.hall s.pleat s.stitch s.urt
    s.dedup s.map s.pat s.quilt s.repl s.out s.fresh :=
  Kept.same h rfl rfl rfl rfl rfl fun f => by cases f <;> first | exact .inr rfl | exact .inl (hF (.head _))

theorem Kept.upd_pins {x} (hF : [.pins] ⊆ F) (h : Kept F s0 s) : KeptLit F s0 s.pending s.gts s.cal x s.regs s.wosDone
    s.lockWins s.accWin s.remotes s.mem s.eng s.locket s.power s.boot s.bd s.hq s.pair s.clasp s.cipher s.hall s.pleat s.stitch
    s.urt s.dedup s.map s.pat s.quilt s.repl s.out s.fresh :=
  Kept.same h rfl rfl rfl rfl rfl fun f => by cases f <;> first | exact .inr rfl | exact .inl (hF (.head _))

theorem Kept.upd_wosDone {x} (hF : [.wos] ⊆ F) (h : Kept F s0 s) : KeptLit F s0 s.pending s.gts s.cal s.pins s.regs x s.lockWins
    s.accWin s.remotes s.mem s.eng s.locket s.power s.boot s.bd s.hq s.pair s.clasp s.cipher s.hall s.pleat s.stitch s.urt
    s.dedup s.map s.pat s.quilt s.repl s.out s.fresh :=
  Kept.same h rfl rfl rfl rfl rfl fun f => by cases f <;> first | exact .inr rfl | exact .inl (hF (.head _))

theorem Kept.upd_lockWins {x} (hF : [.lockWins] ⊆ F) (h : Kept F s0 s) : KeptLit F s0 s.pending s.gts s.cal s.pins s.regs
    s.wosDone x s.accWin s.remotes s.mem s.eng s.locket s.power s.boot s.bd s.hq s.pair s.clasp s.cipher s.hall s.pleat s.stitch
    s.urt s.dedup s.map s.pat s.quilt s.repl s.out s.fresh :=
  Kept.same h rfl rfl rfl rfl rfl fun f => by cases f <;> first | exact .inr rfl | exact .inl (hF (.head _))

theorem Kept.upd_accWin {x} (hF : [.accWin] ⊆ F) (h : Kept F s0 s) : KeptLit F s0 s.pending s.gts s.cal s.pins s.regs s.wosDone
    s.lockWins x s.remotes s.mem s.eng s.locket s.power s.boot s.bd s.hq s.pair s.clasp s.cipher s.hall s.pleat s.stitch s.urt
    s.dedup s.map s.pat s.quilt s.repl s.out s.fresh :=
  Kept.same h rfl rfl rfl rfl rfl fun f => by cases f <;> first | exact .inr rfl | exact .inl (hF (.head _))

theorem Kept.upd_remotes {x} (hF : [.remotes] ⊆ F) (h : Kept F s0 s) : KeptLit F s0 s.pending s.gts s.cal s.pins s.regs
    s.wosDone s.lockWins s.accWin x s.mem s.eng s.locket s.power s.boot s.bd s.hq s.pair s.clasp s.cipher s.hall s.pleat
    s.stitch s.urt s.dedup s.map s.pat s.quilt s.repl s.out s.fresh :=
  Kept.same h rfl rfl rfl rfl rfl fun f => by cases f <;> first | exact .inr rfl | exact .inl (hF (.head _))

theorem Kept.upd_eng {x} (hF : [.eng] ⊆ F) (h : Kept F s0 s) : KeptLit F s0 s.pending s.gts s.cal s.pins s.regs s.wosDone
    s.lockWins s.accWin s.remotes s.mem x s.locket s.power s.boot s.bd s.hq s.pair s.clasp s.cipher s.hall s.pleat s.stitch
    s.urt s.dedup s.map s.pat s.quilt s.repl s.out s.fresh :=
  Kept.same h rfl rfl rfl rfl rfl fun f => by cases f <;> first | exact .inr rfl | exact .inl (hF (.head _))

theorem Kept.upd_locket {x} (hF : [.locket] ⊆ F) (h : Kept F s0 s) : KeptLit F s0 s.pending s.gts s.cal s.pins s.regs s.wosDone
    s.lockWins s.accWin s.remotes s.mem s.eng x s.power s.boot s.bd s.hq s.pair s.clasp s.cipher s.hall s.pleat s.stitch s.urt
    s.dedup s.map s.pat s.quilt s.repl s.out s.fresh :=
  Kept.same h rfl rfl rfl rfl rfl fun f => by cases f <;> first | exact .inr rfl | exact .inl (hF (.head _))

theorem Kept.upd_bd {x} (hF : [.bd] ⊆ F) (h : Kept F s0 s) : KeptLit F s0 s.pending s.gts s.cal s.pins s.regs s.wosDone
    s.lockWins s.accWin s.remotes s.mem s.eng s.locket s.power s.boot x s.hq s.pair s.clasp s.cipher s.hall s.pleat s.stitch
    s.urt s.dedup s.map s.pat s.quilt s.repl s.out s.fresh :=
  Kept.same h rfl rfl rfl rfl rfl fun f => by cases f <;> first | exact .inr rfl | exact .inl (hF (.head _))

theorem Kept.upd_hq {x} (hF : [.hq] ⊆ F) (h : Kept F s0 s) : KeptLit F s0 s.pending s.gts s.cal s.pins s.regs s.wosDone
    s.lockWins s.accWin s.remotes s.mem s.eng s.locket s.power s.boot s.bd x s.pair s.clasp s.cipher s.hall s.pleat s.stitch
    s.urt s.dedup s.map s.pat s.quilt s.repl s.out s.fresh :=
  Kept.same h rfl rfl rfl rfl rfl fun f => by cases f <;> first | exact .inr rfl | exact .inl (hF (.head _))

theorem Kept.upd_pair {x} (hF : [.pair] ⊆ F) (h : Kept F s0 s) : KeptLit F s0 s.pending s.gts s.cal s.pins s.regs s.wosDone
    s.lockWins s.accWin s.remotes s.mem s.eng s.locket s.power s.boot s.bd s.hq x s.clasp s.cipher s.hall s.pleat s.stitch s.urt
    s.dedup s.map s.pat s.quilt s.repl s.out s.fresh :=
  Kept.same h rfl rfl rfl rfl rfl fun f => by cases f <;> first | exact .inr rfl | exact .inl (hF (.head _))

theorem Kept.upd_clasp {x} (hF : [.clasp] ⊆ F) (h : Kept F s0 s) : KeptLit F s0 s.pending s.gts s.cal s.pins s.regs s.wosDone
    s.lockWins s.accWin s.remotes s.mem s.eng s.locket s.power s.boot s.bd s.hq s.pair x s.cipher s.hall s.pleat s.stitch s.urt
    s.dedup s.map s.pat s.quilt s.repl s.out s.fresh :=
  Kept.same h rfl rfl rfl rfl rfl fun f => by cases f <;> first | exact .inr rfl | exact .inl (hF (.head _))

theorem Kept.upd_cipher {x} (hF : [.cipher] ⊆ F) (h : Kept F s0 s) : KeptLit F s0 s.pending s.gts s.cal s.pins s.regs s.wosDone
    s.lockWins s.accWin s.remotes s.mem s.eng s.locket s.power s.boot s.bd s.hq s.pair s.clasp x s.hall s.pleat s.stitch s.urt
    s.dedup s.map s.pat s.quilt s.repl s.out s.fresh :=
  Kept.same h rfl rfl rfl rfl rfl fun f => by cases f <;> first | exact .inr rfl | exact .inl (hF (.head _))

theorem Kept.upd_hall {x} (hF : [.hall] ⊆ F) (h : Kept F s0 s) : KeptLit F s0 s.pending s.gts s.cal s.pins s.regs s.wosDone
    s.lockWins s.accWin s.remotes s.mem s.eng s.locket s.power s.boot s.bd s.hq s.pair s.clasp s.cipher x s.pleat s.stitch s.urt
    s.dedup s.map s.pat s.quilt s.repl s.out s.fresh :=
  Kept.same h rfl rfl rfl rfl rfl fun f => by cases f <;> first | exact .inr rfl | exact .inl (hF (.head _))

theorem Kept.upd_pleat {x} (hF : [.pleat] ⊆ F) (h : Kept F s0 s) : KeptLit F s0 s.pending s.gts s.cal s.pins s.regs s.wosDone
    s.lockWins s.accWin s.remotes s.mem s.eng s.locket s.power s.boot s.bd s.hq s.pair s.clasp s.cipher s.hall x s.stitch s.urt
    s.dedup s.map s.pat s.quilt s.repl s.out s.fresh :=
  Kept.same h rfl rfl rfl rfl rfl fun f => by cases f <;> first | exact .inr rfl | exact .inl (hF (.head _))

theorem Kept.upd_stitch {x} (hF : [.stitch] ⊆ F) (h : Kept F s0 s) : KeptLit F s0 s.pending s.gts s.cal s.pins s.regs s.wosDone
    s.lockWins s.accWin s.remotes s.mem s.eng s.locket s.power s.boot s.bd s.hq s.pair s.clasp s.cipher s.hall s.pleat x s.urt
    s.dedup s.map s.pat s.quilt s.repl s.out s.fresh :=
  Kept.same h rfl rfl rfl rfl rfl fun f => by cases f <;> first | exact .inr rfl | exact .inl (hF (.head _))

theorem Kept.upd_urt {x} (hF : [.urt] ⊆ F) (h : Kept F s0 s) : KeptLit F s0 s.pending s.gts s.cal s.pins s.regs s.wosDone
    s.lockWins s.accWin s.remotes s.mem s.eng s.locket s.power s.boot s.bd s.hq s.pair s.clasp s.cipher s.hall s.pleat s.stitch
    x s.dedup s.map s.pat s.quilt s.repl s.out s.fresh :=
  Kept.same h rfl rfl rfl rfl rfl fun f => by cases f <;> first | exact .inr rfl | exact .inl (hF (.head _))

theorem Kept.upd_dedup {x} (hF : [.dedup] ⊆ F) (h : Kept F s0 s) : KeptLit F s0 s.pending s.gts s.cal s.pins s.regs s.wosDone
    s.lockWins s.accWin s.remotes s.mem s.eng s.locket s.power s.boot s.bd s.hq s.pair s.clasp s.cipher s.hall s.pleat s.stitch
    s.urt x s.map s.pat s.quilt s.repl s.out s.fresh :=
  Kept.same h rfl rfl rfl rfl rfl fun f => by cases f <;> first | exact .inr rfl | exact .inl (hF (.head _))

theorem Kept.upd_map {x} (hF : [.map] ⊆ F) (h : Kept F s0 s) : KeptLit F s0 s.pending s.gts s.cal s.pins s.regs s.wosDone
    s.lockWins s.accWin s.remotes s.mem s.eng s.locket s.power s.boot s.bd s.hq s.pair s.clasp s.cipher s.hall s.pleat s.stitch
    s.urt s.dedup x s.pat s.quilt s.repl s.out s.fresh :=
  Kept.same h rfl rfl rfl rfl rfl fun f => by cases f <;> first | exact .inr rfl | exact .inl (hF (.head _))

theorem Kept.upd_pat {x} (hF : [.pat] ⊆ F) (h : Kept F s0 s) : KeptLit F s0 s.pending s.gts s.cal s.pins s.regs s.wosDone
    s.lockWins s.accWin s.remotes s.mem s.eng s.locket s.power s.boot s.bd s.hq s.pair s.clasp s.cipher s.hall s.pleat s.stitch
    s.urt s.dedup s.map x s.quilt s.repl s.out s.fresh :=
  Kept.same h rfl rfl rfl rfl rfl fun f => by cases f <;> first | exact .inr rfl | exact .inl (hF (.head _))

theorem Kept.upd_quilt {x} (hF : [.quilt] ⊆ F) (h : Kept F s0 s) : KeptLit F s0 s.pending s.gts s.cal s.pins s.regs s.wosDone
    s.lockWins s.accWin s.remotes s.mem s.eng s.locket s.power s.boot s.bd s.hq s.pair s.clasp s.cipher s.hall s.pleat s.stitch
    s.urt s.dedup s.map s.pat x s.repl s.out s.fresh :=
  Kept.same h rfl rfl rfl rfl rfl fun f => by cases f <;> first | exact .inr rfl | exact .inl (hF (.head _))

theorem Kept.upd_repl {x} (hF : [.repl] ⊆ F) (h : Kept F s0 s) : KeptLit F s0 s.pending s.gts s.cal s.pins s.regs s.wosDone
    s.lockWins s.accWin s.remotes s.mem s.eng s.locket s.power s.boot s.bd s.hq s.pair s.clasp s.cipher s.hall s.pleat s.stitch
    s.urt s.dedup s.map s.pat s.quilt x s.out s.fresh :=
  Kept.same h rfl rfl rfl rfl rfl fun f => by cases f <;> first | exact .inr rfl | exact .inl (hF (.head _))

theorem Kept.upd_out {x} (hF : [.out] ⊆ F) (h : Kept F s0 s) : KeptLit F s0 s.pending s.gts s.cal s.pins s.regs s.wosDone
    s.lockWins s.accWin s.remotes s.mem s.eng s.locket s.power s.boot s.bd s.hq s.pair s.clasp s.cipher s.hall s.pleat s.stitch
    s.urt s.dedup s.map s.pat s.quilt s.repl x s.fresh :=
  Kept.same h rfl rfl rfl rfl rfl fun f => by cases f <;> first | exact .inr rfl | exact .inl (hF (.head _))

theorem Kept.upd_fresh {x} (hF : [.fresh] ⊆ F) (h : Kept F s0 s) : KeptLit F s0 s.pending s.gts s.cal s.pins s.regs s.wosDone
    s.lockWins s.accWin s.remotes s.mem s.eng s.locket s.power s.boot s.bd s.hq s.pair s.clasp s.cipher s.hall s.pleat s.stitch
    s.urt s.dedup s.map s.pat s.quilt s.repl s.out x :=
  Kept.same h rfl rfl rfl rfl rfl fun f => by cases f <;> first | exact .inr rfl | exact .inl (hF (.head _))

theorem Kept.upd_wake {b} (hF : [.wake] ⊆ F) (h : Kept F s0 s) : KeptLit F s0 s.pending s.gts s.cal s.pins s.regs s.wosDone
    s.lockWins s.accWin s.remotes s.mem s.eng s.locket { s.power with wakePend := b } s.boot s.bd s.hq s.pair s.clasp s.cipher
    s.hall s.pleat s.stitch s.urt s.dedup s.map s.pat s.quilt s.repl s.out s.fresh :=
  Kept.same h rfl rfl rfl rfl rfl fun f => by cases f <;> first | exact .inr rfl | exact .inl (hF (.head _))

theorem Kept.upd_power {x} (hF : [.power] ⊆ F) (h : Kept F s0 s) (hw : x.wakePend = s.power.wakePend) : KeptLit F s0 s.pending
    s.gts s.cal s.pins s.regs s.wosDone s.lockWins s.accWin s.remotes s.mem s.eng s.locket x s.boot s.bd s.hq s.pair s.clasp
    s.cipher s.hall s.pleat s.stitch s.urt s.dedup s.map s.pat s.quilt s.repl s.out s.fresh :=
  Kept.same h rfl rfl rfl rfl rfl fun f => by cases f <;> first | exact .inr rfl | exact .inl (hF (.head _)) | exact .inr hw

theorem Kept.upd_power_wake {x} (hF : [.wake, .power] ⊆ F) (h : Kept F s0 s) : KeptLit F s0 s.pending s.gts s.cal s.pins s.regs
    s.wosDone s.lockWins s.accWin s.remotes s.mem s.eng s.locket x s.boot s.bd s.hq s.pair s.clasp s.cipher s.hall s.pleat
    s.stitch s.urt s.dedup s.map s.pat s.quilt s.repl s.out s.fresh :=
  Kept.same h rfl rfl rfl rfl rfl fun f => by
    cases f <;> first | exact .inr rfl | exact .inl (hF (.head _)) | exact .inl (hF (.tail _ (.head _)))

theorem Kept.upd_lines {x} (hF : [.lines] ⊆ F) (h : Kept F s0 s) : KeptLit F s0 s.pending s.gts s.cal s.pins s.regs s.wosDone
    s.lockWins s.accWin s.remotes { s.mem with lines := x } s.eng s.locket s.power s.boot s.bd s.hq s.pair s.clasp s.cipher
    s.hall s.pleat s.stitch s.urt s.dedup s.map s.pat s.quilt s.repl s.out s.fresh :=
  Kept.same h rfl rfl rfl rfl rfl fun f => by cases f <;> first | exact .inr rfl | exact .inl (hF (.head _))

theorem Kept.upd_store {m} (hF : [.store] ⊆ F) (h : Kept F s0 s) (hc : m.cells = s.mem.cells) (hl : m.lines = s.mem.lines) :
    KeptLit F s0 s.pending s.gts s.cal s.pins s.regs s.wosDone s.lockWins s.accWin s.remotes m s.eng s.locket s.power s.boot
    s.bd s.hq s.pair s.clasp s.cipher s.hall s.pleat s.stitch s.urt s.dedup s.map s.pat s.quilt s.repl s.out s.fresh :=
  Kept.same h rfl hc rfl rfl rfl fun f => by
    cases f <;> first | exact .inr rfl | exact .inl (hF (.head _)) | exact .inr hc | exact .inr hl

theorem Kept.upd_boot {x} (hF : [.boot] ⊆ F) (h : Kept F s0 s) (h1 : x.otp = s.boot.otp) (h2 : x.svnFloor = s.boot.svnFloor) :
    KeptLit F s0 s.pending s.gts s.cal s.pins s.regs s.wosDone s.lockWins s.accWin s.remotes s.mem s.eng s.locket s.power x s.bd
    s.hq s.pair s.clasp s.cipher s.hall s.pleat s.stitch s.urt s.dedup s.map s.pat s.quilt s.repl s.out s.fresh :=
  Kept.same h rfl rfl rfl h1 h2 fun f => by cases f <;> first | exact .inr rfl | exact .inl (hF (.head _))

theorem Kept.upd_time {x y} (hF : [.gts, .cal] ⊆ F) (h : Kept F s0 s) : KeptLit F s0 s.pending x y s.pins s.regs s.wosDone
    s.lockWins s.accWin s.remotes s.mem s.eng s.locket s.power s.boot s.bd s.hq s.pair s.clasp s.cipher s.hall s.pleat s.stitch
    s.urt s.dedup s.map s.pat s.quilt s.repl s.out s.fresh :=
  Kept.same h rfl rfl rfl rfl rfl fun f => by
    cases f <;> first | exact .inr rfl | exact .inl (hF (.head _)) | exact .inl (hF (.tail _ (.head _)))

theorem Kept.upd_power_pins {x y} (hF : [.pins, .power] ⊆ F) (h : Kept F s0 s) (hw : x.wakePend = s.power.wakePend) :
    KeptLit F s0 s.pending s.gts s.cal y s.regs s.wosDone s.lockWins s.accWin s.remotes s.mem s.eng s.locket x s.boot s.bd s.hq
    s.pair s.clasp s.cipher s.hall s.pleat s.stitch s.urt s.dedup s.map s.pat s.quilt s.repl s.out s.fresh :=
  Kept.same h rfl rfl rfl rfl rfl fun f => by
    cases f <;> first | exact .inr rfl | exact .inl (hF (.head _)) | exact .inl (hF (.tail _ (.head _))) | exact .inr hw

theorem Kept.upd_wos_pins {x y} (hF : [.pins, .wos] ⊆ F) (h : Kept F s0 s) : KeptLit F s0 s.pending s.gts s.cal y s.regs x
    s.lockWins s.accWin s.remotes s.mem s.eng s.locket s.power s.boot s.bd s.hq s.pair s.clasp s.cipher s.hall s.pleat s.stitch
    s.urt s.dedup s.map s.pat s.quilt s.repl s.out s.fresh :=
  Kept.same h rfl rfl rfl rfl rfl fun f => by
    cases f <;> first | exact .inr rfl | exact .inl (hF (.head _)) | exact .inl (hF (.tail _ (.head _)))

theorem Kept.ite {c : Prop} [Decidable c] (h1 : Kept F s0 s) (h2 : Kept F s0 t) : Kept F s0 (if c then s else t) := by
  split <;> assumption

theorem Kept.cut {p q : Prop} (h1 : p) (h2 : p → q) : q := h2 h1

/-- The first part of a pair that a match has taken apart. -/
theorem Kept.of_pair {α : Type} {p : State × α} {a : State} {b : α} (h : Kept F s0 p.1) (e : p = (a, b)) : Kept F s0 a := by
  subst e; exact h

theorem Kept.ite_fst {α : Type} {c : Prop} [Decidable c] {a b : State × α} (h1 : Kept F s0 a.1) (h2 : Kept F s0 b.1) :
    Kept F s0 (if c then a else b).1 := by
  split <;> assumption

theorem Kept.foldl {α : Type} {l : List α} {f : State → α → State} (h : Kept F s0 s) (hf : ∀ x a, Kept F s0 x → Kept F s0 (f x a)) :
    Kept F s0 (l.foldl f s) := by
  induction l generalizing s with
  | nil => exact h
  | cons a t ih => exact ih (hf s a h)

theorem Kept.foldl_fst {α β : Type} {l : List α} {f : State × β → α → State × β} {x : State × β} (h : Kept F s0 x.1)
    (hf : ∀ y a, Kept F s0 y.1 → Kept F s0 (f y a).1) : Kept F s0 (l.foldl f x).1 := by
  induction l generalizing x with
  | nil => exact h
  | cons a t ih => exact ih (hf x a h)

theorem Kept.foldl_fst_fst {α β γ : Type} {l : List α} {f : (State × β) × γ → α → (State × β) × γ} {x : (State × β) × γ}
    (h : Kept F s0 x.1.1) (hf : ∀ y a, Kept F s0 y.1.1 → Kept F s0 (f y a).1.1) : Kept F s0 (l.foldl f x).1.1 := by
  induction l generalizing x with
  | nil => exact h
  | cons a t ih => exact ih (hf x a h)

/-- A command answers a next state, which keeps what every command keeps. -/
def KeptR (F : List Part) (s0 : State) (r : Res) : Prop := ∃ t, r = .next t ∧ Kept F s0 t

theorem KeptR.next (h : Kept F s0 s) : KeptR F s0 (.next s) := ⟨s, rfl, h⟩

theorem KeptR.ite {c : Prop} [Decidable c] {a b : Res} (h1 : KeptR F s0 a) (h2 : KeptR F s0 b) : KeptR F s0 (if c then a else b) := by
  split <;> assumption

theorem KeptR.act {f : State → State} (h : Kept F s0 s) (hf : ∀ x, Kept F s0 x → Kept F s0 (f x)) : KeptR F s0 (act s f) := by
  unfold Machine.act
  split
  · exact .next (hf s h)
  · exact .next h

theorem KeptR.actIf {b : Bool} {f : State → State} (h : Kept F s0 s) (hf : ∀ x, Kept F s0 x → Kept F s0 (f x)) :
    KeptR F s0 (actIf s b f) := by
  unfold Machine.actIf
  split
  · exact .next (hf s h)
  · exact .next h

/-- The outcome of a bead's operation holds a kept state, whichever it is. -/
def KeptB (F : List Part) (s0 : State) (r : BeadRes) : Prop := match r with | .error (t, _) => Kept F s0 t | .ok (t, _) => Kept F s0 t

theorem KeptB.error {c : Nat} (h : Kept F s0 s) : KeptB F s0 (.error (s, c)) := h

theorem KeptB.ok {b : Bead} (h : Kept F s0 s) : KeptB F s0 (.ok (s, b)) := h

theorem KeptB.ite {c : Prop} [Decidable c] {a b : BeadRes} (h1 : KeptB F s0 a) (h2 : KeptB F s0 b) : KeptB F s0 (if c then a else b) := by
  split <;> assumption

/-! ### The primitives -/

theorem State.wr_kept {p off i : Nat} {v : Word} (hF : [Part.regs] ⊆ F) (h : Kept F s0 s) : Kept F s0 (s.wr p off i v) :=
  ⟨h.pend, h.mem, fun x => rising_mputD _ _ _ (h.regs x), h.otp, h.only.trans fun f => by
    cases f <;> first | exact .inl (hF (.head _)) | exact .inr rfl⟩

theorem poke_cells (cells : SMap Byte) (addr : Nat) (l : List (Byte × Nat)) (h : Rising cells = true ∧ ∀ c ∈ cells, c.2 ≠ 0) :
    let m := l.foldl (fun m b => mputD 0 m (addr + b.2) b.1) cells
    Rising m = true ∧ ∀ c ∈ m, c.2 ≠ 0 := by
  induction l generalizing cells with
  | nil => exact h
  | cons b t ih =>
    refine ih _ ⟨rising_mputD _ _ _ h.1, fun c hc => ?_⟩
    rcases mem_mputD hc with ⟨rfl, hv⟩ | hc
    · exact hv
    · exact h.2 c hc

theorem Memory.wf_iff (m : Memory) : m.wf = true ↔ Rising m.cells = true ∧ ∀ c ∈ m.cells, c.2 ≠ 0 := by
  simp [Memory.wf]

theorem State.poke_kept {addr : Nat} {bs : List Byte} (hF : [Part.cells] ⊆ F) (h : Kept F s0 s) : Kept F s0 (s.poke addr bs) := by
  refine ⟨h.pend, fun x => ?_, h.regs, h.otp, h.only.trans fun f => ?_⟩
  · have := h.mem x
    rw [Memory.wf_iff] at *
    exact poke_cells _ _ _ this
  · cases f <;> first | exact .inl (hF (.head _)) | exact .inr rfl

theorem Memory.wf_filter {m n : Memory} (p : Host.Cell → Bool) (h : n.cells = m.cells.filter p) (hm : m.wf = true) : n.wf = true := by
  rw [Memory.wf_iff] at *
  rw [h]
  exact ⟨rising_filter p hm.1, fun c hc => hm.2 c ((List.mem_filter.1 hc).1)⟩

end Sys2Proof.Machine
end

