-- ==== Sys2Proof/Laws/State.lean ====
section
/-! SUPPORT. The parts of the state after each of its plain updates, and what a register, a domain, a bead, a strand, a Spool page or a
side band reads after it, or another one, has been set. -/
namespace Sys2Proof.Machine
variable {s : State}

/-! ### `State.wr` -/

@[simp] theorem State.wr_pending {p off i : Nat} {v : Word} : (s.wr p off i v).pending = s.pending := rfl
@[simp] theorem State.wr_gts {p off i : Nat} {v : Word} : (s.wr p off i v).gts = s.gts := rfl
@[simp] theorem State.wr_cal {p off i : Nat} {v : Word} : (s.wr p off i v).cal = s.cal := rfl
@[simp] theorem State.wr_pins {p off i : Nat} {v : Word} : (s.wr p off i v).pins = s.pins := rfl
@[simp] theorem State.wr_wosDone {p off i : Nat} {v : Word} : (s.wr p off i v).wosDone = s.wosDone := rfl
@[simp] theorem State.wr_lockWins {p off i : Nat} {v : Word} : (s.wr p off i v).lockWins = s.lockWins := rfl
@[simp] theorem State.wr_accWin {p off i : Nat} {v : Word} : (s.wr p off i v).accWin = s.accWin := rfl
@[simp] theorem State.wr_remotes {p off i : Nat} {v : Word} : (s.wr p off i v).remotes = s.remotes := rfl
@[simp] theorem State.wr_mem {p off i : Nat} {v : Word} : (s.wr p off i v).mem = s.mem := rfl
@[simp] theorem State.wr_eng {p off i : Nat} {v : Word} : (s.wr p off i v).eng = s.eng := rfl
@[simp] theorem State.wr_locket {p off i : Nat} {v : Word} : (s.wr p off i v).locket = s.locket := rfl
@[simp] theorem State.wr_power {p off i : Nat} {v : Word} : (s.wr p off i v).power = s.power := rfl
@[simp] theorem State.wr_boot {p off i : Nat} {v : Word} : (s.wr p off i v).boot = s.boot := rfl
@[simp] theorem State.wr_bd {p off i : Nat} {v : Word} : (s.wr p off i v).bd = s.bd := rfl
@[simp] theorem State.wr_hq {p off i : Nat} {v : Word} : (s.wr p off i v).hq = s.hq := rfl
@[simp] theorem State.wr_pair {p off i : Nat} {v : Word} : (s.wr p off i v).pair = s.pair := rfl
@[simp] theorem State.wr_clasp {p off i : Nat} {v : Word} : (s.wr p off i v).clasp = s.clasp := rfl
@[simp] theorem State.wr_cipher {p off i : Nat} {v : Word} : (s.wr p off i v).cipher = s.cipher := rfl
@[simp] theorem State.wr_hall {p off i : Nat} {v : Word} : (s.wr p off i v).hall = s.hall := rfl
@[simp] theorem State.wr_pleat {p off i : Nat} {v : Word} : (s.wr p off i v).pleat = s.pleat := rfl
@[simp] theorem State.wr_stitch {p off i : Nat} {v : Word} : (s.wr p off i v).stitch = s.stitch := rfl
@[simp] theorem State.wr_urt {p off i : Nat} {v : Word} : (s.wr p off i v).urt = s.urt := rfl
@[simp] theorem State.wr_dedup {p off i : Nat} {v : Word} : (s.wr p off i v).dedup = s.dedup := rfl
@[simp] theorem State.wr_map {p off i : Nat} {v : Word} : (s.wr p off i v).map = s.map := rfl
@[simp] theorem State.wr_pat {p off i : Nat} {v : Word} : (s.wr p off i v).pat = s.pat := rfl
@[simp] theorem State.wr_quilt {p off i : Nat} {v : Word} : (s.wr p off i v).quilt = s.quilt := rfl
@[simp] theorem State.wr_repl {p off i : Nat} {v : Word} : (s.wr p off i v).repl = s.repl := rfl
@[simp] theorem State.wr_out {p off i : Nat} {v : Word} : (s.wr p off i v).out = s.out := rfl
@[simp] theorem State.wr_fresh {p off i : Nat} {v : Word} : (s.wr p off i v).fresh = s.fresh := rfl

/-! ### `State.emit` -/

@[simp] theorem State.emit_pending {o : Out} : (s.emit o).pending = s.pending := rfl
@[simp] theorem State.emit_gts {o : Out} : (s.emit o).gts = s.gts := rfl
@[simp] theorem State.emit_cal {o : Out} : (s.emit o).cal = s.cal := rfl
@[simp] theorem State.emit_pins {o : Out} : (s.emit o).pins = s.pins := rfl
@[simp] theorem State.emit_regs {o : Out} : (s.emit o).regs = s.regs := rfl
@[simp] theorem State.emit_wosDone {o : Out} : (s.emit o).wosDone = s.wosDone := rfl
@[simp] theorem State.emit_lockWins {o : Out} : (s.emit o).lockWins = s.lockWins := rfl
@[simp] theorem State.emit_accWin {o : Out} : (s.emit o).accWin = s.accWin := rfl
@[simp] theorem State.emit_remotes {o : Out} : (s.emit o).remotes = s.remotes := rfl
@[simp] theorem State.emit_mem {o : Out} : (s.emit o).mem = s.mem := rfl
@[simp] theorem State.emit_eng {o : Out} : (s.emit o).eng = s.eng := rfl
@[simp] theorem State.emit_locket {o : Out} : (s.emit o).locket = s.locket := rfl
@[simp] theorem State.emit_power {o : Out} : (s.emit o).power = s.power := rfl
@[simp] theorem State.emit_boot {o : Out} : (s.emit o).boot = s.boot := rfl
@[simp] theorem State.emit_bd {o : Out} : (s.emit o).bd = s.bd := rfl
@[simp] theorem State.emit_hq {o : Out} : (s.emit o).hq = s.hq := rfl
@[simp] theorem State.emit_pair {o : Out} : (s.emit o).pair = s.pair := rfl
@[simp] theorem State.emit_clasp {o : Out} : (s.emit o).clasp = s.clasp := rfl
@[simp] theorem State.emit_cipher {o : Out} : (s.emit o).cipher = s.cipher := rfl
@[simp] theorem State.emit_hall {o : Out} : (s.emit o).hall = s.hall := rfl
@[simp] theorem State.emit_pleat {o : Out} : (s.emit o).pleat = s.pleat := rfl
@[simp] theorem State.emit_stitch {o : Out} : (s.emit o).stitch = s.stitch := rfl
@[simp] theorem State.emit_urt {o : Out} : (s.emit o).urt = s.urt := rfl
@[simp] theorem State.emit_dedup {o : Out} : (s.emit o).dedup = s.dedup := rfl
@[simp] theorem State.emit_map {o : Out} : (s.emit o).map = s.map := rfl
@[simp] theorem State.emit_pat {o : Out} : (s.emit o).pat = s.pat := rfl
@[simp] theorem State.emit_quilt {o : Out} : (s.emit o).quilt = s.quilt := rfl
@[simp] theorem State.emit_repl {o : Out} : (s.emit o).repl = s.repl := rfl
@[simp] theorem State.emit_fresh {o : Out} : (s.emit o).fresh = s.fresh := rfl
@[simp] theorem State.emit_rd {o : Out} {p' off' i' : Nat} : (s.emit o).rd p' off' i' = s.rd p' off' i' := rfl
@[simp] theorem State.emit_dom {o : Out} {d' : Nat} : (s.emit o).dom d' = s.dom d' := rfl

/-! ### `State.setDom` -/

@[simp] theorem State.setDom_pending {d : Nat} {x : Domain} : (s.setDom d x).pending = s.pending := rfl
@[simp] theorem State.setDom_gts {d : Nat} {x : Domain} : (s.setDom d x).gts = s.gts := rfl
@[simp] theorem State.setDom_cal {d : Nat} {x : Domain} : (s.setDom d x).cal = s.cal := rfl
@[simp] theorem State.setDom_pins {d : Nat} {x : Domain} : (s.setDom d x).pins = s.pins := rfl
@[simp] theorem State.setDom_regs {d : Nat} {x : Domain} : (s.setDom d x).regs = s.regs := rfl
@[simp] theorem State.setDom_wosDone {d : Nat} {x : Domain} : (s.setDom d x).wosDone = s.wosDone := rfl
@[simp] theorem State.setDom_lockWins {d : Nat} {x : Domain} : (s.setDom d x).lockWins = s.lockWins := rfl
@[simp] theorem State.setDom_accWin {d : Nat} {x : Domain} : (s.setDom d x).accWin = s.accWin := rfl
@[simp] theorem State.setDom_remotes {d : Nat} {x : Domain} : (s.setDom d x).remotes = s.remotes := rfl
@[simp] theorem State.setDom_mem {d : Nat} {x : Domain} : (s.setDom d x).mem = s.mem := rfl
@[simp] theorem State.setDom_eng {d : Nat} {x : Domain} : (s.setDom d x).eng = s.eng := rfl
@[simp] theorem State.setDom_locket {d : Nat} {x : Domain} : (s.setDom d x).locket = s.locket := rfl
@[simp] theorem State.setDom_boot {d : Nat} {x : Domain} : (s.setDom d x).boot = s.boot := rfl
@[simp] theorem State.setDom_bd {d : Nat} {x : Domain} : (s.setDom d x).bd = s.bd := rfl
@[simp] theorem State.setDom_hq {d : Nat} {x : Domain} : (s.setDom d x).hq = s.hq := rfl
@[simp] theorem State.setDom_pair {d : Nat} {x : Domain} : (s.setDom d x).pair = s.pair := rfl
@[simp] theorem State.setDom_clasp {d : Nat} {x : Domain} : (s.setDom d x).clasp = s.clasp := rfl
@[simp] theorem State.setDom_cipher {d : Nat} {x : Domain} : (s.setDom d x).cipher = s.cipher := rfl
@[simp] theorem State.setDom_hall {d : Nat} {x : Domain} : (s.setDom d x).hall = s.hall := rfl
@[simp] theorem State.setDom_pleat {d : Nat} {x : Domain} : (s.setDom d x).pleat = s.pleat := rfl
@[simp] theorem State.setDom_stitch {d : Nat} {x : Domain} : (s.setDom d x).stitch = s.stitch := rfl
@[simp] theorem State.setDom_urt {d : Nat} {x : Domain} : (s.setDom d x).urt = s.urt := rfl
@[simp] theorem State.setDom_dedup {d : Nat} {x : Domain} : (s.setDom d x).dedup = s.dedup := rfl
@[simp] theorem State.setDom_map {d : Nat} {x : Domain} : (s.setDom d x).map = s.map := rfl
@[simp] theorem State.setDom_pat {d : Nat} {x : Domain} : (s.setDom d x).pat = s.pat := rfl
@[simp] theorem State.setDom_quilt {d : Nat} {x : Domain} : (s.setDom d x).quilt = s.quilt := rfl
@[simp] theorem State.setDom_repl {d : Nat} {x : Domain} : (s.setDom d x).repl = s.repl := rfl
@[simp] theorem State.setDom_out {d : Nat} {x : Domain} : (s.setDom d x).out = s.out := rfl
@[simp] theorem State.setDom_fresh {d : Nat} {x : Domain} : (s.setDom d x).fresh = s.fresh := rfl
@[simp] theorem State.setDom_rd {d : Nat} {x : Domain} {p' off' i' : Nat} : (s.setDom d x).rd p' off' i' = s.rd p' off' i' := rfl

/-! ### `State.setBead` -/

@[simp] theorem State.setBead_pending {n : Nat} {b : Bead} : (s.setBead n b).pending = s.pending := rfl
@[simp] theorem State.setBead_gts {n : Nat} {b : Bead} : (s.setBead n b).gts = s.gts := rfl
@[simp] theorem State.setBead_cal {n : Nat} {b : Bead} : (s.setBead n b).cal = s.cal := rfl
@[simp] theorem State.setBead_pins {n : Nat} {b : Bead} : (s.setBead n b).pins = s.pins := rfl
@[simp] theorem State.setBead_regs {n : Nat} {b : Bead} : (s.setBead n b).regs = s.regs := rfl
@[simp] theorem State.setBead_wosDone {n : Nat} {b : Bead} : (s.setBead n b).wosDone = s.wosDone := rfl
@[simp] theorem State.setBead_lockWins {n : Nat} {b : Bead} : (s.setBead n b).lockWins = s.lockWins := rfl
@[simp] theorem State.setBead_accWin {n : Nat} {b : Bead} : (s.setBead n b).accWin = s.accWin := rfl
@[simp] theorem State.setBead_remotes {n : Nat} {b : Bead} : (s.setBead n b).remotes = s.remotes := rfl
@[simp] theorem State.setBead_mem {n : Nat} {b : Bead} : (s.setBead n b).mem = s.mem := rfl
@[simp] theorem State.setBead_eng {n : Nat} {b : Bead} : (s.setBead n b).eng = s.eng := rfl
@[simp] theorem State.setBead_locket {n : Nat} {b : Bead} : (s.setBead n b).locket = s.locket := rfl
@[simp] theorem State.setBead_power {n : Nat} {b : Bead} : (s.setBead n b).power = s.power := rfl
@[simp] theorem State.setBead_boot {n : Nat} {b : Bead} : (s.setBead n b).boot = s.boot := rfl
@[simp] theorem State.setBead_hq {n : Nat} {b : Bead} : (s.setBead n b).hq = s.hq := rfl
@[simp] theorem State.setBead_pair {n : Nat} {b : Bead} : (s.setBead n b).pair = s.pair := rfl
@[simp] theorem State.setBead_clasp {n : Nat} {b : Bead} : (s.setBead n b).clasp = s.clasp := rfl
@[simp] theorem State.setBead_cipher {n : Nat} {b : Bead} : (s.setBead n b).cipher = s.cipher := rfl
@[simp] theorem State.setBead_hall {n : Nat} {b : Bead} : (s.setBead n b).hall = s.hall := rfl
@[simp] theorem State.setBead_pleat {n : Nat} {b : Bead} : (s.setBead n b).pleat = s.pleat := rfl
@[simp] theorem State.setBead_stitch {n : Nat} {b : Bead} : (s.setBead n b).stitch = s.stitch := rfl
@[simp] theorem State.setBead_urt {n : Nat} {b : Bead} : (s.setBead n b).urt = s.urt := rfl
@[simp] theorem State.setBead_dedup {n : Nat} {b : Bead} : (s.setBead n b).dedup = s.dedup := rfl
@[simp] theorem State.setBead_map {n : Nat} {b : Bead} : (s.setBead n b).map = s.map := rfl
@[simp] theorem State.setBead_pat {n : Nat} {b : Bead} : (s.setBead n b).pat = s.pat := rfl
@[simp] theorem State.setBead_quilt {n : Nat} {b : Bead} : (s.setBead n b).quilt = s.quilt := rfl
@[simp] theorem State.setBead_repl {n : Nat} {b : Bead} : (s.setBead n b).repl = s.repl := rfl
@[simp] theorem State.setBead_out {n : Nat} {b : Bead} : (s.setBead n b).out = s.out := rfl
@[simp] theorem State.setBead_fresh {n : Nat} {b : Bead} : (s.setBead n b).fresh = s.fresh := rfl
@[simp] theorem State.setBead_rd {n : Nat} {b : Bead} {p' off' i' : Nat} : (s.setBead n b).rd p' off' i' = s.rd p' off' i' := rfl
@[simp] theorem State.setBead_dom {n : Nat} {b : Bead} {d' : Nat} : (s.setBead n b).dom d' = s.dom d' := rfl

/-! ### `State.setStrand` -/

@[simp] theorem State.setStrand_pending {n : Nat} {x : Strand} : (s.setStrand n x).pending = s.pending := rfl
@[simp] theorem State.setStrand_gts {n : Nat} {x : Strand} : (s.setStrand n x).gts = s.gts := rfl
@[simp] theorem State.setStrand_cal {n : Nat} {x : Strand} : (s.setStrand n x).cal = s.cal := rfl
@[simp] theorem State.setStrand_pins {n : Nat} {x : Strand} : (s.setStrand n x).pins = s.pins := rfl
@[simp] theorem State.setStrand_regs {n : Nat} {x : Strand} : (s.setStrand n x).regs = s.regs := rfl
@[simp] theorem State.setStrand_wosDone {n : Nat} {x : Strand} : (s.setStrand n x).wosDone = s.wosDone := rfl
@[simp] theorem State.setStrand_lockWins {n : Nat} {x : Strand} : (s.setStrand n x).lockWins = s.lockWins := rfl
@[simp] theorem State.setStrand_accWin {n : Nat} {x : Strand} : (s.setStrand n x).accWin = s.accWin := rfl
@[simp] theorem State.setStrand_remotes {n : Nat} {x : Strand} : (s.setStrand n x).remotes = s.remotes := rfl
@[simp] theorem State.setStrand_mem {n : Nat} {x : Strand} : (s.setStrand n x).mem = s.mem := rfl
@[simp] theorem State.setStrand_eng {n : Nat} {x : Strand} : (s.setStrand n x).eng = s.eng := rfl
@[simp] theorem State.setStrand_locket {n : Nat} {x : Strand} : (s.setStrand n x).locket = s.locket := rfl
@[simp] theorem State.setStrand_power {n : Nat} {x : Strand} : (s.setStrand n x).power = s.power := rfl
@[simp] theorem State.setStrand_boot {n : Nat} {x : Strand} : (s.setStrand n x).boot = s.boot := rfl
@[simp] theorem State.setStrand_hq {n : Nat} {x : Strand} : (s.setStrand n x).hq = s.hq := rfl
@[simp] theorem State.setStrand_pair {n : Nat} {x : Strand} : (s.setStrand n x).pair = s.pair := rfl
@[simp] theorem State.setStrand_clasp {n : Nat} {x : Strand} : (s.setStrand n x).clasp = s.clasp := rfl
@[simp] theorem State.setStrand_cipher {n : Nat} {x : Strand} : (s.setStrand n x).cipher = s.cipher := rfl
@[simp] theorem State.setStrand_hall {n : Nat} {x : Strand} : (s.setStrand n x).hall = s.hall := rfl
@[simp] theorem State.setStrand_pleat {n : Nat} {x : Strand} : (s.setStrand n x).pleat = s.pleat := rfl
@[simp] theorem State.setStrand_stitch {n : Nat} {x : Strand} : (s.setStrand n x).stitch = s.stitch := rfl
@[simp] theorem State.setStrand_urt {n : Nat} {x : Strand} : (s.setStrand n x).urt = s.urt := rfl
@[simp] theorem State.setStrand_dedup {n : Nat} {x : Strand} : (s.setStrand n x).dedup = s.dedup := rfl
@[simp] theorem State.setStrand_map {n : Nat} {x : Strand} : (s.setStrand n x).map = s.map := rfl
@[simp] theorem State.setStrand_pat {n : Nat} {x : Strand} : (s.setStrand n x).pat = s.pat := rfl
@[simp] theorem State.setStrand_quilt {n : Nat} {x : Strand} : (s.setStrand n x).quilt = s.quilt := rfl
@[simp] theorem State.setStrand_repl {n : Nat} {x : Strand} : (s.setStrand n x).repl = s.repl := rfl
@[simp] theorem State.setStrand_out {n : Nat} {x : Strand} : (s.setStrand n x).out = s.out := rfl
@[simp] theorem State.setStrand_fresh {n : Nat} {x : Strand} : (s.setStrand n x).fresh = s.fresh := rfl
@[simp] theorem State.setStrand_rd {n : Nat} {x : Strand} {p' off' i' : Nat} : (s.setStrand n x).rd p' off' i' = s.rd p' off' i' := rfl
@[simp] theorem State.setStrand_dom {n : Nat} {x : Strand} {d' : Nat} : (s.setStrand n x).dom d' = s.dom d' := rfl

/-! ### `State.setSpage` -/

@[simp] theorem State.setSpage_pending {p : Nat} {x : SpoolPage} : (s.setSpage p x).pending = s.pending := rfl
@[simp] theorem State.setSpage_gts {p : Nat} {x : SpoolPage} : (s.setSpage p x).gts = s.gts := rfl
@[simp] theorem State.setSpage_cal {p : Nat} {x : SpoolPage} : (s.setSpage p x).cal = s.cal := rfl
@[simp] theorem State.setSpage_pins {p : Nat} {x : SpoolPage} : (s.setSpage p x).pins = s.pins := rfl
@[simp] theorem State.setSpage_regs {p : Nat} {x : SpoolPage} : (s.setSpage p x).regs = s.regs := rfl
@[simp] theorem State.setSpage_wosDone {p : Nat} {x : SpoolPage} : (s.setSpage p x).wosDone = s.wosDone := rfl
@[simp] theorem State.setSpage_lockWins {p : Nat} {x : SpoolPage} : (s.setSpage p x).lockWins = s.lockWins := rfl
@[simp] theorem State.setSpage_accWin {p : Nat} {x : SpoolPage} : (s.setSpage p x).accWin = s.accWin := rfl
@[simp] theorem State.setSpage_remotes {p : Nat} {x : SpoolPage} : (s.setSpage p x).remotes = s.remotes := rfl
@[simp] theorem State.setSpage_eng {p : Nat} {x : SpoolPage} : (s.setSpage p x).eng = s.eng := rfl
@[simp] theorem State.setSpage_locket {p : Nat} {x : SpoolPage} : (s.setSpage p x).locket = s.locket := rfl
@[simp] theorem State.setSpage_power {p : Nat} {x : SpoolPage} : (s.setSpage p x).power = s.power := rfl
@[simp] theorem State.setSpage_boot {p : Nat} {x : SpoolPage} : (s.setSpage p x).boot = s.boot := rfl
@[simp] theorem State.setSpage_bd {p : Nat} {x : SpoolPage} : (s.setSpage p x).bd = s.bd := rfl
@[simp] theorem State.setSpage_hq {p : Nat} {x : SpoolPage} : (s.setSpage p x).hq = s.hq := rfl
@[simp] theorem State.setSpage_pair {p : Nat} {x : SpoolPage} : (s.setSpage p x).pair = s.pair := rfl
@[simp] theorem State.setSpage_clasp {p : Nat} {x : SpoolPage} : (s.setSpage p x).clasp = s.clasp := rfl
@[simp] theorem State.setSpage_cipher {p : Nat} {x : SpoolPage} : (s.setSpage p x).cipher = s.cipher := rfl
@[simp] theorem State.setSpage_hall {p : Nat} {x : SpoolPage} : (s.setSpage p x).hall = s.hall := rfl
@[simp] theorem State.setSpage_pleat {p : Nat} {x : SpoolPage} : (s.setSpage p x).pleat = s.pleat := rfl
@[simp] theorem State.setSpage_stitch {p : Nat} {x : SpoolPage} : (s.setSpage p x).stitch = s.stitch := rfl
@[simp] theorem State.setSpage_urt {p : Nat} {x : SpoolPage} : (s.setSpage p x).urt = s.urt := rfl
@[simp] theorem State.setSpage_dedup {p : Nat} {x : SpoolPage} : (s.setSpage p x).dedup = s.dedup := rfl
@[simp] theorem State.setSpage_map {p : Nat} {x : SpoolPage} : (s.setSpage p x).map = s.map := rfl
@[simp] theorem State.setSpage_pat {p : Nat} {x : SpoolPage} : (s.setSpage p x).pat = s.pat := rfl
@[simp] theorem State.setSpage_quilt {p : Nat} {x : SpoolPage} : (s.setSpage p x).quilt = s.quilt := rfl
@[simp] theorem State.setSpage_repl {p : Nat} {x : SpoolPage} : (s.setSpage p x).repl = s.repl := rfl
@[simp] theorem State.setSpage_out {p : Nat} {x : SpoolPage} : (s.setSpage p x).out = s.out := rfl
@[simp] theorem State.setSpage_fresh {p : Nat} {x : SpoolPage} : (s.setSpage p x).fresh = s.fresh := rfl
@[simp] theorem State.setSpage_rd {p : Nat} {x : SpoolPage} {p' off' i' : Nat} : (s.setSpage p x).rd p' off' i' = s.rd p' off' i' := rfl
@[simp] theorem State.setSpage_dom {p : Nat} {x : SpoolPage} {d' : Nat} : (s.setSpage p x).dom d' = s.dom d' := rfl

/-! ### `State.setLine` -/

@[simp] theorem State.setLine_pending {a : Nat} {m : LineMeta} : (s.setLine a m).pending = s.pending := rfl
@[simp] theorem State.setLine_gts {a : Nat} {m : LineMeta} : (s.setLine a m).gts = s.gts := rfl
@[simp] theorem State.setLine_cal {a : Nat} {m : LineMeta} : (s.setLine a m).cal = s.cal := rfl
@[simp] theorem State.setLine_pins {a : Nat} {m : LineMeta} : (s.setLine a m).pins = s.pins := rfl
@[simp] theorem State.setLine_regs {a : Nat} {m : LineMeta} : (s.setLine a m).regs = s.regs := rfl
@[simp] theorem State.setLine_wosDone {a : Nat} {m : LineMeta} : (s.setLine a m).wosDone = s.wosDone := rfl
@[simp] theorem State.setLine_lockWins {a : Nat} {m : LineMeta} : (s.setLine a m).lockWins = s.lockWins := rfl
@[simp] theorem State.setLine_accWin {a : Nat} {m : LineMeta} : (s.setLine a m).accWin = s.accWin := rfl
@[simp] theorem State.setLine_remotes {a : Nat} {m : LineMeta} : (s.setLine a m).remotes = s.remotes := rfl
@[simp] theorem State.setLine_eng {a : Nat} {m : LineMeta} : (s.setLine a m).eng = s.eng := rfl
@[simp] theorem State.setLine_locket {a : Nat} {m : LineMeta} : (s.setLine a m).locket = s.locket := rfl
@[simp] theorem State.setLine_power {a : Nat} {m : LineMeta} : (s.setLine a m).power = s.power := rfl
@[simp] theorem State.setLine_boot {a : Nat} {m : LineMeta} : (s.setLine a m).boot = s.boot := rfl
@[simp] theorem State.setLine_bd {a : Nat} {m : LineMeta} : (s.setLine a m).bd = s.bd := rfl
@[simp] theorem State.setLine_hq {a : Nat} {m : LineMeta} : (s.setLine a m).hq = s.hq := rfl
@[simp] theorem State.setLine_pair {a : Nat} {m : LineMeta} : (s.setLine a m).pair = s.pair := rfl
@[simp] theorem State.setLine_clasp {a : Nat} {m : LineMeta} : (s.setLine a m).clasp = s.clasp := rfl
@[simp] theorem State.setLine_cipher {a : Nat} {m : LineMeta} : (s.setLine a m).cipher = s.cipher := rfl
@[simp] theorem State.setLine_hall {a : Nat} {m : LineMeta} : (s.setLine a m).hall = s.hall := rfl
@[simp] theorem State.setLine_pleat {a : Nat} {m : LineMeta} : (s.setLine a m).pleat = s.pleat := rfl
@[simp] theorem State.setLine_stitch {a : Nat} {m : LineMeta} : (s.setLine a m).stitch = s.stitch := rfl
@[simp] theorem State.setLine_urt {a : Nat} {m : LineMeta} : (s.setLine a m).urt = s.urt := rfl
@[simp] theorem State.setLine_dedup {a : Nat} {m : LineMeta} : (s.setLine a m).dedup = s.dedup := rfl
@[simp] theorem State.setLine_map {a : Nat} {m : LineMeta} : (s.setLine a m).map = s.map := rfl
@[simp] theorem State.setLine_pat {a : Nat} {m : LineMeta} : (s.setLine a m).pat = s.pat := rfl
@[simp] theorem State.setLine_quilt {a : Nat} {m : LineMeta} : (s.setLine a m).quilt = s.quilt := rfl
@[simp] theorem State.setLine_repl {a : Nat} {m : LineMeta} : (s.setLine a m).repl = s.repl := rfl
@[simp] theorem State.setLine_out {a : Nat} {m : LineMeta} : (s.setLine a m).out = s.out := rfl
@[simp] theorem State.setLine_fresh {a : Nat} {m : LineMeta} : (s.setLine a m).fresh = s.fresh := rfl
@[simp] theorem State.setLine_rd {a : Nat} {m : LineMeta} {p' off' i' : Nat} : (s.setLine a m).rd p' off' i' = s.rd p' off' i' := rfl
@[simp] theorem State.setLine_dom {a : Nat} {m : LineMeta} {d' : Nat} : (s.setLine a m).dom d' = s.dom d' := rfl

/-! ### `State.poke` -/

@[simp] theorem State.poke_pending {a : Nat} {l : List Byte} : (s.poke a l).pending = s.pending := rfl
@[simp] theorem State.poke_gts {a : Nat} {l : List Byte} : (s.poke a l).gts = s.gts := rfl
@[simp] theorem State.poke_cal {a : Nat} {l : List Byte} : (s.poke a l).cal = s.cal := rfl
@[simp] theorem State.poke_pins {a : Nat} {l : List Byte} : (s.poke a l).pins = s.pins := rfl
@[simp] theorem State.poke_regs {a : Nat} {l : List Byte} : (s.poke a l).regs = s.regs := rfl
@[simp] theorem State.poke_wosDone {a : Nat} {l : List Byte} : (s.poke a l).wosDone = s.wosDone := rfl
@[simp] theorem State.poke_lockWins {a : Nat} {l : List Byte} : (s.poke a l).lockWins = s.lockWins := rfl
@[simp] theorem State.poke_accWin {a : Nat} {l : List Byte} : (s.poke a l).accWin = s.accWin := rfl
@[simp] theorem State.poke_remotes {a : Nat} {l : List Byte} : (s.poke a l).remotes = s.remotes := rfl
@[simp] theorem State.poke_eng {a : Nat} {l : List Byte} : (s.poke a l).eng = s.eng := rfl
@[simp] theorem State.poke_locket {a : Nat} {l : List Byte} : (s.poke a l).locket = s.locket := rfl
@[simp] theorem State.poke_power {a : Nat} {l : List Byte} : (s.poke a l).power = s.power := rfl
@[simp] theorem State.poke_boot {a : Nat} {l : List Byte} : (s.poke a l).boot = s.boot := rfl
@[simp] theorem State.poke_bd {a : Nat} {l : List Byte} : (s.poke a l).bd = s.bd := rfl
@[simp] theorem State.poke_hq {a : Nat} {l : List Byte} : (s.poke a l).hq = s.hq := rfl
@[simp] theorem State.poke_pair {a : Nat} {l : List Byte} : (s.poke a l).pair = s.pair := rfl
@[simp] theorem State.poke_clasp {a : Nat} {l : List Byte} : (s.poke a l).clasp = s.clasp := rfl
@[simp] theorem State.poke_cipher {a : Nat} {l : List Byte} : (s.poke a l).cipher = s.cipher := rfl
@[simp] theorem State.poke_hall {a : Nat} {l : List Byte} : (s.poke a l).hall = s.hall := rfl
@[simp] theorem State.poke_pleat {a : Nat} {l : List Byte} : (s.poke a l).pleat = s.pleat := rfl
@[simp] theorem State.poke_stitch {a : Nat} {l : List Byte} : (s.poke a l).stitch = s.stitch := rfl
@[simp] theorem State.poke_urt {a : Nat} {l : List Byte} : (s.poke a l).urt = s.urt := rfl
@[simp] theorem State.poke_dedup {a : Nat} {l : List Byte} : (s.poke a l).dedup = s.dedup := rfl
@[simp] theorem State.poke_map {a : Nat} {l : List Byte} : (s.poke a l).map = s.map := rfl
@[simp] theorem State.poke_pat {a : Nat} {l : List Byte} : (s.poke a l).pat = s.pat := rfl
@[simp] theorem State.poke_quilt {a : Nat} {l : List Byte} : (s.poke a l).quilt = s.quilt := rfl
@[simp] theorem State.poke_repl {a : Nat} {l : List Byte} : (s.poke a l).repl = s.repl := rfl
@[simp] theorem State.poke_out {a : Nat} {l : List Byte} : (s.poke a l).out = s.out := rfl
@[simp] theorem State.poke_fresh {a : Nat} {l : List Byte} : (s.poke a l).fresh = s.fresh := rfl
@[simp] theorem State.poke_rd {a : Nat} {l : List Byte} {p' off' i' : Nat} : (s.poke a l).rd p' off' i' = s.rd p' off' i' := rfl
@[simp] theorem State.poke_dom {a : Nat} {l : List Byte} {d' : Nat} : (s.poke a l).dom d' = s.dom d' := rfl

/-! ### `State.setLocket` -/

@[simp] theorem State.setLocket_pending {L : Locket} : (s.setLocket L).pending = s.pending := rfl
@[simp] theorem State.setLocket_gts {L : Locket} : (s.setLocket L).gts = s.gts := rfl
@[simp] theorem State.setLocket_cal {L : Locket} : (s.setLocket L).cal = s.cal := rfl
@[simp] theorem State.setLocket_pins {L : Locket} : (s.setLocket L).pins = s.pins := rfl
@[simp] theorem State.setLocket_regs {L : Locket} : (s.setLocket L).regs = s.regs := rfl
@[simp] theorem State.setLocket_wosDone {L : Locket} : (s.setLocket L).wosDone = s.wosDone := rfl
@[simp] theorem State.setLocket_lockWins {L : Locket} : (s.setLocket L).lockWins = s.lockWins := rfl
@[simp] theorem State.setLocket_accWin {L : Locket} : (s.setLocket L).accWin = s.accWin := rfl
@[simp] theorem State.setLocket_remotes {L : Locket} : (s.setLocket L).remotes = s.remotes := rfl
@[simp] theorem State.setLocket_mem {L : Locket} : (s.setLocket L).mem = s.mem := rfl
@[simp] theorem State.setLocket_eng {L : Locket} : (s.setLocket L).eng = s.eng := rfl
@[simp] theorem State.setLocket_power {L : Locket} : (s.setLocket L).power = s.power := rfl
@[simp] theorem State.setLocket_boot {L : Locket} : (s.setLocket L).boot = s.boot := rfl
@[simp] theorem State.setLocket_bd {L : Locket} : (s.setLocket L).bd = s.bd := rfl
@[simp] theorem State.setLocket_hq {L : Locket} : (s.setLocket L).hq = s.hq := rfl
@[simp] theorem State.setLocket_pair {L : Locket} : (s.setLocket L).pair = s.pair := rfl
@[simp] theorem State.setLocket_clasp {L : Locket} : (s.setLocket L).clasp = s.clasp := rfl
@[simp] theorem State.setLocket_cipher {L : Locket} : (s.setLocket L).cipher = s.cipher := rfl
@[simp] theorem State.setLocket_hall {L : Locket} : (s.setLocket L).hall = s.hall := rfl
@[simp] theorem State.setLocket_pleat {L : Locket} : (s.setLocket L).pleat = s.pleat := rfl
@[simp] theorem State.setLocket_stitch {L : Locket} : (s.setLocket L).stitch = s.stitch := rfl
@[simp] theorem State.setLocket_urt {L : Locket} : (s.setLocket L).urt = s.urt := rfl
@[simp] theorem State.setLocket_dedup {L : Locket} : (s.setLocket L).dedup = s.dedup := rfl
@[simp] theorem State.setLocket_map {L : Locket} : (s.setLocket L).map = s.map := rfl
@[simp] theorem State.setLocket_pat {L : Locket} : (s.setLocket L).pat = s.pat := rfl
@[simp] theorem State.setLocket_quilt {L : Locket} : (s.setLocket L).quilt = s.quilt := rfl
@[simp] theorem State.setLocket_repl {L : Locket} : (s.setLocket L).repl = s.repl := rfl
@[simp] theorem State.setLocket_out {L : Locket} : (s.setLocket L).out = s.out := rfl
@[simp] theorem State.setLocket_fresh {L : Locket} : (s.setLocket L).fresh = s.fresh := rfl
@[simp] theorem State.setLocket_rd {L : Locket} {p' off' i' : Nat} : (s.setLocket L).rd p' off' i' = s.rd p' off' i' := rfl
@[simp] theorem State.setLocket_dom {L : Locket} {d' : Nat} : (s.setLocket L).dom d' = s.dom d' := rfl

/-! ### `State.setBoot` -/

@[simp] theorem State.setBoot_pending {b : Boot} : (s.setBoot b).pending = s.pending := rfl
@[simp] theorem State.setBoot_gts {b : Boot} : (s.setBoot b).gts = s.gts := rfl
@[simp] theorem State.setBoot_cal {b : Boot} : (s.setBoot b).cal = s.cal := rfl
@[simp] theorem State.setBoot_pins {b : Boot} : (s.setBoot b).pins = s.pins := rfl
@[simp] theorem State.setBoot_regs {b : Boot} : (s.setBoot b).regs = s.regs := rfl
@[simp] theorem State.setBoot_wosDone {b : Boot} : (s.setBoot b).wosDone = s.wosDone := rfl
@[simp] theorem State.setBoot_lockWins {b : Boot} : (s.setBoot b).lockWins = s.lockWins := rfl
@[simp] theorem State.setBoot_accWin {b : Boot} : (s.setBoot b).accWin = s.accWin := rfl
@[simp] theorem State.setBoot_remotes {b : Boot} : (s.setBoot b).remotes = s.remotes := rfl
@[simp] theorem State.setBoot_mem {b : Boot} : (s.setBoot b).mem = s.mem := rfl
@[simp] theorem State.setBoot_eng {b : Boot} : (s.setBoot b).eng = s.eng := rfl
@[simp] theorem State.setBoot_locket {b : Boot} : (s.setBoot b).locket = s.locket := rfl
@[simp] theorem State.setBoot_power {b : Boot} : (s.setBoot b).power = s.power := rfl
@[simp] theorem State.setBoot_bd {b : Boot} : (s.setBoot b).bd = s.bd := rfl
@[simp] theorem State.setBoot_hq {b : Boot} : (s.setBoot b).hq = s.hq := rfl
@[simp] theorem State.setBoot_pair {b : Boot} : (s.setBoot b).pair = s.pair := rfl
@[simp] theorem State.setBoot_clasp {b : Boot} : (s.setBoot b).clasp = s.clasp := rfl
@[simp] theorem State.setBoot_cipher {b : Boot} : (s.setBoot b).cipher = s.cipher := rfl
@[simp] theorem State.setBoot_hall {b : Boot} : (s.setBoot b).hall = s.hall := rfl
@[simp] theorem State.setBoot_pleat {b : Boot} : (s.setBoot b).pleat = s.pleat := rfl
@[simp] theorem State.setBoot_stitch {b : Boot} : (s.setBoot b).stitch = s.stitch := rfl
@[simp] theorem State.setBoot_urt {b : Boot} : (s.setBoot b).urt = s.urt := rfl
@[simp] theorem State.setBoot_dedup {b : Boot} : (s.setBoot b).dedup = s.dedup := rfl
@[simp] theorem State.setBoot_map {b : Boot} : (s.setBoot b).map = s.map := rfl
@[simp] theorem State.setBoot_pat {b : Boot} : (s.setBoot b).pat = s.pat := rfl
@[simp] theorem State.setBoot_quilt {b : Boot} : (s.setBoot b).quilt = s.quilt := rfl
@[simp] theorem State.setBoot_repl {b : Boot} : (s.setBoot b).repl = s.repl := rfl
@[simp] theorem State.setBoot_out {b : Boot} : (s.setBoot b).out = s.out := rfl
@[simp] theorem State.setBoot_fresh {b : Boot} : (s.setBoot b).fresh = s.fresh := rfl
@[simp] theorem State.setBoot_rd {b : Boot} {p' off' i' : Nat} : (s.setBoot b).rd p' off' i' = s.rd p' off' i' := rfl
@[simp] theorem State.setBoot_dom {b : Boot} {d' : Nat} : (s.setBoot b).dom d' = s.dom d' := rfl

/-! ### `State.setMap` -/

@[simp] theorem State.setMap_pending {m : Mapper} : (s.setMap m).pending = s.pending := rfl
@[simp] theorem State.setMap_gts {m : Mapper} : (s.setMap m).gts = s.gts := rfl
@[simp] theorem State.setMap_cal {m : Mapper} : (s.setMap m).cal = s.cal := rfl
@[simp] theorem State.setMap_pins {m : Mapper} : (s.setMap m).pins = s.pins := rfl
@[simp] theorem State.setMap_regs {m : Mapper} : (s.setMap m).regs = s.regs := rfl
@[simp] theorem State.setMap_wosDone {m : Mapper} : (s.setMap m).wosDone = s.wosDone := rfl
@[simp] theorem State.setMap_lockWins {m : Mapper} : (s.setMap m).lockWins = s.lockWins := rfl
@[simp] theorem State.setMap_accWin {m : Mapper} : (s.setMap m).accWin = s.accWin := rfl
@[simp] theorem State.setMap_remotes {m : Mapper} : (s.setMap m).remotes = s.remotes := rfl
@[simp] theorem State.setMap_mem {m : Mapper} : (s.setMap m).mem = s.mem := rfl
@[simp] theorem State.setMap_eng {m : Mapper} : (s.setMap m).eng = s.eng := rfl
@[simp] theorem State.setMap_locket {m : Mapper} : (s.setMap m).locket = s.locket := rfl
@[simp] theorem State.setMap_power {m : Mapper} : (s.setMap m).power = s.power := rfl
@[simp] theorem State.setMap_boot {m : Mapper} : (s.setMap m).boot = s.boot := rfl
@[simp] theorem State.setMap_bd {m : Mapper} : (s.setMap m).bd = s.bd := rfl
@[simp] theorem State.setMap_hq {m : Mapper} : (s.setMap m).hq = s.hq := rfl
@[simp] theorem State.setMap_pair {m : Mapper} : (s.setMap m).pair = s.pair := rfl
@[simp] theorem State.setMap_clasp {m : Mapper} : (s.setMap m).clasp = s.clasp := rfl
@[simp] theorem State.setMap_cipher {m : Mapper} : (s.setMap m).cipher = s.cipher := rfl
@[simp] theorem State.setMap_hall {m : Mapper} : (s.setMap m).hall = s.hall := rfl
@[simp] theorem State.setMap_pleat {m : Mapper} : (s.setMap m).pleat = s.pleat := rfl
@[simp] theorem State.setMap_stitch {m : Mapper} : (s.setMap m).stitch = s.stitch := rfl
@[simp] theorem State.setMap_urt {m : Mapper} : (s.setMap m).urt = s.urt := rfl
@[simp] theorem State.setMap_dedup {m : Mapper} : (s.setMap m).dedup = s.dedup := rfl
@[simp] theorem State.setMap_pat {m : Mapper} : (s.setMap m).pat = s.pat := rfl
@[simp] theorem State.setMap_quilt {m : Mapper} : (s.setMap m).quilt = s.quilt := rfl
@[simp] theorem State.setMap_repl {m : Mapper} : (s.setMap m).repl = s.repl := rfl
@[simp] theorem State.setMap_out {m : Mapper} : (s.setMap m).out = s.out := rfl
@[simp] theorem State.setMap_fresh {m : Mapper} : (s.setMap m).fresh = s.fresh := rfl
@[simp] theorem State.setMap_rd {m : Mapper} {p' off' i' : Nat} : (s.setMap m).rd p' off' i' = s.rd p' off' i' := rfl
@[simp] theorem State.setMap_dom {m : Mapper} {d' : Nat} : (s.setMap m).dom d' = s.dom d' := rfl

/-! ### `State.setPair` -/

@[simp] theorem State.setPair_pending {x : Pair} : (s.setPair x).pending = s.pending := rfl
@[simp] theorem State.setPair_gts {x : Pair} : (s.setPair x).gts = s.gts := rfl
@[simp] theorem State.setPair_cal {x : Pair} : (s.setPair x).cal = s.cal := rfl
@[simp] theorem State.setPair_pins {x : Pair} : (s.setPair x).pins = s.pins := rfl
@[simp] theorem State.setPair_regs {x : Pair} : (s.setPair x).regs = s.regs := rfl
@[simp] theorem State.setPair_wosDone {x : Pair} : (s.setPair x).wosDone = s.wosDone := rfl
@[simp] theorem State.setPair_lockWins {x : Pair} : (s.setPair x).lockWins = s.lockWins := rfl
@[simp] theorem State.setPair_accWin {x : Pair} : (s.setPair x).accWin = s.accWin := rfl
@[simp] theorem State.setPair_remotes {x : Pair} : (s.setPair x).remotes = s.remotes := rfl
@[simp] theorem State.setPair_mem {x : Pair} : (s.setPair x).mem = s.mem := rfl
@[simp] theorem State.setPair_eng {x : Pair} : (s.setPair x).eng = s.eng := rfl
@[simp] theorem State.setPair_locket {x : Pair} : (s.setPair x).locket = s.locket := rfl
@[simp] theorem State.setPair_power {x : Pair} : (s.setPair x).power = s.power := rfl
@[simp] theorem State.setPair_boot {x : Pair} : (s.setPair x).boot = s.boot := rfl
@[simp] theorem State.setPair_bd {x : Pair} : (s.setPair x).bd = s.bd := rfl
@[simp] theorem State.setPair_hq {x : Pair} : (s.setPair x).hq = s.hq := rfl
@[simp] theorem State.setPair_clasp {x : Pair} : (s.setPair x).clasp = s.clasp := rfl
@[simp] theorem State.setPair_cipher {x : Pair} : (s.setPair x).cipher = s.cipher := rfl
@[simp] theorem State.setPair_hall {x : Pair} : (s.setPair x).hall = s.hall := rfl
@[simp] theorem State.setPair_pleat {x : Pair} : (s.setPair x).pleat = s.pleat := rfl
@[simp] theorem State.setPair_stitch {x : Pair} : (s.setPair x).stitch = s.stitch := rfl
@[simp] theorem State.setPair_urt {x : Pair} : (s.setPair x).urt = s.urt := rfl
@[simp] theorem State.setPair_dedup {x : Pair} : (s.setPair x).dedup = s.dedup := rfl
@[simp] theorem State.setPair_map {x : Pair} : (s.setPair x).map = s.map := rfl
@[simp] theorem State.setPair_pat {x : Pair} : (s.setPair x).pat = s.pat := rfl
@[simp] theorem State.setPair_quilt {x : Pair} : (s.setPair x).quilt = s.quilt := rfl
@[simp] theorem State.setPair_repl {x : Pair} : (s.setPair x).repl = s.repl := rfl
@[simp] theorem State.setPair_out {x : Pair} : (s.setPair x).out = s.out := rfl
@[simp] theorem State.setPair_fresh {x : Pair} : (s.setPair x).fresh = s.fresh := rfl
@[simp] theorem State.setPair_rd {x : Pair} {p' off' i' : Nat} : (s.setPair x).rd p' off' i' = s.rd p' off' i' := rfl
@[simp] theorem State.setPair_dom {x : Pair} {d' : Nat} : (s.setPair x).dom d' = s.dom d' := rfl

/-! ### `State.setHq` -/

@[simp] theorem State.setHq_pending {h : Hostq} : (s.setHq h).pending = s.pending := rfl
@[simp] theorem State.setHq_gts {h : Hostq} : (s.setHq h).gts = s.gts := rfl
@[simp] theorem State.setHq_cal {h : Hostq} : (s.setHq h).cal = s.cal := rfl
@[simp] theorem State.setHq_pins {h : Hostq} : (s.setHq h).pins = s.pins := rfl
@[simp] theorem State.setHq_regs {h : Hostq} : (s.setHq h).regs = s.regs := rfl
@[simp] theorem State.setHq_wosDone {h : Hostq} : (s.setHq h).wosDone = s.wosDone := rfl
@[simp] theorem State.setHq_lockWins {h : Hostq} : (s.setHq h).lockWins = s.lockWins := rfl
@[simp] theorem State.setHq_accWin {h : Hostq} : (s.setHq h).accWin = s.accWin := rfl
@[simp] theorem State.setHq_remotes {h : Hostq} : (s.setHq h).remotes = s.remotes := rfl
@[simp] theorem State.setHq_mem {h : Hostq} : (s.setHq h).mem = s.mem := rfl
@[simp] theorem State.setHq_eng {h : Hostq} : (s.setHq h).eng = s.eng := rfl
@[simp] theorem State.setHq_locket {h : Hostq} : (s.setHq h).locket = s.locket := rfl
@[simp] theorem State.setHq_power {h : Hostq} : (s.setHq h).power = s.power := rfl
@[simp] theorem State.setHq_boot {h : Hostq} : (s.setHq h).boot = s.boot := rfl
@[simp] theorem State.setHq_bd {h : Hostq} : (s.setHq h).bd = s.bd := rfl
@[simp] theorem State.setHq_pair {h : Hostq} : (s.setHq h).pair = s.pair := rfl
@[simp] theorem State.setHq_clasp {h : Hostq} : (s.setHq h).clasp = s.clasp := rfl
@[simp] theorem State.setHq_cipher {h : Hostq} : (s.setHq h).cipher = s.cipher := rfl
@[simp] theorem State.setHq_hall {h : Hostq} : (s.setHq h).hall = s.hall := rfl
@[simp] theorem State.setHq_pleat {h : Hostq} : (s.setHq h).pleat = s.pleat := rfl
@[simp] theorem State.setHq_stitch {h : Hostq} : (s.setHq h).stitch = s.stitch := rfl
@[simp] theorem State.setHq_urt {h : Hostq} : (s.setHq h).urt = s.urt := rfl
@[simp] theorem State.setHq_dedup {h : Hostq} : (s.setHq h).dedup = s.dedup := rfl
@[simp] theorem State.setHq_map {h : Hostq} : (s.setHq h).map = s.map := rfl
@[simp] theorem State.setHq_pat {h : Hostq} : (s.setHq h).pat = s.pat := rfl
@[simp] theorem State.setHq_quilt {h : Hostq} : (s.setHq h).quilt = s.quilt := rfl
@[simp] theorem State.setHq_repl {h : Hostq} : (s.setHq h).repl = s.repl := rfl
@[simp] theorem State.setHq_out {h : Hostq} : (s.setHq h).out = s.out := rfl
@[simp] theorem State.setHq_fresh {h : Hostq} : (s.setHq h).fresh = s.fresh := rfl
@[simp] theorem State.setHq_rd {h : Hostq} {p' off' i' : Nat} : (s.setHq h).rd p' off' i' = s.rd p' off' i' := rfl
@[simp] theorem State.setHq_dom {h : Hostq} {d' : Nat} : (s.setHq h).dom d' = s.dom d' := rfl

/-! ### `State.setQuilt` -/

@[simp] theorem State.setQuilt_pending {q : Quilt} : (s.setQuilt q).pending = s.pending := rfl
@[simp] theorem State.setQuilt_gts {q : Quilt} : (s.setQuilt q).gts = s.gts := rfl
@[simp] theorem State.setQuilt_cal {q : Quilt} : (s.setQuilt q).cal = s.cal := rfl
@[simp] theorem State.setQuilt_pins {q : Quilt} : (s.setQuilt q).pins = s.pins := rfl
@[simp] theorem State.setQuilt_regs {q : Quilt} : (s.setQuilt q).regs = s.regs := rfl
@[simp] theorem State.setQuilt_wosDone {q : Quilt} : (s.setQuilt q).wosDone = s.wosDone := rfl
@[simp] theorem State.setQuilt_lockWins {q : Quilt} : (s.setQuilt q).lockWins = s.lockWins := rfl
@[simp] theorem State.setQuilt_accWin {q : Quilt} : (s.setQuilt q).accWin = s.accWin := rfl
@[simp] theorem State.setQuilt_remotes {q : Quilt} : (s.setQuilt q).remotes = s.remotes := rfl
@[simp] theorem State.setQuilt_mem {q : Quilt} : (s.setQuilt q).mem = s.mem := rfl
@[simp] theorem State.setQuilt_eng {q : Quilt} : (s.setQuilt q).eng = s.eng := rfl
@[simp] theorem State.setQuilt_locket {q : Quilt} : (s.setQuilt q).locket = s.locket := rfl
@[simp] theorem State.setQuilt_power {q : Quilt} : (s.setQuilt q).power = s.power := rfl
@[simp] theorem State.setQuilt_boot {q : Quilt} : (s.setQuilt q).boot = s.boot := rfl
@[simp] theorem State.setQuilt_bd {q : Quilt} : (s.setQuilt q).bd = s.bd := rfl
@[simp] theorem State.setQuilt_hq {q : Quilt} : (s.setQuilt q).hq = s.hq := rfl
@[simp] theorem State.setQuilt_pair {q : Quilt} : (s.setQuilt q).pair = s.pair := rfl
@[simp] theorem State.setQuilt_clasp {q : Quilt} : (s.setQuilt q).clasp = s.clasp := rfl
@[simp] theorem State.setQuilt_cipher {q : Quilt} : (s.setQuilt q).cipher = s.cipher := rfl
@[simp] theorem State.setQuilt_hall {q : Quilt} : (s.setQuilt q).hall = s.hall := rfl
@[simp] theorem State.setQuilt_pleat {q : Quilt} : (s.setQuilt q).pleat = s.pleat := rfl
@[simp] theorem State.setQuilt_stitch {q : Quilt} : (s.setQuilt q).stitch = s.stitch := rfl
@[simp] theorem State.setQuilt_urt {q : Quilt} : (s.setQuilt q).urt = s.urt := rfl
@[simp] theorem State.setQuilt_dedup {q : Quilt} : (s.setQuilt q).dedup = s.dedup := rfl
@[simp] theorem State.setQuilt_map {q : Quilt} : (s.setQuilt q).map = s.map := rfl
@[simp] theorem State.setQuilt_pat {q : Quilt} : (s.setQuilt q).pat = s.pat := rfl
@[simp] theorem State.setQuilt_repl {q : Quilt} : (s.setQuilt q).repl = s.repl := rfl
@[simp] theorem State.setQuilt_out {q : Quilt} : (s.setQuilt q).out = s.out := rfl
@[simp] theorem State.setQuilt_fresh {q : Quilt} : (s.setQuilt q).fresh = s.fresh := rfl
@[simp] theorem State.setQuilt_rd {q : Quilt} {p' off' i' : Nat} : (s.setQuilt q).rd p' off' i' = s.rd p' off' i' := rfl
@[simp] theorem State.setQuilt_dom {q : Quilt} {d' : Nat} : (s.setQuilt q).dom d' = s.dom d' := rfl

/-! ### `State.setDedup` -/

@[simp] theorem State.setDedup_pending {d : Dedup} : (s.setDedup d).pending = s.pending := rfl
@[simp] theorem State.setDedup_gts {d : Dedup} : (s.setDedup d).gts = s.gts := rfl
@[simp] theorem State.setDedup_cal {d : Dedup} : (s.setDedup d).cal = s.cal := rfl
@[simp] theorem State.setDedup_pins {d : Dedup} : (s.setDedup d).pins = s.pins := rfl
@[simp] theorem State.setDedup_regs {d : Dedup} : (s.setDedup d).regs = s.regs := rfl
@[simp] theorem State.setDedup_wosDone {d : Dedup} : (s.setDedup d).wosDone = s.wosDone := rfl
@[simp] theorem State.setDedup_lockWins {d : Dedup} : (s.setDedup d).lockWins = s.lockWins := rfl
@[simp] theorem State.setDedup_accWin {d : Dedup} : (s.setDedup d).accWin = s.accWin := rfl
@[simp] theorem State.setDedup_remotes {d : Dedup} : (s.setDedup d).remotes = s.remotes := rfl
@[simp] theorem State.setDedup_mem {d : Dedup} : (s.setDedup d).mem = s.mem := rfl
@[simp] theorem State.setDedup_eng {d : Dedup} : (s.setDedup d).eng = s.eng := rfl
@[simp] theorem State.setDedup_locket {d : Dedup} : (s.setDedup d).locket = s.locket := rfl
@[simp] theorem State.setDedup_power {d : Dedup} : (s.setDedup d).power = s.power := rfl
@[simp] theorem State.setDedup_boot {d : Dedup} : (s.setDedup d).boot = s.boot := rfl
@[simp] theorem State.setDedup_bd {d : Dedup} : (s.setDedup d).bd = s.bd := rfl
@[simp] theorem State.setDedup_hq {d : Dedup} : (s.setDedup d).hq = s.hq := rfl
@[simp] theorem State.setDedup_pair {d : Dedup} : (s.setDedup d).pair = s.pair := rfl
@[simp] theorem State.setDedup_clasp {d : Dedup} : (s.setDedup d).clasp = s.clasp := rfl
@[simp] theorem State.setDedup_cipher {d : Dedup} : (s.setDedup d).cipher = s.cipher := rfl
@[simp] theorem State.setDedup_hall {d : Dedup} : (s.setDedup d).hall = s.hall := rfl
@[simp] theorem State.setDedup_pleat {d : Dedup} : (s.setDedup d).pleat = s.pleat := rfl
@[simp] theorem State.setDedup_stitch {d : Dedup} : (s.setDedup d).stitch = s.stitch := rfl
@[simp] theorem State.setDedup_urt {d : Dedup} : (s.setDedup d).urt = s.urt := rfl
@[simp] theorem State.setDedup_map {d : Dedup} : (s.setDedup d).map = s.map := rfl
@[simp] theorem State.setDedup_pat {d : Dedup} : (s.setDedup d).pat = s.pat := rfl
@[simp] theorem State.setDedup_quilt {d : Dedup} : (s.setDedup d).quilt = s.quilt := rfl
@[simp] theorem State.setDedup_repl {d : Dedup} : (s.setDedup d).repl = s.repl := rfl
@[simp] theorem State.setDedup_out {d : Dedup} : (s.setDedup d).out = s.out := rfl
@[simp] theorem State.setDedup_fresh {d : Dedup} : (s.setDedup d).fresh = s.fresh := rfl
@[simp] theorem State.setDedup_rd {d : Dedup} {p' off' i' : Nat} : (s.setDedup d).rd p' off' i' = s.rd p' off' i' := rfl
@[simp] theorem State.setDedup_dom {d : Dedup} {d' : Nat} : (s.setDedup d).dom d' = s.dom d' := rfl

/-! ### Registers -/

@[simp] theorem State.rd_wr (s : State) (p off i : Nat) (v : Word) : (s.wr p off i v).rd p off i = v := by
  unfold State.rd State.wr
  exact mgetD_mputD_self _ _ _ _

theorem State.rd_wr_ne (s : State) {p off i q o j : Nat} (v : Word) (h : rkey q o j ≠ rkey p off i) :
    (s.wr p off i v).rd q o j = s.rd q o j := by
  unfold State.rd State.wr
  exact mgetD_mputD_ne _ _ _ _ h

@[simp] theorem State.wr_dom {p off i : Nat} {v : Word} {d : Nat} : (s.wr p off i v).dom d = s.dom d := rfl
@[simp] theorem State.wr_bead {p off i : Nat} {v : Word} {n : Nat} : (s.wr p off i v).bead n = s.bead n := rfl
@[simp] theorem State.wr_strand {p off i : Nat} {v : Word} {n : Nat} : (s.wr p off i v).strand n = s.strand n := rfl
@[simp] theorem State.wr_peek {p off i : Nat} {v : Word} {a n : Nat} : (s.wr p off i v).peek a n = s.peek a n := rfl
@[simp] theorem State.wr_pageReady {p off i : Nat} {v : Word} {q : Nat} : (s.wr p off i v).pageReady q = s.pageReady q := rfl

/-- Registers of different pages have different keys. -/
theorem rkey_page {p q off o i j : Nat} (ho : off < 0x10000) (ho' : o < 0x10000) (hi : i < 0x10000) (hj : j < 0x10000) (h : q ≠ p) :
    rkey q o j ≠ rkey p off i := by
  unfold rkey
  omega

/-- Registers of one page at different offsets have different keys. -/
theorem rkey_off {p off o i j : Nat} (hi : i < 0x10000) (hj : j < 0x10000) (h : o ≠ off) : rkey p o j ≠ rkey p off i := by
  unfold rkey
  omega

/-- Copies of one register have different keys. -/
theorem rkey_copy {p off i j : Nat} (h : j ≠ i) : rkey p off j ≠ rkey p off i := by
  unfold rkey
  omega

@[simp] theorem State.rdN_wrN (s : State) (p off i n : Nat) : (s.wrN p off i n).rdN p off i = n % 2 ^ 32 := by
  simp [State.rdN, State.wrN, BitVec.toNat_ofNat]

theorem State.rf_wf (s : State) (p off hi lo v i : Nat) (h : lo ≤ hi) (hh : hi < 32) :
    (s.wf p off hi lo v i).rf p off hi lo i = v % 2 ^ (hi + 1 - lo) := by
  simp [State.rf, State.wf, fld_putFld _ _ _ _ h hh]

@[simp] theorem State.rb_wb (s : State) (p off b : Nat) (v : Bool) (i : Nat) (h : b < 32) : (s.wb p off b v i).rb p off b i = v := by
  simp [State.rb, State.wb, h]

/-! ### Domains, beads, strands, Spool pages, side bands -/

@[simp] theorem State.dom_setDom (s : State) (d : Nat) (x : Domain) : (s.setDom d x).dom d = x := by
  simp [State.dom, State.setDom]

theorem State.dom_setDom_ne (s : State) {d e : Nat} (x : Domain) (h : e ≠ d) : (s.setDom d x).dom e = s.dom e := by
  simp [State.dom, State.setDom, mgetD_mputD_ne _ _ _ _ h]

@[simp] theorem State.bead_setBead (s : State) (n : Nat) (b : Bead) : (s.setBead n b).bead n = b := by
  simp [State.bead, State.setBead]

theorem State.bead_setBead_ne (s : State) {n m : Nat} (b : Bead) (h : m ≠ n) : (s.setBead n b).bead m = s.bead m := by
  simp [State.bead, State.setBead, mgetD_mputD_ne _ _ _ _ h]

@[simp] theorem State.strand_setBead (s : State) (n m : Nat) (b : Bead) : (s.setBead n b).strand m = s.strand m := rfl
@[simp] theorem State.bead_setStrand (s : State) (n m : Nat) (x : Strand) : (s.setStrand n x).bead m = s.bead m := rfl

@[simp] theorem State.strand_setStrand (s : State) (n : Nat) (x : Strand) : (s.setStrand n x).strand n = x := by
  simp [State.strand, State.setStrand]

theorem State.strand_setStrand_ne (s : State) {n m : Nat} (x : Strand) (h : m ≠ n) : (s.setStrand n x).strand m = s.strand m := by
  simp [State.strand, State.setStrand, mgetD_mputD_ne _ _ _ _ h]

@[simp] theorem State.spage_setSpage (s : State) (p : Nat) (x : SpoolPage) : (s.setSpage p x).spage p = x := by
  simp [State.spage, State.setSpage]

theorem State.spage_setSpage_ne (s : State) {p q : Nat} (x : SpoolPage) (h : q ≠ p) : (s.setSpage p x).spage q = s.spage q := by
  simp [State.spage, State.setSpage, mgetD_mputD_ne _ _ _ _ h]

@[simp] theorem State.line_setLine (s : State) (a : Nat) (m : LineMeta) : (s.setLine a m).line a = m := by
  simp [State.line, State.setLine, mget_mput_self]

/-! ### Registers and fields of a bead -/

@[simp] theorem Bead.setReg_pc (b : Bead) (r : Nat) (v : PW) : (b.setReg r v).pc = b.pc := by unfold Bead.setReg; split <;> rfl

theorem Bead.reg_setReg (b : Bead) (r : Nat) (v : PW) : (b.setReg r v).reg r = if r = 0 then {} else v := by
  unfold Bead.reg Bead.setReg
  split <;> simp

theorem Bead.reg_setReg_ne (b : Bead) {r q : Nat} (v : PW) (h : q ≠ r) : (b.setReg r v).reg q = b.reg q := by
  unfold Bead.reg Bead.setReg
  split
  · rfl
  · split <;> simp [mgetD_mputD_ne _ _ _ _ h]

/-- Writing a word register changes nothing else of a bead. -/
theorem Bead.setReg_else (b : Bead) (r : Nat) (v : PW) : b.setReg r v = { b with w := (b.setReg r v).w } := by
  unfold Bead.setReg; split <;> rfl

/-! ### Memory -/

theorem State.peek_one (s : State) (a : Nat) : s.peek a 1 = [mgetD 0 s.mem.cells a] := by simp [State.peek]

/-- Bytes that a store leaves out read as before. -/
theorem State.peek_poke_out (s : State) (addr a : Nat) (l : List Byte) (h : a < addr ∨ addr + l.length ≤ a) :
    (s.poke addr l).peek a 1 = s.peek a 1 := by
  simp only [State.peek_one, State.poke]
  have key : ∀ (bs : List (Byte × Nat)) (c : SMap Byte), (∀ b ∈ bs, b.2 < l.length) →
      mgetD 0 (bs.foldl (fun m b => mputD 0 m (addr + b.2) b.1) c) a = mgetD 0 c a := by
    intro bs
    induction bs with
    | nil => intro c _; rfl
    | cons b t ih =>
      intro c hb
      have := hb b (.head _)
      rw [List.foldl_cons, ih _ fun x hx => hb x (.tail _ hx), mgetD_mputD_ne _ _ _ _ (by omega)]
  rw [key _ _ fun b hb => List.mem_range.1 (List.of_mem_zip hb).2]

end Sys2Proof.Machine
end

