-- ==== Sys2Proof/Machine/KeptOps.lean ====
section
/-! DEFINITION. What every command keeps, kept by the shared operations: registers, memory, jobs, maps, pairs, power, chains of beads. The file holds theorems alone, no
definition: it stands beside the functions it speaks of, so that who mends one mends its theorem with it. -/
namespace Sys2Proof.Machine

set_option Elab.async false
variable {F : List Part} {s0 s t : State}

/-! ### Ops -/

theorem State.wrN_kept {p off i n : Nat} (hF : [.regs] ⊆ F) (kp : Kept F s0 s) : Kept F s0 (State.wrN s p off i n) := by
  unfold State.wrN
  with_reducible repeat' first
    | assumption | exact Part.le hF | apply State.wr_kept

theorem State.wf_kept {p off hi lo v i : Nat} (hF : [.regs] ⊆ F) (kp : Kept F s0 s) : Kept F s0 (State.wf s p off hi lo v i) :=
    by
  unfold State.wf
  with_reducible repeat' first
    | assumption | exact Part.le hF | apply State.wr_kept

theorem State.wb_kept {p off b : Nat} {v : Bool} {i : Nat} (hF : [.regs] ⊆ F) (kp : Kept F s0 s) : Kept F s0 (State.wb s p off b
    v i) := by
  unfold State.wb
  with_reducible repeat' first
    | assumption | exact Part.le hF | apply State.wr_kept

theorem State.wr64_kept {p off n i : Nat} (hF : [.regs] ⊆ F) (kp : Kept F s0 s) : Kept F s0 (State.wr64 s p off n i) := by
  unfold State.wr64
  with_reducible repeat' first
    | assumption | exact Part.le hF | apply State.wrN_kept

theorem State.count_kept {p off n i : Nat} (hF : [.regs] ⊆ F) (kp : Kept F s0 s) : Kept F s0 (State.count s p off n i) := by
  unfold State.count
  with_reducible repeat' first
    | assumption | exact Part.le hF | apply State.wrN_kept

theorem State.countSat_kept {p off n i : Nat} (hF : [.regs] ⊆ F) (kp : Kept F s0 s) : Kept F s0 (State.countSat s p off n i) :=
    by
  unfold State.countSat
  with_reducible repeat' first
    | assumption | exact Part.le hF | apply State.wrN_kept

theorem State.fieldSat_kept {p off hi lo n i : Nat} (hF : [.regs] ⊆ F) (kp : Kept F s0 s) : Kept F s0 (State.fieldSat s p off hi
    lo n i) := by
  unfold State.fieldSat
  with_reducible repeat' first
    | assumption | exact Part.le hF | apply State.wf_kept

theorem State.count64_kept {p off n : Nat} (hF : [.regs] ⊆ F) (kp : Kept F s0 s) : Kept F s0 (State.count64 s p off n) := by
  unfold State.count64
  with_reducible repeat' first
    | assumption | exact Part.le hF | apply State.wr64_kept

theorem State.emit_kept {o : Out} (hF : [.out] ⊆ F) (kp : Kept F s0 s) : Kept F s0 (State.emit s o) := by
  unfold State.emit
  with_reducible repeat' first
    | assumption | exact Part.le hF | simp only [Kept.lit_iff] | apply Kept.upd_out | rfl

theorem State.free_kept (hF : [.fresh] ⊆ F) (kp : Kept F s0 s) : Kept F s0 (State.free s).2 := by
  unfold State.free
  with_reducible repeat' first
    | assumption | exact Part.le hF | simp only [Kept.lit_iff] | apply Kept.upd_fresh | rfl

theorem State.freeBytes_kept {n : Nat} (hF : [.fresh] ⊆ F) (kp : Kept F s0 s) : Kept F s0 (s.freeBytes n).2 := by
  induction n generalizing s with
  | zero => exact kp
  | succ n ih => exact ih (State.free_kept (Part.le hF) kp)

theorem State.setDom_kept {d : Nat} {x : Domain} (hF : [.power] ⊆ F) (kp : Kept F s0 s) : Kept F s0 (State.setDom s d x) := by
  unfold State.setDom
  with_reducible repeat' first
    | assumption | exact Part.le hF | simp only [Kept.lit_iff] | apply Kept.upd_power | rfl

theorem State.snap_kept {p : Nat} (hF : [.regs] ⊆ F) (kp : Kept F s0 s) : Kept F s0 (State.snap s p) := by
  unfold State.snap
  with_reducible repeat' first
    | assumption | exact Part.le hF | apply State.wrN_kept

theorem State.irqMask_kept {p m : Nat} (hF : [.regs, .wake] ⊆ F) (kp : Kept F s0 s) : Kept F s0 (State.irqMask s p m) := by
  unfold State.irqMask
  with_reducible repeat' first
    | assumption | exact Part.le hF | apply State.snap_kept | apply State.wrN_kept | simp only [Kept.lit_iff]
    | apply Kept.upd_wake | apply Kept.ite | rfl

theorem State.irq_kept {p b : Nat} (hF : [.regs, .wake] ⊆ F) (kp : Kept F s0 s) : Kept F s0 (State.irq s p b) := by
  unfold State.irq
  with_reducible repeat' first
    | assumption | exact Part.le hF | apply State.irqMask_kept

theorem State.err_kept {p master : Nat} {write remote : Bool} {ty addr : Nat} (hF : [.regs] ⊆ F) (kp : Kept F s0 s) : Kept F s0
    (State.err s p master write remote ty addr) := by
  unfold State.err
  with_reducible repeat' first
    | assumption | exact Part.le hF | apply State.snap_kept | apply State.wrN_kept | apply Kept.ite

theorem State.ringCopy_kept {r : LkRec} (hF : [.cells, .lines] ⊆ F) (kp : Kept F s0 s) : Kept F s0 (State.ringCopy s r) := by
  unfold State.ringCopy
  with_reducible repeat' first
    | assumption | exact Part.le hF | apply State.poke_kept | simp only [Kept.lit_iff] | apply Kept.upd_lines | apply Kept.ite
    | rfl

theorem State.holdRec_kept {r : LkRec} (hF : [.regs, .cells, .lines, .locket, .wake] ⊆ F) (kp : Kept F s0 s) : Kept F s0
    (State.holdRec s r) := by
  unfold State.holdRec
  with_reducible repeat' first
    | assumption | exact Part.le hF | apply State.countSat_kept | apply State.irq_kept | apply State.ringCopy_kept
    | simp only [Kept.lit_iff] | apply Kept.upd_locket | split | rfl

theorem State.accept_kept {gts source code : Nat} {payload : List Byte} (hF : [.regs, .cells, .lines, .locket, .wake] ⊆ F) (kp :
    Kept F s0 s) : Kept F s0 (State.accept s gts source code payload) := by
  unfold State.accept
  with_reducible repeat' first
    | assumption | exact Part.le hF | apply State.holdRec_kept | simp only [Kept.lit_iff] | apply Kept.upd_locket
    | apply Kept.ite | rfl

theorem State.log_kept {p code : Nat} {fs : List Pf} (hF : [.regs, .cells, .lines, .locket, .wake] ⊆ F) (kp : Kept F s0 s) :
    Kept F s0 (State.log s p code fs) := by
  unfold State.log
  with_reducible repeat' first
    | assumption | exact Part.le hF | apply State.accept_kept

theorem State.logI_kept {p inst code : Nat} {fs : List Pf} (hF : [.regs, .cells, .lines, .locket, .wake] ⊆ F) (kp : Kept F s0 s)
    : Kept F s0 (State.logI s p inst code fs) := by
  unfold State.logI
  with_reducible repeat' first
    | assumption | exact Part.le hF | apply State.accept_kept

theorem State.reportRefusal_kept {p off master cause : Nat} (hF : [.regs, .lockWins, .cells, .lines, .locket, .wake] ⊆ F) (kp :
    Kept F s0 s) : Kept F s0 (State.reportRefusal s p off master cause) := by
  unfold State.reportRefusal
  with_reducible repeat' first
    | assumption | exact Part.le hF | apply State.log_kept | simp only [Kept.lit_iff] | apply Kept.upd_lockWins | split | rfl

theorem State.refuse_kept {p off master cause : Nat} {remote : Bool} (hF : [.regs, .lockWins, .cells, .lines, .locket, .wake] ⊆
    F) (kp : Kept F s0 s) : Kept F s0 (State.refuse s p off master cause remote) := by
  unfold State.refuse
  with_reducible repeat' first
    | assumption | exact Part.le hF | apply State.err_kept | apply State.reportRefusal_kept | apply State.wb_kept

theorem State.accessRefused_kept {addr master : Nat} {write : Bool} {cause : Nat} (hF : [.regs, .accWin, .cells, .lines,
    .locket, .wake] ⊆ F) (kp : Kept F s0 s) : Kept F s0 (State.accessRefused s addr master write cause) := by
  unfold State.accessRefused
  with_reducible repeat' first
    | assumption | exact Part.le hF | apply State.err_kept | apply State.log_kept | simp only [Kept.lit_iff]
    | apply Kept.upd_accWin | split | rfl

theorem State.notReady_kept {p off master : Nat} {write remote : Bool} (hF : [.regs] ⊆ F) (kp : Kept F s0 s) : Kept F s0
    (State.notReady s p off master write remote) := by
  unfold State.notReady
  with_reducible repeat' first
    | assumption | exact Part.le hF | apply State.err_kept | apply State.wb_kept

theorem State.tick_kept (hF : [.gts, .cal] ⊆ F) (kp : Kept F s0 s) : Kept F s0 (State.tick s) := by
  unfold State.tick
  with_reducible repeat' first
    | assumption | exact Part.le hF | simp only [Kept.lit_iff] | apply Kept.upd_time | rfl

/-! ### RegOps -/

theorem State.persistIrq_kept {p : Nat} (hF : [.regs, .wake] ⊆ F) (kp : Kept F s0 s) : Kept F s0 (State.persistIrq s p) := by
  unfold State.persistIrq
  with_reducible repeat' first
    | assumption | exact Part.le hF | apply State.irq_kept | apply Kept.ite

theorem State.headerWrite_kept {w : RegW} (hF : [.regs, .wake] ⊆ F) (kp : Kept F s0 s) : Kept F s0 (State.headerWrite s w) := by
  unfold State.headerWrite
  with_reducible repeat' first
    | assumption | exact Part.le hF | apply State.irqMask_kept | apply State.persistIrq_kept | apply State.snap_kept
    | apply State.wrN_kept | apply Kept.ite

theorem State.refuseAt_kept {w : RegW} {cause : Nat} (hF : [.regs, .lockWins, .cells, .lines, .locket, .wake] ⊆ F) (kp : Kept F
    s0 s) : Kept F s0 (State.refuseAt s w cause) := by
  unfold State.refuseAt
  with_reducible repeat' first
    | assumption | exact Part.le hF | apply State.irq_kept | apply State.log_kept | apply State.refuse_kept | apply Kept.ite

theorem State.ignoreW_kept {w : RegW} (hF : [.regs] ⊆ F) (kp : Kept F s0 s) : Kept F s0 (State.ignoreW s w) := by
  unfold State.ignoreW
  with_reducible repeat' first
    | assumption | exact Part.le hF | apply State.err_kept

theorem State.regWrite_kept {w : RegW} (hF : [.regs, .wos, .lockWins, .cells, .lines, .locket, .wake] ⊆ F) (kp : Kept F s0 s) :
    Kept F s0 (State.regWrite s w).1 := by
  unfold State.regWrite
  with_reducible repeat' first
    | assumption | exact Part.le hF | apply State.headerWrite_kept | apply State.ignoreW_kept | apply State.notReady_kept
    | apply State.refuseAt_kept | apply State.wrN_kept | simp only [Kept.lit_iff] | apply Kept.upd_wosDone
    | apply Kept.ite_fst | split | rfl

theorem State.regCmd_kept {w : RegW} {f : State → Nat → State} (hF : [.regs, .wos, .lockWins, .cells, .lines, .locket, .wake] ⊆
    F) (kp : Kept F s0 s) (hf : ∀ (x : State) (a1 : Nat), Kept F s0 x → Kept F s0 (f x a1)) : Kept F s0 (State.regCmd s w f) :=
    by
  unfold State.regCmd
  with_reducible repeat' first
    | assumption | exact Part.le hF | apply hf | apply State.regWrite_kept | split | refine Kept.of_pair ?_ ‹_ = (_, _)›

/-! ### MemOps -/

theorem State.setSpage_kept {p : Nat} {x : SpoolPage} (hF : [.store] ⊆ F) (kp : Kept F s0 s) : Kept F s0 (State.setSpage s p x)
    := by
  unfold State.setSpage
  with_reducible repeat' first
    | assumption | exact Part.le hF | simp only [Kept.lit_iff] | apply Kept.upd_store | rfl

theorem State.setLine_kept {a : Nat} {m : LineMeta} (hF : [.lines] ⊆ F) (kp : Kept F s0 s) : Kept F s0 (State.setLine s a m) :=
    by
  unfold State.setLine
  with_reducible repeat' first
    | assumption | exact Part.le hF | simp only [Kept.lit_iff] | apply Kept.upd_lines | rfl

theorem State.spoolRefused_kept {p : Nat} {w : Acc} {write : Bool} {addr : Nat} (hF : [.regs, .cells, .lines, .locket, .wake] ⊆
    F) (kp : Kept F s0 s) : Kept F s0 (State.spoolRefused s p w write addr) := by
  unfold State.spoolRefused
  with_reducible repeat' first
    | assumption | exact Part.le hF | apply State.err_kept | apply State.fieldSat_kept | apply State.irq_kept
    | apply State.log_kept

theorem State.noteUncorr_kept {a : Nat} (hF : [.store] ⊆ F) (kp : Kept F s0 s) : Kept F s0 (State.noteUncorr s a) := by
  unfold State.noteUncorr
  with_reducible repeat' first
    | assumption | exact Part.le hF | simp only [Kept.lit_iff] | apply Kept.upd_store | rfl

theorem State.poisonAddr_kept {a : Nat} (hF : [.regs] ⊆ F) (kp : Kept F s0 s) : Kept F s0 (State.poisonAddr s a) := by
  unfold State.poisonAddr
  with_reducible repeat' first
    | assumption | exact Part.le hF | apply State.wrN_kept

theorem State.readLine_kept {w : Acc} {a : Nat} {u : Upset} (hF : [.regs, .cells, .lines, .store, .locket, .wake] ⊆ F) (kp :
    Kept F s0 s) : Kept F s0 (State.readLine s w a u).st := by
  unfold State.readLine
  with_reducible repeat' first
    | assumption | exact Part.le hF | apply State.countSat_kept | apply State.noteUncorr_kept | apply State.poisonAddr_kept
    | apply State.setLine_kept | apply State.spoolRefused_kept | simp only [Kept.lit_iff] | split | rfl

theorem State.poisonedWrite_kept {w : Acc} {a cause : Nat} (hF : [.regs, .cells, .lines, .locket, .wake] ⊆ F) (kp : Kept F s0 s)
    : Kept F s0 (State.poisonedWrite s w a cause) := by
  unfold State.poisonedWrite
  with_reducible repeat' first
    | assumption | exact Part.le hF | apply State.countSat_kept | apply State.irq_kept | apply State.log_kept
    | apply State.setLine_kept | split

theorem State.markWritten_kept {a : Nat} (hF : [.store] ⊆ F) (kp : Kept F s0 s) : Kept F s0 (State.markWritten s a) := by
  unfold State.markWritten
  with_reducible repeat' first
    | assumption | exact Part.le hF | apply State.setSpage_kept | apply Kept.ite | split

theorem State.storeLine_kept {a : Nat} {data : List Byte} (hF : [.cells, .lines, .store] ⊆ F) (kp : Kept F s0 s) : Kept F s0
    (State.storeLine s a data) := by
  unfold State.storeLine
  with_reducible repeat' first
    | assumption | exact Part.le hF | apply State.markWritten_kept | apply State.poke_kept | apply State.setLine_kept | split

theorem State.writeLine_kept {w : Acc} {a o : Nat} {data : List Byte} {u : Upset} (hF : [.regs, .cells, .lines, .store, .locket,
    .wake] ⊆ F) (kp : Kept F s0 s) : Kept F s0 (State.writeLine s w a o data u).1 := by
  unfold State.writeLine
  with_reducible repeat' first
    | assumption | exact Part.le hF | apply State.countSat_kept | apply State.noteUncorr_kept | apply State.poisonedWrite_kept
    | apply State.spoolRefused_kept | apply State.storeLine_kept | simp only [Kept.lit_iff] | split | rfl

theorem State.readBytes_kept {w : Acc} {addr n : Nat} (hF : [.regs, .accWin, .cells, .lines, .store, .locket, .wake, .fresh] ⊆
    F) (kp : Kept F s0 s) : Kept F s0 (State.readBytes s w addr n).1 := by
  unfold State.readBytes
  with_reducible repeat' first
    | assumption | exact Part.le hF | intro y a (_ : Kept F s0 y.1) | apply State.accessRefused_kept | apply State.err_kept
    | apply State.freeBytes_kept | apply State.readLine_kept | apply Kept.foldl_fst | split

theorem State.writeBytes_kept {w : Acc} {addr : Nat} {data : List Byte} (hF : [.regs, .accWin, .cells, .lines, .store, .locket,
    .wake, .out] ⊆ F) (kp : Kept F s0 s) : Kept F s0 (State.writeBytes s w addr data).1 := by
  unfold State.writeBytes
  with_reducible repeat' first
    | assumption | exact Part.le hF | intro y a (_ : Kept F s0 y.1) | apply State.accessRefused_kept | apply State.emit_kept
    | apply State.err_kept | apply State.writeLine_kept | apply Kept.foldl_fst | split

/-! ### JobOps -/

theorem State.putRecord_kept {h : Held} (hF : [.regs, .accWin, .cells, .lines, .store, .locket, .wake, .out] ⊆ F) (kp : Kept F
    s0 s) : Kept F s0 (State.putRecord s h) := by
  unfold State.putRecord
  with_reducible repeat' first
    | assumption | exact Part.le hF | apply State.irq_kept | apply State.wb_kept | apply State.wrN_kept
    | apply State.writeBytes_kept | apply Kept.ite

theorem State.dropRecord_kept {h : Held} (hF : [.regs, .cells, .lines, .locket, .wake] ⊆ F) (kp : Kept F s0 s) : Kept F s0
    (State.dropRecord s h) := by
  unfold State.dropRecord
  with_reducible repeat' first
    | assumption | exact Part.le hF | apply State.logI_kept

theorem State.sendRecord_kept {h : Held} (hF : [.regs, .accWin, .cells, .lines, .store, .eng, .locket, .wake, .out] ⊆ F) (kp :
    Kept F s0 s) : Kept F s0 (State.sendRecord s h) := by
  unfold State.sendRecord
  with_reducible repeat' first
    | assumption | exact Part.le hF | apply State.countSat_kept | apply State.dropRecord_kept | apply State.logI_kept
    | apply State.putRecord_kept | simp only [Kept.lit_iff] | apply Kept.upd_eng | apply Kept.ite | rfl

theorem State.endJob_kept {id : Nat} {j : Job} {r : JobRes} (hF : [.regs, .accWin, .cells, .lines, .store, .eng, .locket, .wake,
    .out] ⊆ F) (kp : Kept F s0 s) : Kept F s0 (State.endJob s id j r) := by
  unfold State.endJob
  with_reducible repeat' first
    | assumption | exact Part.le hF | apply State.emit_kept | apply State.sendRecord_kept | simp only [Kept.lit_iff]
    | apply Kept.upd_eng | apply Kept.ite | rfl

theorem State.setRes_kept {id : Nat} {r : JobRes} (hF : [.eng] ⊆ F) (kp : Kept F s0 s) : Kept F s0 (State.setRes s id r) := by
  unfold State.setRes
  with_reducible repeat' first
    | assumption | exact Part.le hF | simp only [Kept.lit_iff] | apply Kept.upd_eng | rfl

theorem jobAct_kept {e : Engine} {op id : Nat} {f : State → Job → State × JobRes} (hF : [.eng] ⊆ F) (kp : Kept F s0 s) (hf : ∀
    (x : State) (a1 : Job), Kept F s0 x → Kept F s0 (f x a1).1) : KeptR F s0 (jobAct s e op id f) := by
  unfold jobAct
  with_reducible repeat' first
    | assumption | exact Part.le hF | apply hf | apply State.setRes_kept | apply KeptR.next | split

theorem jobActM_kept {e : Engine} {op id : Nat} {f : State → Job → State × Option JobRes} (hF : [.eng] ⊆ F) (kp : Kept F s0 s)
    (hf : ∀ (x : State) (a1 : Job), Kept F s0 x → Kept F s0 (f x a1).1) : KeptR F s0 (jobActM s e op id f) := by
  unfold jobActM
  with_reducible repeat' first
    | assumption | exact Part.le hF | apply hf | apply State.setRes_kept | apply KeptR.next | split
    | refine Kept.of_pair ?_ ‹_ = (_, _)›

/-! ### HostOps -/

theorem State.showConn_kept (hF : [.regs] ⊆ F) (kp : Kept F s0 s) : Kept F s0 (State.showConn s) := by
  unfold State.showConn
  with_reducible repeat' first
    | assumption | exact Part.le hF | apply State.wrN_kept

theorem State.endFlight_kept {io : Bool} (hF : [.regs, .cells, .lines, .locket, .wake] ⊆ F) (kp : Kept F s0 s) : Kept F s0
    (State.endFlight s io) := by
  unfold State.endFlight
  with_reducible repeat' first
    | assumption | exact Part.le hF | apply State.log_kept | apply State.wb_kept | apply State.wrN_kept | apply Kept.ite

theorem State.dirtyBp_kept (hF : [.regs, .cells, .lines, .locket, .wake, .hq] ⊆ F) (kp : Kept F s0 s) : Kept F s0 (State.dirtyBp
    s) := by
  unfold State.dirtyBp
  with_reducible repeat' first
    | assumption | exact Part.le hF | apply State.count_kept | apply State.log_kept | apply State.wb_kept
    | simp only [Kept.lit_iff] | apply Kept.upd_hq | apply Kept.ite | rfl

theorem State.showMirror_kept (hF : [.regs] ⊆ F) (kp : Kept F s0 s) : Kept F s0 (State.showMirror s) := by
  unfold State.showMirror
  with_reducible repeat' first
    | assumption | exact Part.le hF | apply State.wrN_kept

theorem State.shipRec_kept {r : JRec} (hF : [.regs, .out] ⊆ F) (kp : Kept F s0 s) : Kept F s0 (State.shipRec s r) := by
  unfold State.shipRec
  with_reducible repeat' first
    | assumption | exact Part.le hF | apply State.emit_kept | apply State.showMirror_kept

theorem State.putRec_kept {r : JRec} (hF : [.regs, .cells, .lines, .locket, .wake, .hq, .pair, .out] ⊆ F) (kp : Kept F s0 s) :
    Kept F s0 (State.putRec s r) := by
  unfold State.putRec
  with_reducible repeat' first
    | assumption | exact Part.le hF | apply State.dirtyBp_kept | apply State.shipRec_kept | apply State.showMirror_kept
    | simp only [Kept.lit_iff] | apply Kept.upd_pair | apply Kept.ite | rfl

theorem State.takeSeq_kept (hF : [.hq] ⊆ F) (kp : Kept F s0 s) : Kept F s0 (State.takeSeq s).1 := by
  unfold State.takeSeq
  with_reducible repeat' first
    | assumption | exact Part.le hF | simp only [Kept.lit_iff] | apply Kept.upd_hq | rfl

theorem State.voidSeq_kept {c : Cmd} (hF : [.regs, .cells, .lines, .locket, .wake, .hq, .pair, .out] ⊆ F) (kp : Kept F s0 s) :
    Kept F s0 (State.voidSeq s c) := by
  unfold State.voidSeq
  with_reducible repeat' first
    | assumption | exact Part.le hF | apply State.putRec_kept | split

theorem State.queueReset_kept {ctrl qid cause : Nat} {silent : Bool} (hF : [.regs, .cells, .lines, .locket, .wake, .hq, .pair,
    .out] ⊆ F) (kp : Kept F s0 s) : Kept F s0 (State.queueReset s ctrl qid cause silent) := by
  unfold State.queueReset
  with_reducible repeat' first
    | assumption | exact Part.le hF | intro x a (_ : Kept F s0 x) | apply State.endFlight_kept | apply State.log_kept
    | apply State.showConn_kept | apply State.voidSeq_kept | simp only [Kept.lit_iff] | apply Kept.upd_hq | apply Kept.foldl
    | split | rfl

theorem State.resetController_kept {ctrl cause : Nat} {silent : Bool} (hF : [.regs, .cells, .lines, .locket, .wake, .hq, .pair,
    .out] ⊆ F) (kp : Kept F s0 s) : Kept F s0 (State.resetController s ctrl cause silent) := by
  unfold State.resetController
  with_reducible repeat' first
    | assumption | exact Part.le hF | intro x a (_ : Kept F s0 x) | apply State.queueReset_kept | apply Kept.foldl

theorem State.dropConnections_kept (hF : [.regs, .cells, .lines, .locket, .wake, .hq, .pair, .out] ⊆ F) (kp : Kept F s0 s) :
    Kept F s0 (State.dropConnections s) := by
  unfold State.dropConnections
  with_reducible repeat' first
    | assumption | exact Part.le hF | intro x a (_ : Kept F s0 x) | apply State.queueReset_kept | apply State.showConn_kept
    | simp only [Kept.lit_iff] | apply Kept.upd_hq | apply Kept.foldl | rfl

theorem State.setAna_kept {group new : Nat} (hF : [.regs, .cells, .lines, .locket, .wake, .out] ⊆ F) (kp : Kept F s0 s) : Kept F
    s0 (State.setAna s group new) := by
  unfold State.setAna
  with_reducible repeat' first
    | assumption | exact Part.le hF | intro x a (_ : Kept F s0 x) | apply State.count_kept | apply State.emit_kept
    | apply State.log_kept | apply State.wf_kept | apply Kept.ite | apply Kept.foldl

theorem State.setAnaWhere_kept {sel : Nat → Bool} {new : Nat} (hF : [.regs, .cells, .lines, .locket, .wake, .out] ⊆ F) (kp :
    Kept F s0 s) : Kept F s0 (State.setAnaWhere s sel new) := by
  unfold State.setAnaWhere
  with_reducible repeat' first
    | assumption | exact Part.le hF | intro x a (_ : Kept F s0 x) | apply State.setAna_kept | apply Kept.ite
    | apply Kept.foldl

/-! ### PairOps -/

theorem State.setPairState_kept {st : Nat} (hF : [.pins, .regs, .wake] ⊆ F) (kp : Kept F s0 s) : Kept F s0 (State.setPairState s
    st) := by
  unfold State.setPairState
  with_reducible repeat' first
    | assumption | exact Part.le hF | apply State.irq_kept | apply State.wb_kept | apply State.wf_kept
    | simp only [Kept.lit_iff] | apply Kept.upd_pins | rfl

theorem State.stopAcks_kept (hF : [.regs] ⊆ F) (kp : Kept F s0 s) : Kept F s0 (State.stopAcks s) := by
  unfold State.stopAcks
  with_reducible repeat' first
    | assumption | exact Part.le hF | apply State.wb_kept

theorem State.control_kept {ty cause n : Nat} (hF : [.out] ⊆ F) (kp : Kept F s0 s) : Kept F s0 (State.control s ty cause n) :=
    by
  unfold State.control
  with_reducible repeat' first
    | assumption | exact Part.le hF | apply State.emit_kept

theorem State.yield_kept {cause : Nat} (hF : [.pins, .regs, .cells, .lines, .locket, .wake, .hq, .pair, .out] ⊆ F) (kp : Kept F
    s0 s) : Kept F s0 (State.yield s cause) := by
  unfold State.yield
  with_reducible repeat' first
    | assumption | exact Part.le hF | intro x a (_ : Kept F s0 x) | apply State.control_kept
    | apply State.dropConnections_kept | apply State.log_kept | apply State.setPairState_kept | apply State.stopAcks_kept
    | apply State.wb_kept | apply State.wf_kept | simp only [Kept.lit_iff] | apply Kept.upd_pair | apply Kept.ite
    | apply Kept.foldl | rfl

/-! ### MapOps -/

theorem State.setMap_kept {m : Mapper} (hF : [.map] ⊆ F) (kp : Kept F s0 s) : Kept F s0 (State.setMap s m) := by
  unfold State.setMap
  with_reducible repeat' first
    | assumption | exact Part.le hF | simp only [Kept.lit_iff] | apply Kept.upd_map | rfl

theorem State.setNs_kept {n : Nat} {x : Ns} (hF : [.map] ⊆ F) (kp : Kept F s0 s) : Kept F s0 (State.setNs s n x) := by
  unfold State.setNs
  with_reducible repeat' first
    | assumption | exact Part.le hF | apply State.setMap_kept

theorem State.modNs_kept {n : Nat} {f : Ns → Ns} (hF : [.map] ⊆ F) (kp : Kept F s0 s) : Kept F s0 (State.modNs s n f) := by
  unfold State.modNs
  with_reducible repeat' first
    | assumption | exact Part.le hF | apply State.setMap_kept

theorem State.modRecs_kept {sel : JRec → Bool} {f : JRec → JRec} (hF : [.pair] ⊆ F) (kp : Kept F s0 s) : Kept F s0
    (State.modRecs s sel f) := by
  unfold State.modRecs
  with_reducible repeat' first
    | assumption | exact Part.le hF | simp only [Kept.lit_iff] | apply Kept.upd_pair | rfl

theorem State.newMapPage_kept {x : MPage} (hF : [.map] ⊆ F) (kp : Kept F s0 s) : Kept F s0 (State.newMapPage s x).1 := by
  unfold State.newMapPage
  with_reducible repeat' first
    | assumption | exact Part.le hF | apply State.setMap_kept

theorem State.delMapPage_kept {n : Nat} (hF : [.map] ⊆ F) (kp : Kept F s0 s) : Kept F s0 (State.delMapPage s n) := by
  unfold State.delMapPage
  with_reducible repeat' first
    | assumption | exact Part.le hF | apply State.setMap_kept

theorem State.putPage_kept {n seq : Nat} {body : MBody} (hF : [.map] ⊆ F) (kp : Kept F s0 s) : Kept F s0 (State.putPage s n seq
    body) := by
  unfold State.putPage
  with_reducible repeat' first
    | assumption | exact Part.le hF | apply State.setMap_kept

theorem State.setMapMode_kept {mode : Nat} (hF : [.regs, .cells, .lines, .locket, .wake] ⊆ F) (kp : Kept F s0 s) : Kept F s0
    (State.setMapMode s mode) := by
  unfold State.setMapMode
  with_reducible repeat' first
    | assumption | exact Part.le hF | apply State.irq_kept | apply State.log_kept | apply State.wf_kept

theorem State.checkMapMode_kept (hF : [.regs, .cells, .lines, .locket, .wake] ⊆ F) (kp : Kept F s0 s) : Kept F s0
    (State.checkMapMode s) := by
  unfold State.checkMapMode
  with_reducible repeat' first
    | assumption | exact Part.le hF | apply State.setMapMode_kept | apply Kept.ite

theorem State.losePage_kept {n kind : Nat} (hF : [.regs, .cells, .lines, .locket, .wake, .map] ⊆ F) (kp : Kept F s0 s) : Kept F
    s0 (State.losePage s n kind) := by
  unfold State.losePage
  with_reducible repeat' first
    | assumption | exact Part.le hF | apply State.irq_kept | apply State.log_kept | apply State.setMap_kept
    | apply State.wb_kept

theorem State.usePage_kept {bad : List Nat} {n : Nat} (hF : [.regs, .cells, .lines, .locket, .wake, .map] ⊆ F) (kp : Kept F s0
    s) : Kept F s0 (State.usePage s bad n).1 := by
  unfold State.usePage
  with_reducible repeat' first
    | assumption | exact Part.le hF | apply State.count_kept | apply State.losePage_kept | apply State.setMap_kept | split

theorem State.addDead_kept {n : Nat} {d : Dead} (hF : [.map] ⊆ F) (kp : Kept F s0 s) : Kept F s0 (State.addDead s n d) := by
  unfold State.addDead
  with_reducible repeat' first
    | assumption | exact Part.le hF | apply State.modNs_kept

theorem State.setChunk_kept {id seq : Nat} {c : Chunk} (hF : [.map] ⊆ F) (kp : Kept F s0 s) : Kept F s0 (State.setChunk s id seq
    c) := by
  unfold State.setChunk
  with_reducible repeat' first
    | assumption | exact Part.le hF | apply State.newMapPage_kept | apply State.putPage_kept | apply State.setMap_kept
    | simp only [Kept.lit_iff] | split | rfl

theorem State.setBolt_kept {b : Nat} {x : Bolt} (hF : [.map] ⊆ F) (kp : Kept F s0 s) : Kept F s0 (State.setBolt s b x) := by
  unfold State.setBolt
  with_reducible repeat' first
    | assumption | exact Part.le hF | apply State.setMap_kept

theorem State.modBolt_kept {b : Nat} {f : Bolt → Bolt} (hF : [.map] ⊆ F) (kp : Kept F s0 s) : Kept F s0 (State.modBolt s b f) :=
    by
  unfold State.modBolt
  with_reducible repeat' first
    | assumption | exact Part.le hF | apply State.setMap_kept

theorem State.queueGc_kept {cls b : Nat} {stripe : Option Nat} (hF : [.map] ⊆ F) (kp : Kept F s0 s) : Kept F s0 (State.queueGc s
    cls b stripe) := by
  unfold State.queueGc
  with_reducible repeat' first
    | assumption | exact Part.le hF | apply State.setMap_kept

theorem State.settleBolt_kept {b : Nat} (hF : [.map, .out] ⊆ F) (kp : Kept F s0 s) : Kept F s0 (State.settleBolt s b) := by
  unfold State.settleBolt
  with_reducible repeat' first
    | assumption | exact Part.le hF | intro x a (_ : Kept F s0 x) | apply State.emit_kept | apply State.setBolt_kept
    | apply State.setChunk_kept | apply State.setMap_kept | apply Kept.foldl | split

theorem State.gainValid_kept {b : Nat} (hF : [.map] ⊆ F) (kp : Kept F s0 s) : Kept F s0 (State.gainValid s b) := by
  unfold State.gainValid
  with_reducible repeat' first
    | assumption | exact Part.le hF | apply State.modBolt_kept

theorem State.loseValid_kept {b : Nat} (hF : [.map, .out] ⊆ F) (kp : Kept F s0 s) : Kept F s0 (State.loseValid s b) := by
  unfold State.loseValid
  with_reducible repeat' first
    | assumption | exact Part.le hF | apply State.modBolt_kept | apply State.settleBolt_kept

theorem State.askResync_kept {b : Nat} (hF : [.quilt] ⊆ F) (kp : Kept F s0 s) : Kept F s0 (State.askResync s b) := by
  unfold State.askResync
  with_reducible repeat' first
    | assumption | exact Part.le hF | simp only [Kept.lit_iff] | apply Kept.upd_quilt | split | rfl

theorem State.freeMap_kept {b : Nat} (hF : [.quilt] ⊆ F) (kp : Kept F s0 s) : Kept F s0 (State.freeMap s b) := by
  unfold State.freeMap
  with_reducible repeat' first
    | assumption | exact Part.le hF | simp only [Kept.lit_iff] | apply Kept.upd_quilt | apply Kept.ite | rfl

theorem State.closeBolt_kept {b : Nat} (hF : [.map, .quilt] ⊆ F) (kp : Kept F s0 s) : Kept F s0 (State.closeBolt s b) := by
  unfold State.closeBolt
  with_reducible repeat' first
    | assumption | exact Part.le hF | apply State.askResync_kept | apply State.freeMap_kept | apply State.setBolt_kept | split

theorem State.moduleFailed_kept {n : Nat} (hF : [.regs, .cells, .lines, .locket, .wake, .map, .quilt] ⊆ F) (kp : Kept F s0 s) :
    Kept F s0 (State.moduleFailed s n) := by
  unfold State.moduleFailed
  with_reducible repeat' first
    | assumption | exact Part.le hF | intro x a (_ : Kept F s0 x) | apply State.closeBolt_kept | apply State.irq_kept
    | apply State.log_kept | apply State.modBolt_kept | apply State.wb_kept | apply Kept.ite | apply Kept.foldl

theorem State.loseChunks_kept {b stripe mask : Nat} {ids : List Nat} (hF : [.regs, .cells, .lines, .locket, .wake, .map] ⊆ F)
    (kp : Kept F s0 s) : Kept F s0 (State.loseChunks s b stripe mask ids) := by
  unfold State.loseChunks
  with_reducible repeat' first
    | assumption | exact Part.le hF | intro x a (_ : Kept F s0 x) | apply State.countSat_kept | apply State.irq_kept
    | apply State.log_kept | apply State.setChunk_kept | apply Kept.foldl | split

theorem State.addDelta_kept {seq idx chunk : Nat} {up : Bool} (hF : [.regs, .dedup] ⊆ F) (kp : Kept F s0 s) : Kept F s0
    (State.addDelta s seq idx chunk up) := by
  unfold State.addDelta
  with_reducible repeat' first
    | assumption | exact Part.le hF | apply State.wr64_kept | simp only [Kept.lit_iff] | apply Kept.upd_dedup | apply Kept.ite
    | rfl

theorem State.underflow_kept {seq id : Nat} (hF : [.regs, .cells, .lines, .locket, .wake] ⊆ F) (kp : Kept F s0 s) : Kept F s0
    (State.underflow s seq id) := by
  unfold State.underflow
  with_reducible repeat' first
    | assumption | exact Part.le hF | apply State.countSat_kept | apply State.log_kept

theorem State.release_kept {seq idx id : Nat} (hF : [.regs, .cells, .lines, .locket, .wake, .dedup, .map, .out] ⊆ F) (kp : Kept
    F s0 s) : Kept F s0 (State.release s seq idx id) := by
  unfold State.release
  with_reducible repeat' first
    | assumption | exact Part.le hF | apply State.addDelta_kept | apply State.loseValid_kept | apply State.setChunk_kept
    | apply State.underflow_kept | split

theorem State.takeRef_kept {seq idx id : Nat} (hF : [.regs, .dedup, .map] ⊆ F) (kp : Kept F s0 s) : Kept F s0 (State.takeRef s
    seq idx id).1 := by
  unfold State.takeRef
  with_reducible repeat' first
    | assumption | exact Part.le hF | apply State.addDelta_kept | apply State.setChunk_kept | split

theorem State.dropChunk_kept {n seq idx id old : Nat} (hF : [.regs, .cells, .lines, .locket, .wake, .dedup, .map, .out] ⊆ F) (kp
    : Kept F s0 s) : Kept F s0 (State.dropChunk s n seq idx id old) := by
  unfold State.dropChunk
  with_reducible repeat' first
    | assumption | exact Part.le hF | apply State.addDead_kept | apply State.release_kept | split

theorem State.findRun_kept {bad : List Nat} {n p r : Nat} (hF : [.regs, .cells, .lines, .locket, .wake, .map] ⊆ F) (kp : Kept F s0 s) : Kept F s0 (s.findRun bad n p r).1 := by
  induction n generalizing s p with
  | zero => exact State.usePage_kept (Part.le hF) kp
  | succ n ih =>
    unfold State.findRun
    dsimp only
    split
    · exact State.usePage_kept (Part.le hF) kp
    · split
      · exact State.usePage_kept (Part.le hF) kp
      · exact ih (State.usePage_kept (Part.le hF) kp)

theorem State.lookup_kept {bad : List Nat} {top : Option Nat} {levels g : Nat} (hF : [.regs, .cells, .lines, .locket, .wake,
    .map] ⊆ F) (kp : Kept F s0 s) : Kept F s0 (State.lookup s bad top levels g).1 := by
  unfold State.lookup
  with_reducible repeat' first
    | assumption | exact Part.le hF | apply State.findRun_kept | apply State.usePage_kept | simp only [Kept.lit_iff] | split
    | rfl

theorem State.ownPage_kept {n seq : Nat} {p : Option Nat} {empty : MBody} (hF : [.map] ⊆ F) (kp : Kept F s0 s) : Kept F s0
    (State.ownPage s n seq p empty).1 := by
  unfold State.ownPage
  with_reducible repeat' first
    | assumption | exact Part.le hF | apply State.addDead_kept | apply State.newMapPage_kept | apply State.putPage_kept
    | split

theorem State.updRun_kept {n seq r : Nat} {f : State → SMap MEntry → State × SMap MEntry} {l : Nat} {p : Option Nat}
    (hF : [.map] ⊆ F) (hf : ∀ (x : State) a, Kept F s0 x → Kept F s0 (f x a).1) (kp : Kept F s0 s) : Kept F s0 (State.updRun n seq r f l s p).1 := by
  induction l generalizing s p with
  | zero => exact State.putPage_kept (Part.le hF) (hf _ _ (State.ownPage_kept (Part.le hF) kp))
  | succ l ih => exact State.putPage_kept (Part.le hF) (ih (State.ownPage_kept (Part.le hF) kp))

theorem State.updSlots_kept {n seq g : Nat} {f : State → SMap MEntry → State × SMap MEntry} (hF : [.map] ⊆ F) (kp : Kept F s0 s)
    (hf : ∀ (x : State) a, Kept F s0 x → Kept F s0 (f x a).1) : Kept F s0 (s.updSlots n seq g f) := by
  unfold State.updSlots
  split
  · exact kp
  · exact State.modNs_kept (Part.le hF) (State.updRun_kept (Part.le hF) hf kp)

theorem State.newGroup_kept {n seq r : Nat} {slots : SMap MEntry} (hF : [.map] ⊆ F) (kp : Kept F s0 s) : Kept F s0
    (State.newGroup s n seq r slots).1 := by
  unfold State.newGroup
  with_reducible repeat' first
    | assumption | exact Part.le hF | apply State.newMapPage_kept | simp only [Kept.lit_iff] | split | rfl

theorem State.setGroup_kept {p r seq k : Nat} {es : SMap MEntry} (hF : [.map] ⊆ F) (kp : Kept F s0 s) : Kept F s0
    (State.setGroup s p r seq k es) := by
  unfold State.setGroup
  with_reducible repeat' first
    | assumption | exact Part.le hF | apply State.putPage_kept

theorem State.dropGroup_kept {n seq r : Nat} {slots : SMap MEntry} {e : MEntry} (hF : [.map] ⊆ F) (kp : Kept F s0 s) : Kept F s0
    (State.dropGroup s n seq r slots e) := by
  unfold State.dropGroup
  with_reducible repeat' first
    | assumption | exact Part.le hF | apply State.addDead_kept | apply State.delMapPage_kept | apply State.putPage_kept
    | apply Kept.ite

theorem State.writeGrain_kept {n g : Nat} {e : MEntry} {slots : SMap MEntry} (hF : [.map] ⊆ F) (kp : Kept F s0 s) : Kept F s0
    (State.writeGrain n g e s slots).1 := by
  unfold State.writeGrain
  with_reducible repeat' first
    | assumption | exact Part.le hF | apply State.newGroup_kept | apply State.ownPage_kept | apply State.setGroup_kept
    | apply Kept.ite_fst

theorem State.applyGrain_kept {n g idx : Nat} {e : MEntry} (hF : [.regs, .cells, .lines, .locket, .wake, .dedup, .map, .out] ⊆
    F) (kp : Kept F s0 s) : Kept F s0 (State.applyGrain s n g idx e) := by
  unfold State.applyGrain
  with_reducible repeat' first
    | assumption | exact Part.le hF | intro x a (_ : Kept F s0 x) | apply State.dropChunk_kept | apply State.updSlots_kept
    | apply State.writeGrain_kept | apply Kept.ite

theorem State.applyRun_kept {n g seq base : Nat} (hF : [.regs, .cells, .lines, .locket, .wake, .dedup, .map, .out] ⊆ F) (kp :
    Kept F s0 s) : Kept F s0 (State.applyRun s n g seq base) := by
  unfold State.applyRun
  with_reducible repeat' first
    | assumption | exact Part.le hF | intro x a (_ : Kept F s0 x) | apply State.dropChunk_kept | apply State.dropGroup_kept
    | apply State.updSlots_kept | apply Kept.ite | apply Kept.foldl

theorem State.noteRecorded_kept {n g seq : Nat} (hF : [.regs, .cells, .lines, .locket, .wake, .hq, .pair] ⊆ F) (kp : Kept F s0
    s) : Kept F s0 (State.noteRecorded s n g seq) := by
  unfold State.noteRecorded
  with_reducible repeat' first
    | assumption | exact Part.le hF | apply State.dirtyBp_kept | apply State.modRecs_kept

/-! ### PatOps -/

theorem State.setModule_kept {n : Nat} {m : Module} (hF : [.stitch] ⊆ F) (kp : Kept F s0 s) : Kept F s0 (State.setModule s n m)
    := by
  unfold State.setModule
  with_reducible repeat' first
    | assumption | exact Part.le hF | simp only [Kept.lit_iff] | apply Kept.upd_stitch | rfl

theorem State.useBlock_kept {n d b how : Nat} (hF : [.pat] ⊆ F) (kp : Kept F s0 s) : Kept F s0 (State.useBlock s n d b how) :=
    by
  unfold State.useBlock
  with_reducible repeat' first
    | assumption | exact Part.le hF | simp only [Kept.lit_iff] | apply Kept.upd_pat | rfl

theorem State.returnBlock_kept {n d b : Nat} (hF : [.pat] ⊆ F) (kp : Kept F s0 s) : Kept F s0 (State.returnBlock s n d b) := by
  unfold State.returnBlock
  with_reducible repeat' first
    | assumption | exact Part.le hF | simp only [Kept.lit_iff] | apply Kept.upd_pat | rfl

theorem State.retireDie_kept {n d : Nat} (hF : [.regs, .cells, .lines, .locket, .wake, .map, .pat] ⊆ F) (kp : Kept F s0 s) :
    Kept F s0 (State.retireDie s n d) := by
  unfold State.retireDie
  with_reducible repeat' first
    | assumption | exact Part.le hF | intro x a (_ : Kept F s0 x) | apply State.irq_kept | apply State.log_kept
    | apply State.queueGc_kept | apply State.wrN_kept | simp only [Kept.lit_iff] | apply Kept.upd_pat | apply Kept.ite
    | apply Kept.foldl | rfl

theorem State.retireBlock_kept {n d b : Nat} (hF : [.regs, .cells, .lines, .locket, .wake, .map, .pat] ⊆ F) (kp : Kept F s0 s) :
    Kept F s0 (State.retireBlock s n d b) := by
  unfold State.retireBlock
  with_reducible repeat' first
    | assumption | exact Part.le hF | apply State.countSat_kept | apply State.retireDie_kept | apply State.useBlock_kept
    | apply Kept.ite

theorem State.noteProgram_kept {n d b off len temp : Nat} (hF : [.map, .quilt] ⊆ F) (kp : Kept F s0 s) : Kept F s0
    (State.noteProgram s n d b off len temp) := by
  unfold State.noteProgram
  with_reducible repeat' first
    | assumption | exact Part.le hF | apply State.freeMap_kept | apply State.setBolt_kept | apply Kept.ite | split

theorem State.noteRead_kept {n d b : Nat} (hF : [.map] ⊆ F) (kp : Kept F s0 s) : Kept F s0 (State.noteRead s n d b) := by
  unfold State.noteRead
  with_reducible repeat' first
    | assumption | exact Part.le hF | apply State.setMap_kept

/-! ### CipherOps -/

theorem State.showKeys_kept (hF : [.regs] ⊆ F) (kp : Kept F s0 s) : Kept F s0 (State.showKeys s) := by
  unfold State.showKeys
  with_reducible repeat' first
    | assumption | exact Part.le hF | apply State.wrN_kept

theorem State.setSlot_kept {n : Nat} {k : KeySlot} (hF : [.regs, .cipher] ⊆ F) (kp : Kept F s0 s) : Kept F s0 (State.setSlot s n
    k) := by
  unfold State.setSlot
  with_reducible repeat' first
    | assumption | exact Part.le hF | apply State.showKeys_kept | simp only [Kept.lit_iff] | apply Kept.upd_cipher | rfl

theorem State.emptySlots_kept (hF : [.regs, .cipher] ⊆ F) (kp : Kept F s0 s) : Kept F s0 (State.emptySlots s) := by
  unfold State.emptySlots
  with_reducible repeat' first
    | assumption | exact Part.le hF | apply State.showKeys_kept | simp only [Kept.lit_iff] | apply Kept.upd_cipher | rfl

theorem State.setNonceEng_kept {e : Nat} {x : NonceEng} (hF : [.cipher] ⊆ F) (kp : Kept F s0 s) : Kept F s0 (State.setNonceEng s
    e x) := by
  unfold State.setNonceEng
  with_reducible repeat' first
    | assumption | exact Part.le hF | simp only [Kept.lit_iff] | apply Kept.upd_cipher | rfl

/-! ### BeadOps -/

theorem State.setBead_kept {n : Nat} {b : Bead} (hF : [.bd] ⊆ F) (kp : Kept F s0 s) : Kept F s0 (State.setBead s n b) := by
  unfold State.setBead
  with_reducible repeat' first
    | assumption | exact Part.le hF | simp only [Kept.lit_iff] | apply Kept.upd_bd | rfl

theorem State.setStrand_kept {n : Nat} {x : Strand} (hF : [.bd] ⊆ F) (kp : Kept F s0 s) : Kept F s0 (State.setStrand s n x) :=
    by
  unfold State.setStrand
  with_reducible repeat' first
    | assumption | exact Part.le hF | simp only [Kept.lit_iff] | apply Kept.upd_bd | rfl

theorem State.sampleEdge_kept {n slot : Nat} {level : Bool} (hF : [.bd] ⊆ F) (kp : Kept F s0 s) : Kept F s0 (State.sampleEdge s
    n slot level) := by
  unfold State.sampleEdge
  with_reducible repeat' first
    | assumption | exact Part.le hF | apply State.setBead_kept | apply Kept.ite

theorem State.sampleLine_kept {c i : Nat} (hF : [.bd] ⊆ F) (kp : Kept F s0 s) : Kept F s0 (State.sampleLine s c i) := by
  unfold State.sampleLine
  with_reducible repeat' first
    | assumption | exact Part.le hF | intro x a (_ : Kept F s0 x) | apply State.sampleEdge_kept | apply Kept.ite
    | apply Kept.foldl

theorem State.setLine'_kept {c i : Nat} {level : Bool} (hF : [.regs, .bd] ⊆ F) (kp : Kept F s0 s) : Kept F s0 (State.setLine' s
    c i level) := by
  unfold State.setLine'
  with_reducible repeat' first
    | assumption | exact Part.le hF | apply State.sampleLine_kept | apply State.wb_kept

theorem State.ldStatus_kept {phase code strand : Nat} {busy : Bool} (hF : [.regs] ⊆ F) (kp : Kept F s0 s) : Kept F s0
    (State.ldStatus s phase code strand busy) := by
  unfold State.ldStatus
  with_reducible repeat' first
    | assumption | exact Part.le hF | apply State.wrN_kept

theorem State.endExchange_kept {n code : Nat} (hF : [.regs, .cells, .lines, .locket, .wake] ⊆ F) (kp : Kept F s0 s) : Kept F s0
    (State.endExchange s n code) := by
  unfold State.endExchange
  with_reducible repeat' first
    | assumption | exact Part.le hF | apply State.ldStatus_kept | apply State.log_kept

theorem State.beadFault_kept {n code : Nat} (hF : [.regs, .cells, .lines, .locket, .wake, .bd] ⊆ F) (kp : Kept F s0 s) : Kept F
    s0 (State.beadFault s n code) := by
  unfold State.beadFault
  with_reducible repeat' first
    | assumption | exact Part.le hF | apply State.endExchange_kept | apply State.logI_kept | apply State.setBead_kept
    | apply State.setStrand_kept | apply State.wb_kept | apply State.wrN_kept | simp only [Kept.lit_iff] | split | rfl

theorem beadAct_kept {op n : Nat} {f : State → Bead → Word → BeadRes} (hF : [.regs, .cells, .lines, .locket, .wake, .bd] ⊆ F) (kp : Kept F s0 s)
    (hf : ∀ (x : State) b w, Kept F s0 x → KeptB F s0 (f x b w)) :
    KeptR F s0 (beadAct op n s f) := by
  unfold beadAct
  refine KeptR.actIf kp fun x hx => ?_
  split
  · exact State.beadFault_kept (Part.le hF) hx
  · have := hf x (s.bead n) (s.bead n).instr hx
    split
    · rename_i h; unfold KeptB at this; rw [h] at this; exact State.beadFault_kept (Part.le hF) this
    · rename_i h; unfold KeptB at this; rw [h] at this; exact State.setBead_kept (Part.le hF) this

theorem beadOp_kept {op n : Nat} {f : Bead → Word → Except Nat Bead} (hF : [.regs, .cells, .lines, .locket, .wake, .bd] ⊆ F) (kp
    : Kept F s0 s) : KeptR F s0 (beadOp op n s f) := by
  unfold beadOp
  with_reducible repeat' first
    | exact Part.le hF | intro x a b (_ : Kept F s0 x) | apply beadAct_kept | split | apply_assumption

theorem alu_kept {op n : Nat} {f : Word → Word → Word} (hF : [.regs, .cells, .lines, .locket, .wake, .bd] ⊆ F) (kp : Kept F s0
    s) : KeptR F s0 (alu op n s f) := by
  unfold alu
  with_reducible repeat' first
    | assumption | exact Part.le hF | apply beadOp_kept

theorem aluImm_kept {op n : Nat} {f : Word → Nat → Word} (hF : [.regs, .cells, .lines, .locket, .wake, .bd] ⊆ F) (kp : Kept F s0
    s) : KeptR F s0 (aluImm op n s f) := by
  unfold aluImm
  with_reducible repeat' first
    | assumption | exact Part.le hF | apply beadOp_kept

end Sys2Proof.Machine
end

