-- ==== Sys2Proof/Laws/Ops.lean ====
section
/-! SUPPORT. What the operations that every block shares do: interrupts, records, the access-error record, and what they leave. -/
namespace Sys2Proof.Machine
variable {F : List Part} {s t u : State}

/-! ### Parts left alone -/

theorem Kept.part {f : Part} (h : Kept F s t) (hf : F.contains f = false := by decide) : f.same s t :=
  (h.only f).resolve_left fun hm => by rw [List.contains_iff_mem.2 hm] at hf; cases hf

theorem OnlyPages.refl (ps : List Nat) (s : State) : OnlyPages ps s s := fun _ _ _ _ _ _ => rfl

theorem OnlyPages.trans {ps : List Nat} (h : OnlyPages ps s t) (k : OnlyPages ps t u) : OnlyPages ps s u :=
  fun q off i hq ho hi => (k q off i hq ho hi).trans (h q off i hq ho hi)

theorem OnlyPages.mono {ps qs : List Nat} (h : OnlyPages ps s t) (hs : ps ⊆ qs) : OnlyPages qs s t :=
  fun q off i hq ho hi => h q off i (fun hm => hq (hs hm)) ho hi

theorem OnlyPages.of_regs {ps : List Nat} (h : t.regs = s.regs) : OnlyPages ps s t :=
  fun q off i _ _ _ => by unfold State.rd; rw [h]

theorem State.wr_pages (s : State) {p off i : Nat} (v : Word) (ho : off < 0x10000) (hi : i < 0x10000) : OnlyPages [p] s (s.wr p off i v) :=
  fun _ _ _ hq ho' hj => s.rd_wr_ne v (rkey_page ho ho' hi hj fun h => hq (h ▸ .head _))

/-! ### Interrupts (17 R646, R651) -/

theorem irqBits_le (p : Nat) : irqBits p ≤ 8 := by
  unfold irqBits
  dsimp only
  repeat' split
  all_goals omega

theorem State.snap_pages (s : State) (p : Nat) : OnlyPages [p] s (s.snap p) :=
  (s.wr_pages _ (by decide) (by decide)).trans (State.wr_pages _ _ (by decide) (by decide))

/-- Only IRQ_STATUS, GTS_SNAP_LO and the latched GTS_SNAP_HI of its page change. -/
theorem State.irqMask_rd (s : State) (p m : Nat) {q o j : Nat} (h1 : rkey q o j ≠ rkey p Rg.IRQ_STATUS 0)
    (h2 : rkey q o j ≠ rkey p Rg.GTS_SNAP_LO 0) (h3 : rkey q o j ≠ rkey p Rg.GTS_SNAP_HI 1) : (s.irqMask p m).rd q o j = s.rd q o j := by
  unfold State.irqMask
  dsimp only
  split <;> split <;> first
    | (unfold State.snap State.wrN; rw [State.rd_wr_ne _ _ h3, State.rd_wr_ne _ _ h2]; exact State.rd_wr_ne _ _ h1)
    | exact State.rd_wr_ne _ _ h1

theorem State.irq_rd (s : State) (p b : Nat) {q o j : Nat} (h1 : rkey q o j ≠ rkey p Rg.IRQ_STATUS 0)
    (h2 : rkey q o j ≠ rkey p Rg.GTS_SNAP_LO 0) (h3 : rkey q o j ≠ rkey p Rg.GTS_SNAP_HI 1) : (s.irq p b).rd q o j = s.rd q o j :=
  s.irqMask_rd p _ h1 h2 h3

theorem State.irqMask_status (s : State) (p m : Nat) :
    (s.irqMask p m).rdN p Rg.IRQ_STATUS = s.rdN p Rg.IRQ_STATUS ||| (m % 2 ^ irqBits p) := by
  have hlt : s.rdN p Rg.IRQ_STATUS ||| (m % 2 ^ irqBits p) < 2 ^ 32 :=
    Nat.or_lt_two_pow (s.rd p Rg.IRQ_STATUS 0).isLt (Nat.lt_of_lt_of_le (Nat.mod_lt _ (Nat.two_pow_pos _))
      (Nat.pow_le_pow_right (by decide) (Nat.le_trans (irqBits_le p) (by decide))))
  have hk : ∀ o i, (o = Rg.GTS_SNAP_LO ∧ i = 0) ∨ (o = Rg.GTS_SNAP_HI ∧ i = 1) → rkey p Rg.IRQ_STATUS 0 ≠ rkey p o i := by
    rintro o i (⟨rfl, rfl⟩ | ⟨rfl, rfl⟩) <;> exact rkey_off (by decide) (by decide) (by decide)
  unfold State.irqMask State.rdN
  dsimp only
  split <;> split <;> first
    | (unfold State.snap State.wrN
       rw [State.rd_wr_ne _ _ (hk _ _ (.inr ⟨rfl, rfl⟩)), State.rd_wr_ne _ _ (hk _ _ (.inl ⟨rfl, rfl⟩))]
       exact (congrArg BitVec.toNat (State.rd_wr _ _ _ _ _)).trans ((BitVec.toNat_ofNat _ _).trans (Nat.mod_eq_of_lt hlt)))
    | exact (congrArg BitVec.toNat (State.rd_wr _ _ _ _ _)).trans ((BitVec.toNat_ofNat _ _).trans (Nat.mod_eq_of_lt hlt))

/-- The bit of an interrupt that has just come is set. -/
theorem State.irq_bit (s : State) (p b : Nat) (h : b < irqBits p) : (s.irq p b).rb p Rg.IRQ_STATUS b = true := by
  have := s.irqMask_status p (2 ^ b)
  unfold State.rb bitW
  unfold State.rdN at this
  rw [State.irq, this, Nat.testBit_or, Nat.mod_eq_of_lt (Nat.pow_lt_pow_right (by decide) h), Nat.testBit_two_pow_self, Bool.or_true]

theorem State.irqMask_pages (s : State) (p m : Nat) : OnlyPages [p] s (s.irqMask p m) := fun q o j hq ho hj =>
  have hne : q ≠ p := fun h => hq (h ▸ .head _)
  s.irqMask_rd p m (rkey_page (by decide) ho (by decide) hj hne) (rkey_page (by decide) ho (by decide) hj hne)
    (rkey_page (by decide) ho (by decide) hj hne)

theorem State.irq_pages (s : State) (p b : Nat) : OnlyPages [p] s (s.irq p b) := s.irqMask_pages p _

/-! ### Records (14 R560 to R567) -/

theorem State.ringCopy_regs (s : State) (r : LkRec) : (s.ringCopy r).regs = s.regs := by
  unfold State.ringCopy; split <;> rfl

theorem State.holdRec_pages (s : State) (r : LkRec) : OnlyPages [Pg.LOCKET] s (s.holdRec r) := by
  unfold State.holdRec
  extract_lets L r' full lost recs gap x y
  have hx : OnlyPages [Pg.LOCKET] s y := .of_regs ((State.ringCopy_regs _ _).trans rfl)
  clear_value lost y
  split
  · exact hx
  · exact hx.trans ((State.wr_pages _ _ (by decide) (by decide)).trans (State.irq_pages _ _ _))

theorem State.holdRec_locket (s : State) (r : LkRec) :
    (s.holdRec r).locket.recs.getLast? = some { r with seq := s.locket.next } ∧ (s.holdRec r).locket.next = s.locket.next + 1 ∧
      (s.holdRec r).boot = s.boot := by
  have hk : Kept [.regs, .cells, .lines, .wake, .locket] s (s.holdRec r) := State.holdRec_kept (by decide) (.refl _ _)
  have key : ∀ (y : State), ((y.countSat Pg.LOCKET Rg.LOCKET_SPILL_LOST 1).irq Pg.LOCKET 1).locket = y.locket := fun y =>
    (State.irq_kept (F := [.regs, .wake]) (by decide) (State.countSat_kept (by decide) (.refl _ y))).part (f := .locket)
  refine ⟨?_, ?_, hk.part (f := .boot)⟩ <;> unfold State.holdRec <;> extract_lets L r' full lost recs gap x y <;>
    (have hy : y.locket = x.locket := (State.ringCopy_kept (F := [.cells, .lines]) (by decide) (.refl _ x)).part (f := .locket)) <;>
    clear_value y <;> rcases lost with _ | q <;> dsimp only <;> (try rw [key]) <;> rw [hy] <;> simp [x, recs, r', L]

theorem State.accept_newest (s : State) (gts source code : Nat) (payload : List Byte) :
    ∃ r, (s.accept gts source code payload).newest = some r ∧ r.code = code ∧ r.gts = gts ∧ r.source = source ∧ r.payload = padTo 32 payload := by
  refine ⟨{ s.mkRec gts source code payload with seq := ((s.accept gts source code payload).newest.map (·.seq)).getD 0 }, ?_, rfl, rfl, rfl, rfl⟩
  unfold State.accept State.newest
  dsimp only
  by_cases hr : bitOf s.boot.ready Pg.LOCKET = true
  · simp only [hr, if_true]
    split <;> simp [(State.holdRec_locket _ _).1, (State.holdRec_locket _ _).2.2, hr]
  · simp only [Bool.not_eq_true] at hr
    simp only [hr, Bool.false_eq_true, if_false]
    split <;> simp [hr, State.mkRec]

/-- A record that a block writes is the newest. -/
theorem State.log_told (s : State) (p code : Nat) (fs : List Pf) : (s.log p code fs).Told code fs := by
  obtain ⟨r, h1, h2, _, _, h3⟩ := s.accept_newest s.gts (srcOf p) code (packPayload fs)
  exact ⟨r, h1, h2, h3⟩

theorem State.logI_told (s : State) (p inst code : Nat) (fs : List Pf) : (s.logI p inst code fs).Told code fs := by
  obtain ⟨r, h1, h2, _, _, h3⟩ := s.accept_newest s.gts ((pageBase p).2 * 256 + inst) code (packPayload fs)
  exact ⟨r, h1, h2, h3⟩

theorem State.accept_pages (s : State) (gts source code : Nat) (payload : List Byte) :
    OnlyPages [Pg.LOCKET] s (s.accept gts source code payload) := by
  unfold State.accept
  dsimp only
  split
  · split
    · exact State.holdRec_pages _ _
    · exact (State.holdRec_pages _ _).trans ((OnlyPages.of_regs rfl).trans (State.holdRec_pages _ _))
  · split <;> exact .of_regs rfl

theorem State.log_pages (s : State) (p code : Nat) (fs : List Pf) : OnlyPages [Pg.LOCKET] s (s.log p code fs) := s.accept_pages _ _ _ _
theorem State.logI_pages (s : State) (p n code : Nat) (fs : List Pf) : OnlyPages [Pg.LOCKET] s (s.logI p n code fs) := s.accept_pages _ _ _ _

/-- A register outside Locket's page is as it was before a record. -/
theorem State.log_rd (s : State) (p code : Nat) (fs : List Pf) {q o j : Nat} (hq : q ≠ Pg.LOCKET) (ho : o < 0x10000) (hj : j < 0x10000) :
    (s.log p code fs).rd q o j = s.rd q o j := s.log_pages p code fs q o j (by simpa using hq) ho hj

/-- What has been told is still the newest while neither Locket nor the releases change. -/
theorem State.Told.of_eq {code : Nat} {fs : List Pf} (h : s.Told code fs) (h1 : t.locket = s.locket) (h2 : t.boot = s.boot) : t.Told code fs := by
  obtain ⟨r, hr, k⟩ := h
  exact ⟨r, by unfold State.newest at *; rw [h1, h2]; exact hr, k⟩

/-! ### The access-error record (17 R645) -/

theorem State.err_pages (s : State) (p master : Nat) (write remote : Bool) (ty addr : Nat) :
    OnlyPages [p] s (s.err p master write remote ty addr) := by
  unfold State.err
  extract_lets valid x y
  have hy : OnlyPages [p] s y := ((State.wr_pages _ _ (by decide) (by decide)).trans (State.wr_pages _ _ (by decide) (by decide))).trans
    (State.wr_pages _ _ (by decide) (by decide))
  split
  · exact hy
  · exact hy.trans (State.snap_pages _ _)

/-- ERR_INFO tells the last access in error. -/
theorem State.err_info (s : State) (p master : Nat) (write remote : Bool) (ty addr : Nat) :
    (s.err p master write remote ty addr).rdN p Rg.ERR_INFO =
      (master % 1024 + 2 ^ 10 * b2n write + 2 ^ 11 * b2n remote + 2 ^ 16 * ty + 2 ^ 30 * b2n (s.rb p Rg.ERR_INFO 31) + 2 ^ 31) % 2 ^ 32 := by
  have hk : ∀ o i, (o = Rg.GTS_SNAP_LO ∧ i = 0) ∨ (o = Rg.GTS_SNAP_HI ∧ i = 1) → rkey p Rg.ERR_INFO 0 ≠ rkey p o i := by
    rintro o i (⟨rfl, rfl⟩ | ⟨rfl, rfl⟩) <;> exact rkey_off (by decide) (by decide) (by decide)
  unfold State.err
  dsimp only
  split <;> rename_i hv
  · rw [State.rdN_wrN]
  · rw [State.rdN, State.snap, State.wrN, State.rd_wr_ne _ _ (hk _ _ (.inr ⟨rfl, rfl⟩)), State.wrN,
      State.rd_wr_ne _ _ (hk _ _ (.inl ⟨rfl, rfl⟩)), ← State.rdN, State.rdN_wrN]

end Sys2Proof.Machine
end

