-- ==== Sys2Proof/Machine/KeptMemory.lean ====
section
/-! DEFINITION. What every command keeps, kept by the commands of register pages, rings, memory controllers and beads. The file holds theorems alone, no
definition: it stands beside the functions it speaks of, so that who mends one mends its theorem with it. -/
namespace Sys2Proof.Machine

set_option Elab.async false
variable {F : List Part} {s0 s t : State}

/-! ### RegisterPages -/

theorem State.afterPlain_kept {w : RegW} {old : Nat} (hF : [.regs, .bd] ⊆ F) (kp : Kept F s0 s) : Kept F s0 (State.afterPlain s
    w old) := by
  unfold State.afterPlain
  with_reducible repeat' first
    | assumption | exact Part.le hF | apply State.ldStatus_kept | apply State.setLine'_kept | apply State.wb_kept
    | apply State.wf_kept | apply State.wrN_kept | apply Kept.ite

theorem State.plainWrite_kept {w : RegW} (hF : [.regs, .wos, .lockWins, .cells, .lines, .locket, .wake, .bd, .hq] ⊆ F) (kp :
    Kept F s0 s) : Kept F s0 (State.plainWrite s w) := by
  unfold State.plainWrite
  with_reducible repeat' first
    | assumption | exact Part.le hF | intro x a (_ : Kept F s0 x) | apply State.afterPlain_kept | apply State.dirtyBp_kept
    | apply State.regCmd_kept | apply State.wrN_kept | apply Kept.ite

theorem State.partnerAccess_kept {master addr : Nat} {write : Bool} {value : Word} (hF : [.regs, .accWin, .remotes, .cells,
    .lines, .locket, .wake, .out] ⊆ F) (kp : Kept F s0 s) : Kept F s0 (State.partnerAccess s master addr write value) := by
  unfold State.partnerAccess
  with_reducible repeat' first
    | assumption | exact Part.le hF | apply State.accessRefused_kept | apply State.emit_kept | apply State.err_kept
    | apply State.log_kept | simp only [Kept.lit_iff] | apply Kept.upd_remotes | apply Kept.ite | rfl

theorem execRegisterWrite_kept {master addr len value : Nat} (hF : [.regs, .wos, .lockWins, .accWin, .remotes, .cells, .lines,
    .locket, .wake, .bd, .hq, .out] ⊆ F) (kp : Kept F s0 s) : KeptR F s0 (execRegisterWrite master addr len value s) := by
  unfold execRegisterWrite
  with_reducible repeat' first
    | assumption | exact Part.le hF | intro x (_ : Kept F s0 x) | apply KeptR.act | apply State.accessRefused_kept
    | apply State.err_kept | apply State.partnerAccess_kept | apply State.plainWrite_kept | apply Kept.ite | split

theorem execLockReportWindowEnd_kept {page : Nat} {access : Bool} (hF : [.regs, .lockWins, .accWin, .cells, .lines, .locket,
    .wake] ⊆ F) (kp : Kept F s0 s) : KeptR F s0 (execLockReportWindowEnd page access s) := by
  unfold execLockReportWindowEnd
  with_reducible repeat' first
    | assumption | exact Part.le hF | intro x (_ : Kept F s0 x) | apply KeptR.act | apply State.accept_kept
    | simp only [Kept.lit_iff] | apply Kept.upd_accWin | apply Kept.upd_lockWins | split | rfl

theorem State.headerCmd_kept {page off master value : Nat} (hF : [.regs, .wos, .lockWins, .cells, .lines, .locket, .wake] ⊆ F)
    (kp : Kept F s0 s) : Kept F s0 (State.headerCmd s page off master value) := by
  unfold State.headerCmd
  with_reducible repeat' first
    | assumption | exact Part.le hF | apply State.regWrite_kept

theorem execPageLockWrite_kept {master page value : Nat} (hF : [.regs, .wos, .lockWins, .cells, .lines, .locket, .wake] ⊆ F) (kp
    : Kept F s0 s) : KeptR F s0 (execPageLockWrite master page value s) := by
  unfold execPageLockWrite
  with_reducible repeat' first
    | assumption | exact Part.le hF | intro x (_ : Kept F s0 x) | apply KeptR.act | apply State.headerCmd_kept

theorem execIrqForceWrite_kept {master page value : Nat} (hF : [.regs, .wos, .lockWins, .cells, .lines, .locket, .wake] ⊆ F) (kp
    : Kept F s0 s) : KeptR F s0 (execIrqForceWrite master page value s) := by
  unfold execIrqForceWrite
  with_reducible repeat' first
    | assumption | exact Part.le hF | intro x (_ : Kept F s0 x) | apply KeptR.act | apply State.headerCmd_kept

theorem execPageSnap_kept {master page value : Nat} (hF : [.regs, .wos, .lockWins, .cells, .lines, .locket, .wake] ⊆ F) (kp :
    Kept F s0 s) : KeptR F s0 (execPageSnap master page value s) := by
  unfold execPageSnap
  with_reducible repeat' first
    | assumption | exact Part.le hF | intro x (_ : Kept F s0 x) | apply KeptR.actIf | apply State.headerCmd_kept

theorem State.readCmd_kept {p off master : Nat} {f : State → State} (hF : [.regs, .out] ⊆ F) (kp : Kept F s0 s) (hf : ∀ (x :
    State), Kept F s0 x → Kept F s0 (f x)) : Kept F s0 (State.readCmd s p off master f) := by
  unfold State.readCmd
  with_reducible repeat' first
    | assumption | exact Part.le hF | apply hf | apply State.emit_kept | apply State.notReady_kept | apply Kept.ite

theorem execGtsSnapLoRead_kept {master page : Nat} (hF : [.regs, .out] ⊆ F) (kp : Kept F s0 s) : KeptR F s0 (execGtsSnapLoRead
    master page s) := by
  unfold execGtsSnapLoRead
  with_reducible repeat' first
    | assumption | exact Part.le hF | intro x (_ : Kept F s0 x) | apply KeptR.act | apply State.readCmd_kept
    | apply State.wr_kept

theorem execRemoteAccessTimeout_kept {id : Nat} (hF : [.regs, .remotes, .cells, .lines, .locket, .wake, .out] ⊆ F) (kp : Kept F
    s0 s) : KeptR F s0 (execRemoteAccessTimeout id s) := by
  unfold execRemoteAccessTimeout
  with_reducible repeat' first
    | assumption | exact Part.le hF | intro x (_ : Kept F s0 x) | apply KeptR.act | apply State.emit_kept
    | apply State.err_kept | apply State.log_kept | simp only [Kept.lit_iff] | apply Kept.upd_remotes | apply KeptR.next
    | split | rfl

theorem execRemoteAccessAnswer_kept {id : Nat} {value : Word} (hF : [.remotes, .out] ⊆ F) (kp : Kept F s0 s) : KeptR F s0
    (execRemoteAccessAnswer id value s) := by
  unfold execRemoteAccessAnswer
  with_reducible repeat' first
    | assumption | exact Part.le hF | intro x (_ : Kept F s0 x) | apply KeptR.act | apply State.emit_kept
    | simp only [Kept.lit_iff] | apply Kept.upd_remotes | apply KeptR.next | split | rfl

theorem execLockstepDisagreement_kept (hF : [.pins, .regs, .cells, .lines, .locket, .wake, .hq, .pair, .out] ⊆ F) (kp : Kept F
    s0 s) : KeptR F s0 (execLockstepDisagreement s) := by
  unfold execLockstepDisagreement
  with_reducible repeat' first
    | assumption | exact Part.le hF | intro x (_ : Kept F s0 x) | apply KeptR.act | apply State.log_kept | apply State.wb_kept
    | apply State.yield_kept

theorem execSvcCtrlWrite_kept {master cluster value : Nat} (hF : [.regs, .wos, .lockWins, .cells, .lines, .locket, .wake] ⊆ F)
    (kp : Kept F s0 s) : KeptR F s0 (execSvcCtrlWrite master cluster value s) := by
  unfold execSvcCtrlWrite
  with_reducible repeat' first
    | assumption | exact Part.le hF | intro x (_ : Kept F s0 x) | intro x a (_ : Kept F s0 x) | apply KeptR.actIf
    | apply State.regCmd_kept | apply State.wrN_kept

theorem execSvcReportWrite_kept {master cluster value : Nat} (hF : [.regs, .wos, .lockWins, .cells, .lines, .locket, .wake,
    .pair] ⊆ F) (kp : Kept F s0 s) : KeptR F s0 (execSvcReportWrite master cluster value s) := by
  unfold execSvcReportWrite
  with_reducible repeat' first
    | assumption | exact Part.le hF | intro x (_ : Kept F s0 x) | intro x a (_ : Kept F s0 x) | apply KeptR.actIf
    | apply State.regCmd_kept | simp only [Kept.lit_iff] | apply Kept.upd_pair | rfl

theorem execSvcStallTimeout_kept (hF : [.pins, .regs, .cells, .lines, .locket, .wake, .hq, .pair, .out] ⊆ F) (kp : Kept F s0 s)
    : KeptR F s0 (execSvcStallTimeout s) := by
  unfold execSvcStallTimeout
  with_reducible repeat' first
    | assumption | exact Part.le hF | intro x (_ : Kept F s0 x) | apply KeptR.actIf | apply State.yield_kept

theorem execMgmtLinkChange_kept {up : Bool} (hF : [.regs, .cells, .lines, .locket, .wake] ⊆ F) (kp : Kept F s0 s) : KeptR F s0
    (execMgmtLinkChange up s) := by
  unfold execMgmtLinkChange
  with_reducible repeat' first
    | assumption | exact Part.le hF | intro x (_ : Kept F s0 x) | apply KeptR.act | apply State.irq_kept
    | apply State.log_kept | apply State.wb_kept

theorem execPtpLockLoss_kept (hF : [.regs, .cells, .lines, .locket, .wake] ⊆ F) (kp : Kept F s0 s) : KeptR F s0 (execPtpLockLoss
    s) := by
  unfold execPtpLockLoss
  with_reducible repeat' first
    | assumption | exact Part.le hF | intro x (_ : Kept F s0 x) | apply KeptR.act | apply State.irq_kept
    | apply State.log_kept | apply State.wb_kept

theorem execGpioEdge_kept {i : Nat} {level : Bool} (hF : [.pins, .regs, .wake] ⊆ F) (kp : Kept F s0 s) : KeptR F s0
    (execGpioEdge i level s) := by
  unfold execGpioEdge
  with_reducible repeat' first
    | assumption | exact Part.le hF | intro x (_ : Kept F s0 x) | apply KeptR.actIf | apply State.irq_kept
    | apply State.wb_kept | simp only [Kept.lit_iff] | apply Kept.upd_pins | apply Kept.ite | rfl

/-! ### PowerOps -/

theorem State.modDom_kept {d : Nat} {f : Domain → Domain} (hF : [.power] ⊆ F) (kp : Kept F s0 s) : Kept F s0 (State.modDom s d
    f) := by
  unfold State.modDom
  with_reducible repeat' first
    | assumption | exact Part.le hF | intro x a (_ : Kept F s0 x) | apply State.setDom_kept | apply Kept.foldl

theorem State.setSwitch_kept {d : Nat} {on : Bool} (hF : [.pins] ⊆ F) (kp : Kept F s0 s) : Kept F s0 (State.setSwitch s d on) :=
    by
  unfold State.setSwitch
  with_reducible repeat' first
    | assumption | exact Part.le hF | simp only [Kept.lit_iff] | apply Kept.upd_pins | split | rfl

theorem State.setGood_kept {d : Nat} {on : Bool} (hF : [.pins] ⊆ F) (kp : Kept F s0 s) : Kept F s0 (State.setGood s d on) := by
  unfold State.setGood
  with_reducible repeat' first
    | assumption | exact Part.le hF | simp only [Kept.lit_iff] | apply Kept.upd_pins | split | rfl

theorem State.refuseGrant_kept {d : Nat} (hF : [.regs, .cells, .lines, .locket, .wake] ⊆ F) (kp : Kept F s0 s) : Kept F s0
    (State.refuseGrant s d) := by
  unfold State.refuseGrant
  with_reducible repeat' first
    | assumption | exact Part.le hF | apply State.irq_kept | apply State.log_kept | apply State.wrN_kept

theorem State.reverse_kept {d : Nat} {on : Bool} (hF : [.regs, .cells, .lines, .locket, .wake, .power] ⊆ F) (kp : Kept F s0 s) :
    Kept F s0 (State.reverse s d on) := by
  unfold State.reverse
  with_reducible repeat' first
    | assumption | exact Part.le hF | apply State.log_kept | apply State.modDom_kept

theorem State.requestOn_kept {d : Nat} (hF : [.regs, .cells, .lines, .locket, .wake, .power] ⊆ F) (kp : Kept F s0 s) : Kept F s0
    (State.requestOn s d) := by
  unfold State.requestOn
  with_reducible repeat' first
    | assumption | exact Part.le hF | apply State.modDom_kept | apply State.refuseGrant_kept | apply State.reverse_kept
    | apply Kept.ite

theorem State.requestOff_kept {d : Nat} (hF : [.regs, .cells, .lines, .locket, .wake, .power] ⊆ F) (kp : Kept F s0 s) : Kept F
    s0 (State.requestOff s d) := by
  unfold State.requestOff
  with_reducible repeat' first
    | assumption | exact Part.le hF | apply State.modDom_kept | apply State.reverse_kept | apply State.setDom_kept
    | apply Kept.ite

theorem State.grant_kept (hF : [.pins, .regs, .cells, .lines, .locket, .wake, .power] ⊆ F) (kp : Kept F s0 s) : Kept F s0
    (State.grant s) := by
  unfold State.grant
  with_reducible repeat' first
    | assumption | exact Part.le hF | apply State.modDom_kept | apply State.refuseGrant_kept | apply State.setSwitch_kept
    | split

theorem execPwrseqDomCtrlOn_kept {master value : Nat} (hF : [.regs, .wos, .lockWins, .cells, .lines, .locket, .wake, .power] ⊆
    F) (kp : Kept F s0 s) : KeptR F s0 (execPwrseqDomCtrlOn master value s) := by
  unfold execPwrseqDomCtrlOn
  with_reducible repeat' first
    | assumption | exact Part.le hF | intro x (_ : Kept F s0 x) | intro x a (_ : Kept F s0 x) | apply KeptR.actIf
    | apply State.err_kept | apply State.ignoreW_kept | apply State.regCmd_kept | apply State.requestOn_kept | apply Kept.ite

theorem execPwrseqDomCtrlOff_kept {master value : Nat} (hF : [.regs, .wos, .lockWins, .cells, .lines, .locket, .wake, .power] ⊆
    F) (kp : Kept F s0 s) : KeptR F s0 (execPwrseqDomCtrlOff master value s) := by
  unfold execPwrseqDomCtrlOff
  with_reducible repeat' first
    | assumption | exact Part.le hF | intro x (_ : Kept F s0 x) | intro x a (_ : Kept F s0 x) | apply KeptR.actIf
    | apply State.err_kept | apply State.ignoreW_kept | apply State.refuseAt_kept | apply State.regCmd_kept
    | apply State.requestOff_kept | apply Kept.ite

theorem actAon_kept {b : Bool} {f : State → State} (kp : Kept F s0 s) (hf : ∀ (x : State), Kept F s0 x → Kept F s0 (f x)) :
    KeptR F s0 (actAon s b f) := by
  unfold actAon
  with_reducible repeat' first
    | assumption | apply hf | apply KeptR.ite | apply KeptR.next

theorem execRampEnd_kept {us : Nat} (hF : [.pins, .power] ⊆ F) (kp : Kept F s0 s) : KeptR F s0 (execRampEnd us s) := by
  unfold execRampEnd
  with_reducible repeat' first
    | assumption | exact Part.le hF | intro x (_ : Kept F s0 x) | apply State.modDom_kept | apply State.setGood_kept
    | apply actAon_kept | split

theorem execQuiesced_kept {d : Nat} (hF : [.power] ⊆ F) (kp : Kept F s0 s) : KeptR F s0 (execQuiesced d s) := by
  unfold execQuiesced
  with_reducible repeat' first
    | assumption | exact Part.le hF | intro x (_ : Kept F s0 x) | apply State.modDom_kept | apply actAon_kept

theorem State.loseDomain_kept {d : Nat} (hF : [.bd] ⊆ F) (kp : Kept F s0 s) : Kept F s0 (State.loseDomain s d) := by
  unfold State.loseDomain
  with_reducible repeat' first
    | assumption | exact Part.le hF | simp only [Kept.lit_iff] | apply Kept.upd_bd | apply Kept.ite | rfl

theorem execClamped_kept {d : Nat} (hF : [.pins, .power, .bd] ⊆ F) (kp : Kept F s0 s) : KeptR F s0 (execClamped d s) := by
  unfold execClamped
  with_reducible repeat' first
    | assumption | exact Part.le hF | intro x (_ : Kept F s0 x) | apply State.loseDomain_kept | apply State.modDom_kept
    | apply State.setSwitch_kept | apply actAon_kept

theorem execDischargeDone_kept {d : Nat} (hF : [.pins, .power] ⊆ F) (kp : Kept F s0 s) : KeptR F s0 (execDischargeDone d s) :=
    by
  unfold execDischargeDone
  with_reducible repeat' first
    | assumption | exact Part.le hF | intro x (_ : Kept F s0 x) | apply State.modDom_kept | apply State.setGood_kept
    | apply actAon_kept

/-! ### StitchOps -/

theorem State.setModState_kept {n st : Nat} (hF : [.pins, .regs, .cells, .lines, .locket, .wake, .hq, .pair, .out] ⊆ F) (kp :
    Kept F s0 s) : Kept F s0 (State.setModState s n st) := by
  unfold State.setModState
  with_reducible repeat' first
    | assumption | exact Part.le hF | apply State.irq_kept | apply State.wf_kept | apply State.yield_kept | apply Kept.ite

theorem State.setRoleEpoch_kept {r e : Nat} (hF : [.regs] ⊆ F) (kp : Kept F s0 s) : Kept F s0 (State.setRoleEpoch s r e) := by
  unfold State.setRoleEpoch
  with_reducible repeat' first
    | assumption | exact Part.le hF | apply State.wr64_kept

theorem State.setPerst_kept {n : Nat} {released : Bool} (hF : [.pins] ⊆ F) (kp : Kept F s0 s) : Kept F s0 (State.setPerst s n
    released) := by
  unfold State.setPerst
  with_reducible repeat' first
    | assumption | exact Part.le hF | simp only [Kept.lit_iff] | apply Kept.upd_pins | rfl

theorem State.setPresent_kept {n : Nat} {present : Bool} (hF : [.pins, .regs] ⊆ F) (kp : Kept F s0 s) : Kept F s0
    (State.setPresent s n present) := by
  unfold State.setPresent
  with_reducible repeat' first
    | assumption | exact Part.le hF | apply State.wb_kept | simp only [Kept.lit_iff] | apply Kept.upd_pins | rfl

theorem State.setAlert_kept {n : Nat} {alert : Bool} (hF : [.pins, .regs] ⊆ F) (kp : Kept F s0 s) : Kept F s0 (State.setAlert s
    n alert) := by
  unfold State.setAlert
  with_reducible repeat' first
    | assumption | exact Part.le hF | apply State.wb_kept | simp only [Kept.lit_iff] | apply Kept.upd_pins | rfl

theorem State.unpower_kept {n : Nat} (hF : [.pins, .regs, .cells, .lines, .locket, .wake, .power] ⊆ F) (kp : Kept F s0 s) : Kept
    F s0 (State.unpower s n) := by
  unfold State.unpower
  with_reducible repeat' first
    | assumption | exact Part.le hF | apply State.modDom_kept | apply State.requestOff_kept | apply State.setSwitch_kept
    | apply Kept.ite

theorem State.bumpFlight_kept {n : Nat} {up : Bool} (hF : [.regs] ⊆ F) (kp : Kept F s0 s) : Kept F s0 (State.bumpFlight s n up)
    := by
  unfold State.bumpFlight
  with_reducible repeat' first
    | assumption | exact Part.le hF | apply State.wrN_kept

theorem State.sendMod_kept {c : ModCmd} (hF : [.regs, .stitch, .out] ⊆ F) (kp : Kept F s0 s) : Kept F s0 (State.sendMod s c) :=
    by
  unfold State.sendMod
  with_reducible repeat' first
    | assumption | exact Part.le hF | apply State.bumpFlight_kept | apply State.emit_kept | apply State.setModule_kept
    | simp only [Kept.lit_iff] | apply Kept.upd_stitch | rfl

theorem State.dropCmd_kept {id : Nat} {c : ModCmd} (hF : [.regs, .stitch] ⊆ F) (kp : Kept F s0 s) : Kept F s0 (State.dropCmd s
    id c) := by
  unfold State.dropCmd
  with_reducible repeat' first
    | assumption | exact Part.le hF | apply State.bumpFlight_kept | simp only [Kept.lit_iff] | apply Kept.upd_stitch | rfl

theorem State.endCmd_kept {id : Nat} {c : ModCmd} {r : JobRes} (hF : [.regs, .eng, .stitch] ⊆ F) (kp : Kept F s0 s) : Kept F s0
    (State.endCmd s id c r) := by
  unfold State.endCmd
  with_reducible repeat' first
    | assumption | exact Part.le hF | apply State.dropCmd_kept | apply State.setRes_kept | split

theorem State.abortCmds_kept {sel : ModCmd → Bool} (hF : [.regs, .eng, .stitch] ⊆ F) (kp : Kept F s0 s) : Kept F s0
    (State.abortCmds s sel).1 := by
  unfold State.abortCmds
  with_reducible repeat' first
    | assumption | exact Part.le hF | intro x a (_ : Kept F s0 x) | apply State.endCmd_kept | apply Kept.foldl

theorem State.checkFence_kept {n : Nat} (hF : [.pins, .regs, .cells, .lines, .locket, .wake, .hq, .pair, .out] ⊆ F) (kp : Kept F
    s0 s) : Kept F s0 (State.checkFence s n) := by
  unfold State.checkFence
  with_reducible repeat' first
    | assumption | exact Part.le hF | intro x a (_ : Kept F s0 x) | apply State.irq_kept | apply State.logI_kept
    | apply State.wb_kept | apply State.yield_kept | apply Kept.ite | apply Kept.foldl

theorem State.writeHold_kept {n mask : Nat} (hF : [.stitch, .out] ⊆ F) (kp : Kept F s0 s) : Kept F s0 (State.writeHold s n mask)
    := by
  unfold State.writeHold
  with_reducible repeat' first
    | assumption | exact Part.le hF | apply State.emit_kept | apply State.setModule_kept

theorem State.programHold_kept (hF : [.regs, .cells, .lines, .locket, .wake, .stitch, .out] ⊆ F) (kp : Kept F s0 s) : Kept F s0
    (State.programHold s) := by
  unfold State.programHold
  with_reducible repeat' first
    | assumption | exact Part.le hF | intro x a (_ : Kept F s0 x) | apply State.irq_kept | apply State.log_kept
    | apply State.wb_kept | apply State.writeHold_kept | simp only [Kept.lit_iff] | apply Kept.upd_stitch | apply Kept.foldl
    | rfl

theorem State.programRelease_kept (hF : [.regs, .cells, .lines, .locket, .wake, .stitch, .out] ⊆ F) (kp : Kept F s0 s) : Kept F
    s0 (State.programRelease s) := by
  unfold State.programRelease
  with_reducible repeat' first
    | assumption | exact Part.le hF | intro x a (_ : Kept F s0 x) | apply State.log_kept | apply State.wb_kept
    | apply State.writeHold_kept | apply Kept.foldl

theorem State.slmWrite_kept {n off v : Nat} (hF : [.pins, .regs, .eng, .stitch] ⊆ F) (kp : Kept F s0 s) : Kept F s0
    (State.slmWrite s n off v) := by
  unfold State.slmWrite
  with_reducible repeat' first
    | assumption | exact Part.le hF | apply State.abortCmds_kept | apply State.setAlert_kept | apply State.setModule_kept
    | apply Kept.ite

/-! ### MemCtl -/

theorem State.lowWater_kept {before : Nat} (hF : [.regs, .cells, .lines, .locket, .wake] ⊆ F) (kp : Kept F s0 s) : Kept F s0
    (State.lowWater s before) := by
  unfold State.lowWater
  with_reducible repeat' first
    | assumption | exact Part.le hF | apply State.irq_kept | apply State.log_kept | apply Kept.ite

theorem State.retirePc_kept {pc cause : Nat} (hF : [.regs, .cells, .lines, .locket, .wake] ⊆ F) (kp : Kept F s0 s) : Kept F s0
    (State.retirePc s pc cause) := by
  unfold State.retirePc
  with_reducible repeat' first
    | assumption | exact Part.le hF | apply State.log_kept | apply State.lowWater_kept | apply State.wb_kept | apply Kept.ite

theorem State.retireCh_kept {c cause : Nat} (hF : [.regs, .cells, .lines, .locket, .wake] ⊆ F) (kp : Kept F s0 s) : Kept F s0
    (State.retireCh s c cause) := by
  unfold State.retireCh
  with_reducible repeat' first
    | assumption | exact Part.le hF | apply State.checkMapMode_kept | apply State.log_kept | apply State.wb_kept
    | apply Kept.ite

theorem State.checkRetire_kept {a : Nat} (hF : [.regs, .cells, .lines, .locket, .wake] ⊆ F) (kp : Kept F s0 s) : Kept F s0
    (State.checkRetire s a) := by
  unfold State.checkRetire
  with_reducible repeat' first
    | assumption | exact Part.le hF | apply State.retireCh_kept | apply State.retirePc_kept | apply Kept.ite

theorem State.disableWay_kept {sl way cause : Nat} (hF : [.regs, .cells, .lines, .locket, .wake] ⊆ F) (kp : Kept F s0 s) : Kept
    F s0 (State.disableWay s sl way cause) := by
  unfold State.disableWay
  with_reducible repeat' first
    | assumption | exact Part.le hF | apply State.fieldSat_kept | apply State.log_kept | apply State.wb_kept | apply Kept.ite

theorem State.cacheError_kept {a way : Nat} {u : Upset} (hF : [.regs, .cells, .lines, .store, .locket, .wake] ⊆ F) (kp : Kept F
    s0 s) : Kept F s0 (State.cacheError s a way u) := by
  unfold State.cacheError
  with_reducible repeat' first
    | assumption | exact Part.le hF | apply State.countSat_kept | apply State.disableWay_kept | apply State.setLine_kept
    | simp only [Kept.lit_iff] | apply Kept.upd_store | split | rfl

theorem State.cacheCount_kept {a : Nat} {hit : Bool} (hF : [.regs] ⊆ F) (kp : Kept F s0 s) : Kept F s0 (State.cacheCount s a
    hit) := by
  unfold State.cacheCount
  with_reducible repeat' first
    | assumption | exact Part.le hF | apply State.count_kept

theorem State.beadWrite_kept {a : Nat} {data : List Byte} (hF : [.bd] ⊆ F) (kp : Kept F s0 s) : Kept F s0 (State.beadWrite s a
    data) := by
  unfold State.beadWrite
  with_reducible repeat' first
    | assumption | exact Part.le hF | intro x a (_ : Kept F s0 x) | apply State.setBead_kept | apply Kept.foldl

theorem State.answerZero_kept {master addr n : Nat} (hF : [.out] ⊆ F) (kp : Kept F s0 s) : Kept F s0 (State.answerZero s master
    addr n) := by
  unfold State.answerZero
  with_reducible repeat' first
    | assumption | exact Part.le hF | apply State.emit_kept

theorem State.afterRead_kept {p off : Nat} (hF : [.regs] ⊆ F) (kp : Kept F s0 s) : Kept F s0 (State.afterRead s p off) := by
  unfold State.afterRead
  with_reducible repeat' first
    | assumption | exact Part.le hF | apply State.wf_kept | apply Kept.ite

theorem execMemoryRead_kept {master owner addr n : Nat} {u : Upset} {way : Option Nat} {hit : Bool} (hF : [.regs, .accWin,
    .remotes, .cells, .lines, .store, .locket, .wake, .out, .fresh] ⊆ F) (kp : Kept F s0 s) : KeptR F s0 (execMemoryRead master
    owner addr n u way hit s) := by
  unfold execMemoryRead
  with_reducible repeat' first
    | assumption | exact Part.le hF | intro x (_ : Kept F s0 x) | apply KeptR.act | apply State.accessRefused_kept
    | apply State.afterRead_kept | apply State.answerZero_kept | apply State.cacheCount_kept | apply State.cacheError_kept
    | apply State.checkRetire_kept | apply State.emit_kept | apply State.err_kept | apply State.freeBytes_kept
    | apply State.notReady_kept | apply State.partnerAccess_kept | apply State.readLine_kept | apply Kept.ite | split

theorem State.writeAt_kept {master owner addr : Nat} {data : List Byte} {u : Upset} {hit : Bool} (hF : [.pins, .regs, .accWin,
    .cells, .lines, .store, .eng, .locket, .wake, .bd, .stitch, .out] ⊆ F) (kp : Kept F s0 s) : Kept F s0 (State.writeAt s
    master owner addr data u hit) := by
  unfold State.writeAt
  with_reducible repeat' first
    | assumption | exact Part.le hF | apply State.accessRefused_kept | apply State.beadWrite_kept
    | apply State.cacheCount_kept | apply State.checkRetire_kept | apply State.emit_kept | apply State.poke_kept
    | apply State.slmWrite_kept | apply State.writeLine_kept | apply Kept.ite | split

theorem execPartialWrite_kept {master owner addr : Nat} {data : List Byte} {u : Upset} {hit : Bool} (hF : [.pins, .regs,
    .accWin, .cells, .lines, .store, .eng, .locket, .wake, .bd, .stitch, .out] ⊆ F) (kp : Kept F s0 s) : KeptR F s0
    (execPartialWrite master owner addr data u hit s) := by
  unfold execPartialWrite
  with_reducible repeat' first
    | assumption | exact Part.le hF | intro x (_ : Kept F s0 x) | apply KeptR.actIf | apply State.writeAt_kept

theorem execFullLineWrite_kept {master owner addr : Nat} {data : List Byte} {hit : Bool} (hF : [.pins, .regs, .accWin, .cells,
    .lines, .store, .eng, .locket, .wake, .bd, .stitch, .out] ⊆ F) (kp : Kept F s0 s) : KeptR F s0 (execFullLineWrite master
    owner addr data hit s) := by
  unfold execFullLineWrite
  with_reducible repeat' first
    | assumption | exact Part.le hF | intro x (_ : Kept F s0 x) | apply KeptR.actIf | apply State.writeAt_kept

theorem execScrub_kept {ctl : Nat} {found : List (Nat × Upset)} (hF : [.regs, .cells, .lines, .store, .locket, .wake] ⊆ F) (kp :
    Kept F s0 s) : KeptR F s0 (execScrub ctl found s) := by
  unfold execScrub
  with_reducible repeat' first
    | assumption | exact Part.le hF | intro x (_ : Kept F s0 x) | intro x a (_ : Kept F s0 x) | apply KeptR.act
    | apply State.checkRetire_kept | apply State.readLine_kept | apply Kept.ite | apply Kept.foldl

theorem State.fixMirror_kept (hF : [.regs] ⊆ F) (kp : Kept F s0 s) : Kept F s0 (State.fixMirror s) := by
  unfold State.fixMirror
  with_reducible repeat' first
    | assumption | exact Part.le hF | apply State.err_kept | apply State.wf_kept | apply Kept.ite

theorem State.zeroCtl_kept {ctl : Nat} {mirror : Bool} (hF : [.cells, .lines, .store] ⊆ F) (kp : Kept F s0 s) : Kept F s0 (s.zeroCtl ctl mirror) :=
  ⟨kp.pend, fun x => Memory.wf_filter _ rfl (kp.mem x), kp.regs, kp.otp, kp.only.trans fun f => by
    cases f <;> first | exact .inr rfl | exact .inl (Part.mem hF)⟩

theorem execMemoryInitDone_kept {ctl : Nat} {mirror : Bool} {dimms ms : Nat} (hF : [.regs, .cells, .lines, .store, .locket,
    .wake] ⊆ F) (kp : Kept F s0 s) : KeptR F s0 (execMemoryInitDone ctl mirror dimms ms s) := by
  unfold execMemoryInitDone
  with_reducible repeat' first
    | assumption | exact Part.le hF | intro x (_ : Kept F s0 x) | apply KeptR.actIf | apply State.fixMirror_kept
    | apply State.log_kept | apply State.wb_kept | apply State.wf_kept | apply State.zeroCtl_kept | apply Kept.ite

theorem execCacheErrWindowEnd_kept {sl way : Nat} (hF : [.regs, .cells, .lines, .store, .locket, .wake] ⊆ F) (kp : Kept F s0 s)
    : KeptR F s0 (execCacheErrWindowEnd sl way s) := by
  unfold execCacheErrWindowEnd
  with_reducible repeat' first
    | assumption | exact Part.le hF | intro x (_ : Kept F s0 x) | apply KeptR.actIf | apply State.disableWay_kept
    | simp only [Kept.lit_iff] | apply Kept.upd_store | apply Kept.ite | rfl

theorem execSyscacheWayDisWrite_kept {master k j value : Nat} (hF : [.regs, .wos, .lockWins, .cells, .lines, .locket, .wake] ⊆
    F) (kp : Kept F s0 s) : KeptR F s0 (execSyscacheWayDisWrite master k j value s) := by
  unfold execSyscacheWayDisWrite
  with_reducible repeat' first
    | assumption | exact Part.le hF | intro x (_ : Kept F s0 x) | intro x a (_ : Kept F s0 x) | apply KeptR.actIf
    | apply State.disableWay_kept | apply State.regCmd_kept | apply Kept.foldl

theorem execDdrcFailWrite_kept {master ch value : Nat} (hF : [.regs, .wos, .lockWins, .cells, .lines, .locket, .wake] ⊆ F) (kp :
    Kept F s0 s) : KeptR F s0 (execDdrcFailWrite master ch value s) := by
  unfold execDdrcFailWrite
  with_reducible repeat' first
    | assumption | exact Part.le hF | intro x (_ : Kept F s0 x) | intro x a (_ : Kept F s0 x) | apply KeptR.actIf
    | apply State.regCmd_kept | apply State.retireCh_kept | apply Kept.ite

theorem execHbmcPcRetireWrite_kept {master stack value : Nat} (hF : [.regs, .wos, .lockWins, .cells, .lines, .locket, .wake] ⊆
    F) (kp : Kept F s0 s) : KeptR F s0 (execHbmcPcRetireWrite master stack value s) := by
  unfold execHbmcPcRetireWrite
  with_reducible repeat' first
    | assumption | exact Part.le hF | intro x (_ : Kept F s0 x) | intro x a (_ : Kept F s0 x) | apply KeptR.actIf
    | apply State.regCmd_kept | apply State.retirePc_kept | apply Kept.foldl

theorem execHbmStackFailure_kept {stack : Nat} (hF : [.pins, .regs, .cells, .lines, .locket, .wake, .hq, .pair, .out] ⊆ F) (kp :
    Kept F s0 s) : KeptR F s0 (execHbmStackFailure stack s) := by
  unfold execHbmStackFailure
  with_reducible repeat' first
    | assumption | exact Part.le hF | intro x (_ : Kept F s0 x) | intro x a (_ : Kept F s0 x) | apply KeptR.actIf
    | apply State.retirePc_kept | apply State.wb_kept | apply State.yield_kept | apply Kept.foldl

theorem execHbmTemperatureHigh_kept {stack temp : Nat} (hF : [.regs, .cells, .lines, .locket, .wake] ⊆ F) (kp : Kept F s0 s) :
    KeptR F s0 (execHbmTemperatureHigh stack temp s) := by
  unfold execHbmTemperatureHigh
  with_reducible repeat' first
    | assumption | exact Part.le hF | intro x (_ : Kept F s0 x) | apply KeptR.actIf | apply State.log_kept
    | apply State.wb_kept | apply State.wf_kept | apply Kept.ite

theorem execDdrcMapCfgWrite_kept {master inst value : Nat} (hF : [.regs, .wos, .lockWins, .cells, .lines, .locket, .wake] ⊆ F)
    (kp : Kept F s0 s) : KeptR F s0 (execDdrcMapCfgWrite master inst value s) := by
  unfold execDdrcMapCfgWrite
  with_reducible repeat' first
    | assumption | exact Part.le hF | intro x (_ : Kept F s0 x) | intro x a (_ : Kept F s0 x) | apply KeptR.actIf
    | apply State.ignoreW_kept | apply State.regCmd_kept | apply State.wf_kept | apply State.wrN_kept | apply Kept.ite

/-! ### Rings -/

theorem State.consume_kept {e : Engine} {inst ring : Nat} (hF : [.regs, .eng] ⊆ F) (kp : Kept F s0 s) : Kept F s0 (State.consume
    s e inst ring) := by
  unfold State.consume
  with_reducible repeat' first
    | assumption | exact Part.le hF | apply State.wrN_kept | simp only [Kept.lit_iff] | apply Kept.upd_eng | rfl

theorem State.pairedRecord_kept {e : Engine} {inst ring tag : Nat} {r : JobRes} {event : Nat} {fs : List Pf} (hF : [.regs,
    .accWin, .cells, .lines, .store, .eng, .locket, .wake, .out] ⊆ F) (kp : Kept F s0 s) : Kept F s0 (State.pairedRecord s e
    inst ring tag r event fs) := by
  unfold State.pairedRecord
  with_reducible repeat' first
    | assumption | exact Part.le hF | apply State.logI_kept | apply State.sendRecord_kept | apply Kept.ite

theorem execDescriptorFetch_kept {e : Engine} {inst : Nat} (hF : [.regs, .accWin, .cells, .lines, .store, .eng, .locket, .wake,
    .out, .fresh] ⊆ F) (kp : Kept F s0 s) : KeptR F s0 (execDescriptorFetch e inst s) := by
  unfold execDescriptorFetch
  with_reducible repeat' first
    | assumption | exact Part.le hF | intro x (_ : Kept F s0 x) | apply KeptR.actIf | apply State.consume_kept
    | apply State.pairedRecord_kept | apply State.readBytes_kept | simp only [Kept.lit_iff] | apply Kept.upd_eng | split | rfl

theorem execJobComplete_kept {job : Nat} (hF : [.regs, .accWin, .cells, .lines, .store, .eng, .locket, .wake, .out] ⊆ F) (kp :
    Kept F s0 s) : KeptR F s0 (execJobComplete job s) := by
  unfold execJobComplete
  with_reducible repeat' first
    | assumption | exact Part.le hF | intro x (_ : Kept F s0 x) | apply KeptR.act | apply State.endJob_kept | apply KeptR.next
    | split

theorem execHeldRecordWrite_kept {e : Engine} {inst cring : Nat} (hF : [.regs, .accWin, .cells, .lines, .store, .eng, .locket,
    .wake, .out] ⊆ F) (kp : Kept F s0 s) : KeptR F s0 (execHeldRecordWrite e inst cring s) := by
  unfold execHeldRecordWrite
  with_reducible repeat' first
    | assumption | exact Part.le hF | intro x (_ : Kept F s0 x) | apply KeptR.actIf | apply State.putRecord_kept
    | simp only [Kept.lit_iff] | apply Kept.upd_eng | split | rfl

theorem execRingPiWrite_kept {e : Engine} {inst master value : Nat} (hF : [.regs, .wos, .lockWins, .cells, .lines, .locket,
    .wake] ⊆ F) (kp : Kept F s0 s) : KeptR F s0 (execRingPiWrite e inst master value s) := by
  unfold execRingPiWrite
  with_reducible repeat' first
    | assumption | exact Part.le hF | intro x (_ : Kept F s0 x) | apply KeptR.actIf | apply State.ignoreW_kept
    | apply State.regWrite_kept | simp only [Kept.lit_iff] | split | refine Kept.of_pair ?_ ‹_ = (_, _)› | rfl

theorem execCringHeadWrite_kept {e : Engine} {inst master value : Nat} (hF : [.regs, .wos, .lockWins, .cells, .lines, .locket,
    .wake] ⊆ F) (kp : Kept F s0 s) : KeptR F s0 (execCringHeadWrite e inst master value s) := by
  unfold execCringHeadWrite
  with_reducible repeat' first
    | assumption | exact Part.le hF | intro x (_ : Kept F s0 x) | apply KeptR.actIf | apply State.ignoreW_kept
    | apply State.regWrite_kept | simp only [Kept.lit_iff] | split | refine Kept.of_pair ?_ ‹_ = (_, _)› | rfl

theorem State.ringCfgEffect_kept {e : Engine} {inst n old new : Nat} (hF : [.regs, .accWin, .cells, .lines, .store, .eng,
    .locket, .wake, .out] ⊆ F) (kp : Kept F s0 s) : Kept F s0 (State.ringCfgEffect s e inst n old new) := by
  unfold State.ringCfgEffect
  with_reducible repeat' first
    | assumption | exact Part.le hF | intro x a (_ : Kept F s0 x) | apply State.dropRecord_kept | apply State.endJob_kept
    | apply State.wrN_kept | simp only [Kept.lit_iff] | apply Kept.upd_eng | apply Kept.ite | apply Kept.foldl | rfl

theorem State.ringCfgCmd_kept {e : Engine} {inst master value : Nat} {ch : Nat → Nat → Bool} (hF : [.regs, .wos, .lockWins,
    .accWin, .cells, .lines, .store, .eng, .locket, .wake, .out] ⊆ F) (kp : Kept F s0 s) : Kept F s0 (State.ringCfgCmd s e inst
    master value ch) := by
  unfold State.ringCfgCmd
  with_reducible repeat' first
    | assumption | exact Part.le hF | intro x a (_ : Kept F s0 x) | apply State.regCmd_kept | apply State.ringCfgEffect_kept
    | apply Kept.ite

theorem execRingEnableSet_kept {e : Engine} {inst master value : Nat} (hF : [.regs, .wos, .lockWins, .accWin, .cells, .lines,
    .store, .eng, .locket, .wake, .out] ⊆ F) (kp : Kept F s0 s) : KeptR F s0 (execRingEnableSet e inst master value s) := by
  unfold execRingEnableSet
  with_reducible repeat' first
    | assumption | exact Part.le hF | intro x (_ : Kept F s0 x) | apply KeptR.actIf | apply State.ringCfgCmd_kept

theorem execRingEnableClear_kept {e : Engine} {inst master value : Nat} (hF : [.regs, .wos, .lockWins, .accWin, .cells, .lines,
    .store, .eng, .locket, .wake, .out] ⊆ F) (kp : Kept F s0 s) : KeptR F s0 (execRingEnableClear e inst master value s) := by
  unfold execRingEnableClear
  with_reducible repeat' first
    | assumption | exact Part.le hF | intro x (_ : Kept F s0 x) | apply KeptR.actIf | apply State.ringCfgCmd_kept

theorem execCringEnableSet_kept {e : Engine} {inst master value : Nat} (hF : [.regs, .wos, .lockWins, .accWin, .cells, .lines,
    .store, .eng, .locket, .wake, .out] ⊆ F) (kp : Kept F s0 s) : KeptR F s0 (execCringEnableSet e inst master value s) := by
  unfold execCringEnableSet
  with_reducible repeat' first
    | assumption | exact Part.le hF | intro x (_ : Kept F s0 x) | apply KeptR.actIf | apply State.ringCfgCmd_kept

theorem execCringEnableClear_kept {e : Engine} {inst master value : Nat} (hF : [.regs, .wos, .lockWins, .accWin, .cells, .lines,
    .store, .eng, .locket, .wake, .out] ⊆ F) (kp : Kept F s0 s) : KeptR F s0 (execCringEnableClear e inst master value s) := by
  unfold execCringEnableClear
  with_reducible repeat' first
    | assumption | exact Part.le hF | intro x (_ : Kept F s0 x) | apply KeptR.actIf | apply State.ringCfgCmd_kept

theorem execCringIrqClear_kept {e : Engine} {inst : Nat} {hi : Bool} {master value : Nat} (hF : [.regs, .wos, .lockWins, .cells,
    .lines, .locket, .wake] ⊆ F) (kp : Kept F s0 s) : KeptR F s0 (execCringIrqClear e inst hi master value s) := by
  unfold execCringIrqClear
  with_reducible repeat' first
    | assumption | exact Part.le hF | intro x (_ : Kept F s0 x) | intro x a (_ : Kept F s0 x) | apply KeptR.actIf
    | apply State.persistIrq_kept | apply State.regCmd_kept

theorem State.engineCfgCmd_kept {e : Engine} {inst master value : Nat} {ch : Bool → Bool → Bool} (hF : [.regs, .wos, .lockWins,
    .cells, .lines, .locket, .wake] ⊆ F) (kp : Kept F s0 s) : Kept F s0 (State.engineCfgCmd s e inst master value ch) := by
  unfold State.engineCfgCmd
  with_reducible repeat' first
    | assumption | exact Part.le hF | apply State.regWrite_kept | apply Kept.ite

theorem execEngineEnableSet_kept {e : Engine} {inst master value : Nat} (hF : [.regs, .wos, .lockWins, .cells, .lines, .locket,
    .wake] ⊆ F) (kp : Kept F s0 s) : KeptR F s0 (execEngineEnableSet e inst master value s) := by
  unfold execEngineEnableSet
  with_reducible repeat' first
    | assumption | exact Part.le hF | intro x (_ : Kept F s0 x) | apply KeptR.actIf | apply State.engineCfgCmd_kept

theorem execEngineEnableClear_kept {e : Engine} {inst master value : Nat} (hF : [.regs, .wos, .lockWins, .cells, .lines,
    .locket, .wake] ⊆ F) (kp : Kept F s0 s) : KeptR F s0 (execEngineEnableClear e inst master value s) := by
  unfold execEngineEnableClear
  with_reducible repeat' first
    | assumption | exact Part.le hF | intro x (_ : Kept F s0 x) | apply KeptR.actIf | apply State.engineCfgCmd_kept

/-! ### Operands -/

theorem ListScan.line_kept {w : Acc} {x : ListScan} {addr : Nat} (hF : [.regs, .accWin, .cells, .lines, .store, .locket, .wake, .fresh] ⊆ F) (kp : Kept F s0 x.st) : Kept F s0 (ListScan.line w x addr).st := by
  unfold ListScan.line
  split
  · exact kp
  · have h := State.readBytes_kept (Part.le hF) (w := w) (addr := addr) (n := 64) kp
    lift_lets
    intro r
    split
    · exact h
    · refine List.foldlRecOn (motive := fun y : ListScan => Kept F s0 y.st) _ _ h fun y hy i _ => ?_
      unfold ListScan.entry
      split
      · exact hy
      · split <;> exact hy

theorem State.areas_kept {w : Acc} {isList : Bool} {addr need : Nat} (hF : [.regs, .accWin, .cells, .lines, .store, .locket, .wake, .fresh] ⊆ F) (kp : Kept F s0 s) :
    Kept F s0 (s.areas w isList addr need).1 := by
  unfold State.areas
  split
  · exact kp
  · split
    · exact kp
    · lift_lets
      intro x
      have hx : Kept F s0 x.st := List.foldlRecOn (motive := fun y : ListScan => Kept F s0 y.st) _ _ kp fun y hy k _ => ListScan.line_kept (Part.le hF) hy
      split <;> exact hx

theorem State.readAreas_kept {w : Acc} {as : List (Nat × Nat)} (hF : [.regs, .accWin, .cells, .lines, .store, .locket, .wake,
    .fresh] ⊆ F) (kp : Kept F s0 s) : Kept F s0 (State.readAreas s w as).1 := by
  unfold State.readAreas
  with_reducible repeat' first
    | assumption | exact Part.le hF | intro y a (_ : Kept F s0 y.1) | apply State.readBytes_kept | apply Kept.foldl_fst

theorem State.writeAreas_kept {w : Acc} {as : List (Nat × Nat)} {data : List Byte} (hF : [.regs, .accWin, .cells, .lines, .store, .locket, .wake, .out] ⊆ F) (kp : Kept F s0 s) :
    Kept F s0 (s.writeAreas w as data).1 := by
  unfold State.writeAreas
  refine Kept.foldl_fst_fst kp fun y a hy => ?_
  exact State.writeBytes_kept (Part.le hF) hy

/-! ### Beads -/

theorem execAdd_kept {bead : Nat} (hF : [.regs, .cells, .lines, .locket, .wake, .bd] ⊆ F) (kp : Kept F s0 s) : KeptR F s0
    (execAdd bead s) := by
  unfold execAdd
  with_reducible repeat' first
    | assumption | exact Part.le hF | apply alu_kept

theorem execSub_kept {bead : Nat} (hF : [.regs, .cells, .lines, .locket, .wake, .bd] ⊆ F) (kp : Kept F s0 s) : KeptR F s0
    (execSub bead s) := by
  unfold execSub
  with_reducible repeat' first
    | assumption | exact Part.le hF | apply alu_kept

theorem execAnd_kept {bead : Nat} (hF : [.regs, .cells, .lines, .locket, .wake, .bd] ⊆ F) (kp : Kept F s0 s) : KeptR F s0
    (execAnd bead s) := by
  unfold execAnd
  with_reducible repeat' first
    | assumption | exact Part.le hF | apply alu_kept

theorem execOr_kept {bead : Nat} (hF : [.regs, .cells, .lines, .locket, .wake, .bd] ⊆ F) (kp : Kept F s0 s) : KeptR F s0 (execOr
    bead s) := by
  unfold execOr
  with_reducible repeat' first
    | assumption | exact Part.le hF | apply alu_kept

theorem execXor_kept {bead : Nat} (hF : [.regs, .cells, .lines, .locket, .wake, .bd] ⊆ F) (kp : Kept F s0 s) : KeptR F s0
    (execXor bead s) := by
  unfold execXor
  with_reducible repeat' first
    | assumption | exact Part.le hF | apply alu_kept

theorem execShl_kept {bead : Nat} (hF : [.regs, .cells, .lines, .locket, .wake, .bd] ⊆ F) (kp : Kept F s0 s) : KeptR F s0
    (execShl bead s) := by
  unfold execShl
  with_reducible repeat' first
    | assumption | exact Part.le hF | apply alu_kept

theorem execShr_kept {bead : Nat} (hF : [.regs, .cells, .lines, .locket, .wake, .bd] ⊆ F) (kp : Kept F s0 s) : KeptR F s0
    (execShr bead s) := by
  unfold execShr
  with_reducible repeat' first
    | assumption | exact Part.le hF | apply alu_kept

theorem execSra_kept {bead : Nat} (hF : [.regs, .cells, .lines, .locket, .wake, .bd] ⊆ F) (kp : Kept F s0 s) : KeptR F s0
    (execSra bead s) := by
  unfold execSra
  with_reducible repeat' first
    | assumption | exact Part.le hF | apply alu_kept

theorem execSlt_kept {bead : Nat} (hF : [.regs, .cells, .lines, .locket, .wake, .bd] ⊆ F) (kp : Kept F s0 s) : KeptR F s0
    (execSlt bead s) := by
  unfold execSlt
  with_reducible repeat' first
    | assumption | exact Part.le hF | apply alu_kept

theorem execSltu_kept {bead : Nat} (hF : [.regs, .cells, .lines, .locket, .wake, .bd] ⊆ F) (kp : Kept F s0 s) : KeptR F s0
    (execSltu bead s) := by
  unfold execSltu
  with_reducible repeat' first
    | assumption | exact Part.le hF | apply alu_kept

theorem execAddi_kept {bead : Nat} (hF : [.regs, .cells, .lines, .locket, .wake, .bd] ⊆ F) (kp : Kept F s0 s) : KeptR F s0
    (execAddi bead s) := by
  unfold execAddi
  with_reducible repeat' first
    | assumption | exact Part.le hF | apply aluImm_kept

theorem execAndi_kept {bead : Nat} (hF : [.regs, .cells, .lines, .locket, .wake, .bd] ⊆ F) (kp : Kept F s0 s) : KeptR F s0
    (execAndi bead s) := by
  unfold execAndi
  with_reducible repeat' first
    | assumption | exact Part.le hF | apply aluImm_kept

theorem execLui_kept {bead : Nat} (hF : [.regs, .cells, .lines, .locket, .wake, .bd] ⊆ F) (kp : Kept F s0 s) : KeptR F s0
    (execLui bead s) := by
  unfold execLui
  with_reducible repeat' first
    | assumption | exact Part.le hF | apply beadOp_kept

theorem execMul_kept {bead : Nat} (hF : [.regs, .cells, .lines, .locket, .wake, .bd] ⊆ F) (kp : Kept F s0 s) : KeptR F s0
    (execMul bead s) := by
  unfold execMul
  with_reducible repeat' first
    | assumption | exact Part.le hF | apply alu_kept

theorem execMulhu_kept {bead : Nat} (hF : [.regs, .cells, .lines, .locket, .wake, .bd] ⊆ F) (kp : Kept F s0 s) : KeptR F s0
    (execMulhu bead s) := by
  unfold execMulhu
  with_reducible repeat' first
    | assumption | exact Part.le hF | apply alu_kept

theorem execDivu_kept {bead : Nat} (hF : [.regs, .cells, .lines, .locket, .wake, .bd] ⊆ F) (kp : Kept F s0 s) : KeptR F s0
    (execDivu bead s) := by
  unfold execDivu
  with_reducible repeat' first
    | assumption | exact Part.le hF | apply alu_kept

theorem execPopc_kept {bead : Nat} (hF : [.regs, .cells, .lines, .locket, .wake, .bd] ⊆ F) (kp : Kept F s0 s) : KeptR F s0
    (execPopc bead s) := by
  unfold execPopc
  with_reducible repeat' first
    | assumption | exact Part.le hF | apply beadOp_kept

theorem execClz_kept {bead : Nat} (hF : [.regs, .cells, .lines, .locket, .wake, .bd] ⊆ F) (kp : Kept F s0 s) : KeptR F s0
    (execClz bead s) := by
  unfold execClz
  with_reducible repeat' first
    | assumption | exact Part.le hF | apply beadOp_kept

theorem execCrcw_kept {bead : Nat} (hF : [.regs, .cells, .lines, .locket, .wake, .bd] ⊆ F) (kp : Kept F s0 s) : KeptR F s0
    (execCrcw bead s) := by
  unfold execCrcw
  with_reducible repeat' first
    | assumption | exact Part.le hF | apply alu_kept

theorem execLdw_kept {bead : Nat} {flip : Word} (hF : [.regs, .cells, .lines, .locket, .wake, .bd] ⊆ F) (kp : Kept F s0 s) :
    KeptR F s0 (execLdw bead flip s) := by
  unfold execLdw
  with_reducible repeat' first
    | assumption | exact Part.le hF | intro x a b (_ : Kept F s0 x) | apply State.logI_kept | apply beadAct_kept
    | apply KeptB.ok | apply KeptB.error | split

theorem execStw_kept {bead : Nat} (hF : [.regs, .cells, .lines, .locket, .wake, .bd] ⊆ F) (kp : Kept F s0 s) : KeptR F s0
    (execStw bead s) := by
  unfold execStw
  with_reducible repeat' first
    | assumption | exact Part.le hF | apply beadOp_kept

theorem execLdt_kept {bead : Nat} (hF : [.regs, .cells, .lines, .locket, .wake, .bd] ⊆ F) (kp : Kept F s0 s) : KeptR F s0
    (execLdt bead s) := by
  unfold execLdt
  with_reducible repeat' first
    | assumption | exact Part.le hF | apply beadOp_kept

theorem branch_kept {op n : Nat} {cond : Word → Word → Bool} (hF : [.regs, .cells, .lines, .locket, .wake, .bd] ⊆ F) (kp : Kept
    F s0 s) : KeptR F s0 (branch op n s cond) := by
  unfold branch
  with_reducible repeat' first
    | exact Part.le hF | intro x a b (_ : Kept F s0 x) | apply beadAct_kept | simp only [Kept.lit_iff] | split
    | apply_assumption | rfl

theorem execBeq_kept {bead : Nat} (hF : [.regs, .cells, .lines, .locket, .wake, .bd] ⊆ F) (kp : Kept F s0 s) : KeptR F s0
    (execBeq bead s) := by
  unfold execBeq
  with_reducible repeat' first
    | assumption | exact Part.le hF | apply branch_kept

theorem execBne_kept {bead : Nat} (hF : [.regs, .cells, .lines, .locket, .wake, .bd] ⊆ F) (kp : Kept F s0 s) : KeptR F s0
    (execBne bead s) := by
  unfold execBne
  with_reducible repeat' first
    | assumption | exact Part.le hF | apply branch_kept

theorem execBlt_kept {bead : Nat} (hF : [.regs, .cells, .lines, .locket, .wake, .bd] ⊆ F) (kp : Kept F s0 s) : KeptR F s0
    (execBlt bead s) := by
  unfold execBlt
  with_reducible repeat' first
    | assumption | exact Part.le hF | apply branch_kept

theorem execBltu_kept {bead : Nat} (hF : [.regs, .cells, .lines, .locket, .wake, .bd] ⊆ F) (kp : Kept F s0 s) : KeptR F s0
    (execBltu bead s) := by
  unfold execBltu
  with_reducible repeat' first
    | assumption | exact Part.le hF | apply branch_kept

theorem execJal_kept {bead : Nat} (hF : [.regs, .cells, .lines, .locket, .wake, .bd] ⊆ F) (kp : Kept F s0 s) : KeptR F s0
    (execJal bead s) := by
  unfold execJal
  with_reducible repeat' first
    | exact Part.le hF | intro x a b (_ : Kept F s0 x) | apply beadAct_kept | apply_assumption

theorem execJr_kept {bead : Nat} (hF : [.regs, .cells, .lines, .locket, .wake, .bd] ⊆ F) (kp : Kept F s0 s) : KeptR F s0 (execJr
    bead s) := by
  unfold execJr
  with_reducible repeat' first
    | exact Part.le hF | intro x a b (_ : Kept F s0 x) | apply beadAct_kept | simp only [Kept.lit_iff] | split
    | apply_assumption | rfl

theorem State.sendTo_kept {p q : Nat} {m : List PW} (hF : [.bd] ⊆ F) (kp : Kept F s0 s) : Kept F s0 (State.sendTo s p q m) := by
  unfold State.sendTo
  with_reducible repeat' first
    | assumption | exact Part.le hF | apply State.setBead_kept

theorem execSnd_kept {bead : Nat} (hF : [.regs, .cells, .lines, .locket, .wake, .bd] ⊆ F) (kp : Kept F s0 s) : KeptR F s0
    (execSnd bead s) := by
  unfold execSnd
  with_reducible repeat' first
    | assumption | exact Part.le hF | intro x a b (_ : Kept F s0 x) | apply State.sendTo_kept | apply beadAct_kept
    | apply KeptB.ite | apply KeptB.ok | apply KeptB.error | split

theorem execSndUnstall_kept {bead : Nat} (hF : [.bd] ⊆ F) (kp : Kept F s0 s) : KeptR F s0 (execSndUnstall bead s) := by
  unfold execSndUnstall
  with_reducible repeat' first
    | assumption | exact Part.le hF | intro x (_ : Kept F s0 x) | apply KeptR.actIf | apply State.sendTo_kept
    | apply State.setBead_kept | simp only [Kept.lit_iff] | apply KeptR.next | split | rfl

theorem execSendStallTimeout_kept {bead : Nat} (hF : [.regs, .cells, .lines, .locket, .wake, .bd] ⊆ F) (kp : Kept F s0 s) :
    KeptR F s0 (execSendStallTimeout bead s) := by
  unfold execSendStallTimeout
  with_reducible repeat' first
    | assumption | exact Part.le hF | intro x (_ : Kept F s0 x) | apply KeptR.actIf | apply State.logI_kept
    | apply State.setBead_kept | simp only [Kept.lit_iff] | apply KeptR.next | split | rfl

theorem execRcv_kept {bead : Nat} (hF : [.regs, .cells, .lines, .locket, .wake, .bd] ⊆ F) (kp : Kept F s0 s) : KeptR F s0
    (execRcv bead s) := by
  unfold execRcv
  with_reducible repeat' first
    | exact Part.le hF | intro x a b (_ : Kept F s0 x) | apply beadAct_kept | split | apply_assumption

theorem execRcvWake_kept {bead : Nat} (hF : [.bd] ⊆ F) (kp : Kept F s0 s) : KeptR F s0 (execRcvWake bead s) := by
  unfold execRcvWake
  with_reducible repeat' first
    | assumption | exact Part.le hF | intro x (_ : Kept F s0 x) | apply KeptR.actIf | apply State.setBead_kept
    | simp only [Kept.lit_iff] | apply KeptR.next | split | rfl

theorem execQwait_kept {bead : Nat} (hF : [.regs, .cells, .lines, .locket, .wake, .bd] ⊆ F) (kp : Kept F s0 s) : KeptR F s0
    (execQwait bead s) := by
  unfold execQwait
  with_reducible repeat' first
    | exact Part.le hF | intro x a b (_ : Kept F s0 x) | apply beadAct_kept | split | apply_assumption

theorem execQwaitWake_kept {bead : Nat} (hF : [.bd] ⊆ F) (kp : Kept F s0 s) : KeptR F s0 (execQwaitWake bead s) := by
  unfold execQwaitWake
  with_reducible repeat' first
    | assumption | exact Part.le hF | intro x (_ : Kept F s0 x) | apply KeptR.actIf | apply State.setBead_kept
    | simp only [Kept.lit_iff] | apply KeptR.next | split | rfl

theorem execQcnt_kept {bead : Nat} (hF : [.regs, .cells, .lines, .locket, .wake, .bd] ⊆ F) (kp : Kept F s0 s) : KeptR F s0
    (execQcnt bead s) := by
  unfold execQcnt
  with_reducible repeat' first
    | assumption | exact Part.le hF | apply beadOp_kept

theorem execTset_kept {bead : Nat} (hF : [.regs, .cells, .lines, .locket, .wake, .bd] ⊆ F) (kp : Kept F s0 s) : KeptR F s0
    (execTset bead s) := by
  unfold execTset
  with_reducible repeat' first
    | exact Part.le hF | intro x a b (_ : Kept F s0 x) | apply beadAct_kept | simp only [Kept.lit_iff] | split
    | apply_assumption | rfl

theorem execTstop_kept {bead : Nat} (hF : [.regs, .cells, .lines, .locket, .wake, .bd] ⊆ F) (kp : Kept F s0 s) : KeptR F s0
    (execTstop bead s) := by
  unfold execTstop
  with_reducible repeat' first
    | assumption | exact Part.le hF | apply beadOp_kept

theorem execTrd_kept {bead : Nat} (hF : [.regs, .cells, .lines, .locket, .wake, .bd] ⊆ F) (kp : Kept F s0 s) : KeptR F s0
    (execTrd bead s) := by
  unfold execTrd
  with_reducible repeat' first
    | exact Part.le hF | intro x a b (_ : Kept F s0 x) | apply beadAct_kept | split | apply_assumption

theorem execEarm_kept {bead : Nat} (hF : [.regs, .cells, .lines, .locket, .wake, .bd] ⊆ F) (kp : Kept F s0 s) : KeptR F s0
    (execEarm bead s) := by
  unfold execEarm
  with_reducible repeat' first
    | exact Part.le hF | intro x a b (_ : Kept F s0 x) | apply beadAct_kept | split | apply_assumption

theorem execErd_kept {bead : Nat} (hF : [.regs, .cells, .lines, .locket, .wake, .bd] ⊆ F) (kp : Kept F s0 s) : KeptR F s0
    (execErd bead s) := by
  unfold execErd
  with_reducible repeat' first
    | assumption | exact Part.le hF | apply beadOp_kept

theorem execFld_kept {bead : Nat} (hF : [.regs, .accWin, .cells, .lines, .locket, .wake, .bd] ⊆ F) (kp : Kept F s0 s) : KeptR F
    s0 (execFld bead s) := by
  unfold execFld
  with_reducible repeat' first
    | assumption | exact Part.le hF | intro x a b (_ : Kept F s0 x) | apply State.accessRefused_kept | apply beadAct_kept
    | apply KeptB.ite | apply KeptB.ok | apply KeptB.error | split

theorem execFldDataReturn_kept {bead : Nat} {u : Upset} {ext : List Byte} (hF : [.regs, .cells, .lines, .store, .locket, .wake,
    .bd] ⊆ F) (kp : Kept F s0 s) : KeptR F s0 (execFldDataReturn bead u ext s) := by
  unfold execFldDataReturn
  with_reducible repeat' first
    | assumption | exact Part.le hF | intro x (_ : Kept F s0 x) | apply KeptR.actIf | apply State.err_kept
    | apply State.readLine_kept | apply State.setBead_kept | simp only [Kept.lit_iff] | apply KeptR.next | split | rfl

theorem execFst_kept {bead : Nat} (hF : [.regs, .accWin, .cells, .lines, .store, .locket, .wake, .bd, .out] ⊆ F) (kp : Kept F s0
    s) : KeptR F s0 (execFst bead s) := by
  unfold execFst
  with_reducible repeat' first
    | assumption | exact Part.le hF | intro x a b (_ : Kept F s0 x) | apply State.accessRefused_kept | apply State.emit_kept
    | apply State.err_kept | apply State.setLine_kept | apply State.writeLine_kept | apply beadAct_kept | apply KeptB.ite
    | apply KeptB.ok | apply KeptB.error | split

theorem State.pushDesc_kept {master p n : Nat} {desc : List Byte} (hF : [.regs, .accWin, .cells, .lines, .store, .locket, .wake,
    .out] ⊆ F) (kp : Kept F s0 s) : Kept F s0 (State.pushDesc s master p n desc) := by
  unfold State.pushDesc
  with_reducible repeat' first
    | assumption | exact Part.le hF | apply State.wrN_kept | apply State.writeBytes_kept

theorem execJsub_kept {bead : Nat} (hF : [.regs, .accWin, .cells, .lines, .store, .locket, .wake, .bd, .out] ⊆ F) (kp : Kept F
    s0 s) : KeptR F s0 (execJsub bead s) := by
  unfold execJsub
  with_reducible repeat' first
    | assumption | exact Part.le hF | intro x a b (_ : Kept F s0 x) | apply State.pushDesc_kept | apply beadAct_kept
    | apply KeptB.ite | apply KeptB.ok | apply KeptB.error | split

theorem execJsubUnstall_kept {bead : Nat} (hF : [.regs, .accWin, .cells, .lines, .store, .locket, .wake, .bd, .out] ⊆ F) (kp :
    Kept F s0 s) : KeptR F s0 (execJsubUnstall bead s) := by
  unfold execJsubUnstall
  with_reducible repeat' first
    | assumption | exact Part.le hF | intro x (_ : Kept F s0 x) | apply KeptR.actIf | apply State.pushDesc_kept
    | apply State.setBead_kept | simp only [Kept.lit_iff] | apply KeptR.next | split | rfl

theorem execFnc_kept {bead : Nat} (hF : [.regs, .cells, .lines, .locket, .wake, .bd] ⊆ F) (kp : Kept F s0 s) : KeptR F s0
    (execFnc bead s) := by
  unfold execFnc
  with_reducible repeat' first
    | exact Part.le hF | intro x a b (_ : Kept F s0 x) | apply beadAct_kept | apply_assumption

theorem execFncAccept_kept {bead : Nat} (hF : [.bd] ⊆ F) (kp : Kept F s0 s) : KeptR F s0 (execFncAccept bead s) := by
  unfold execFncAccept
  with_reducible repeat' first
    | assumption | exact Part.le hF | intro x (_ : Kept F s0 x) | apply KeptR.actIf | apply State.setBead_kept

theorem vecOp_kept {op n : Nat} {f : Word → Word → Word} (hF : [.regs, .cells, .lines, .locket, .wake, .bd] ⊆ F) (kp : Kept F s0
    s) : KeptR F s0 (vecOp op n s f) := by
  unfold vecOp
  with_reducible repeat' first
    | assumption | exact Part.le hF | apply beadOp_kept

theorem execVadd_kept {bead : Nat} (hF : [.regs, .cells, .lines, .locket, .wake, .bd] ⊆ F) (kp : Kept F s0 s) : KeptR F s0
    (execVadd bead s) := by
  unfold execVadd
  with_reducible repeat' first
    | assumption | exact Part.le hF | apply vecOp_kept

theorem execVxor_kept {bead : Nat} (hF : [.regs, .cells, .lines, .locket, .wake, .bd] ⊆ F) (kp : Kept F s0 s) : KeptR F s0
    (execVxor bead s) := by
  unfold execVxor
  with_reducible repeat' first
    | assumption | exact Part.le hF | apply vecOp_kept

theorem execVand_kept {bead : Nat} (hF : [.regs, .cells, .lines, .locket, .wake, .bd] ⊆ F) (kp : Kept F s0 s) : KeptR F s0
    (execVand bead s) := by
  unfold execVand
  with_reducible repeat' first
    | assumption | exact Part.le hF | apply vecOp_kept

theorem execVbc_kept {bead : Nat} (hF : [.regs, .cells, .lines, .locket, .wake, .bd] ⊆ F) (kp : Kept F s0 s) : KeptR F s0
    (execVbc bead s) := by
  unfold execVbc
  with_reducible repeat' first
    | assumption | exact Part.le hF | apply beadOp_kept

theorem execVext_kept {bead : Nat} (hF : [.regs, .cells, .lines, .locket, .wake, .bd] ⊆ F) (kp : Kept F s0 s) : KeptR F s0
    (execVext bead s) := by
  unfold execVext
  with_reducible repeat' first
    | assumption | exact Part.le hF | apply beadOp_kept

theorem execVins_kept {bead : Nat} (hF : [.regs, .cells, .lines, .locket, .wake, .bd] ⊆ F) (kp : Kept F s0 s) : KeptR F s0
    (execVins bead s) := by
  unfold execVins
  with_reducible repeat' first
    | assumption | exact Part.le hF | apply beadOp_kept

theorem execVshuf_kept {bead : Nat} (hF : [.regs, .cells, .lines, .locket, .wake, .bd] ⊆ F) (kp : Kept F s0 s) : KeptR F s0
    (execVshuf bead s) := by
  unfold execVshuf
  with_reducible repeat' first
    | assumption | exact Part.le hF | apply beadOp_kept

theorem execGfmac_kept {bead : Nat} (hF : [.regs, .cells, .lines, .locket, .wake, .bd] ⊆ F) (kp : Kept F s0 s) : KeptR F s0
    (execGfmac bead s) := by
  unfold execGfmac
  with_reducible repeat' first
    | assumption | exact Part.le hF | apply beadOp_kept

theorem execEbnd_kept {bead : Nat} (hF : [.regs, .cells, .lines, .locket, .wake, .bd] ⊆ F) (kp : Kept F s0 s) : KeptR F s0
    (execEbnd bead s) := by
  unfold execEbnd
  with_reducible repeat' first
    | exact Part.le hF | intro x a b (_ : Kept F s0 x) | apply beadAct_kept | apply_assumption

theorem execHalt_kept {bead : Nat} (hF : [.regs, .cells, .lines, .locket, .wake, .bd] ⊆ F) (kp : Kept F s0 s) : KeptR F s0
    (execHalt bead s) := by
  unfold execHalt
  with_reducible repeat' first
    | exact Part.le hF | intro x a b (_ : Kept F s0 x) | apply beadAct_kept | apply_assumption

theorem execUndefinedOpcode_kept {bead : Nat} (hF : [.regs, .cells, .lines, .locket, .wake, .bd] ⊆ F) (kp : Kept F s0 s) : KeptR
    F s0 (execUndefinedOpcode bead s) := by
  unfold execUndefinedOpcode
  with_reducible repeat' first
    | assumption | exact Part.le hF | intro x (_ : Kept F s0 x) | apply KeptR.actIf | apply State.beadFault_kept

theorem State.advanceTo_kept {t : Nat} (hF : [.gts, .cal] ⊆ F) (kp : Kept F s0 s) : Kept F s0 (State.advanceTo s t) := by
  unfold State.advanceTo
  with_reducible repeat' first
    | assumption | exact Part.le hF | simp only [Kept.lit_iff] | apply Kept.upd_time | rfl

theorem execTimerExpiry_kept {bead slot : Nat} (hF : [.gts, .cal, .bd] ⊆ F) (kp : Kept F s0 s) : KeptR F s0 (execTimerExpiry
    bead slot s) := by
  unfold execTimerExpiry
  with_reducible repeat' first
    | assumption | exact Part.le hF | intro x (_ : Kept F s0 x) | apply KeptR.actIf | apply State.advanceTo_kept
    | apply State.setBead_kept

theorem execEdgeEvent_kept {cluster line : Nat} {level : Bool} (hF : [.regs, .bd] ⊆ F) (kp : Kept F s0 s) : KeptR F s0
    (execEdgeEvent cluster line level s) := by
  unfold execEdgeEvent
  with_reducible repeat' first
    | assumption | exact Part.le hF | intro x (_ : Kept F s0 x) | apply KeptR.actIf | apply State.setLine'_kept

end Sys2Proof.Machine
end

