-- ==== Sys2Proof/Machine/KeptStores.lean ====
section
/-! DEFINITION. What every command keeps, kept by the commands of Clasp, the Locket, strands, power, boot and Cipher. The file holds theorems alone, no
definition: it stands beside the functions it speaks of, so that who mends one mends its theorem with it. -/
namespace Sys2Proof.Machine

set_option Elab.async false
variable {F : List Part} {s0 s t : State}

/-! ### Clasp -/

theorem State.setOstat_kept {c b : Nat} {v : Bool} (hF : [.regs] ⊆ F) (kp : Kept F s0 s) : Kept F s0 (State.setOstat s c b v) :=
    by
  unfold State.setOstat
  with_reducible repeat' first
    | assumption | exact Part.le hF | apply State.wb_kept

theorem State.endGo_kept {c code : Nat} (hF : [.regs] ⊆ F) (kp : Kept F s0 s) : Kept F s0 (State.endGo s c code) := by
  unfold State.endGo
  with_reducible repeat' first
    | assumption | exact Part.le hF | apply State.setOstat_kept | apply State.wf_kept | apply State.wrN_kept

theorem State.wakeReceiver_kept {c us : Nat} (hF : [.regs, .cells, .lines, .locket, .wake, .power] ⊆ F) (kp : Kept F s0 s) :
    Kept F s0 (State.wakeReceiver s c us) := by
  unfold State.wakeReceiver
  with_reducible repeat' first
    | assumption | exact Part.le hF | apply State.log_kept | apply State.requestOn_kept | apply State.setOstat_kept
    | simp only [Kept.lit_iff] | apply Kept.upd_wake | apply Kept.ite | apply Kept.foldl | intro x (_ : Kept F s0 x)
    | intro x a (_ : Kept F s0 x) | intro x a b c (_ : Kept F s0 x) | rfl

theorem State.latchIn_kept {c sender : Nat} {words : List Nat} (hF : [.regs] ⊆ F) (kp : Kept F s0 s) : Kept F s0 (State.latchIn
    s c sender words) := by
  unfold State.latchIn
  with_reducible repeat' first
    | assumption | exact Part.le hF | intro x a (_ : Kept F s0 x) | apply State.wb_kept | apply State.wrN_kept
    | apply Kept.foldl

theorem State.reply_kept {c : Nat} (hF : [.regs] ⊆ F) (kp : Kept F s0 s) : Kept F s0 (State.reply s c) := by
  unfold State.reply
  with_reducible repeat' first
    | assumption | exact Part.le hF | intro x a (_ : Kept F s0 x) | apply State.setOstat_kept | apply Kept.ite
    | apply Kept.foldl

theorem State.checkCrossed_kept {c : Nat} (hF : [.regs, .cells, .lines, .locket, .wake] ⊆ F) (kp : Kept F s0 s) : Kept F s0
    (State.checkCrossed s c) := by
  unfold State.checkCrossed
  with_reducible repeat' first
    | assumption | exact Part.le hF | intro x a (_ : Kept F s0 x) | apply State.countSat_kept | apply State.irq_kept
    | apply State.log_kept | apply State.setOstat_kept | apply State.wb_kept | apply Kept.ite | apply Kept.foldl

theorem State.deliver_kept {c wakeUs : Nat} (hF : [.regs, .cells, .lines, .locket, .wake, .power] ⊆ F) (kp : Kept F s0 s) : Kept
    F s0 (State.deliver s c wakeUs) := by
  unfold State.deliver
  with_reducible repeat' first
    | assumption | exact Part.le hF | apply State.endGo_kept | apply State.latchIn_kept | apply State.reply_kept
    | apply State.setOstat_kept | apply State.wakeReceiver_kept | apply Kept.ite

theorem State.go_kept {c wakeUs : Nat} (hF : [.regs, .cells, .lines, .locket, .wake, .power, .out] ⊆ F) (kp : Kept F s0 s) :
    Kept F s0 (State.go s c wakeUs) := by
  unfold State.go
  with_reducible repeat' first
    | assumption | exact Part.le hF | apply State.checkCrossed_kept | apply State.deliver_kept | apply State.emit_kept
    | apply State.endGo_kept | apply State.setOstat_kept | apply State.wakeReceiver_kept | apply State.wf_kept
    | apply Kept.ite

theorem execClaspGo_kept {master c value wakeUs : Nat} (hF : [.regs, .wos, .lockWins, .cells, .lines, .locket, .wake, .power,
    .out] ⊆ F) (kp : Kept F s0 s) : KeptR F s0 (execClaspGo master c value wakeUs s) := by
  unfold execClaspGo
  with_reducible repeat' first
    | assumption | exact Part.le hF | intro x (_ : Kept F s0 x) | apply KeptR.actIf | apply State.endGo_kept
    | apply State.go_kept | apply State.regWrite_kept | apply State.wf_kept | simp only [Kept.lit_iff] | split
    | refine Kept.of_pair ?_ ‹_ = (_, _)› | rfl

theorem State.deliverRemote_kept {c sender : Nat} {words : List Nat} {wakeUs : Nat} (hF : [.regs, .cells, .lines, .locket,
    .wake, .power, .out] ⊆ F) (kp : Kept F s0 s) : Kept F s0 (State.deliverRemote s c sender words wakeUs) := by
  unfold State.deliverRemote
  with_reducible repeat' first
    | assumption | exact Part.le hF | apply State.emit_kept | apply State.latchIn_kept | apply State.reply_kept
    | apply State.wakeReceiver_kept

theorem execClaspInRel_kept {master c value wakeUs : Nat} (hF : [.regs, .wos, .lockWins, .cells, .lines, .locket, .wake, .power,
    .clasp, .out] ⊆ F) (kp : Kept F s0 s) : KeptR F s0 (execClaspInRel master c value wakeUs s) := by
  unfold execClaspInRel
  with_reducible repeat' first
    | assumption | exact Part.le hF | intro x (_ : Kept F s0 x) | intro x a (_ : Kept F s0 x) | apply KeptR.actIf
    | apply State.deliverRemote_kept | apply State.deliver_kept | apply State.regCmd_kept | apply State.wb_kept
    | simp only [Kept.lit_iff] | apply Kept.upd_clasp | split | rfl

theorem execClaspTimeoutExpiry_kept {c : Nat} (hF : [.regs, .cells, .lines, .locket, .wake] ⊆ F) (kp : Kept F s0 s) : KeptR F s0
    (execClaspTimeoutExpiry c s) := by
  unfold execClaspTimeoutExpiry
  with_reducible repeat' first
    | assumption | exact Part.le hF | intro x (_ : Kept F s0 x) | apply KeptR.actIf | apply State.countSat_kept
    | apply State.endGo_kept | apply State.irq_kept | apply State.log_kept

theorem execRemoteClaspMessage_kept {c sender : Nat} {words : List Nat} {wakeUs : Nat} (hF : [.regs, .cells, .lines, .locket,
    .wake, .power, .clasp, .out] ⊆ F) (kp : Kept F s0 s) : KeptR F s0 (execRemoteClaspMessage c sender words wakeUs s) := by
  unfold execRemoteClaspMessage
  with_reducible repeat' first
    | assumption | exact Part.le hF | intro x (_ : Kept F s0 x) | apply KeptR.actIf | apply State.deliverRemote_kept
    | apply State.emit_kept | apply State.wakeReceiver_kept | simp only [Kept.lit_iff] | apply Kept.upd_clasp | apply Kept.ite
    | rfl

theorem execRemoteLatchAck_kept {c : Nat} {latched : Bool} (hF : [.regs] ⊆ F) (kp : Kept F s0 s) : KeptR F s0
    (execRemoteLatchAck c latched s) := by
  unfold execRemoteLatchAck
  with_reducible repeat' first
    | assumption | exact Part.le hF | intro x (_ : Kept F s0 x) | apply KeptR.actIf | apply State.endGo_kept
    | apply State.reply_kept | apply State.setOstat_kept | apply Kept.ite

/-! ### Locket -/

theorem State.setLocket_kept {L : Locket} (hF : [.locket] ⊆ F) (kp : Kept F s0 s) : Kept F s0 (State.setLocket s L) := by
  unfold State.setLocket
  with_reducible repeat' first
    | assumption | exact Part.le hF | simp only [Kept.lit_iff] | apply Kept.upd_locket | rfl

theorem execLocketRecord_kept {gts source code : Nat} {payload : List Byte} (hF : [.regs, .cells, .lines, .locket, .wake] ⊆ F)
    (kp : Kept F s0 s) : KeptR F s0 (execLocketRecord gts source code payload s) := by
  unfold execLocketRecord
  with_reducible repeat' first
    | assumption | exact Part.le hF | intro x (_ : Kept F s0 x) | apply KeptR.act | apply State.accept_kept

theorem execLocketHandoverTimeout_kept (hF : [.regs, .locket, .wake] ⊆ F) (kp : Kept F s0 s) : KeptR F s0
    (execLocketHandoverTimeout s) := by
  unfold execLocketHandoverTimeout
  with_reducible repeat' first
    | assumption | exact Part.le hF | intro x (_ : Kept F s0 x) | apply KeptR.act | apply State.countSat_kept
    | apply State.irq_kept | apply State.setLocket_kept

theorem State.toVault_kept {page : List LkRec} (hF : [.locket] ⊆ F) (kp : Kept F s0 s) : Kept F s0 (State.toVault s page) := by
  unfold State.toVault
  with_reducible repeat' first
    | assumption | exact Part.le hF | apply State.setLocket_kept

theorem execSpillPage_kept (hF : [.regs, .cells, .lines, .locket, .wake] ⊆ F) (kp : Kept F s0 s) : KeptR F s0 (execSpillPage s)
    := by
  unfold execSpillPage
  with_reducible repeat' first
    | assumption | exact Part.le hF | intro x (_ : Kept F s0 x) | apply KeptR.actIf | apply State.log_kept
    | apply State.setLocket_kept | apply State.toVault_kept | simp only [Kept.lit_iff] | split | rfl

theorem execLocketSeqBaseHiWrite_kept {master value : Nat} (hF : [.regs, .wos, .lockWins, .cells, .lines, .locket, .wake] ⊆ F)
    (kp : Kept F s0 s) : KeptR F s0 (execLocketSeqBaseHiWrite master value s) := by
  unfold execLocketSeqBaseHiWrite
  with_reducible repeat' first
    | assumption | exact Part.le hF | intro x (_ : Kept F s0 x) | intro x a (_ : Kept F s0 x) | apply KeptR.act
    | apply State.regCmd_kept | apply State.setLocket_kept

theorem execLocketSeqNextLoRead_kept {master : Nat} (hF : [.regs, .out] ⊆ F) (kp : Kept F s0 s) : KeptR F s0
    (execLocketSeqNextLoRead master s) := by
  unfold execLocketSeqNextLoRead
  with_reducible repeat' first
    | assumption | exact Part.le hF | intro x (_ : Kept F s0 x) | apply KeptR.act | apply State.readCmd_kept
    | apply State.wrN_kept

theorem State.setWindow_kept {r : Option LkRec} (hF : [.regs] ⊆ F) (kp : Kept F s0 s) : Kept F s0 (State.setWindow s r) := by
  unfold State.setWindow
  with_reducible repeat' first
    | assumption | exact Part.le hF | intro x a (_ : Kept F s0 x) | apply State.wb_kept | apply State.wrN_kept
    | apply Kept.foldl

theorem execLocketWinData0Read_kept {master : Nat} (hF : [.regs, .out] ⊆ F) (kp : Kept F s0 s) : KeptR F s0
    (execLocketWinData0Read master s) := by
  unfold execLocketWinData0Read
  with_reducible repeat' first
    | assumption | exact Part.le hF | intro x (_ : Kept F s0 x) | apply KeptR.act | apply State.readCmd_kept
    | apply State.setWindow_kept | apply State.wb_kept | apply State.wr64_kept | apply Kept.ite

theorem execLocketWinData15Read_kept {master : Nat} (hF : [.regs, .out] ⊆ F) (kp : Kept F s0 s) :
    KeptR F s0 (execLocketWinData15Read master s) := by
  unfold execLocketWinData15Read
  refine KeptR.act kp fun x hx => ?_
  split
  · exact State.wr64_kept (Part.le hF) (State.readCmd_kept (Part.le hF) hx fun y hy => hy)
  · exact State.readCmd_kept (Part.le hF) hx fun y hy => hy

theorem State.newChallenge_kept (hF : [.locket, .fresh] ⊆ F) (kp : Kept F s0 s) : Kept F s0 (State.newChallenge s) := by
  unfold State.newChallenge
  with_reducible repeat' first
    | assumption | exact Part.le hF | apply State.free_kept | apply State.setLocket_kept

theorem execLocketClearChalLoRead_kept {master : Nat} (hF : [.regs, .out] ⊆ F) (kp : Kept F s0 s) : KeptR F s0
    (execLocketClearChalLoRead master s) := by
  unfold execLocketClearChalLoRead
  with_reducible repeat' first
    | assumption | exact Part.le hF | intro x (_ : Kept F s0 x) | apply KeptR.act | apply State.readCmd_kept
    | apply State.wr64_kept | apply State.wrN_kept

theorem State.clearRecords_kept {master : Nat} (hF : [.regs, .cells, .lines, .locket, .wake] ⊆ F) (kp : Kept F s0 s) : Kept F s0
    (State.clearRecords s master) := by
  unfold State.clearRecords
  with_reducible repeat' first
    | assumption | exact Part.le hF | intro x a (_ : Kept F s0 x) | apply State.irq_kept | apply State.log_kept
    | apply State.poke_kept | apply State.setLocket_kept | apply Kept.ite | apply Kept.foldl

theorem execLocketClearCmd_kept {master value : Nat} (hF : [.regs, .wos, .lockWins, .cells, .lines, .locket, .wake, .fresh] ⊆ F)
    (kp : Kept F s0 s) : KeptR F s0 (execLocketClearCmd master value s) := by
  unfold execLocketClearCmd
  with_reducible repeat' first
    | assumption | exact Part.le hF | intro x (_ : Kept F s0 x) | intro x a (_ : Kept F s0 x) | apply KeptR.act
    | apply State.clearRecords_kept | apply State.irq_kept | apply State.log_kept | apply State.newChallenge_kept
    | apply State.regCmd_kept | apply State.setLocket_kept | apply State.wrN_kept | apply Kept.ite

theorem execGtsNowLoRead_kept {master : Nat} (hF : [.regs, .out] ⊆ F) (kp : Kept F s0 s) : KeptR F s0 (execGtsNowLoRead master
    s) := by
  unfold execGtsNowLoRead
  with_reducible repeat' first
    | assumption | exact Part.le hF | intro x (_ : Kept F s0 x) | apply KeptR.act | apply State.readCmd_kept
    | apply State.wrN_kept

theorem execGtsCalSecondsLoRead_kept {master : Nat} (hF : [.regs, .out] ⊆ F) (kp : Kept F s0 s) : KeptR F s0
    (execGtsCalSecondsLoRead master s) := by
  unfold execGtsCalSecondsLoRead
  with_reducible repeat' first
    | assumption | exact Part.le hF | intro x (_ : Kept F s0 x) | apply KeptR.act | apply State.readCmd_kept
    | apply State.wrN_kept

theorem execGtsCalCmd_kept {master value : Nat} (hF : [.cal, .regs, .wos, .lockWins, .cells, .lines, .locket, .wake] ⊆ F) (kp :
    Kept F s0 s) : KeptR F s0 (execGtsCalCmd master value s) := by
  unfold execGtsCalCmd
  with_reducible repeat' first
    | assumption | exact Part.le hF | intro x (_ : Kept F s0 x) | intro x a (_ : Kept F s0 x) | apply KeptR.act
    | apply State.ignoreW_kept | apply State.log_kept | apply State.regCmd_kept | simp only [Kept.lit_iff]
    | apply Kept.upd_cal | apply Kept.ite | rfl

theorem execCalSecondRollover_kept (hF : [.gts, .cal, .regs] ⊆ F) (kp : Kept F s0 s) : KeptR F s0 (execCalSecondRollover s) :=
    by
  unfold execCalSecondRollover
  with_reducible repeat' first
    | assumption | exact Part.le hF | intro x (_ : Kept F s0 x) | apply KeptR.act | apply State.wr64_kept
    | simp only [Kept.lit_iff] | apply Kept.upd_time | apply KeptR.ite | apply KeptR.next | rfl

/-! ### Stitch -/

theorem modJob_kept {op id : Nat} (hF : [.regs, .accWin, .cells, .lines, .store, .eng, .locket, .wake, .stitch, .out, .fresh] ⊆
    F) (kp : Kept F s0 s) : KeptR F s0 (modJob op id s) := by
  unfold modJob
  with_reducible repeat' first
    | assumption | exact Part.le hF | intro x a (_ : Kept F s0 x) | apply State.areas_kept | apply State.sendMod_kept
    | apply jobActM_kept | simp only [Kept.lit_iff] | split | rfl

theorem execRead_kept {job : Nat} (hF : [.regs, .accWin, .cells, .lines, .store, .eng, .locket, .wake, .stitch, .out, .fresh] ⊆
    F) (kp : Kept F s0 s) : KeptR F s0 (execRead job s) := by
  unfold execRead
  with_reducible repeat' first
    | assumption | exact Part.le hF | apply modJob_kept

theorem execSoftRead_kept {job : Nat} (hF : [.regs, .accWin, .cells, .lines, .store, .eng, .locket, .wake, .stitch, .out,
    .fresh] ⊆ F) (kp : Kept F s0 s) : KeptR F s0 (execSoftRead job s) := by
  unfold execSoftRead
  with_reducible repeat' first
    | assumption | exact Part.le hF | apply modJob_kept

theorem execProgram_kept {job : Nat} (hF : [.regs, .accWin, .cells, .lines, .store, .eng, .locket, .wake, .stitch, .out, .fresh]
    ⊆ F) (kp : Kept F s0 s) : KeptR F s0 (execProgram job s) := by
  unfold execProgram
  with_reducible repeat' first
    | assumption | exact Part.le hF | apply modJob_kept

theorem execErase_kept {job : Nat} (hF : [.regs, .accWin, .cells, .lines, .store, .eng, .locket, .wake, .stitch, .out, .fresh] ⊆
    F) (kp : Kept F s0 s) : KeptR F s0 (execErase job s) := by
  unfold execErase
  with_reducible repeat' first
    | assumption | exact Part.le hF | apply modJob_kept

theorem execIdentify_kept {job : Nat} (hF : [.regs, .accWin, .cells, .lines, .store, .eng, .locket, .wake, .stitch, .out,
    .fresh] ⊆ F) (kp : Kept F s0 s) : KeptR F s0 (execIdentify job s) := by
  unfold execIdentify
  with_reducible repeat' first
    | assumption | exact Part.le hF | apply modJob_kept

theorem execLoadProfile_kept {job : Nat} (hF : [.regs, .accWin, .cells, .lines, .store, .eng, .locket, .wake, .stitch, .out,
    .fresh] ⊆ F) (kp : Kept F s0 s) : KeptR F s0 (execLoadProfile job s) := by
  unfold execLoadProfile
  with_reducible repeat' first
    | assumption | exact Part.le hF | apply modJob_kept

theorem execDefectMap_kept {job : Nat} (hF : [.regs, .accWin, .cells, .lines, .store, .eng, .locket, .wake, .stitch, .out,
    .fresh] ⊆ F) (kp : Kept F s0 s) : KeptR F s0 (execDefectMap job s) := by
  unfold execDefectMap
  with_reducible repeat' first
    | assumption | exact Part.le hF | apply modJob_kept

theorem execTelemetry_kept {job : Nat} (hF : [.regs, .accWin, .cells, .lines, .store, .eng, .locket, .wake, .stitch, .out,
    .fresh] ⊆ F) (kp : Kept F s0 s) : KeptR F s0 (execTelemetry job s) := by
  unfold execTelemetry
  with_reducible repeat' first
    | assumption | exact Part.le hF | apply modJob_kept

theorem execGetWitness_kept {job : Nat} (hF : [.regs, .accWin, .cells, .lines, .store, .eng, .locket, .wake, .stitch, .out,
    .fresh] ⊆ F) (kp : Kept F s0 s) : KeptR F s0 (execGetWitness job s) := by
  unfold execGetWitness
  with_reducible repeat' first
    | assumption | exact Part.le hF | apply modJob_kept

theorem execWCas_kept {job : Nat} (hF : [.regs, .accWin, .cells, .lines, .store, .eng, .locket, .wake, .stitch, .out, .fresh] ⊆
    F) (kp : Kept F s0 s) : KeptR F s0 (execWCas job s) := by
  unfold execWCas
  with_reducible repeat' first
    | assumption | exact Part.le hF | apply modJob_kept

theorem execSetEpoch_kept {job : Nat} (hF : [.regs, .accWin, .cells, .lines, .store, .eng, .locket, .wake, .stitch, .out,
    .fresh] ⊆ F) (kp : Kept F s0 s) : KeptR F s0 (execSetEpoch job s) := by
  unfold execSetEpoch
  with_reducible repeat' first
    | assumption | exact Part.le hF | apply modJob_kept

theorem execCreateQp_kept {job : Nat} (hF : [.eng] ⊆ F) (kp : Kept F s0 s) : KeptR F s0 (execCreateQp job s) := by
  unfold execCreateQp
  with_reducible repeat' first
    | assumption | exact Part.le hF | intro x a (_ : Kept F s0 x) | apply jobAct_kept

theorem execDeleteQp_kept {job : Nat} (hF : [.eng] ⊆ F) (kp : Kept F s0 s) : KeptR F s0 (execDeleteQp job s) := by
  unfold execDeleteQp
  with_reducible repeat' first
    | assumption | exact Part.le hF | intro x a (_ : Kept F s0 x) | apply jobAct_kept

theorem State.modWrite_kept {c : ModCmd} {addr : Nat} {isList : Bool} {data : List Byte} (hF : [.regs, .accWin, .cells, .lines,
    .store, .locket, .wake, .out, .fresh] ⊆ F) (kp : Kept F s0 s) : Kept F s0 (State.modWrite s c addr isList data).1 := by
  unfold State.modWrite
  with_reducible repeat' first
    | assumption | exact Part.le hF | apply State.areas_kept | apply State.writeAreas_kept | simp only [Kept.lit_iff] | split
    | rfl

theorem State.modRead_kept {c : ModCmd} (hF : [.regs, .accWin, .cells, .lines, .store, .locket, .wake, .fresh] ⊆ F) (kp : Kept F
    s0 s) : Kept F s0 (State.modRead s c).1 := by
  unfold State.modRead
  with_reducible repeat' first
    | assumption | exact Part.le hF | apply State.areas_kept | apply State.readAreas_kept | apply State.readBytes_kept
    | simp only [Kept.lit_iff] | split | rfl

theorem State.putWord_kept {c : ModCmd} {i : Nat} {data : List Byte} {poison : Bool} (hF : [.regs, .accWin, .cells, .lines,
    .store, .locket, .wake, .out, .fresh] ⊆ F) (kp : Kept F s0 s) : Kept F s0 (State.putWord s c i data poison).1 := by
  unfold State.putWord
  with_reducible repeat' first
    | assumption | exact Part.le hF | intro x a (_ : Kept F s0 x) | apply State.areas_kept | apply State.setLine_kept
    | apply State.writeAreas_kept | simp only [Kept.lit_iff] | apply Kept.foldl | split | rfl

theorem State.putWords_kept {c : ModCmd} {ws : List (Nat × List Byte)} (hF : [.regs, .accWin, .cells, .lines, .store, .locket,
    .wake, .out, .fresh] ⊆ F) (kp : Kept F s0 s) : Kept F s0 (State.putWords s c ws).1 := by
  unfold State.putWords
  with_reducible repeat' first
    | assumption | exact Part.le hF | intro y a (_ : Kept F s0 y.1) | apply State.putWord_kept | apply Kept.foldl_fst

theorem State.takeTemps_kept {n : Nat} {data : List Byte} (hF : [.regs, .stitch] ⊆ F) (kp : Kept F s0 s) : Kept F s0
    (State.takeTemps s n data) := by
  unfold State.takeTemps
  with_reducible repeat' first
    | assumption | exact Part.le hF | apply State.setModule_kept | apply State.wf_kept | simp only [Kept.lit_iff]
    | apply Kept.upd_stitch | rfl

theorem State.noteResult_kept {c : ModCmd} {a : ModAns} (hF : [.pins, .regs, .cells, .lines, .eng, .locket, .wake, .hq, .pair,
    .stitch, .out] ⊆ F) (kp : Kept F s0 s) : Kept F s0 (State.noteResult s c a) := by
  unfold State.noteResult
  with_reducible repeat' first
    | assumption | exact Part.le hF | apply State.abortCmds_kept | apply State.checkFence_kept | apply State.emit_kept
    | apply State.setModule_kept | apply State.takeTemps_kept | apply Kept.ite

theorem State.countDecode_kept {failed : Bool} (hF : [.regs] ⊆ F) (kp : Kept F s0 s) : Kept F s0 (State.countDecode s failed) :=
    by
  unfold State.countDecode
  with_reducible repeat' first
    | assumption | exact Part.le hF | apply State.count_kept

theorem execModuleCompletion_kept {id : Nat} {a : ModAns} (hF : [.pins, .regs, .accWin, .cells, .lines, .store, .eng, .locket,
    .wake, .hq, .pair, .stitch, .map, .pat, .quilt, .out, .fresh] ⊆ F) (kp : Kept F s0 s) : KeptR F s0 (execModuleCompletion id
    a s) := by
  unfold execModuleCompletion
  with_reducible repeat' first
    | assumption | exact Part.le hF | intro x (_ : Kept F s0 x) | intro x a (_ : Kept F s0 x) | apply KeptR.actIf
    | apply State.countDecode_kept | apply State.countSat_kept | apply State.emit_kept | apply State.endCmd_kept
    | apply State.fieldSat_kept | apply State.logI_kept | apply State.modRead_kept | apply State.modWrite_kept
    | apply State.noteProgram_kept | apply State.noteRead_kept | apply State.noteResult_kept | apply State.putWords_kept
    | apply State.retireDie_kept | apply State.setModule_kept | simp only [Kept.lit_iff] | apply Kept.upd_stitch
    | apply Kept.ite | apply Kept.foldl | apply KeptR.next | split | rfl

theorem execDeepDecodeDone_kept {id cw : Nat} {user : Option (List Byte)} {plane : Nat} {fixed : List Nat} (hF : [.regs,
    .accWin, .cells, .lines, .store, .eng, .locket, .wake, .stitch, .out, .fresh] ⊆ F) (kp : Kept F s0 s) : KeptR F s0
    (execDeepDecodeDone id cw user plane fixed s) := by
  unfold execDeepDecodeDone
  with_reducible repeat' first
    | assumption | exact Part.le hF | intro x (_ : Kept F s0 x) | apply KeptR.actIf | apply State.endCmd_kept
    | apply State.fieldSat_kept | apply State.logI_kept | apply State.putWord_kept | apply State.setModule_kept
    | simp only [Kept.lit_iff] | apply Kept.upd_stitch | apply KeptR.next | split | rfl

theorem State.modFail_kept {n cause : Nat} (hF : [.pins, .regs, .cells, .lines, .eng, .locket, .wake, .hq, .pair, .stitch, .map,
    .quilt, .out] ⊆ F) (kp : Kept F s0 s) : Kept F s0 (State.modFail s n cause) := by
  unfold State.modFail
  with_reducible repeat' first
    | assumption | exact Part.le hF | apply State.abortCmds_kept | apply State.logI_kept | apply State.moduleFailed_kept
    | apply State.setModState_kept | apply State.setModule_kept | apply State.setPerst_kept

theorem State.linkDown_kept {n : Nat} {surprise : Bool} (hF : [.regs, .cells, .lines, .locket, .wake] ⊆ F) (kp : Kept F s0 s) :
    Kept F s0 (State.linkDown s n surprise) := by
  unfold State.linkDown
  with_reducible repeat' first
    | assumption | exact Part.le hF | apply State.logI_kept | apply State.wb_kept | apply State.wrN_kept | apply Kept.ite

theorem State.toLinking_kept {n : Nat} (hF : [.pins, .regs, .cells, .lines, .eng, .locket, .wake, .hq, .pair, .stitch, .out] ⊆
    F) (kp : Kept F s0 s) : Kept F s0 (State.toLinking s n) := by
  unfold State.toLinking
  with_reducible repeat' first
    | assumption | exact Part.le hF | apply State.abortCmds_kept | apply State.setModState_kept | apply State.setModule_kept

theorem State.askPower_kept {n : Nat} (hF : [.pins, .regs, .cells, .lines, .locket, .wake, .power, .hq, .pair, .out] ⊆ F) (kp :
    Kept F s0 s) : Kept F s0 (State.askPower s n) := by
  unfold State.askPower
  with_reducible repeat' first
    | assumption | exact Part.le hF | apply State.requestOn_kept | apply State.setModState_kept | apply Kept.ite

theorem execModulePresent_kept {n : Nat} (hF : [.pins, .regs, .cells, .lines, .locket, .wake, .power, .hq, .pair, .out] ⊆ F) (kp
    : Kept F s0 s) : KeptR F s0 (execModulePresent n s) := by
  unfold execModulePresent
  with_reducible repeat' first
    | assumption | exact Part.le hF | intro x (_ : Kept F s0 x) | apply KeptR.actIf | apply State.askPower_kept
    | apply State.setPresent_kept | apply Kept.ite

theorem modCtrl_kept {inst master value b : Nat} {okIn : Nat → Bool} {f : State → Nat → State} (hF : [.regs, .wos, .lockWins,
    .cells, .lines, .locket, .wake] ⊆ F) (kp : Kept F s0 s) (hf : ∀ (x : State) (a1 : Nat), Kept F s0 x → Kept F s0 (f x a1)) :
    KeptR F s0 (modCtrl inst master value b s okIn f) := by
  unfold modCtrl
  with_reducible repeat' first
    | assumption | exact Part.le hF | intro x (_ : Kept F s0 x) | intro x a (_ : Kept F s0 x) | apply hf | apply KeptR.actIf
    | apply State.ignoreW_kept | apply State.regCmd_kept | apply Kept.ite

theorem execStitchModAttach_kept {inst master value : Nat} (hF : [.pins, .regs, .wos, .lockWins, .cells, .lines, .locket, .wake,
    .power, .hq, .pair, .out] ⊆ F) (kp : Kept F s0 s) : KeptR F s0 (execStitchModAttach inst master value s) := by
  unfold execStitchModAttach
  with_reducible repeat' first
    | assumption | exact Part.le hF | intro x a (_ : Kept F s0 x) | apply State.askPower_kept | apply State.setModState_kept
    | apply modCtrl_kept | apply Kept.ite

theorem execStitchModDetach_kept {inst master value : Nat} (hF : [.regs, .wos, .lockWins, .cells, .lines, .locket, .wake,
    .stitch] ⊆ F) (kp : Kept F s0 s) : KeptR F s0 (execStitchModDetach inst master value s) := by
  unfold execStitchModDetach
  with_reducible repeat' first
    | assumption | exact Part.le hF | intro x a (_ : Kept F s0 x) | apply State.setModule_kept | apply modCtrl_kept

theorem execStitchModPowerOff_kept {inst master value : Nat} (hF : [.pins, .regs, .wos, .lockWins, .cells, .lines, .locket,
    .wake, .power] ⊆ F) (kp : Kept F s0 s) : KeptR F s0 (execStitchModPowerOff inst master value s) := by
  unfold execStitchModPowerOff
  with_reducible repeat' first
    | assumption | exact Part.le hF | apply State.unpower_kept | apply modCtrl_kept | intro x (_ : Kept F s0 x)
    | intro x a (_ : Kept F s0 x) | intro x a b c (_ : Kept F s0 x)

theorem execStitchModHotReset_kept {inst master value : Nat} (hF : [.pins, .regs, .wos, .lockWins, .cells, .lines, .eng,
    .locket, .wake, .hq, .pair, .stitch, .out] ⊆ F) (kp : Kept F s0 s) : KeptR F s0 (execStitchModHotReset inst master value s)
    := by
  unfold execStitchModHotReset
  with_reducible repeat' first
    | assumption | exact Part.le hF | apply State.toLinking_kept | apply modCtrl_kept | intro x (_ : Kept F s0 x)
    | intro x a (_ : Kept F s0 x) | intro x a b c (_ : Kept F s0 x)

theorem execModulePowerGrant_kept (hF : [.pins, .regs, .cells, .lines, .locket, .wake, .power] ⊆ F) (kp : Kept F s0 s) : KeptR F
    s0 (execModulePowerGrant s) := by
  unfold execModulePowerGrant
  with_reducible repeat' first
    | assumption | exact Part.le hF | apply State.grant_kept | apply actAon_kept | intro x (_ : Kept F s0 x)
    | intro x a (_ : Kept F s0 x) | intro x a b c (_ : Kept F s0 x)

theorem execPerstReleaseTimer_kept {n : Nat} (hF : [.pins, .regs, .cells, .lines, .locket, .wake, .hq, .pair, .out] ⊆ F) (kp :
    Kept F s0 s) : KeptR F s0 (execPerstReleaseTimer n s) := by
  unfold execPerstReleaseTimer
  with_reducible repeat' first
    | assumption | exact Part.le hF | intro x (_ : Kept F s0 x) | apply KeptR.actIf | apply State.setModState_kept
    | apply State.setPerst_kept

theorem execModuleLinkUp_kept {n width gen : Nat} {flit : Bool} {ltssm : Nat} (hF : [.pins, .regs, .cells, .lines, .locket,
    .wake, .hq, .pair, .stitch, .out] ⊆ F) (kp : Kept F s0 s) : KeptR F s0 (execModuleLinkUp n width gen flit ltssm s) := by
  unfold execModuleLinkUp
  with_reducible repeat' first
    | assumption | exact Part.le hF | intro x (_ : Kept F s0 x) | apply KeptR.actIf | apply State.setModState_kept
    | apply State.setModule_kept | apply State.wb_kept | apply State.wf_kept | apply State.wrN_kept

theorem execLinkTrainTimeout_kept {n : Nat} (hF : [.pins, .regs, .cells, .lines, .eng, .locket, .wake, .hq, .pair, .stitch,
    .map, .quilt, .out] ⊆ F) (kp : Kept F s0 s) : KeptR F s0 (execLinkTrainTimeout n s) := by
  unfold execLinkTrainTimeout
  with_reducible repeat' first
    | assumption | exact Part.le hF | intro x (_ : Kept F s0 x) | apply KeptR.actIf | apply State.modFail_kept

theorem execConfigureComplete_kept {n : Nat} {serial : List Byte} {dies : List (Nat × Nat)} {profiles : List (List Byte)}
    {defects : List (Nat × List Nat)} {slots : List (Nat × Nat)} {roles : List Nat} (hF : [.pins, .regs, .cells, .lines,
    .locket, .wake, .hq, .pair, .stitch, .quilt, .out] ⊆ F) (kp : Kept F s0 s) : KeptR F s0 (execConfigureComplete n serial dies
    profiles defects slots roles s) := by
  unfold execConfigureComplete
  with_reducible repeat' first
    | assumption | exact Part.le hF | intro x (_ : Kept F s0 x) | apply KeptR.actIf | apply State.checkFence_kept
    | apply State.logI_kept | apply State.setModState_kept | apply State.setModule_kept | apply State.wb_kept
    | apply State.wf_kept | apply State.wrN_kept | apply State.writeHold_kept | simp only [Kept.lit_iff]
    | apply Kept.upd_quilt | apply Kept.ite | rfl

theorem execConfigureTimeout_kept {n : Nat} (hF : [.pins, .regs, .cells, .lines, .eng, .locket, .wake, .hq, .pair, .stitch,
    .map, .quilt, .out] ⊆ F) (kp : Kept F s0 s) : KeptR F s0 (execConfigureTimeout n s) := by
  unfold execConfigureTimeout
  with_reducible repeat' first
    | assumption | exact Part.le hF | intro x (_ : Kept F s0 x) | apply KeptR.actIf | apply State.modFail_kept

theorem execCommandTimeoutExpiry_kept {id : Nat} (hF : [.regs, .cells, .lines, .locket, .wake, .stitch, .out] ⊆ F) (kp : Kept F
    s0 s) : KeptR F s0 (execCommandTimeoutExpiry id s) := by
  unfold execCommandTimeoutExpiry
  with_reducible repeat' first
    | assumption | exact Part.le hF | intro x (_ : Kept F s0 x) | apply KeptR.actIf | apply State.logI_kept
    | apply State.sendMod_kept | apply State.setModule_kept | apply KeptR.next | split

theorem execDeleteQpTimeout_kept {n : Nat} (hF : [.pins, .regs, .cells, .lines, .eng, .locket, .wake, .hq, .pair, .stitch, .out]
    ⊆ F) (kp : Kept F s0 s) : KeptR F s0 (execDeleteQpTimeout n s) := by
  unfold execDeleteQpTimeout
  with_reducible repeat' first
    | assumption | exact Part.le hF | intro x (_ : Kept F s0 x) | apply KeptR.actIf | apply State.toLinking_kept

theorem execModuleLinkDown_kept {n : Nat} (hF : [.pins, .regs, .cells, .lines, .eng, .locket, .wake, .hq, .pair, .stitch, .out]
    ⊆ F) (kp : Kept F s0 s) : KeptR F s0 (execModuleLinkDown n s) := by
  unfold execModuleLinkDown
  with_reducible repeat' first
    | assumption | exact Part.le hF | intro x (_ : Kept F s0 x) | apply KeptR.actIf | apply State.linkDown_kept
    | apply State.toLinking_kept

theorem execSurpriseRemoval_kept {n : Nat} (hF : [.pins, .regs, .cells, .lines, .eng, .locket, .wake, .power, .hq, .pair,
    .stitch, .map, .quilt, .out] ⊆ F) (kp : Kept F s0 s) : KeptR F s0 (execSurpriseRemoval n s) := by
  unfold execSurpriseRemoval
  with_reducible repeat' first
    | assumption | exact Part.le hF | intro x (_ : Kept F s0 x) | apply KeptR.actIf | apply State.linkDown_kept
    | apply State.modFail_kept | apply State.setModState_kept | apply State.setPresent_kept | apply State.unpower_kept
    | apply Kept.ite

theorem execModuleFatal_kept {n : Nat} (hF : [.pins, .regs, .cells, .lines, .eng, .locket, .wake, .hq, .pair, .stitch, .map,
    .quilt, .out] ⊆ F) (kp : Kept F s0 s) : KeptR F s0 (execModuleFatal n s) := by
  unfold execModuleFatal
  with_reducible repeat' first
    | assumption | exact Part.le hF | intro x (_ : Kept F s0 x) | apply KeptR.actIf | apply State.modFail_kept
    | apply State.setAlert_kept | apply State.setModule_kept

theorem execModuleAlert_kept {n bits : Nat} (hF : [.pins, .regs, .stitch] ⊆ F) (kp : Kept F s0 s) : KeptR F s0 (execModuleAlert
    n bits s) := by
  unfold execModuleAlert
  with_reducible repeat' first
    | assumption | exact Part.le hF | intro x (_ : Kept F s0 x) | apply KeptR.actIf | apply State.setAlert_kept
    | apply State.setModule_kept

theorem execDetachComplete_kept {n : Nat} (hF : [.pins, .regs, .cells, .lines, .locket, .wake, .power, .hq, .pair, .stitch,
    .out] ⊆ F) (kp : Kept F s0 s) : KeptR F s0 (execDetachComplete n s) := by
  unfold execDetachComplete
  with_reducible repeat' first
    | assumption | exact Part.le hF | intro x (_ : Kept F s0 x) | intro x a (_ : Kept F s0 x) | apply KeptR.actIf
    | apply State.emit_kept | apply State.logI_kept | apply State.setModState_kept | apply State.setModule_kept
    | apply State.setPerst_kept | apply State.unpower_kept | apply Kept.foldl

theorem execTelemetryTimer_kept (hF : [.regs, .stitch, .out] ⊆ F) (kp : Kept F s0 s) : KeptR F s0 (execTelemetryTimer s) := by
  unfold execTelemetryTimer
  with_reducible repeat' first
    | assumption | exact Part.le hF | intro x (_ : Kept F s0 x) | intro x a (_ : Kept F s0 x) | apply KeptR.act
    | apply State.sendMod_kept | apply Kept.foldl

theorem execPcieCompletionTimeout_kept {n : Nat} (hF : [.pins, .regs, .cells, .lines, .eng, .locket, .wake, .hq, .pair, .stitch,
    .out] ⊆ F) (kp : Kept F s0 s) : KeptR F s0 (execPcieCompletionTimeout n s) := by
  unfold execPcieCompletionTimeout
  with_reducible repeat' first
    | assumption | exact Part.le hF | intro x (_ : Kept F s0 x) | apply KeptR.actIf | apply State.linkDown_kept
    | apply State.toLinking_kept | apply State.wb_kept | apply Kept.ite

theorem execPcieError_kept {n bits replays : Nat} (hF : [.regs, .cells, .lines, .locket, .wake] ⊆ F) (kp : Kept F s0 s) : KeptR
    F s0 (execPcieError n bits replays s) := by
  unfold execPcieError
  with_reducible repeat' first
    | assumption | exact Part.le hF | intro x (_ : Kept F s0 x) | apply KeptR.actIf | apply State.countSat_kept
    | apply State.logI_kept | apply State.wrN_kept | apply Kept.ite

theorem execStitchRoleEpochHiWrite_kept {master value : Nat} (hF : [.regs, .wos, .lockWins, .cells, .lines, .locket, .wake] ⊆ F)
    (kp : Kept F s0 s) : KeptR F s0 (execStitchRoleEpochHiWrite master value s) := by
  unfold execStitchRoleEpochHiWrite
  with_reducible repeat' first
    | assumption | exact Part.le hF | intro x (_ : Kept F s0 x) | intro x a (_ : Kept F s0 x) | apply KeptR.act
    | apply State.ignoreW_kept | apply State.regCmd_kept | apply State.setRoleEpoch_kept | apply Kept.ite

/-! ### Hallmark -/

theorem State.setHctx_kept {n : Nat} {c : Option HCtx} (hF : [.regs, .hall] ⊆ F) (kp : Kept F s0 s) : Kept F s0 (State.setHctx s
    n c) := by
  unfold State.setHctx
  with_reducible repeat' first
    | assumption | exact Part.le hF | apply State.wrN_kept | simp only [Kept.lit_iff] | apply Kept.upd_hall | rfl

theorem State.endChunk_kept {n : Nat} {c : HCtx} {forced last : Bool} (hF : [.regs, .accWin, .cells, .lines, .store, .locket,
    .wake, .out] ⊆ F) (kp : Kept F s0 s) : Kept F s0 (State.endChunk s n c forced last).1 := by
  unfold State.endChunk
  with_reducible repeat' first
    | assumption | exact Part.le hF | apply State.log_kept | apply State.writeBytes_kept | apply Kept.ite | apply Kept.ite_fst

theorem State.feed_kept {n m : Nat} {c : HCtx} {l : List Byte} {p : Bool} (hF : [.regs, .accWin, .cells, .lines, .store, .locket, .wake, .out] ⊆ F) (kp : Kept F s0 s) :
    Kept F s0 (State.feed n m s c l p).1 := by
  induction m generalizing s c l with
  | zero => exact kp
  | succ m ih =>
    unfold State.feed
    split
    · exact kp
    · split
      · exact kp
      · lift_lets
        intro g c'
        split
        · exact kp
        · exact ih (State.endChunk_kept (Part.le hF) kp)

theorem State.take_kept {n : Nat} {c : HCtx} {l : List Byte} {poisoned : Bool} (hF : [.regs, .accWin, .cells, .lines, .store,
    .locket, .wake, .out] ⊆ F) (kp : Kept F s0 s) : Kept F s0 (State.take s n c l poisoned).1 := by
  unfold State.take
  with_reducible repeat' first
    | assumption | exact Part.le hF | apply State.count64_kept | apply State.feed_kept

theorem State.sealCompare_kept {u ctx : Nat} {d : List Byte} (hF : [.regs, .cells, .lines, .locket, .wake] ⊆ F) (kp : Kept F s0
    s) : Kept F s0 (State.sealCompare s u ctx d).1 := by
  unfold State.sealCompare
  with_reducible repeat' first
    | assumption | exact Part.le hF | apply State.log_kept | apply State.wb_kept | apply Kept.ite_fst

theorem State.finish_kept {n : Nat} {c : HCtx} (hF : [.regs, .accWin, .cells, .lines, .store, .locket, .wake, .out] ⊆ F) (kp :
    Kept F s0 s) : Kept F s0 (State.finish s n c).1 := by
  unfold State.finish
  with_reducible repeat' first
    | assumption | exact Part.le hF | apply State.endChunk_kept | apply State.sealCompare_kept | apply Kept.ite_fst

theorem execHallmarkInit_kept {job : Nat} (hF : [.regs, .eng, .hall] ⊆ F) (kp : Kept F s0 s) : KeptR F s0 (execHallmarkInit job
    s) := by
  unfold execHallmarkInit
  with_reducible repeat' first
    | assumption | exact Part.le hF | intro x a (_ : Kept F s0 x) | apply State.setHctx_kept | apply jobAct_kept
    | apply Kept.ite_fst | split

theorem execBind_kept {job : Nat} (hF : [.regs, .eng, .hall] ⊆ F) (kp : Kept F s0 s) : KeptR F s0 (execBind job s) := by
  unfold execBind
  with_reducible repeat' first
    | assumption | exact Part.le hF | intro x a (_ : Kept F s0 x) | apply State.setHctx_kept | apply jobActM_kept
    | simp only [Kept.lit_iff] | split | rfl

theorem execSnoopBeat_kept {producer stream off addr : Nat} {data : List Byte} {poisoned : Bool} (hF : [.regs, .accWin, .cells,
    .lines, .store, .locket, .wake, .hall, .out] ⊆ F) (kp : Kept F s0 s) : KeptR F s0 (execSnoopBeat producer stream off addr
    data poisoned s) := by
  unfold execSnoopBeat
  with_reducible repeat' first
    | assumption | exact Part.le hF | intro x (_ : Kept F s0 x) | apply KeptR.actIf | apply State.log_kept
    | apply State.setHctx_kept | apply State.take_kept | apply KeptR.next | split

theorem execCatchupRead_kept {producer stream : Nat} (hF : [.regs, .accWin, .cells, .lines, .store, .locket, .wake, .hall, .out,
    .fresh] ⊆ F) (kp : Kept F s0 s) : KeptR F s0 (execCatchupRead producer stream s) := by
  unfold execCatchupRead
  with_reducible repeat' first
    | assumption | exact Part.le hF | intro x (_ : Kept F s0 x) | apply KeptR.act | apply State.countSat_kept
    | apply State.readBytes_kept | apply State.setHctx_kept | apply State.take_kept | apply KeptR.next | split

theorem execStreamEnd_kept {producer stream : Nat} (hF : [.regs, .accWin, .cells, .lines, .store, .eng, .locket, .wake, .hall,
    .out] ⊆ F) (kp : Kept F s0 s) : KeptR F s0 (execStreamEnd producer stream s) := by
  unfold execStreamEnd
  with_reducible repeat' first
    | assumption | exact Part.le hF | intro x (_ : Kept F s0 x) | apply KeptR.actIf | apply State.finish_kept
    | apply State.setHctx_kept | apply State.setRes_kept | apply State.writeBytes_kept | simp only [Kept.lit_iff]
    | apply KeptR.next | split | rfl

theorem execDigest_kept {job : Nat} (hF : [.regs, .accWin, .cells, .lines, .store, .eng, .locket, .wake, .hall, .out, .fresh] ⊆
    F) (kp : Kept F s0 s) : KeptR F s0 (execDigest job s) := by
  unfold execDigest
  with_reducible repeat' first
    | assumption | exact Part.le hF | intro x a (_ : Kept F s0 x) | apply State.readBytes_kept | apply State.setHctx_kept
    | apply State.take_kept | apply jobAct_kept | simp only [Kept.lit_iff] | split | rfl

theorem execFinish_kept {job : Nat} (hF : [.regs, .accWin, .cells, .lines, .store, .eng, .locket, .wake, .hall, .out] ⊆ F) (kp :
    Kept F s0 s) : KeptR F s0 (execFinish job s) := by
  unfold execFinish
  with_reducible repeat' first
    | assumption | exact Part.le hF | intro x a (_ : Kept F s0 x) | apply State.finish_kept | apply State.setHctx_kept
    | apply State.take_kept | apply State.writeBytes_kept | apply jobAct_kept | simp only [Kept.lit_iff] | split | rfl

theorem execHallmarkRelease_kept {job : Nat} (hF : [.regs, .eng, .hall] ⊆ F) (kp : Kept F s0 s) : KeptR F s0
    (execHallmarkRelease job s) := by
  unfold execHallmarkRelease
  with_reducible repeat' first
    | assumption | exact Part.le hF | intro x a (_ : Kept F s0 x) | apply State.setHctx_kept | apply jobAct_kept | split

theorem execHallmarkLwCmd_kept {master value : Nat} (hF : [.regs, .wos, .lockWins, .accWin, .cells, .lines, .store, .locket,
    .wake, .hall, .out] ⊆ F) (kp : Kept F s0 s) : KeptR F s0 (execHallmarkLwCmd master value s) := by
  unfold execHallmarkLwCmd
  with_reducible repeat' first
    | assumption | exact Part.le hF | intro x (_ : Kept F s0 x) | intro x a (_ : Kept F s0 x) | apply KeptR.act
    | apply State.finish_kept | apply State.regCmd_kept | apply State.setHctx_kept | apply State.take_kept
    | apply State.wrN_kept | simp only [Kept.lit_iff] | apply Kept.foldl | split | rfl

theorem execHallmarkSealExpWrite_kept {master i value : Nat} (hF : [.regs, .wos, .lockWins, .cells, .lines, .locket, .wake,
    .hall] ⊆ F) (kp : Kept F s0 s) : KeptR F s0 (execHallmarkSealExpWrite master i value s) := by
  unfold execHallmarkSealExpWrite
  with_reducible repeat' first
    | assumption | exact Part.le hF | intro x (_ : Kept F s0 x) | intro x a (_ : Kept F s0 x) | apply KeptR.actIf
    | apply State.refuseAt_kept | apply State.regCmd_kept | apply State.wb_kept | simp only [Kept.lit_iff]
    | apply Kept.upd_hall | apply Kept.ite | rfl

/-! ### Strands -/

theorem State.loadBead_kept {n k l : Nat} {x : BeadImg} (hF : [.bd] ⊆ F) (kp : Kept F s0 s) : Kept F s0 (State.loadBead s n k l
    x) := by
  unfold State.loadBead
  with_reducible repeat' first
    | assumption | exact Part.le hF | apply State.setBead_kept

theorem State.placeStrand_kept {k owner : Nat} {im : List Byte} {xs : List BeadImg} {busy : List Nat} (hF : [.regs, .cells,
    .lines, .locket, .wake, .power, .bd] ⊆ F) (kp : Kept F s0 s) : Kept F s0 (State.placeStrand s k owner im xs busy) := by
  unfold State.placeStrand
  with_reducible repeat' first
    | assumption | exact Part.le hF | intro x a (_ : Kept F s0 x) | apply State.loadBead_kept | apply State.log_kept
    | apply State.requestOn_kept | apply State.setStrand_kept | apply Kept.ite | apply Kept.foldl

theorem State.readImage_kept (hF : [.regs, .accWin, .cells, .lines, .store, .locket, .wake, .fresh] ⊆ F) (kp : Kept F s0 s) :
    Kept F s0 (State.readImage s).1 := by
  unfold State.readImage
  with_reducible repeat' first
    | assumption | exact Part.le hF | apply State.readBytes_kept | apply Kept.ite_fst

theorem State.sealBody_kept {im : List Byte} (hF : [.regs, .cells, .lines, .locket, .wake, .hall] ⊆ F) (kp : Kept F s0 s) : Kept
    F s0 (State.sealBody s im).1 := by
  unfold State.sealBody
  with_reducible repeat' first
    | assumption | exact Part.le hF | apply State.sealCompare_kept | simp only [Kept.lit_iff] | apply Kept.upd_hall | rfl

theorem State.ldCmd_kept {master value k : Nat} {f : State → Nat → State} (hF : [.regs, .wos, .lockWins, .cells, .lines,
    .locket, .wake] ⊆ F) (kp : Kept F s0 s) (hf : ∀ (x : State) (a1 : Nat), Kept F s0 x → Kept F s0 (f x a1)) : KeptR F s0
    (State.ldCmd s master value k f) := by
  unfold State.ldCmd
  with_reducible repeat' first
    | assumption | exact Part.le hF | intro x (_ : Kept F s0 x) | intro x a (_ : Kept F s0 x) | apply hf | apply KeptR.actIf
    | apply State.regCmd_kept | apply State.wf_kept | apply Kept.ite

theorem execStrandLoad_kept {master value : Nat} {busy : List Nat} (hF : [.regs, .wos, .lockWins, .accWin, .cells, .lines,
    .store, .locket, .wake, .power, .bd, .fresh] ⊆ F) (kp : Kept F s0 s) : KeptR F s0 (execStrandLoad master value busy s) := by
  unfold execStrandLoad
  with_reducible repeat' first
    | assumption | exact Part.le hF | intro x a (_ : Kept F s0 x) | apply State.ldCmd_kept | apply State.ldStatus_kept
    | apply State.placeStrand_kept | apply State.readImage_kept | apply Kept.ite | split

theorem State.freeStrand_kept {n : Nat} (hF : [.bd] ⊆ F) (kp : Kept F s0 s) : Kept F s0 (State.freeStrand s n) := by
  unfold State.freeStrand
  with_reducible repeat' first
    | assumption | exact Part.le hF | intro x a (_ : Kept F s0 x) | apply State.setBead_kept | apply State.setStrand_kept
    | apply Kept.foldl

theorem execStrandLoadDone_kept (hF : [.regs, .cells, .lines, .locket, .wake, .bd, .hall] ⊆ F) (kp : Kept F s0 s) : KeptR F s0
    (execStrandLoadDone s) := by
  unfold execStrandLoadDone
  with_reducible repeat' first
    | assumption | exact Part.le hF | intro x (_ : Kept F s0 x) | apply KeptR.actIf | apply State.freeStrand_kept
    | apply State.ldStatus_kept | apply State.log_kept | apply State.sealBody_kept | apply State.setStrand_kept
    | apply Kept.ite | apply KeptR.next | split

theorem State.startStrand_kept {n : Nat} (hF : [.bd] ⊆ F) (kp : Kept F s0 s) : Kept F s0 (State.startStrand s n) := by
  unfold State.startStrand
  with_reducible repeat' first
    | assumption | exact Part.le hF | intro x a (_ : Kept F s0 x) | apply State.setBead_kept | apply State.setStrand_kept
    | apply Kept.foldl

theorem execStrandStart_kept {master value : Nat} (hF : [.regs, .wos, .lockWins, .cells, .lines, .locket, .wake, .bd] ⊆ F) (kp :
    Kept F s0 s) : KeptR F s0 (execStrandStart master value s) := by
  unfold execStrandStart
  with_reducible repeat' first
    | assumption | exact Part.le hF | intro x a (_ : Kept F s0 x) | apply State.ldCmd_kept | apply State.ldStatus_kept
    | apply State.startStrand_kept | apply Kept.ite

theorem execStrandExchange_kept {master value : Nat} (hF : [.regs, .wos, .lockWins, .accWin, .cells, .lines, .store, .locket,
    .wake, .bd, .fresh] ⊆ F) (kp : Kept F s0 s) : KeptR F s0 (execStrandExchange master value s) := by
  unfold execStrandExchange
  with_reducible repeat' first
    | assumption | exact Part.le hF | intro x a (_ : Kept F s0 x) | apply State.endExchange_kept | apply State.ldCmd_kept
    | apply State.ldStatus_kept | apply State.readImage_kept | apply State.setStrand_kept | apply Kept.ite | split

theorem execExchangeVerified_kept (hF : [.regs, .cells, .lines, .locket, .wake, .bd, .hall] ⊆ F) (kp : Kept F s0 s) : KeptR F s0
    (execExchangeVerified s) := by
  unfold execExchangeVerified
  with_reducible repeat' first
    | assumption | exact Part.le hF | intro x (_ : Kept F s0 x) | apply KeptR.act | apply State.endExchange_kept
    | apply State.ldStatus_kept | apply State.log_kept | apply State.sealBody_kept | apply State.setStrand_kept
    | apply Kept.ite | apply KeptR.next | split

theorem State.settleTimer_kept {c : List Nat} {n i : Nat} {x : BeadImg} (hF : [.regs, .cells, .lines, .locket, .wake, .bd] ⊆ F)
    (kp : Kept F s0 s) : Kept F s0 (State.settleTimer s c n i x).1 := by
  unfold State.settleTimer
  with_reducible repeat' first
    | assumption | exact Part.le hF | apply State.log_kept | apply State.setBead_kept | apply Kept.ite_fst

theorem State.dropEdge_kept {n i : Nat} (hF : [.regs, .cells, .lines, .locket, .wake, .bd] ⊆ F) (kp : Kept F s0 s) : Kept F s0
    (State.dropEdge s n i) := by
  unfold State.dropEdge
  with_reducible repeat' first
    | assumption | exact Part.le hF | apply State.log_kept | apply State.setBead_kept | split

theorem State.settleEdge_kept {c : List Nat} {n i : Nat} {x : BeadImg} (hF : [.regs, .cells, .lines, .locket, .wake, .bd] ⊆ F)
    (kp : Kept F s0 s) : Kept F s0 (State.settleEdge s c n i x).1 := by
  unfold State.settleEdge
  with_reducible repeat' first
    | assumption | exact Part.le hF | apply State.dropEdge_kept | apply State.setBead_kept | apply Kept.ite_fst

theorem execDrainComplete_kept (hF : [.regs, .cells, .lines, .locket, .wake, .bd] ⊆ F) (kp : Kept F s0 s) : KeptR F s0
    (execDrainComplete s) := by
  unfold execDrainComplete
  with_reducible repeat' first
    | assumption | exact Part.le hF | intro x (_ : Kept F s0 x) | intro x a (_ : Kept F s0 x) | intro y a (_ : Kept F s0 y.1)
    | apply KeptR.actIf | apply State.ldStatus_kept | apply State.setBead_kept | apply State.setStrand_kept
    | apply State.settleEdge_kept | apply State.settleTimer_kept | apply Kept.foldl | apply Kept.foldl_fst | apply KeptR.next
    | split

theorem execDrainLimitExpiry_kept (hF : [.regs, .cells, .lines, .locket, .wake, .bd] ⊆ F) (kp : Kept F s0 s) : KeptR F s0
    (execDrainLimitExpiry s) := by
  unfold execDrainLimitExpiry
  with_reducible repeat' first
    | assumption | exact Part.le hF | intro x (_ : Kept F s0 x) | intro x a (_ : Kept F s0 x) | apply KeptR.act
    | apply State.endExchange_kept | apply State.setBead_kept | apply State.setStrand_kept | apply Kept.foldl
    | apply KeptR.next | split

theorem State.reloadBead_kept {n k l : Nat} {x : BeadImg} (hF : [.regs, .cells, .lines, .locket, .wake, .bd] ⊆ F) (kp : Kept F
    s0 s) : Kept F s0 (State.reloadBead s n k l x) := by
  unfold State.reloadBead
  with_reducible repeat' first
    | assumption | exact Part.le hF | intro x a (_ : Kept F s0 x) | apply State.dropEdge_kept | apply State.setBead_kept
    | apply Kept.ite | apply Kept.foldl

theorem execExchangeLoadComplete_kept (hF : [.regs, .cells, .lines, .locket, .wake, .bd] ⊆ F) (kp : Kept F s0 s) : KeptR F s0
    (execExchangeLoadComplete s) := by
  unfold execExchangeLoadComplete
  with_reducible repeat' first
    | assumption | exact Part.le hF | intro x (_ : Kept F s0 x) | intro x a (_ : Kept F s0 x) | apply KeptR.act
    | apply State.ldStatus_kept | apply State.log_kept | apply State.reloadBead_kept | apply State.setStrand_kept
    | apply Kept.foldl | apply KeptR.next | split

theorem State.abortStrand_kept {n : Nat} (hF : [.regs, .cells, .lines, .locket, .wake, .bd] ⊆ F) (kp : Kept F s0 s) : Kept F s0
    (State.abortStrand s n) := by
  unfold State.abortStrand
  with_reducible repeat' first
    | assumption | exact Part.le hF | apply State.freeStrand_kept | apply State.log_kept

theorem execStrandAbort_kept {master value : Nat} (hF : [.regs, .wos, .lockWins, .cells, .lines, .locket, .wake, .bd] ⊆ F) (kp :
    Kept F s0 s) : KeptR F s0 (execStrandAbort master value s) := by
  unfold execStrandAbort
  with_reducible repeat' first
    | assumption | exact Part.le hF | intro x a (_ : Kept F s0 x) | apply State.abortStrand_kept
    | apply State.endExchange_kept | apply State.ldCmd_kept | apply State.ldStatus_kept | apply Kept.ite

/-! ### PowerStates -/

theorem State.setHeadState_kept {new cause : Nat} (hF : [.regs, .cells, .lines, .locket, .wake] ⊆ F) (kp : Kept F s0 s) : Kept F
    s0 (State.setHeadState s new cause) := by
  unfold State.setHeadState
  with_reducible repeat' first
    | assumption | exact Part.le hF | apply State.irq_kept | apply State.log_kept | apply State.wf_kept
    | simp only [Kept.lit_iff] | apply Kept.upd_wake | apply Kept.ite | rfl

theorem State.mapCluster_kept {c : Nat} {f : Nat → Bead → Bead} (hF : [.bd] ⊆ F) (kp : Kept F s0 s) : Kept F s0
    (State.mapCluster s c f) := by
  unfold State.mapCluster
  with_reducible repeat' first
    | assumption | exact Part.le hF | simp only [Kept.lit_iff] | apply Kept.upd_bd | rfl

theorem State.setWays_kept {k : Nat} {f : Nat → Nat} (hF : [.regs] ⊆ F) (kp : Kept F s0 s) : Kept F s0 (State.setWays s k f) :=
    by
  unfold State.setWays
  with_reducible repeat' first
    | assumption | exact Part.le hF | intro x a (_ : Kept F s0 x) | apply State.wf_kept | apply Kept.foldl

theorem State.closeWays_kept {k : Nat} (hF : [.regs] ⊆ F) (kp : Kept F s0 s) : Kept F s0 (State.closeWays s k) := by
  unfold State.closeWays
  with_reducible repeat' first
    | assumption | exact Part.le hF | apply State.setWays_kept

theorem State.openWays_kept {k : Nat} (hF : [.regs] ⊆ F) (kp : Kept F s0 s) : Kept F s0 (State.openWays s k) := by
  unfold State.openWays
  with_reducible repeat' first
    | assumption | exact Part.le hF | apply State.setWays_kept

theorem State.enterP2_kept (hF : [.regs, .cells, .lines, .locket, .wake, .power, .bd] ⊆ F) (kp : Kept F s0 s) : Kept F s0
    (State.enterP2 s) := by
  unfold State.enterP2
  with_reducible repeat' first
    | assumption | exact Part.le hF | intro x a (_ : Kept F s0 x) | apply State.closeWays_kept | apply State.mapCluster_kept
    | apply State.modDom_kept | apply State.requestOff_kept | apply Kept.ite | apply Kept.foldl

theorem State.leaveP2_kept (hF : [.regs, .power, .bd] ⊆ F) (kp : Kept F s0 s) : Kept F s0 (State.leaveP2 s) := by
  unfold State.leaveP2
  with_reducible repeat' first
    | assumption | exact Part.le hF | intro x a (_ : Kept F s0 x) | apply State.mapCluster_kept | apply State.modDom_kept
    | apply State.openWays_kept | apply State.sampleLine_kept | apply Kept.ite | apply Kept.foldl

theorem State.enterP3_kept (hF : [.regs, .cells, .lines, .locket, .wake, .power, .bd] ⊆ F) (kp : Kept F s0 s) : Kept F s0
    (State.enterP3 s) := by
  unfold State.enterP3
  with_reducible repeat' first
    | assumption | exact Part.le hF | intro x a (_ : Kept F s0 x) | apply State.abortStrand_kept | apply State.modDom_kept
    | apply State.requestOff_kept | simp only [Kept.lit_iff] | apply Kept.upd_power | apply Kept.foldl | rfl

theorem State.restartStrand_kept {k owner : Nat} {im : List Byte} (hF : [.regs, .cells, .lines, .locket, .wake, .power, .bd] ⊆
    F) (kp : Kept F s0 s) : Kept F s0 (State.restartStrand s k owner im) := by
  unfold State.restartStrand
  with_reducible repeat' first
    | assumption | exact Part.le hF | apply State.placeStrand_kept | apply State.startStrand_kept | split

theorem State.finishWake_kept (hF : [.regs, .cells, .lines, .locket, .wake, .power, .bd] ⊆ F) (kp : Kept F s0 s) : Kept F s0
    (State.finishWake s) := by
  unfold State.finishWake
  with_reducible repeat' first
    | assumption | exact Part.le hF | intro x a (_ : Kept F s0 x) | apply State.openWays_kept | apply State.restartStrand_kept
    | apply State.setHeadState_kept | apply State.wb_kept | simp only [Kept.lit_iff] | apply Kept.upd_power | apply Kept.ite
    | apply Kept.foldl | rfl

theorem State.wakeP0_kept {cause : Nat} (hF : [.regs, .cells, .lines, .locket, .wake, .power, .bd] ⊆ F) (kp : Kept F s0 s) :
    Kept F s0 (State.wakeP0 s cause) := by
  unfold State.wakeP0
  with_reducible repeat' first
    | assumption | exact Part.le hF | intro x a (_ : Kept F s0 x) | apply State.finishWake_kept | apply State.leaveP2_kept
    | apply State.requestOn_kept | apply State.setHeadState_kept | apply State.wb_kept | simp only [Kept.lit_iff]
    | apply Kept.upd_power_wake | apply Kept.ite | apply Kept.foldl | rfl

theorem State.idle_kept (hF : [.gts, .cal, .regs, .cells, .lines, .locket, .wake, .power, .bd] ⊆ F) (kp : Kept F s0 s) : Kept F
    s0 (State.idle s) := by
  unfold State.idle
  with_reducible repeat' first
    | assumption | exact Part.le hF | apply State.tick_kept | apply State.wakeP0_kept | apply Kept.ite

theorem execIdleTimerExpiry_kept (hF : [.regs, .cells, .lines, .locket, .wake, .power, .bd] ⊆ F) (kp : Kept F s0 s) : KeptR F s0
    (execIdleTimerExpiry s) := by
  unfold execIdleTimerExpiry
  with_reducible repeat' first
    | assumption | exact Part.le hF | intro x (_ : Kept F s0 x) | apply KeptR.actIf | apply State.enterP2_kept
    | apply State.enterP3_kept | apply State.setHeadState_kept | apply Kept.ite

theorem execDomainGrant_kept (hF : [.pins, .regs, .cells, .lines, .locket, .wake, .power, .bd] ⊆ F) (kp : Kept F s0 s) : KeptR F
    s0 (execDomainGrant s) := by
  unfold execDomainGrant
  with_reducible repeat' first
    | assumption | exact Part.le hF | intro x (_ : Kept F s0 x) | apply State.finishWake_kept | apply State.grant_kept
    | apply actAon_kept

theorem execRampTimeout_kept {us : Nat} (hF : [.pins, .regs, .cells, .lines, .locket, .wake, .power, .bd] ⊆ F) (kp : Kept F s0
    s) : KeptR F s0 (execRampTimeout us s) := by
  unfold execRampTimeout
  with_reducible repeat' first
    | assumption | exact Part.le hF | intro x (_ : Kept F s0 x) | apply State.finishWake_kept | apply State.irq_kept
    | apply State.log_kept | apply State.modDom_kept | apply State.setSwitch_kept | apply actAon_kept | split

theorem State.endWaking_kept (hF : [.regs] ⊆ F) (kp : Kept F s0 s) : Kept F s0 (State.endWaking s) := by
  unfold State.endWaking
  with_reducible repeat' first
    | assumption | exact Part.le hF | intro x a (_ : Kept F s0 x) | apply State.setOstat_kept | apply Kept.ite
    | apply Kept.foldl

theorem execDomainReady_kept {d : Nat} (hF : [.regs, .cells, .lines, .locket, .wake, .power, .bd] ⊆ F) (kp : Kept F s0 s) :
    KeptR F s0 (execDomainReady d s) := by
  unfold execDomainReady
  with_reducible repeat' first
    | assumption | exact Part.le hF | intro x (_ : Kept F s0 x) | apply State.endWaking_kept | apply State.finishWake_kept
    | apply State.modDom_kept | apply actAon_kept

theorem State.ground_kept (hF : Part.all ⊆ F) (kp : Kept F s0 s) : Kept F s0 s.ground :=
  ⟨kp.pend, fun _ => rfl, fun _ => rfl, kp.otp, fun f => .inl (hF (Part.mem_all f))⟩

theorem State.dark_kept (hF : Part.all ⊆ F) (kp : Kept F s0 s) : Kept F s0 s.dark :=
  ⟨kp.pend, fun _ => rfl, fun x => rising_filter _ (kp.regs x), kp.otp, fun f => .inl (hF (Part.mem_all f))⟩

theorem State.resetHead_kept {cause : Option Nat} (hF : Part.all ⊆ F) (kp : Kept F s0 s) : Kept F s0 (s.resetHead cause) := by
  have hx : Kept F s0 (s.eng.jobs.foldl (fun s e => s.endJob e.1 e.2 { status := St.ABORTED_BY_RESET }) s) :=
    Kept.foldl kp fun y a hy => State.endJob_kept (Part.le hF) hy
  unfold State.resetHead
  generalize s.eng.jobs.foldl (fun s e => s.endJob e.1 e.2 { status := St.ABORTED_BY_RESET }) s = x at hx
  dsimp only
  split
  · exact State.wrN_kept (Part.le hF) ⟨hx.pend, fun h => Memory.wf_filter _ rfl (hx.mem h), fun h => rising_filter _ (hx.regs h), hx.otp,
      fun f => .inl (hF (Part.mem_all f))⟩
  · exact ⟨hx.pend, fun h => Memory.wf_filter _ rfl (hx.mem h), fun h => rising_filter _ (hx.regs h), hx.otp,
      fun f => .inl (hF (Part.mem_all f))⟩

theorem execPwrseqStandby_kept {master value : Nat} (hF : [.pins, .regs, .wos, .lockWins, .cells, .lines, .eng, .locket, .wake,
    .power, .hq, .pair, .stitch, .out] ⊆ F) (kp : Kept F s0 s) : KeptR F s0 (execPwrseqStandby master value s) := by
  unfold execPwrseqStandby
  with_reducible repeat' first
    | assumption | exact Part.le hF | intro x (_ : Kept F s0 x) | intro x a (_ : Kept F s0 x) | apply KeptR.actIf
    | apply State.abortCmds_kept | apply State.regCmd_kept | apply State.requestOff_kept | apply State.setAnaWhere_kept
    | apply State.setModState_kept | apply State.setPerst_kept | apply State.unpower_kept | apply State.wb_kept
    | apply State.wf_kept | apply State.wrN_kept | simp only [Kept.lit_iff] | apply Kept.upd_power | apply Kept.ite
    | apply Kept.foldl | rfl

theorem execStandbyCommit_kept (hF : [.regs, .power] ⊆ F) (kp : Kept F s0 s) : KeptR F s0 (execStandbyCommit s) := by
  unfold execStandbyCommit
  with_reducible repeat' first
    | assumption | exact Part.le hF | intro x (_ : Kept F s0 x) | apply KeptR.actIf | apply State.wf_kept
    | apply State.wr64_kept | apply State.wrN_kept | simp only [Kept.lit_iff] | apply Kept.upd_power | rfl

theorem State.thimbleWake_kept {b : Nat} (hF : [.regs, .cells, .lines, .locket, .wake, .power] ⊆ F) (kp : Kept F s0 s) : Kept F
    s0 (State.thimbleWake s b) := by
  unfold State.thimbleWake
  with_reducible repeat' first
    | assumption | exact Part.le hF | apply State.requestOn_kept | apply State.wb_kept | apply State.wrN_kept | apply Kept.ite

theorem execThimbleArm_kept (hF : Part.all ⊆ F) (kp : Kept F s0 s) : KeptR F s0 (execThimbleArm s) := by
  unfold execThimbleArm
  with_reducible repeat' first
    | assumption | exact Part.le hF | apply State.dark_kept | apply State.thimbleWake_kept | apply State.wf_kept
    | apply State.wrN_kept | simp only [Kept.lit_iff] | apply Kept.upd_power | apply Kept.ite | apply KeptR.ite
    | apply KeptR.next | rfl

theorem execWakeAddressMatch_kept {addr : Nat} (hF : [.regs, .cells, .lines, .locket, .wake, .power, .out] ⊆ F) (kp : Kept F s0
    s) : KeptR F s0 (execWakeAddressMatch addr s) := by
  unfold execWakeAddressMatch
  with_reducible repeat' first
    | assumption | exact Part.le hF | apply State.emit_kept | apply State.thimbleWake_kept | apply State.wrN_kept
    | apply KeptR.ite | apply KeptR.next

theorem execWakeNLow_kept {held : Bool} (hF : [.pins, .regs, .cells, .lines, .locket, .wake, .power] ⊆ F) (kp : Kept F s0 s) :
    KeptR F s0 (execWakeNLow held s) := by
  unfold execWakeNLow
  with_reducible repeat' first
    | assumption | exact Part.le hF | apply State.thimbleWake_kept | simp only [Kept.lit_iff] | apply Kept.upd_pins
    | apply KeptR.ite | apply KeptR.next | rfl

theorem execPwrFailNRise_kept (hF : [.pins, .regs, .cells, .lines, .locket, .wake, .power] ⊆ F) (kp : Kept F s0 s) : KeptR F s0
    (execPwrFailNRise s) := by
  unfold execPwrFailNRise
  with_reducible repeat' first
    | assumption | exact Part.le hF | apply State.thimbleWake_kept | simp only [Kept.lit_iff] | apply Kept.upd_pins
    | apply KeptR.ite | apply KeptR.next | rfl

theorem execAonPowerOn_kept (hF : [.pins, .regs, .cells, .lines, .locket, .wake, .power] ⊆ F) (kp : Kept F s0 s) : KeptR F s0
    (execAonPowerOn s) := by
  unfold execAonPowerOn
  with_reducible repeat' first
    | assumption | exact Part.le hF | apply State.requestOn_kept | simp only [Kept.lit_iff] | apply Kept.upd_pins
    | apply Kept.upd_power | apply Kept.upd_power_pins | apply KeptR.ite | apply KeptR.next | rfl

theorem execXtalAonRunning_kept (hF : [.regs] ⊆ F) (kp : Kept F s0 s) : KeptR F s0 (execXtalAonRunning s) := by
  unfold execXtalAonRunning
  with_reducible repeat' first
    | assumption | exact Part.le hF | intro x (_ : Kept F s0 x) | apply State.wb_kept | apply actAon_kept

theorem execVddAonRemoval_kept (hF : Part.all ⊆ F) (kp : Kept F s0 s) : KeptR F s0 (execVddAonRemoval s) := by
  unfold execVddAonRemoval
  with_reducible repeat' first
    | assumption | exact Part.le hF | apply State.ground_kept | apply KeptR.next

theorem execSelvedgeRelease_kept {master value : Nat} (hF : [.regs, .wos, .lockWins, .cells, .lines, .locket, .wake, .power] ⊆
    F) (kp : Kept F s0 s) : KeptR F s0 (execSelvedgeRelease master value s) := by
  unfold execSelvedgeRelease
  with_reducible repeat' first
    | assumption | exact Part.le hF | intro x (_ : Kept F s0 x) | intro x a (_ : Kept F s0 x) | apply KeptR.act
    | apply State.log_kept | apply State.regCmd_kept | simp only [Kept.lit_iff] | apply Kept.upd_power | apply Kept.ite | rfl

theorem State.sample_kept {mon mv : Nat} (hF : [.regs] ⊆ F) (kp : Kept F s0 s) : Kept F s0 (State.sample s mon mv) := by
  unfold State.sample
  with_reducible repeat' first
    | assumption | exact Part.le hF | apply State.wf_kept | apply State.wrN_kept

theorem State.brownout_kept {mon mv : Nat} (hF : [.regs, .cells, .lines, .locket, .wake, .power, .stitch, .out] ⊆ F) (kp : Kept
    F s0 s) : Kept F s0 (State.brownout s mon mv) := by
  unfold State.brownout
  with_reducible repeat' first
    | assumption | exact Part.le hF | apply State.countSat_kept | apply State.irq_kept | apply State.programHold_kept
    | apply State.sample_kept | apply State.wb_kept | simp only [Kept.lit_iff] | apply Kept.upd_power | split | rfl

theorem execBrownoutStart_kept {mon mv : Nat} (hF : [.regs, .cells, .lines, .locket, .wake, .power, .stitch, .out] ⊆ F) (kp :
    Kept F s0 s) : KeptR F s0 (execBrownoutStart mon mv s) := by
  unfold execBrownoutStart
  with_reducible repeat' first
    | assumption | exact Part.le hF | intro x (_ : Kept F s0 x) | apply KeptR.actIf | apply State.brownout_kept

theorem execBrownoutEnd_kept (hF : [.regs, .cells, .lines, .locket, .wake, .power, .stitch, .out] ⊆ F) (kp : Kept F s0 s) :
    KeptR F s0 (execBrownoutEnd s) := by
  unfold execBrownoutEnd
  with_reducible repeat' first
    | assumption | exact Part.le hF | intro x (_ : Kept F s0 x) | intro x a (_ : Kept F s0 x) | apply KeptR.act
    | apply State.log_kept | apply State.programRelease_kept | apply State.wb_kept | simp only [Kept.lit_iff]
    | apply Kept.upd_power | apply Kept.foldl | apply KeptR.next | split | rfl

theorem State.startDump_kept (hF : [.regs, .cells, .lines, .locket, .wake, .power, .stitch, .out] ⊆ F) (kp : Kept F s0 s) : Kept
    F s0 (State.startDump s) := by
  unfold State.startDump
  with_reducible repeat' first
    | assumption | exact Part.le hF | apply State.programHold_kept | apply State.wb_kept | apply State.wrN_kept
    | simp only [Kept.lit_iff] | apply Kept.upd_power | apply Kept.ite | rfl

theorem execPowerFail_kept (hF : [.pins, .regs, .cells, .lines, .locket, .wake, .power, .stitch, .out] ⊆ F) (kp : Kept F s0 s) :
    KeptR F s0 (execPowerFail s) := by
  unfold execPowerFail
  with_reducible repeat' first
    | assumption | exact Part.le hF | apply KeptR.act | apply State.startDump_kept | simp only [Kept.lit_iff]
    | apply Kept.upd_pins | intro x (_ : Kept F s0 x) | intro x a (_ : Kept F s0 x) | intro x a b c (_ : Kept F s0 x) | rfl

theorem execMonitorTrip_kept {mon mv : Nat} (hF : [.regs, .cells, .lines, .locket, .wake, .power, .stitch, .out] ⊆ F) (kp : Kept
    F s0 s) : KeptR F s0 (execMonitorTrip mon mv s) := by
  unfold execMonitorTrip
  with_reducible repeat' first
    | assumption | exact Part.le hF | intro x (_ : Kept F s0 x) | apply KeptR.actIf | apply State.brownout_kept
    | apply State.startDump_kept

theorem execDumpCommit_kept {bytes us : Nat} (hF : [.regs, .cells, .lines, .locket, .wake, .power] ⊆ F) (kp : Kept F s0 s) :
    KeptR F s0 (execDumpCommit bytes us s) := by
  unfold execDumpCommit
  with_reducible repeat' first
    | assumption | exact Part.le hF | intro x (_ : Kept F s0 x) | apply KeptR.actIf | apply State.irq_kept
    | apply State.log_kept | apply State.wb_kept | apply State.wr64_kept | apply State.wrN_kept | simp only [Kept.lit_iff]
    | apply Kept.upd_power | rfl

theorem execDumpResume_kept (hF : [.regs, .cells, .lines, .locket, .wake, .power, .stitch, .out] ⊆ F) (kp : Kept F s0 s) : KeptR
    F s0 (execDumpResume s) := by
  unfold execDumpResume
  with_reducible repeat' first
    | assumption | exact Part.le hF | intro x (_ : Kept F s0 x) | apply KeptR.actIf | apply State.log_kept
    | apply State.programRelease_kept | apply State.wb_kept | simp only [Kept.lit_iff] | apply Kept.upd_power | rfl

/-! ### CipherJobs -/

theorem State.authFail_kept {j : Job} (hF : [.regs, .cells, .lines, .locket, .wake] ⊆ F) (kp : Kept F s0 s) : Kept F s0
    (State.authFail s j) := by
  unfold State.authFail
  with_reducible repeat' first
    | assumption | exact Part.le hF | apply State.countSat_kept | apply State.irq_kept | apply State.logI_kept

theorem State.takeBlock_kept {e : Nat} (hF : [.regs, .cells, .lines, .locket, .wake, .cipher] ⊆ F) (kp : Kept F s0 s) : Kept F
    s0 (State.takeBlock s e) := by
  unfold State.takeBlock
  with_reducible repeat' first
    | assumption | exact Part.le hF | apply State.irq_kept | apply State.log_kept | apply State.setNonceEng_kept
    | simp only [Kept.lit_iff] | split | rfl

theorem State.takeNonce_kept {e : Nat} (hF : [.regs, .cells, .lines, .locket, .wake, .cipher] ⊆ F) (kp : Kept F s0 s) : Kept F
    s0 (State.takeNonce s e).1 := by
  unfold State.takeNonce
  with_reducible repeat' first
    | assumption | exact Part.le hF | apply State.countSat_kept | apply State.irq_kept | apply State.logI_kept
    | apply State.setNonceEng_kept | apply State.takeBlock_kept | simp only [Kept.lit_iff] | split | rfl

theorem State.cipherSrc_kept {j : Job} {need : Nat} (hF : [.regs, .accWin, .cells, .lines, .store, .locket, .wake, .fresh] ⊆ F)
    (kp : Kept F s0 s) : Kept F s0 (State.cipherSrc s j need).1 := by
  unfold State.cipherSrc
  with_reducible repeat' first
    | assumption | exact Part.le hF | apply State.areas_kept | apply State.readAreas_kept | apply State.readBytes_kept
    | simp only [Kept.lit_iff] | split | rfl

theorem State.cipherDst_kept {j : Job} {data : List Byte} {counts : Nat} (hF : [.regs, .accWin, .cells, .lines, .store, .locket,
    .wake, .out, .fresh] ⊆ F) (kp : Kept F s0 s) : Kept F s0 (State.cipherDst s j data counts).1 := by
  unfold State.cipherDst
  with_reducible repeat' first
    | assumption | exact Part.le hF | apply State.areas_kept | apply State.writeAreas_kept | simp only [Kept.lit_iff] | split
    | rfl

theorem State.dstOk_kept {j : Job} {need : Nat} (hF : [.regs, .accWin, .cells, .lines, .store, .locket, .wake, .fresh] ⊆ F) (kp
    : Kept F s0 s) : Kept F s0 (State.dstOk s j need).1 := by
  unfold State.dstOk
  with_reducible repeat' first
    | assumption | exact Part.le hF | apply State.areas_kept | simp only [Kept.lit_iff] | split | rfl

theorem execGcmSeal_kept {job : Nat} (hF : [.regs, .accWin, .cells, .lines, .store, .eng, .locket, .wake, .cipher, .out, .fresh]
    ⊆ F) (kp : Kept F s0 s) : KeptR F s0 (execGcmSeal job s) := by
  unfold execGcmSeal
  with_reducible repeat' first
    | assumption | exact Part.le hF | intro x a (_ : Kept F s0 x) | apply State.cipherDst_kept | apply State.cipherSrc_kept
    | apply State.dstOk_kept | apply State.takeNonce_kept | apply jobAct_kept | split | refine Kept.of_pair ?_ ‹_ = (_, _)›

theorem State.poisonAreas_kept {as : List (Nat × Nat)} (hF : [.lines] ⊆ F) (kp : Kept F s0 s) : Kept F s0 (State.poisonAreas s
    as) := by
  unfold State.poisonAreas
  with_reducible repeat' first
    | assumption | exact Part.le hF | intro x a (_ : Kept F s0 x) | apply State.setLine_kept | apply Kept.foldl

theorem execGcmOpen_kept {job : Nat} (hF : [.regs, .accWin, .cells, .lines, .store, .eng, .locket, .wake, .out, .fresh] ⊆ F) (kp
    : Kept F s0 s) : KeptR F s0 (execGcmOpen job s) := by
  unfold execGcmOpen
  with_reducible repeat' first
    | assumption | exact Part.le hF | intro x a (_ : Kept F s0 x) | apply State.areas_kept | apply State.authFail_kept
    | apply State.cipherDst_kept | apply State.cipherSrc_kept | apply State.dstOk_kept | apply State.poisonAreas_kept
    | apply State.writeAreas_kept | apply jobAct_kept | simp only [Kept.lit_iff] | split | refine Kept.of_pair ?_ ‹_ = (_, _)›
    | rfl

theorem State.xtsJob_kept {j : Job} {enc : Bool} (hF : [.regs, .accWin, .cells, .lines, .store, .locket, .wake, .out, .fresh] ⊆
    F) (kp : Kept F s0 s) : Kept F s0 (State.xtsJob s j enc).1 := by
  unfold State.xtsJob
  with_reducible repeat' first
    | assumption | exact Part.le hF | apply State.cipherDst_kept | apply State.cipherSrc_kept | apply State.dstOk_kept
    | simp only [Kept.lit_iff] | split | refine Kept.of_pair ?_ ‹_ = (_, _)› | rfl

theorem execXtsEnc_kept {job : Nat} (hF : [.regs, .accWin, .cells, .lines, .store, .eng, .locket, .wake, .out, .fresh] ⊆ F) (kp
    : Kept F s0 s) : KeptR F s0 (execXtsEnc job s) := by
  unfold execXtsEnc
  with_reducible repeat' first
    | assumption | exact Part.le hF | intro x a (_ : Kept F s0 x) | apply State.xtsJob_kept | apply jobAct_kept

theorem execXtsDec_kept {job : Nat} (hF : [.regs, .accWin, .cells, .lines, .store, .eng, .locket, .wake, .out, .fresh] ⊆ F) (kp
    : Kept F s0 s) : KeptR F s0 (execXtsDec job s) := by
  unfold execXtsDec
  with_reducible repeat' first
    | assumption | exact Part.le hF | intro x a (_ : Kept F s0 x) | apply State.xtsJob_kept | apply jobAct_kept

theorem execCtr_kept {job : Nat} (hF : [.regs, .accWin, .cells, .lines, .store, .eng, .locket, .wake, .out, .fresh] ⊆ F) (kp :
    Kept F s0 s) : KeptR F s0 (execCtr job s) := by
  unfold execCtr
  with_reducible repeat' first
    | assumption | exact Part.le hF | intro x a (_ : Kept F s0 x) | apply State.cipherDst_kept | apply State.cipherSrc_kept
    | apply State.dstOk_kept | apply jobAct_kept | split | refine Kept.of_pair ?_ ‹_ = (_, _)›

theorem State.keyChanged_kept {slot op : Nat} (hF : [.regs, .cells, .lines, .locket, .wake] ⊆ F) (kp : Kept F s0 s) : Kept F s0
    (State.keyChanged s slot op) := by
  unfold State.keyChanged
  with_reducible repeat' first
    | assumption | exact Part.le hF | apply State.log_kept

theorem State.randBytes_kept {n : Nat} (hF : [.fresh] ⊆ F) (kp : Kept F s0 s) : Kept F s0 (State.randBytes n s).1 := by
  induction n generalizing s with
  | zero => exact kp
  | succ n ih => exact ih (State.free_kept (Part.le hF) kp)

theorem execKeyGen_kept {job : Nat} (hF : [.regs, .cells, .lines, .eng, .locket, .wake, .cipher, .fresh] ⊆ F) (kp : Kept F s0 s)
    : KeptR F s0 (execKeyGen job s) := by
  unfold execKeyGen
  with_reducible repeat' first
    | assumption | exact Part.le hF | intro x a (_ : Kept F s0 x) | apply State.keyChanged_kept | apply State.randBytes_kept
    | apply State.setSlot_kept | apply jobAct_kept | apply Kept.ite_fst

theorem execKeyWrap_kept {job : Nat} (hF : [.regs, .accWin, .cells, .lines, .store, .eng, .locket, .wake, .out, .fresh] ⊆ F) (kp
    : Kept F s0 s) : KeptR F s0 (execKeyWrap job s) := by
  unfold execKeyWrap
  with_reducible repeat' first
    | assumption | exact Part.le hF | intro x a (_ : Kept F s0 x) | apply State.cipherDst_kept | apply jobAct_kept | split

theorem execKeyUnwrap_kept {job : Nat} (hF : [.regs, .accWin, .cells, .lines, .store, .eng, .locket, .wake, .cipher, .fresh] ⊆
    F) (kp : Kept F s0 s) : KeptR F s0 (execKeyUnwrap job s) := by
  unfold execKeyUnwrap
  with_reducible repeat' first
    | assumption | exact Part.le hF | intro x (_ : Kept F s0 x) | intro x a (_ : Kept F s0 x) | intro x a b (_ : Kept F s0 x)
    | intro x a b c (_ : Kept F s0 x) | intro x a b c d (_ : Kept F s0 x) | intro y a (_ : Kept F s0 y.1)
    | intro y a (_ : Kept F s0 y.1.1)
    | (lift_lets; intro x; first | (refine Kept.cut (p := Kept F s0 x) ?_ (fun _ => ?_); focus (try dsimp only [x]); rotate_left; try clear_value x; rotate_right) | (refine Kept.cut (p := Kept F s0 x.1) ?_ (fun _ => ?_); focus (try dsimp only [x]); rotate_left; try clear_value x; rotate_right) | (refine Kept.cut (p := Kept F s0 x.st) ?_ (fun _ => ?_); focus (try dsimp only [x]); rotate_left; try clear_value x; rotate_right) | (refine Kept.cut (p := Kept F s0 x.1.1) ?_ (fun _ => ?_); focus (try dsimp only [x]); rotate_left; try clear_value x; rotate_right) | (refine Kept.cut (p := ∀ y, Kept F s0 y → Kept F s0 (x y)) ?_ (fun _ => ?_); focus (try dsimp only [x]); rotate_left; try clear_value x; rotate_right) | (refine Kept.cut (p := ∀ y a, Kept F s0 y → Kept F s0 (x y a)) ?_ (fun _ => ?_); focus (try dsimp only [x]); rotate_left; try clear_value x; rotate_right) | (refine Kept.cut (p := ∀ y, Kept F s0 y → Kept F s0 (x y).st) ?_ (fun _ => ?_); focus (try dsimp only [x]); rotate_left; try clear_value x; rotate_right) | (refine Kept.cut (p := ∀ y, Kept F s0 y → Kept F s0 (x y).1) ?_ (fun _ => ?_); focus (try dsimp only [x]); rotate_left; try clear_value x; rotate_right) | (refine Kept.cut (p := Kept F s0 (x ()).st) ?_ (fun _ => ?_); focus (try dsimp only [x]); rotate_left; try clear_value x; rotate_right) | (refine Kept.cut (p := Kept F s0 (x ())) ?_ (fun _ => ?_); focus (try dsimp only [x]); rotate_left; try clear_value x; rotate_right) | (refine Kept.cut (p := Kept F s0 x.2) ?_ (fun _ => ?_); focus (try dsimp only [x]); rotate_left; try clear_value x; rotate_right) | (have y : Memory := x; clear y) | (have y : Boot := x; clear y) | clear_value x | skip)
    | apply State.authFail_kept | apply State.cipherSrc_kept | apply State.keyChanged_kept | apply State.setSlot_kept
    | apply jobAct_kept | simp only [Kept.lit_iff] | apply Kept.ite | apply Kept.ite_fst | apply Kept.foldl
    | apply Kept.foldl_fst | apply KeptR.ite | apply KeptR.next | apply KeptB.ite | apply KeptB.ok | apply KeptB.error | rfl
    | intro _ | split | apply_assumption | exact Kept.of_pair ‹_› ‹_ = (_, _)› | refine Kept.of_pair ?_ ‹_ = (_, _)›

theorem execKeyClear_kept {job : Nat} (hF : [.regs, .cells, .lines, .eng, .locket, .wake, .cipher] ⊆ F) (kp : Kept F s0 s) :
    KeptR F s0 (execKeyClear job s) := by
  unfold execKeyClear
  with_reducible repeat' first
    | assumption | exact Part.le hF | intro x a (_ : Kept F s0 x) | apply State.keyChanged_kept | apply State.setSlot_kept
    | apply jobAct_kept | apply Kept.ite_fst

theorem State.endKeyCmd_kept {code : Nat} (hF : [.regs] ⊆ F) (kp : Kept F s0 s) : Kept F s0 (State.endKeyCmd s code) := by
  unfold State.endKeyCmd
  with_reducible repeat' first
    | assumption | exact Part.le hF | intro x a (_ : Kept F s0 x) | apply State.wrN_kept | apply Kept.foldl

theorem execKeyCmdLoad_kept {master value : Nat} (hF : [.regs, .wos, .lockWins, .cells, .lines, .locket, .wake, .cipher] ⊆ F)
    (kp : Kept F s0 s) : KeptR F s0 (execKeyCmdLoad master value s) := by
  unfold execKeyCmdLoad
  with_reducible repeat' first
    | assumption | exact Part.le hF | intro x (_ : Kept F s0 x) | intro x a (_ : Kept F s0 x) | apply KeptR.actIf
    | apply State.endKeyCmd_kept | apply State.keyChanged_kept | apply State.refuseAt_kept | apply State.regCmd_kept
    | apply State.setSlot_kept | apply State.wrN_kept | apply Kept.ite

theorem execKeyCmdClear_kept {master value : Nat} (hF : [.regs, .wos, .lockWins, .cells, .lines, .locket, .wake, .cipher] ⊆ F)
    (kp : Kept F s0 s) : KeptR F s0 (execKeyCmdClear master value s) := by
  unfold execKeyCmdClear
  with_reducible repeat' first
    | assumption | exact Part.le hF | intro x (_ : Kept F s0 x) | intro x a (_ : Kept F s0 x) | apply KeptR.actIf
    | apply State.endKeyCmd_kept | apply State.keyChanged_kept | apply State.regCmd_kept | apply State.setSlot_kept

theorem execCipherNonceFloorWrite_kept {master value : Nat} (hF : [.regs, .wos, .lockWins, .cells, .lines, .locket, .wake,
    .cipher] ⊆ F) (kp : Kept F s0 s) : KeptR F s0 (execCipherNonceFloorWrite master value s) := by
  unfold execCipherNonceFloorWrite
  with_reducible repeat' first
    | assumption | exact Part.le hF | intro x (_ : Kept F s0 x) | intro x a (_ : Kept F s0 x) | apply KeptR.act
    | apply State.regCmd_kept | apply State.wrN_kept | simp only [Kept.lit_iff] | apply Kept.upd_cipher | rfl

theorem execCipherNonceGrantWrite_kept {master value : Nat} (hF : [.regs, .wos, .lockWins, .cells, .lines, .locket, .wake,
    .cipher] ⊆ F) (kp : Kept F s0 s) : KeptR F s0 (execCipherNonceGrantWrite master value s) := by
  unfold execCipherNonceGrantWrite
  with_reducible repeat' first
    | assumption | exact Part.le hF | intro x (_ : Kept F s0 x) | intro x a (_ : Kept F s0 x) | apply KeptR.act
    | apply State.ignoreW_kept | apply State.log_kept | apply State.regCmd_kept | apply State.setNonceEng_kept
    | apply State.takeBlock_kept | apply State.wrN_kept | apply Kept.ite

end Sys2Proof.Machine
end

