-- ==== Sys2Proof/Machine/KeptLinks.lean ====
section
/-! DEFINITION. What every command keeps, kept by the commands of the links, the stitch modules, the head pair and deduplication. The file holds theorems alone, no
definition: it stands beside the functions it speaks of, so that who mends one mends its theorem with it. -/
namespace Sys2Proof.Machine

set_option Elab.async false
variable {F : List Part} {s0 s t : State}

/-! ### UrtOps -/

theorem State.showFlows_kept (hF : [.regs] ⊆ F) (kp : Kept F s0 s) : Kept F s0 (State.showFlows s) := by
  unfold State.showFlows
  with_reducible repeat' first
    | assumption | exact Part.le hF | apply State.wrN_kept

theorem State.setFlow_kept {k : Nat} {f : UFlow} (hF : [.regs, .urt] ⊆ F) (kp : Kept F s0 s) : Kept F s0 (State.setFlow s k f)
    := by
  unfold State.setFlow
  with_reducible repeat' first
    | assumption | exact Part.le hF | apply State.showFlows_kept | simp only [Kept.lit_iff] | apply Kept.upd_urt | rfl

theorem State.setQp_kept {n : Nat} {q : Qp} (hF : [.regs, .urt] ⊆ F) (kp : Kept F s0 s) : Kept F s0 (State.setQp s n q) := by
  unfold State.setQp
  with_reducible repeat' first
    | assumption | exact Part.le hF | apply State.showFlows_kept | simp only [Kept.lit_iff] | apply Kept.upd_urt | rfl

theorem State.openFlow_kept {k : Nat} {f : UFlow} {peer txPsn rxPsn epoch payload : Nat} {enc : Bool} (hF : [.regs, .urt] ⊆ F)
    (kp : Kept F s0 s) : Kept F s0 (State.openFlow s k f peer txPsn rxPsn epoch payload enc) := by
  unfold State.openFlow
  with_reducible repeat' first
    | assumption | exact Part.le hF | apply State.setFlow_kept

theorem State.urtEmit_kept {k : Nat} {p : UPkt} (hF : [.regs, .cells, .lines, .locket, .wake, .cipher, .out] ⊆ F) (kp : Kept F
    s0 s) : Kept F s0 (State.urtEmit s k p).1 := by
  unfold State.urtEmit
  with_reducible repeat' first
    | assumption | exact Part.le hF | apply State.emit_kept | apply State.takeNonce_kept | apply Kept.ite_fst | split
    | refine Kept.of_pair ?_ ‹_ = (_, _)›

theorem State.putEvent_kept {q ty source subject detail : Nat} (hF : [.regs, .accWin, .cells, .lines, .store, .locket, .wake,
    .urt, .out] ⊆ F) (kp : Kept F s0 s) : Kept F s0 (State.putEvent s q ty source subject detail) := by
  unfold State.putEvent
  with_reducible repeat' first
    | assumption | exact Part.le hF | apply State.wrN_kept | apply State.writeBytes_kept | simp only [Kept.lit_iff]
    | apply Kept.upd_urt | apply Kept.ite | rfl

theorem State.event_kept {q ty source subject detail : Nat} (hF : [.regs, .accWin, .cells, .lines, .store, .locket, .wake, .urt,
    .out] ⊆ F) (kp : Kept F s0 s) : Kept F s0 (State.event s q ty source subject detail) := by
  unfold State.event
  with_reducible repeat' first
    | assumption | exact Part.le hF | apply State.countSat_kept | apply State.log_kept | apply State.putEvent_kept
    | apply Kept.ite

theorem State.portEvent_kept {ty source subject detail : Nat} (hF : [.regs, .accWin, .cells, .lines, .store, .locket, .wake,
    .urt, .out] ⊆ F) (kp : Kept F s0 s) : Kept F s0 (State.portEvent s ty source subject detail) := by
  unfold State.portEvent
  with_reducible repeat' first
    | assumption | exact Part.le hF | intro x a (_ : Kept F s0 x) | apply State.event_kept | apply Kept.ite | apply Kept.foldl

theorem State.connLost_kept {c : Nat} (hF : [.regs, .cells, .lines, .locket, .wake, .hq, .pair, .out] ⊆ F) (kp : Kept F s0 s) :
    Kept F s0 (State.connLost s c) := by
  unfold State.connLost
  with_reducible repeat' first
    | assumption | exact Part.le hF | intro x a (_ : Kept F s0 x) | apply State.queueReset_kept | apply Kept.foldl

theorem State.endUrtJob_kept {id status bytes retx : Nat} (hF : [.regs, .accWin, .cells, .lines, .store, .eng, .locket, .wake,
    .out] ⊆ F) (kp : Kept F s0 s) : Kept F s0 (State.endUrtJob s id status bytes retx) := by
  unfold State.endUrtJob
  with_reducible repeat' first
    | assumption | exact Part.le hF | apply State.endJob_kept | split

theorem State.endFlowJobs_kept {k status : Nat} (hF : [.regs, .accWin, .cells, .lines, .store, .eng, .locket, .wake, .urt, .out]
    ⊆ F) (kp : Kept F s0 s) : Kept F s0 (State.endFlowJobs s k status) := by
  unfold State.endFlowJobs
  with_reducible repeat' first
    | assumption | exact Part.le hF | intro x a (_ : Kept F s0 x) | apply State.endUrtJob_kept | apply State.setFlow_kept
    | apply Kept.foldl

theorem State.flowError_kept {k psn : Nat} (hF : [.regs, .accWin, .cells, .lines, .store, .eng, .locket, .wake, .hq, .pair,
    .urt, .out] ⊆ F) (kp : Kept F s0 s) : Kept F s0 (State.flowError s k psn) := by
  unfold State.flowError
  with_reducible repeat' first
    | assumption | exact Part.le hF | apply State.connLost_kept | apply State.endFlowJobs_kept | apply State.event_kept
    | apply State.log_kept | apply State.setFlow_kept

theorem State.urtSendHead_kept {k : Nat} (hF : [.regs, .cells, .lines, .locket, .wake, .cipher, .urt, .out] ⊆ F) (kp : Kept F s0
    s) : Kept F s0 (State.urtSendHead s k).1 := by
  unfold State.urtSendHead
  with_reducible repeat' first
    | assumption | exact Part.le hF | apply State.setFlow_kept | apply State.urtEmit_kept | simp only [Kept.lit_iff] | split
    | rfl

theorem State.urtPump_kept {n k : Nat} (hF : [.regs, .cells, .lines, .locket, .wake, .cipher, .urt, .out] ⊆ F) (kp : Kept F s0 s) : Kept F s0 (State.urtPump n s k) := by
  induction n generalizing s with
  | zero => exact kp
  | succ n ih =>
    unfold State.urtPump
    dsimp only
    split
    · split
      · exact ih (State.urtSendHead_kept (Part.le hF) kp)
      · exact State.urtSendHead_kept (Part.le hF) kp
    · exact kp

theorem State.pump_kept {k : Nat} (hF : [.regs, .cells, .lines, .locket, .wake, .cipher, .urt, .out] ⊆ F) (kp : Kept F s0 s) :
    Kept F s0 (State.pump s k) := by
  unfold State.pump
  with_reducible repeat' first
    | assumption | exact Part.le hF | apply State.urtPump_kept

theorem State.urtQueue_kept {k : Nat} {l : List UPkt} (hF : [.regs, .cells, .lines, .locket, .wake, .cipher, .urt, .out] ⊆ F)
    (kp : Kept F s0 s) : Kept F s0 (State.urtQueue s k l) := by
  unfold State.urtQueue
  with_reducible repeat' first
    | assumption | exact Part.le hF | apply State.pump_kept | apply State.setFlow_kept

theorem State.urtResend_kept {k psn : Nat} (hF : [.regs, .accWin, .cells, .lines, .store, .eng, .locket, .wake, .hq, .pair,
    .cipher, .urt, .out] ⊆ F) (kp : Kept F s0 s) : Kept F s0 (State.urtResend s k psn) := by
  unfold State.urtResend
  with_reducible repeat' first
    | assumption | exact Part.le hF | apply State.count_kept | apply State.flowError_kept | apply State.setFlow_kept
    | apply State.urtEmit_kept | simp only [Kept.lit_iff] | split | rfl

theorem State.urtAck_kept {k : Nat} (hF : [.regs, .urt, .out] ⊆ F) (kp : Kept F s0 s) : Kept F s0 (State.urtAck s k) := by
  unfold State.urtAck
  with_reducible repeat' first
    | assumption | exact Part.le hF | apply State.emit_kept | apply State.setFlow_kept

theorem State.urtSettle_kept {k : Nat} (hF : [.regs, .accWin, .cells, .lines, .store, .eng, .locket, .wake, .urt, .out] ⊆ F) (kp
    : Kept F s0 s) : Kept F s0 (State.urtSettle s k) := by
  unfold State.urtSettle
  with_reducible repeat' first
    | assumption | exact Part.le hF | intro x a (_ : Kept F s0 x) | apply State.endUrtJob_kept | apply State.setFlow_kept
    | apply Kept.foldl

/-! ### Urt -/

theorem State.takeSend_kept {k : Nat} {data : List Byte} (hF : [.regs, .accWin, .cells, .lines, .store, .eng, .locket, .wake,
    .urt, .out] ⊆ F) (kp : Kept F s0 s) : Kept F s0 (State.takeSend s k data) := by
  unfold State.takeSend
  with_reducible repeat' first
    | assumption | exact Part.le hF | apply State.endUrtJob_kept | apply State.setFlow_kept | apply State.writeBytes_kept
    | simp only [Kept.lit_iff] | split | rfl

theorem State.urtComplete_kept {k ty msg : Nat} {ext data : List Byte} (hF : [.regs, .accWin, .cells, .lines, .store, .eng,
    .locket, .wake, .urt, .out] ⊆ F) (kp : Kept F s0 s) : Kept F s0 (State.urtComplete s k ty msg ext data) := by
  unfold State.urtComplete
  with_reducible repeat' first
    | assumption | exact Part.le hF | apply State.endUrtJob_kept | apply State.setFlow_kept | apply State.takeSend_kept
    | apply State.writeBytes_kept | simp only [Kept.lit_iff] | split | rfl

theorem State.urtAnswer_kept {k msg : Nat} {ext : List Byte} (hF : [.regs, .accWin, .cells, .lines, .store, .locket, .wake,
    .cipher, .urt, .out, .fresh] ⊆ F) (kp : Kept F s0 s) : Kept F s0 (State.urtAnswer s k msg ext) := by
  unfold State.urtAnswer
  with_reducible repeat' first
    | assumption | exact Part.le hF | apply State.readBytes_kept | apply State.urtQueue_kept | split

theorem State.urtTake_kept {k : Nat} {p : UPkt} (hF : [.regs, .accWin, .cells, .lines, .store, .eng, .locket, .wake, .cipher,
    .urt, .out, .fresh] ⊆ F) (kp : Kept F s0 s) : Kept F s0 (State.urtTake s k p) := by
  unfold State.urtTake
  with_reducible repeat' first
    | assumption | exact Part.le hF | apply State.setFlow_kept | apply State.urtAnswer_kept | apply State.urtComplete_kept
    | apply Kept.ite

theorem State.urtAdvance_kept {n k : Nat} (hF : [.regs, .accWin, .cells, .lines, .store, .eng, .locket, .wake, .cipher, .urt, .out, .fresh] ⊆ F) (kp : Kept F s0 s) : Kept F s0 (State.urtAdvance n s k) := by
  induction n generalizing s with
  | zero => exact kp
  | succ n ih =>
    unfold State.urtAdvance
    dsimp only
    split
    · exact kp
    · exact ih (State.urtTake_kept (Part.le hF) (State.setFlow_kept (Part.le hF) kp))

theorem State.urtData_kept {k : Nat} {p : UIn} {body : List Byte} (hF : [.regs, .accWin, .cells, .lines, .store, .eng, .locket,
    .wake, .cipher, .urt, .out, .fresh] ⊆ F) (kp : Kept F s0 s) : Kept F s0 (State.urtData s k p body) := by
  unfold State.urtData
  with_reducible repeat' first
    | assumption | exact Part.le hF | apply State.countSat_kept | apply State.setFlow_kept | apply State.urtAck_kept
    | apply State.urtAdvance_kept | apply State.urtTake_kept | apply Kept.ite

theorem urtIn_kept {seam : Bool} {pkt : List Byte} {ty : Nat} {f : State → Nat → UIn → List Byte → State} (hF : [.regs] ⊆ F) (kp
    : Kept F s0 s) (hf : ∀ (x : State) (a1 : Nat) (a2 : UIn) (a3 : List Byte), Kept F s0 x → Kept F s0 (f x a1 a2 a3)) : KeptR F
    s0 (urtIn seam pkt ty f s) := by
  unfold urtIn
  with_reducible repeat' first
    | assumption | exact Part.le hF | intro x (_ : Kept F s0 x) | apply hf | apply KeptR.actIf | apply State.countSat_kept
    | apply Kept.ite | split

theorem execUrtSendPacket_kept {seam : Bool} {pkt : List Byte} (hF : [.regs, .accWin, .cells, .lines, .store, .eng, .locket,
    .wake, .cipher, .urt, .out, .fresh] ⊆ F) (kp : Kept F s0 s) : KeptR F s0 (execUrtSendPacket seam pkt s) := by
  unfold execUrtSendPacket
  with_reducible repeat' first
    | assumption | exact Part.le hF | apply State.urtData_kept | apply urtIn_kept | intro x (_ : Kept F s0 x)
    | intro x a (_ : Kept F s0 x) | intro x a b c (_ : Kept F s0 x)

theorem execUrtWritePacket_kept {seam : Bool} {pkt : List Byte} (hF : [.regs, .accWin, .cells, .lines, .store, .eng, .locket,
    .wake, .cipher, .urt, .out, .fresh] ⊆ F) (kp : Kept F s0 s) : KeptR F s0 (execUrtWritePacket seam pkt s) := by
  unfold execUrtWritePacket
  with_reducible repeat' first
    | assumption | exact Part.le hF | apply State.urtData_kept | apply urtIn_kept | intro x (_ : Kept F s0 x)
    | intro x a (_ : Kept F s0 x) | intro x a b c (_ : Kept F s0 x)

theorem execReadReq_kept {seam : Bool} {pkt : List Byte} (hF : [.regs, .accWin, .cells, .lines, .store, .eng, .locket, .wake,
    .cipher, .urt, .out, .fresh] ⊆ F) (kp : Kept F s0 s) : KeptR F s0 (execReadReq seam pkt s) := by
  unfold execReadReq
  with_reducible repeat' first
    | assumption | exact Part.le hF | apply State.urtData_kept | apply urtIn_kept | intro x (_ : Kept F s0 x)
    | intro x a (_ : Kept F s0 x) | intro x a b c (_ : Kept F s0 x)

theorem execReadResp_kept {seam : Bool} {pkt : List Byte} (hF : [.regs, .accWin, .cells, .lines, .store, .eng, .locket, .wake,
    .cipher, .urt, .out, .fresh] ⊆ F) (kp : Kept F s0 s) : KeptR F s0 (execReadResp seam pkt s) := by
  unfold execReadResp
  with_reducible repeat' first
    | assumption | exact Part.le hF | apply State.urtData_kept | apply urtIn_kept | intro x (_ : Kept F s0 x)
    | intro x a (_ : Kept F s0 x) | intro x a b c (_ : Kept F s0 x)

theorem execUrtAck_kept {seam : Bool} {pkt : List Byte} (hF : [.regs, .accWin, .cells, .lines, .store, .eng, .locket, .wake,
    .hq, .pair, .cipher, .urt, .out] ⊆ F) (kp : Kept F s0 s) : KeptR F s0 (execUrtAck seam pkt s) := by
  unfold execUrtAck
  with_reducible repeat' first
    | assumption | exact Part.le hF | intro x a (_ : Kept F s0 x) | intro x a b c (_ : Kept F s0 x) | apply State.pump_kept
    | apply State.setFlow_kept | apply State.urtResend_kept | apply State.urtSettle_kept | apply urtIn_kept | apply Kept.foldl

theorem execAckTimer_kept {seam : Bool} {flow : Nat} (hF : [.regs, .urt, .out] ⊆ F) (kp : Kept F s0 s) : KeptR F s0
    (execAckTimer seam flow s) := by
  unfold execAckTimer
  with_reducible repeat' first
    | assumption | exact Part.le hF | intro x (_ : Kept F s0 x) | apply KeptR.actIf | apply State.urtAck_kept

theorem State.linkLost_kept {k : Nat} (hF : [.regs, .cells, .lines, .locket, .wake] ⊆ F) (kp : Kept F s0 s) : Kept F s0
    (State.linkLost s k) := by
  unfold State.linkLost
  with_reducible repeat' first
    | assumption | exact Part.le hF | intro x a (_ : Kept F s0 x) | apply State.fieldSat_kept | apply State.irq_kept
    | apply State.log_kept | apply State.wf_kept | apply Kept.foldl

theorem execRtoExpiry_kept {seam : Bool} {flow psn : Nat} (hF : [.regs, .accWin, .cells, .lines, .store, .eng, .locket, .wake,
    .hq, .pair, .cipher, .urt, .out] ⊆ F) (kp : Kept F s0 s) : KeptR F s0 (execRtoExpiry seam flow psn s) := by
  unfold execRtoExpiry
  with_reducible repeat' first
    | assumption | exact Part.le hF | intro x (_ : Kept F s0 x) | apply KeptR.actIf | apply State.linkLost_kept
    | apply State.urtResend_kept | apply Kept.ite

theorem execPacedSend_kept {seam : Bool} {flow : Nat} (hF : [.regs, .cells, .lines, .locket, .wake, .cipher, .urt, .out] ⊆ F)
    (kp : Kept F s0 s) : KeptR F s0 (execPacedSend seam flow s) := by
  unfold execPacedSend
  with_reducible repeat' first
    | assumption | exact Part.le hF | intro x (_ : Kept F s0 x) | apply KeptR.actIf | apply State.urtSendHead_kept

theorem State.emitSetup_kept {k ty dst psn epoch offer : Nat} {enc : Bool} (hF : [.out] ⊆ F) (kp : Kept F s0 s) : Kept F s0
    (State.emitSetup s k ty dst psn epoch offer enc) := by
  unfold State.emitSetup
  with_reducible repeat' first
    | assumption | exact Part.le hF | apply State.emit_kept

theorem State.opened_kept {k : Nat} (hF : [.regs, .accWin, .cells, .lines, .store, .eng, .locket, .wake, .urt, .out] ⊆ F) (kp :
    Kept F s0 s) : Kept F s0 (State.opened s k) := by
  unfold State.opened
  with_reducible repeat' first
    | assumption | exact Part.le hF | apply State.endUrtJob_kept | apply State.setFlow_kept | simp only [Kept.lit_iff] | split
    | rfl

theorem execUrtConnect_kept {seam : Bool} {pkt : List Byte} {mtu psn : Nat} {lower : Bool} (hF : [.regs, .accWin, .cells,
    .lines, .store, .eng, .locket, .wake, .urt, .out] ⊆ F) (kp : Kept F s0 s) : KeptR F s0 (execUrtConnect seam pkt mtu psn
    lower s) := by
  unfold execUrtConnect
  with_reducible repeat' first
    | assumption | exact Part.le hF | intro x (_ : Kept F s0 x) | apply KeptR.actIf | apply State.countSat_kept
    | apply State.emitSetup_kept | apply State.endFlowJobs_kept | apply State.event_kept | apply State.log_kept
    | apply State.openFlow_kept | apply State.opened_kept | apply State.setFlow_kept | apply Kept.ite

theorem execConnectAck_kept {seam : Bool} {pkt : List Byte} (hF : [.regs, .accWin, .cells, .lines, .store, .eng, .locket, .wake,
    .urt, .out] ⊆ F) (kp : Kept F s0 s) : KeptR F s0 (execConnectAck seam pkt s) := by
  unfold execConnectAck
  with_reducible repeat' first
    | assumption | exact Part.le hF | intro x (_ : Kept F s0 x) | apply KeptR.actIf | apply State.countSat_kept
    | apply State.openFlow_kept | apply State.opened_kept | apply Kept.ite

theorem State.closeFlow_kept {k : Nat} (hF : [.regs, .accWin, .cells, .lines, .store, .eng, .locket, .wake, .hq, .pair, .urt,
    .out] ⊆ F) (kp : Kept F s0 s) : Kept F s0 (State.closeFlow s k) := by
  unfold State.closeFlow
  with_reducible repeat' first
    | assumption | exact Part.le hF | apply State.connLost_kept | apply State.endFlowJobs_kept | apply State.setFlow_kept

theorem execUrtClosePacket_kept {seam : Bool} {pkt : List Byte} (hF : [.regs, .accWin, .cells, .lines, .store, .eng, .locket,
    .wake, .hq, .pair, .urt, .out] ⊆ F) (kp : Kept F s0 s) : KeptR F s0 (execUrtClosePacket seam pkt s) := by
  unfold execUrtClosePacket
  with_reducible repeat' first
    | assumption | exact Part.le hF | intro x a b c (_ : Kept F s0 x) | apply State.closeFlow_kept | apply urtIn_kept

theorem urtJob_kept {seam : Bool} {desc : List Byte} {op : Nat} {f : State → Nat → Job → State} (hF : [.regs, .accWin, .cells,
    .lines, .store, .eng, .locket, .wake, .out] ⊆ F) (kp : Kept F s0 s) (hf : ∀ (x : State) (a1 : Nat) (a2 : Job), Kept F s0 x →
    Kept F s0 (f x a1 a2)) : KeptR F s0 (urtJob seam desc op f s) := by
  unfold urtJob
  with_reducible repeat' first
    | assumption | exact Part.le hF | intro x (_ : Kept F s0 x) | apply hf | apply KeptR.actIf | apply State.endUrtJob_kept
    | simp only [Kept.lit_iff] | apply Kept.upd_eng | apply Kept.ite | rfl

theorem execUrtOpen_kept {seam : Bool} {desc : List Byte} {peer mtu psn : Nat} {enc : Bool} (hF : [.regs, .accWin, .cells,
    .lines, .store, .eng, .locket, .wake, .urt, .out] ⊆ F) (kp : Kept F s0 s) : KeptR F s0 (execUrtOpen seam desc peer mtu psn
    enc s) := by
  unfold execUrtOpen
  with_reducible repeat' first
    | assumption | exact Part.le hF | intro x a b (_ : Kept F s0 x) | apply State.emitSetup_kept | apply State.emit_kept
    | apply State.endUrtJob_kept | apply State.setFlow_kept | apply State.setQp_kept | apply urtJob_kept | apply Kept.ite

theorem State.endQpJobs_kept {n status : Nat} (hF : [.regs, .accWin, .cells, .lines, .store, .eng, .locket, .wake, .urt, .out] ⊆
    F) (kp : Kept F s0 s) : Kept F s0 (State.endQpJobs s n status) := by
  unfold State.endQpJobs
  with_reducible repeat' first
    | assumption | exact Part.le hF | intro x a (_ : Kept F s0 x) | apply State.endUrtJob_kept | apply State.setQp_kept
    | apply Kept.foldl

theorem execUrtClose_kept {seam : Bool} {desc : List Byte} (hF : [.regs, .accWin, .cells, .lines, .store, .eng, .locket, .wake,
    .hq, .pair, .urt, .out] ⊆ F) (kp : Kept F s0 s) : KeptR F s0 (execUrtClose seam desc s) := by
  unfold execUrtClose
  with_reducible repeat' first
    | assumption | exact Part.le hF | intro x a b (_ : Kept F s0 x) | apply State.closeFlow_kept | apply State.connLost_kept
    | apply State.emitSetup_kept | apply State.endQpJobs_kept | apply State.endUrtJob_kept | apply State.setQp_kept
    | apply urtJob_kept | apply Kept.ite

theorem State.roceSend_kept {n id : Nat} {l : List RocePkt} (hF : [.regs, .urt, .out] ⊆ F) (kp : Kept F s0 s) : Kept F s0
    (State.roceSend s n id l) := by
  unfold State.roceSend
  with_reducible repeat' first
    | assumption | exact Part.le hF | intro x a (_ : Kept F s0 x) | apply State.emit_kept | apply State.setQp_kept
    | apply Kept.foldl

theorem State.urtOut_kept {seam : Bool} {id : Nat} {j : Job} {ty : Nat} (hF : [.regs, .accWin, .cells, .lines, .store, .eng,
    .locket, .wake, .cipher, .urt, .out, .fresh] ⊆ F) (kp : Kept F s0 s) : Kept F s0 (State.urtOut s seam id j ty) := by
  unfold State.urtOut
  with_reducible repeat' first
    | assumption | exact Part.le hF | apply State.endUrtJob_kept | apply State.readBytes_kept | apply State.roceSend_kept
    | apply State.setFlow_kept | apply State.urtQueue_kept | simp only [Kept.lit_iff] | split | rfl

theorem execUrtSend_kept {seam : Bool} {desc : List Byte} (hF : [.regs, .accWin, .cells, .lines, .store, .eng, .locket, .wake,
    .cipher, .urt, .out, .fresh] ⊆ F) (kp : Kept F s0 s) : KeptR F s0 (execUrtSend seam desc s) := by
  unfold execUrtSend
  with_reducible repeat' first
    | assumption | exact Part.le hF | intro x a b (_ : Kept F s0 x) | apply State.urtOut_kept | apply urtJob_kept

theorem execUrtWrite_kept {seam : Bool} {desc : List Byte} (hF : [.regs, .accWin, .cells, .lines, .store, .eng, .locket, .wake,
    .cipher, .urt, .out, .fresh] ⊆ F) (kp : Kept F s0 s) : KeptR F s0 (execUrtWrite seam desc s) := by
  unfold execUrtWrite
  with_reducible repeat' first
    | assumption | exact Part.le hF | intro x a b (_ : Kept F s0 x) | apply State.urtOut_kept | apply urtJob_kept

theorem execUrtRead_kept {seam : Bool} {desc : List Byte} (hF : [.regs, .accWin, .cells, .lines, .store, .eng, .locket, .wake,
    .cipher, .urt, .out] ⊆ F) (kp : Kept F s0 s) : KeptR F s0 (execUrtRead seam desc s) := by
  unfold execUrtRead
  with_reducible repeat' first
    | assumption | exact Part.le hF | intro x a b (_ : Kept F s0 x) | apply State.emit_kept | apply State.endUrtJob_kept
    | apply State.setFlow_kept | apply State.setQp_kept | apply State.urtQueue_kept | apply urtJob_kept | apply Kept.ite

theorem execUrtRecv_kept {seam : Bool} {desc : List Byte} (hF : [.regs, .accWin, .cells, .lines, .store, .eng, .locket, .wake,
    .urt, .out] ⊆ F) (kp : Kept F s0 s) : KeptR F s0 (execUrtRecv seam desc s) := by
  unfold execUrtRecv
  with_reducible repeat' first
    | assumption | exact Part.le hF | intro x a b (_ : Kept F s0 x) | apply State.endUrtJob_kept | apply State.setFlow_kept
    | apply State.setQp_kept | apply State.takeSend_kept | apply urtJob_kept | apply Kept.ite | split

theorem State.qpError_kept {n status : Nat} (hF : [.regs, .accWin, .cells, .lines, .store, .eng, .locket, .wake, .urt, .out] ⊆
    F) (kp : Kept F s0 s) : Kept F s0 (State.qpError s n status) := by
  unfold State.qpError
  with_reducible repeat' first
    | assumption | exact Part.le hF | apply State.endQpJobs_kept | apply State.event_kept | apply State.setQp_kept

theorem execRoceCmRequest_kept {n service peer mtu psn own : Nat} (hF : [.regs, .urt, .out] ⊆ F) (kp : Kept F s0 s) : KeptR F s0
    (execRoceCmRequest n service peer mtu psn own s) := by
  unfold execRoceCmRequest
  with_reducible repeat' first
    | assumption | exact Part.le hF | intro x (_ : Kept F s0 x) | apply KeptR.actIf | apply State.emit_kept
    | apply State.setQp_kept | apply Kept.ite

theorem execRoceAtomicRequest_kept {n psn : Nat} (hF : [.regs, .accWin, .cells, .lines, .store, .eng, .locket, .wake, .urt,
    .out] ⊆ F) (kp : Kept F s0 s) : KeptR F s0 (execRoceAtomicRequest n psn s) := by
  unfold execRoceAtomicRequest
  with_reducible repeat' first
    | assumption | exact Part.le hF | intro x (_ : Kept F s0 x) | apply KeptR.actIf | apply State.emit_kept
    | apply State.qpError_kept

theorem State.roceAcked_kept {n psn : Nat} (hF : [.regs, .accWin, .cells, .lines, .store, .eng, .locket, .wake, .urt, .out] ⊆ F)
    (kp : Kept F s0 s) : Kept F s0 (State.roceAcked s n psn) := by
  unfold State.roceAcked
  with_reducible repeat' first
    | assumption | exact Part.le hF | intro x a (_ : Kept F s0 x) | apply State.endUrtJob_kept | apply State.setQp_kept
    | apply Kept.foldl

theorem State.roceResend_kept {n psn : Nat} (hF : [.regs, .accWin, .cells, .lines, .store, .eng, .locket, .wake, .urt, .out] ⊆
    F) (kp : Kept F s0 s) : Kept F s0 (State.roceResend s n psn) := by
  unfold State.roceResend
  with_reducible repeat' first
    | assumption | exact Part.le hF | intro x a (_ : Kept F s0 x) | apply State.emit_kept | apply State.roceAcked_kept
    | apply Kept.foldl | split

theorem State.roceRecv_kept {n : Nat} {data : List Byte} (hF : [.regs, .accWin, .cells, .lines, .store, .eng, .locket, .wake,
    .urt, .out] ⊆ F) (kp : Kept F s0 s) : Kept F s0 (State.roceRecv s n data) := by
  unfold State.roceRecv
  with_reducible repeat' first
    | assumption | exact Part.le hF | apply State.endUrtJob_kept | apply State.setQp_kept | apply State.writeBytes_kept
    | simp only [Kept.lit_iff] | split | rfl

theorem State.roceAnswer_kept {n psn raddr len : Nat} (hF : [.regs, .accWin, .cells, .lines, .store, .locket, .wake, .out,
    .fresh] ⊆ F) (kp : Kept F s0 s) : Kept F s0 (State.roceAnswer s n psn raddr len) := by
  unfold State.roceAnswer
  with_reducible repeat' first
    | assumption | exact Part.le hF | intro x a (_ : Kept F s0 x) | apply State.emit_kept | apply State.readBytes_kept
    | apply Kept.foldl | split

theorem State.roceTake_kept {n : Nat} {p : RocePkt} (hF : [.regs, .accWin, .cells, .lines, .store, .eng, .locket, .wake, .urt,
    .out, .fresh] ⊆ F) (kp : Kept F s0 s) : Kept F s0 (State.roceTake s n p) := by
  unfold State.roceTake
  with_reducible repeat' first
    | assumption | exact Part.le hF | apply State.emit_kept | apply State.roceAnswer_kept | apply State.roceRecv_kept
    | apply State.setQp_kept | apply State.writeBytes_kept | simp only [Kept.lit_iff] | split | rfl

theorem State.roceResp_kept {n psn : Nat} {last : Bool} {data : List Byte} (hF : [.regs, .accWin, .cells, .lines, .store, .eng,
    .locket, .wake, .urt, .out] ⊆ F) (kp : Kept F s0 s) : Kept F s0 (State.roceResp s n psn last data) := by
  unfold State.roceResp
  with_reducible repeat' first
    | assumption | exact Part.le hF | apply State.endUrtJob_kept | apply State.roceAcked_kept | apply State.setQp_kept
    | apply State.writeBytes_kept | simp only [Kept.lit_iff] | split | rfl

theorem execRocePacket_kept {n : Nat} {p : RocePkt} {ce : Bool} (hF : [.regs, .accWin, .cells, .lines, .store, .eng, .locket,
    .wake, .urt, .out, .fresh] ⊆ F) (kp : Kept F s0 s) : KeptR F s0 (execRocePacket n p ce s) := by
  unfold execRocePacket
  with_reducible repeat' first
    | assumption | exact Part.le hF | intro x (_ : Kept F s0 x) | intro x a (_ : Kept F s0 x) | apply KeptR.actIf
    | apply State.emit_kept | apply State.endUrtJob_kept | apply State.qpError_kept | apply State.roceAcked_kept
    | apply State.roceAnswer_kept | apply State.roceResend_kept | apply State.roceResp_kept | apply State.roceTake_kept
    | apply State.setQp_kept | simp only [Kept.lit_iff] | apply Kept.foldl | split | rfl

theorem execCnpReceive_kept {n : Nat} (hF : [.regs, .urt, .fresh] ⊆ F) (kp : Kept F s0 s) : KeptR F s0 (execCnpReceive n s) :=
    by
  unfold execCnpReceive
  with_reducible repeat' first
    | assumption | exact Part.le hF | intro x (_ : Kept F s0 x) | apply KeptR.actIf | apply State.free_kept
    | apply State.setQp_kept

theorem execRoceRetryExhausted_kept {n : Nat} (hF : [.regs, .accWin, .cells, .lines, .store, .eng, .locket, .wake, .hq, .pair,
    .urt, .out] ⊆ F) (kp : Kept F s0 s) : KeptR F s0 (execRoceRetryExhausted n s) := by
  unfold execRoceRetryExhausted
  with_reducible repeat' first
    | assumption | exact Part.le hF | intro x (_ : Kept F s0 x) | apply KeptR.actIf | apply State.connLost_kept
    | apply State.qpError_kept

theorem execSubportLinkUp_kept {port sub : Nat} (hF : [.regs, .accWin, .cells, .lines, .store, .locket, .wake, .urt, .out] ⊆ F)
    (kp : Kept F s0 s) : KeptR F s0 (execSubportLinkUp port sub s) := by
  unfold execSubportLinkUp
  with_reducible repeat' first
    | assumption | exact Part.le hF | intro x (_ : Kept F s0 x) | apply KeptR.actIf | apply State.log_kept
    | apply State.portEvent_kept | apply State.wb_kept

theorem execSubportLinkDown_kept {port sub : Nat} (hF : [.regs, .accWin, .cells, .lines, .store, .locket, .wake, .urt, .out] ⊆
    F) (kp : Kept F s0 s) : KeptR F s0 (execSubportLinkDown port sub s) := by
  unfold execSubportLinkDown
  with_reducible repeat' first
    | assumption | exact Part.le hF | intro x (_ : Kept F s0 x) | apply KeptR.actIf | apply State.log_kept
    | apply State.portEvent_kept | apply State.wb_kept

theorem execFecSecondEnd_kept {port sub corr uncorr dropped : Nat} (hF : [.regs, .accWin, .cells, .lines, .store, .locket,
    .wake, .urt, .out] ⊆ F) (kp : Kept F s0 s) : KeptR F s0 (execFecSecondEnd port sub corr uncorr dropped s) := by
  unfold execFecSecondEnd
  with_reducible repeat' first
    | assumption | exact Part.le hF | intro x (_ : Kept F s0 x) | apply KeptR.actIf | apply State.countSat_kept
    | apply State.log_kept | apply State.portEvent_kept | apply State.wb_kept | apply Kept.ite

theorem execPfcPauseTimeout_kept {port sub prio : Nat} (hF : [.regs, .accWin, .cells, .lines, .store, .locket, .wake, .urt,
    .out] ⊆ F) (kp : Kept F s0 s) : KeptR F s0 (execPfcPauseTimeout port sub prio s) := by
  unfold execPfcPauseTimeout
  with_reducible repeat' first
    | assumption | exact Part.le hF | intro x (_ : Kept F s0 x) | apply KeptR.actIf | apply State.log_kept
    | apply State.portEvent_kept | apply State.wb_kept

theorem execUrtInternalError_kept {ty : Nat} (hF : [.pins, .regs, .accWin, .cells, .lines, .store, .locket, .wake, .hq, .pair,
    .urt, .out] ⊆ F) (kp : Kept F s0 s) : KeptR F s0 (execUrtInternalError ty s) := by
  unfold execUrtInternalError
  with_reducible repeat' first
    | assumption | exact Part.le hF | intro x (_ : Kept F s0 x) | intro x a (_ : Kept F s0 x) | apply KeptR.actIf
    | apply State.connLost_kept | apply State.log_kept | apply State.portEvent_kept | apply State.showFlows_kept
    | apply State.yield_kept | simp only [Kept.lit_iff] | apply Kept.upd_urt | apply Kept.foldl | rfl

theorem execUrtCtrlReset_kept {master value : Nat} (hF : [.regs, .wos, .lockWins, .accWin, .cells, .lines, .store, .eng,
    .locket, .wake, .urt, .out] ⊆ F) (kp : Kept F s0 s) : KeptR F s0 (execUrtCtrlReset master value s) := by
  unfold execUrtCtrlReset
  with_reducible repeat' first
    | assumption | exact Part.le hF | intro x (_ : Kept F s0 x) | intro x a (_ : Kept F s0 x) | apply KeptR.act
    | apply State.endUrtJob_kept | apply State.regCmd_kept | apply State.showFlows_kept | simp only [Kept.lit_iff]
    | apply Kept.upd_urt | apply Kept.ite | apply Kept.foldl | rfl

theorem execUrtEqHeadWrite_kept {master value : Nat} (hF : [.regs, .wos, .lockWins, .accWin, .cells, .lines, .store, .locket,
    .wake, .urt, .out] ⊆ F) (kp : Kept F s0 s) : KeptR F s0 (execUrtEqHeadWrite master value s) := by
  unfold execUrtEqHeadWrite
  with_reducible repeat' first
    | assumption | exact Part.le hF | intro x (_ : Kept F s0 x) | intro x a (_ : Kept F s0 x) | apply KeptR.act
    | apply State.putEvent_kept | apply State.regCmd_kept | apply State.wrN_kept | apply Kept.ite

theorem execEthCfgWrite_kept {master port value : Nat} (hF : [.regs, .wos, .lockWins, .cells, .lines, .locket, .wake] ⊆ F) (kp :
    Kept F s0 s) : KeptR F s0 (execEthCfgWrite master port value s) := by
  unfold execEthCfgWrite
  with_reducible repeat' first
    | assumption | exact Part.le hF | intro x (_ : Kept F s0 x) | apply KeptR.actIf | apply State.ignoreW_kept
    | apply State.regWrite_kept | simp only [Kept.lit_iff] | split | refine Kept.of_pair ?_ ‹_ = (_, _)› | rfl

/-! ### HeadPair -/

theorem State.setLink_kept {l : Nat} {x : Link} (hF : [.pair] ⊆ F) (kp : Kept F s0 s) : Kept F s0 (State.setLink s l x) := by
  unfold State.setLink
  with_reducible repeat' first
    | assumption | exact Part.le hF | simp only [Kept.lit_iff] | apply Kept.upd_pair | rfl

theorem State.setPair_kept {p : Pair} (hF : [.pair] ⊆ F) (kp : Kept F s0 s) : Kept F s0 (State.setPair s p) := by
  unfold State.setPair
  with_reducible repeat' first
    | assumption | exact Part.le hF | simp only [Kept.lit_iff] | apply Kept.upd_pair | rfl

theorem State.setLinkState_kept {l st : Nat} (hF : [.regs, .cells, .lines, .locket, .wake] ⊆ F) (kp : Kept F s0 s) : Kept F s0
    (State.setLinkState s l st) := by
  unfold State.setLinkState
  with_reducible repeat' first
    | assumption | exact Part.le hF | apply State.irq_kept | apply State.log_kept | apply State.wf_kept | apply Kept.ite

theorem State.resendAll_kept {k : Nat} (hF : [.regs, .accWin, .cells, .lines, .store, .eng, .locket, .wake, .hq, .pair, .cipher,
    .urt, .out] ⊆ F) (kp : Kept F s0 s) : Kept F s0 (State.resendAll s k) := by
  unfold State.resendAll
  with_reducible repeat' first
    | assumption | exact Part.le hF | intro x a (_ : Kept F s0 x) | apply State.urtResend_kept | apply Kept.foldl

theorem State.retireLink_kept {l cause : Nat} (hF : [.regs, .accWin, .cells, .lines, .store, .eng, .locket, .wake, .hq, .pair,
    .cipher, .urt, .out] ⊆ F) (kp : Kept F s0 s) : Kept F s0 (State.retireLink s l cause) := by
  unfold State.retireLink
  with_reducible repeat' first
    | assumption | exact Part.le hF | apply State.log_kept | apply State.resendAll_kept | apply State.setLinkState_kept
    | apply Kept.foldl | intro x (_ : Kept F s0 x) | intro x a (_ : Kept F s0 x) | intro x a b c (_ : Kept F s0 x)

theorem State.checkLink_kept {l : Nat} (hF : [.regs, .accWin, .cells, .lines, .store, .eng, .locket, .wake, .hq, .pair, .cipher,
    .urt, .out] ⊆ F) (kp : Kept F s0 s) : Kept F s0 (State.checkLink s l) := by
  unfold State.checkLink
  with_reducible repeat' first
    | assumption | exact Part.le hF | apply State.retireLink_kept | apply State.setLinkState_kept | apply Kept.ite

theorem State.setRx_kept {l n : Nat} (hF : [.regs] ⊆ F) (kp : Kept F s0 s) : Kept F s0 (State.setRx s l n) := by
  unfold State.setRx
  with_reducible repeat' first
    | assumption | exact Part.le hF | apply State.wf_kept

theorem State.setTx_kept {l n : Nat} (hF : [.regs] ⊆ F) (kp : Kept F s0 s) : Kept F s0 (State.setTx s l n) := by
  unfold State.setTx
  with_reducible repeat' first
    | assumption | exact Part.le hF | apply State.wf_kept

theorem State.train_kept {l : Nat} (hF : [.regs, .cells, .lines, .locket, .wake] ⊆ F) (kp : Kept F s0 s) : Kept F s0
    (State.train s l) := by
  unfold State.train
  with_reducible repeat' first
    | assumption | exact Part.le hF | apply State.setLinkState_kept

theorem execSeamEnable_kept {master l value : Nat} (hF : [.regs, .wos, .lockWins, .cells, .lines, .locket, .wake] ⊆ F) (kp :
    Kept F s0 s) : KeptR F s0 (execSeamEnable master l value s) := by
  unfold execSeamEnable
  with_reducible repeat' first
    | assumption | exact Part.le hF | intro x (_ : Kept F s0 x) | intro x a (_ : Kept F s0 x) | apply KeptR.actIf
    | apply State.regCmd_kept | apply State.train_kept | apply Kept.ite

theorem execLanesAligned_kept {l : Nat} (hF : [.regs, .cells, .lines, .locket, .wake, .pair] ⊆ F) (kp : Kept F s0 s) : KeptR F
    s0 (execLanesAligned l s) := by
  unfold execLanesAligned
  with_reducible repeat' first
    | assumption | exact Part.le hF | intro x (_ : Kept F s0 x) | apply KeptR.actIf | apply State.setLinkState_kept
    | apply State.setLink_kept | apply State.wb_kept | apply State.wf_kept | apply State.wrN_kept

theorem execTrainingTimeout_kept {l : Nat} (hF : [.regs, .cells, .lines, .locket, .wake] ⊆ F) (kp : Kept F s0 s) : KeptR F s0
    (execTrainingTimeout l s) := by
  unfold execTrainingTimeout
  with_reducible repeat' first
    | assumption | exact Part.le hF | intro x (_ : Kept F s0 x) | apply KeptR.actIf | apply State.setLinkState_kept

theorem execProbationEnd_kept {l : Nat} (hF : [.regs, .cells, .lines, .locket, .wake] ⊆ F) (kp : Kept F s0 s) : KeptR F s0
    (execProbationEnd l s) := by
  unfold execProbationEnd
  with_reducible repeat' first
    | assumption | exact Part.le hF | intro x (_ : Kept F s0 x) | apply KeptR.actIf | apply State.setLinkState_kept

theorem execSeamRetrainTimer_kept {l : Nat} (hF : [.regs, .cells, .lines, .locket, .wake] ⊆ F) (kp : Kept F s0 s) : KeptR F s0
    (execSeamRetrainTimer l s) := by
  unfold execSeamRetrainTimer
  with_reducible repeat' first
    | assumption | exact Part.le hF | intro x (_ : Kept F s0 x) | apply KeptR.actIf | apply State.train_kept

theorem execSeamCtrlRetire_kept {master l value : Nat} (hF : [.regs, .wos, .lockWins, .accWin, .cells, .lines, .store, .eng,
    .locket, .wake, .hq, .pair, .cipher, .urt, .out] ⊆ F) (kp : Kept F s0 s) : KeptR F s0 (execSeamCtrlRetire master l value s)
    := by
  unfold execSeamCtrlRetire
  with_reducible repeat' first
    | assumption | exact Part.le hF | intro x (_ : Kept F s0 x) | intro x a (_ : Kept F s0 x) | apply KeptR.actIf
    | apply State.regCmd_kept | apply State.retireLink_kept | apply Kept.ite

theorem execSeamCtrlRetrain_kept {master l value : Nat} (hF : [.regs, .wos, .lockWins, .cells, .lines, .locket, .wake] ⊆ F) (kp
    : Kept F s0 s) : KeptR F s0 (execSeamCtrlRetrain master l value s) := by
  unfold execSeamCtrlRetrain
  with_reducible repeat' first
    | assumption | exact Part.le hF | intro x (_ : Kept F s0 x) | intro x a (_ : Kept F s0 x) | apply KeptR.actIf
    | apply State.regCmd_kept | apply State.train_kept | apply Kept.ite

theorem State.frameIn_kept {l fseq : Nat} (hF : [.regs, .accWin, .cells, .lines, .store, .eng, .locket, .wake, .hq, .pair,
    .cipher, .urt, .out] ⊆ F) (kp : Kept F s0 s) : Kept F s0 (State.frameIn s l fseq) := by
  unfold State.frameIn
  with_reducible repeat' first
    | assumption | exact Part.le hF | apply State.checkLink_kept | apply State.countSat_kept | apply State.count_kept
    | apply State.setLink_kept | apply State.setRx_kept

theorem execSeamDataFrame_kept {l fseq first corr uncorr : Nat} {ok : Bool} (hF : [.regs, .accWin, .cells, .lines, .store, .eng,
    .locket, .wake, .hq, .pair, .cipher, .urt, .out] ⊆ F) (kp : Kept F s0 s) : KeptR F s0 (execSeamDataFrame l fseq first corr
    uncorr ok s) := by
  unfold execSeamDataFrame
  with_reducible repeat' first
    | assumption | exact Part.le hF | intro x (_ : Kept F s0 x) | apply KeptR.actIf | apply State.checkLink_kept
    | apply State.countSat_kept | apply State.frameIn_kept | apply State.setLink_kept | apply State.setRx_kept
    | apply Kept.ite

theorem execLaneLockLoss_kept {l lane : Nat} (hF : [.regs, .accWin, .cells, .lines, .store, .eng, .locket, .wake, .hq, .pair,
    .cipher, .urt, .out] ⊆ F) (kp : Kept F s0 s) : KeptR F s0 (execLaneLockLoss l lane s) := by
  unfold execLaneLockLoss
  with_reducible repeat' first
    | assumption | exact Part.le hF | intro x (_ : Kept F s0 x) | apply KeptR.actIf | apply State.checkLink_kept
    | apply State.setRx_kept | apply State.wb_kept

theorem execNoFrameTimeout_kept {l : Nat} (hF : [.regs, .accWin, .cells, .lines, .store, .eng, .locket, .wake, .hq, .pair,
    .cipher, .urt, .out] ⊆ F) (kp : Kept F s0 s) : KeptR F s0 (execNoFrameTimeout l s) := by
  unfold execNoFrameTimeout
  with_reducible repeat' first
    | assumption | exact Part.le hF | intro x (_ : Kept F s0 x) | apply KeptR.actIf | apply State.checkLink_kept
    | apply State.setRx_kept

theorem State.ackWrites_kept {sel : Nat → Bool} (hF : [.hq] ⊆ F) (kp : Kept F s0 s) : Kept F s0 (State.ackWrites s sel) := by
  unfold State.ackWrites
  with_reducible repeat' first
    | assumption | exact Part.le hF | simp only [Kept.lit_iff] | apply Kept.upd_hq | rfl

theorem State.ackDirty_kept (hF : [.eng, .quilt] ⊆ F) (kp : Kept F s0 s) : Kept F s0 (State.ackDirty s) := by
  unfold State.ackDirty
  with_reducible repeat' first
    | assumption | exact Part.le hF | intro x a (_ : Kept F s0 x) | apply State.setRes_kept | simp only [Kept.lit_iff]
    | apply Kept.upd_quilt | apply Kept.foldl | rfl

theorem State.catchUp_kept (hF : [.regs, .pair, .out] ⊆ F) (kp : Kept F s0 s) : Kept F s0 (State.catchUp s) := by
  unfold State.catchUp
  with_reducible repeat' first
    | assumption | exact Part.le hF | apply State.control_kept | apply State.setPair_kept | apply State.wb_kept

theorem State.mirrorAcked_kept {n : Nat} (hF : [.regs, .hq, .pair, .out] ⊆ F) (kp : Kept F s0 s) : Kept F s0 (State.mirrorAcked
    s n) := by
  unfold State.mirrorAcked
  with_reducible repeat' first
    | assumption | exact Part.le hF | apply State.ackWrites_kept | apply State.catchUp_kept | apply State.wr64_kept
    | apply Kept.ite

theorem State.ackShadow_kept (hF : [.regs, .out] ⊆ F) (kp : Kept F s0 s) : Kept F s0 (State.ackShadow s) := by
  unfold State.ackShadow
  with_reducible repeat' first
    | assumption | exact Part.le hF | apply State.emit_kept | apply State.wr64_kept | apply Kept.ite

theorem execJournalRecord_kept {hdr data : List Byte} (hF : [.regs, .pair, .out] ⊆ F) (kp : Kept F s0 s) : KeptR F s0
    (execJournalRecord hdr data s) := by
  unfold execJournalRecord
  with_reducible repeat' first
    | assumption | exact Part.le hF | intro x (_ : Kept F s0 x) | apply KeptR.actIf | apply State.ackShadow_kept
    | apply State.control_kept | apply State.setPair_kept | apply Kept.ite

theorem execMirrorAck_kept {n : Nat} (hF : [.regs, .hq, .pair, .out] ⊆ F) (kp : Kept F s0 s) : KeptR F s0 (execMirrorAck n s) :=
    by
  unfold execMirrorAck
  with_reducible repeat' first
    | assumption | exact Part.le hF | intro x (_ : Kept F s0 x) | apply KeptR.act | apply State.mirrorAcked_kept

theorem execNack_kept {n : Nat} (hF : [.regs, .out] ⊆ F) (kp : Kept F s0 s) : KeptR F s0 (execNack n s) := by
  unfold execNack
  with_reducible repeat' first
    | assumption | exact Part.le hF | intro x (_ : Kept F s0 x) | apply KeptR.act | apply State.shipRec_kept | split

theorem execRetainSend_kept (hF : [.regs, .cells, .lines, .locket, .wake, .hq, .pair, .out] ⊆ F) (kp : Kept F s0 s) : KeptR F s0
    (execRetainSend s) := by
  unfold execRetainSend
  with_reducible repeat' first
    | assumption | exact Part.le hF | intro x (_ : Kept F s0 x) | apply KeptR.actIf | apply State.control_kept
    | apply State.dirtyBp_kept | apply State.setPair_kept | apply State.showMirror_kept

theorem execRetain_kept {h : Nat} (hF : [.regs, .pair, .out] ⊆ F) (kp : Kept F s0 s) : KeptR F s0 (execRetain h s) := by
  unfold execRetain
  with_reducible repeat' first
    | assumption | exact Part.le hF | intro x (_ : Kept F s0 x) | apply KeptR.act | apply State.ackShadow_kept
    | apply State.setPair_kept

theorem State.barPartner_kept (hF : [.regs, .pair] ⊆ F) (kp : Kept F s0 s) : Kept F s0 (State.barPartner s) := by
  unfold State.barPartner
  with_reducible repeat' first
    | assumption | exact Part.le hF | apply State.setPair_kept | apply State.stopAcks_kept

theorem State.arbitrate_kept {trigger : Nat} (hF : [.pins, .regs, .cells, .lines, .locket, .wake, .pair, .out] ⊆ F) (kp : Kept F
    s0 s) : Kept F s0 (State.arbitrate s trigger) := by
  unfold State.arbitrate
  with_reducible repeat' first
    | assumption | exact Part.le hF | apply State.barPartner_kept | apply State.log_kept | apply State.setAnaWhere_kept
    | apply State.setPairState_kept | apply State.setPair_kept | apply Kept.ite

theorem State.passSeq_kept (hF : [.hq] ⊆ F) (kp : Kept F s0 s) : Kept F s0 (State.passSeq s) := by
  unfold State.passSeq
  with_reducible repeat' first
    | assumption | exact Part.le hF | simp only [Kept.lit_iff] | apply Kept.upd_hq | rfl

theorem State.takeOver_kept {trigger : Nat} (hF : [.pins, .regs, .cells, .lines, .eng, .locket, .wake, .hq, .pair, .quilt, .out]
    ⊆ F) (kp : Kept F s0 s) : Kept F s0 (State.takeOver s trigger) := by
  unfold State.takeOver
  with_reducible repeat' first
    | assumption | exact Part.le hF | apply State.ackDirty_kept | apply State.ackWrites_kept | apply State.barPartner_kept
    | apply State.log_kept | apply State.passSeq_kept | apply State.setAnaWhere_kept | apply State.setPairState_kept
    | apply State.setPair_kept | apply State.wb_kept

theorem State.sendJoin_kept (hF : [.gts, .pins, .regs, .cells, .lines, .locket, .wake, .pair, .out] ⊆ F) (kp : Kept F s0 s) :
    Kept F s0 (State.sendJoin s) := by
  unfold State.sendJoin
  with_reducible repeat' first
    | assumption | exact Part.le hF | apply State.control_kept | apply State.log_kept | apply State.setPairState_kept
    | apply State.setPair_kept | simp only [Kept.lit_iff] | apply Kept.upd_gts | apply Kept.ite | rfl

theorem State.reportPaired_kept (hF : [.regs, .cells, .lines, .locket, .wake, .out] ⊆ F) (kp : Kept F s0 s) : Kept F s0
    (State.reportPaired s) := by
  unfold State.reportPaired
  with_reducible repeat' first
    | assumption | exact Part.le hF | apply State.setAnaWhere_kept

theorem State.joined_kept (hF : [.pins, .regs, .cells, .lines, .locket, .wake, .pair] ⊆ F) (kp : Kept F s0 s) : Kept F s0
    (State.joined s) := by
  unfold State.joined
  with_reducible repeat' first
    | assumption | exact Part.le hF | apply State.log_kept | apply State.setPairState_kept | apply State.setPair_kept
    | apply State.showMirror_kept | apply State.wb_kept

theorem State.takeOffset_kept {l : Nat} {rec : List Byte} (hF : [.regs, .cells, .lines, .locket, .wake, .pair] ⊆ F) (kp : Kept F
    s0 s) : Kept F s0 (State.takeOffset s l rec) := by
  unfold State.takeOffset
  with_reducible repeat' first
    | assumption | exact Part.le hF | apply State.irq_kept | apply State.log_kept | apply State.setPair_kept
    | apply State.wrN_kept | apply Kept.ite

theorem State.takeCounts_kept {rec : List Byte} (hF : [.regs, .accWin, .cells, .lines, .store, .eng, .locket, .wake, .hq, .pair,
    .cipher, .urt, .out] ⊆ F) (kp : Kept F s0 s) : Kept F s0 (State.takeCounts s rec) := by
  unfold State.takeCounts
  with_reducible repeat' first
    | assumption | exact Part.le hF | intro x a (_ : Kept F s0 x) | apply State.checkLink_kept | apply State.setLink_kept
    | apply State.setPair_kept | apply State.setTx_kept | apply Kept.ite | apply Kept.foldl

theorem State.renewLease_kept {rec : List Byte} (hF : [.regs, .cells, .lines, .locket, .wake] ⊆ F) (kp : Kept F s0 s) : Kept F
    s0 (State.renewLease s rec) := by
  unfold State.renewLease
  with_reducible repeat' first
    | assumption | exact Part.le hF | apply State.log_kept | apply State.wb_kept | apply Kept.ite

theorem State.followPeer_kept (hF : [.gts, .pins, .regs, .cells, .lines, .locket, .wake, .pair, .out] ⊆ F) (kp : Kept F s0 s) :
    Kept F s0 (State.followPeer s) := by
  unfold State.followPeer
  with_reducible repeat' first
    | assumption | exact Part.le hF | apply State.arbitrate_kept | apply State.joined_kept | apply State.sendJoin_kept
    | apply Kept.ite

theorem execHeartbeat_kept {l fseq : Nat} {rec : List Byte} (hF : [.gts, .pins, .regs, .accWin, .cells, .lines, .store, .eng,
    .locket, .wake, .hq, .pair, .cipher, .urt, .out] ⊆ F) (kp : Kept F s0 s) : KeptR F s0 (execHeartbeat l fseq rec s) := by
  unfold execHeartbeat
  with_reducible repeat' first
    | assumption | exact Part.le hF | intro x (_ : Kept F s0 x) | apply KeptR.actIf | apply State.followPeer_kept
    | apply State.frameIn_kept | apply State.log_kept | apply State.mirrorAcked_kept | apply State.renewLease_kept
    | apply State.setLink_kept | apply State.setPair_kept | apply State.takeCounts_kept | apply State.takeOffset_kept
    | apply State.wb_kept | apply State.wr64_kept | simp only [Kept.lit_iff] | apply Kept.upd_pins | apply Kept.ite | rfl

theorem execHeartbeatSend_kept (hF : [.pair, .out] ⊆ F) (kp : Kept F s0 s) : KeptR F s0 (execHeartbeatSend s) := by
  unfold execHeartbeatSend
  with_reducible repeat' first
    | assumption | exact Part.le hF | intro x (_ : Kept F s0 x) | apply KeptR.actIf | apply State.emit_kept
    | apply State.setLink_kept | apply Kept.ite

theorem execPartnerSilent_kept (hF : [.pins, .regs, .cells, .lines, .locket, .wake, .pair, .out] ⊆ F) (kp : Kept F s0 s) : KeptR
    F s0 (execPartnerSilent s) := by
  unfold execPartnerSilent
  with_reducible repeat' first
    | assumption | exact Part.le hF | intro x (_ : Kept F s0 x) | apply KeptR.actIf | apply State.arbitrate_kept
    | apply State.irq_kept | apply State.wb_kept | apply Kept.ite

theorem execLeaseLapse_kept (hF : [.regs, .cells, .lines, .locket, .wake] ⊆ F) (kp : Kept F s0 s) : KeptR F s0 (execLeaseLapse
    s) := by
  unfold execLeaseLapse
  with_reducible repeat' first
    | assumption | exact Part.le hF | intro x (_ : Kept F s0 x) | apply KeptR.actIf | apply State.irq_kept
    | apply State.log_kept | apply State.wb_kept

theorem execYieldMessage_kept {cause : Nat} (hF : [.pins, .regs, .cells, .lines, .eng, .locket, .wake, .hq, .pair, .quilt, .out]
    ⊆ F) (kp : Kept F s0 s) : KeptR F s0 (execYieldMessage cause s) := by
  unfold execYieldMessage
  with_reducible repeat' first
    | assumption | exact Part.le hF | intro x (_ : Kept F s0 x) | apply KeptR.act | apply State.takeOver_kept
    | apply State.wf_kept | apply Kept.ite

theorem execPeerYieldSeen_kept (hF : [.pins, .regs, .cells, .lines, .eng, .locket, .wake, .hq, .pair, .quilt, .out] ⊆ F) (kp :
    Kept F s0 s) : KeptR F s0 (execPeerYieldSeen s) := by
  unfold execPeerYieldSeen
  with_reducible repeat' first
    | assumption | exact Part.le hF | intro x (_ : Kept F s0 x) | apply KeptR.actIf | apply State.arbitrate_kept
    | apply State.takeOver_kept | simp only [Kept.lit_iff] | apply Kept.upd_pins | apply Kept.ite | rfl

theorem State.raiseRole_kept {role epoch : Nat} {mods : List Nat} (hF : [.stitch] ⊆ F) (kp : Kept F s0 s) : Kept F s0
    (State.raiseRole s role epoch mods) := by
  unfold State.raiseRole
  with_reducible repeat' first
    | assumption | exact Part.le hF | intro x a (_ : Kept F s0 x) | apply State.setModule_kept | apply Kept.foldl

theorem execFenceMessage_kept {role epoch : Nat} (hF : [.stitch] ⊆ F) (kp : Kept F s0 s) : KeptR F s0 (execFenceMessage role
    epoch s) := by
  unfold execFenceMessage
  with_reducible repeat' first
    | assumption | exact Part.le hF | intro x (_ : Kept F s0 x) | apply KeptR.actIf | apply State.raiseRole_kept

theorem execJoin_kept (hF : [.regs, .pair, .out] ⊆ F) (kp : Kept F s0 s) : KeptR F s0 (execJoin s) := by
  unfold execJoin
  with_reducible repeat' first
    | assumption | exact Part.le hF | intro x (_ : Kept F s0 x) | apply KeptR.actIf | apply State.catchUp_kept
    | apply State.setPair_kept | apply State.shipRec_kept | apply Kept.ite | apply Kept.foldl | intro x (_ : Kept F s0 x)
    | intro x a (_ : Kept F s0 x) | intro x a b c (_ : Kept F s0 x)

theorem execCatchupDone_kept {n : Nat} (hF : [.pair] ⊆ F) (kp : Kept F s0 s) : KeptR F s0 (execCatchupDone n s) := by
  unfold execCatchupDone
  with_reducible repeat' first
    | assumption | exact Part.le hF | intro x (_ : Kept F s0 x) | apply KeptR.actIf | apply State.setPair_kept

theorem execRoleRelease_kept {role epoch : Nat} (hF : [.pins, .regs, .cells, .lines, .locket, .wake, .pair, .stitch, .out] ⊆ F)
    (kp : Kept F s0 s) : KeptR F s0 (execRoleRelease role epoch s) := by
  unfold execRoleRelease
  with_reducible repeat' first
    | assumption | exact Part.le hF | intro x (_ : Kept F s0 x) | apply KeptR.actIf | apply State.joined_kept
    | apply State.raiseRole_kept | apply State.reportPaired_kept | apply State.setRoleEpoch_kept | apply State.wb_kept

theorem execHeadpairCmdYield_kept {master value : Nat} (hF : [.pins, .regs, .wos, .lockWins, .cells, .lines, .locket, .wake,
    .hq, .pair, .out] ⊆ F) (kp : Kept F s0 s) : KeptR F s0 (execHeadpairCmdYield master value s) := by
  unfold execHeadpairCmdYield
  with_reducible repeat' first
    | assumption | exact Part.le hF | intro x (_ : Kept F s0 x) | intro x a (_ : Kept F s0 x) | apply KeptR.actIf
    | apply State.regCmd_kept | apply State.yield_kept

theorem State.peerOps_kept {ops : List (Nat × List PeerOp)} (hF : [.stitch] ⊆ F) (kp : Kept F s0 s) : Kept F s0 (State.peerOps s
    ops) := by
  unfold State.peerOps
  with_reducible repeat' first
    | assumption | exact Part.le hF | intro x a (_ : Kept F s0 x) | apply State.setModule_kept | apply Kept.foldl

theorem State.casAll_kept {slot : Nat} {expect : List (Nat × Nat × Nat)} {ne nh : Nat} (hF : [.stitch] ⊆ F) (kp : Kept F s0 s) :
    Kept F s0 (State.casAll s slot expect ne nh).1 := by
  unfold State.casAll
  with_reducible repeat' first
    | assumption | exact Part.le hF | intro y a (_ : Kept F s0 y.1) | apply State.setModule_kept | apply Kept.ite_fst
    | apply Kept.foldl_fst

theorem State.fence_kept {late : List Nat} (hF : [.pins, .regs, .cells, .lines, .eng, .locket, .wake, .hq, .pair, .stitch,
    .quilt, .out] ⊆ F) (kp : Kept F s0 s) : Kept F s0 (State.fence s late) := by
  unfold State.fence
  with_reducible repeat' first
    | assumption | exact Part.le hF | apply State.ackDirty_kept | apply State.ackWrites_kept | apply State.casAll_kept
    | apply State.control_kept | apply State.log_kept | apply State.passSeq_kept | apply State.raiseRole_kept
    | apply State.setAnaWhere_kept | apply State.setPairState_kept | apply State.setPair_kept | apply State.setRoleEpoch_kept
    | apply State.wb_kept | apply State.wf_kept | apply State.wrN_kept

theorem execArbitrationRound_kept {before between : List (Nat × List PeerOp)} {late : List Nat} (hF : [.gts, .pins, .regs,
    .cells, .lines, .eng, .locket, .wake, .hq, .pair, .stitch, .quilt, .out] ⊆ F) (kp : Kept F s0 s) : KeptR F s0
    (execArbitrationRound before between late s) := by
  unfold execArbitrationRound
  with_reducible repeat' first
    | assumption | exact Part.le hF | intro x (_ : Kept F s0 x) | apply KeptR.actIf | apply State.casAll_kept
    | apply State.fence_kept | apply State.log_kept | apply State.peerOps_kept | apply State.sendJoin_kept
    | apply State.setPair_kept | apply State.wr64_kept | apply State.yield_kept | apply Kept.ite

theorem execArbitrationLimitExpiry_kept (hF : [.pins, .regs, .cells, .lines, .locket, .wake, .hq, .pair, .out] ⊆ F) (kp : Kept F
    s0 s) : KeptR F s0 (execArbitrationLimitExpiry s) := by
  unfold execArbitrationLimitExpiry
  with_reducible repeat' first
    | assumption | exact Part.le hF | intro x (_ : Kept F s0 x) | apply KeptR.actIf | apply State.yield_kept

theorem execSetEpochTimeout_kept {n : Nat} (hF : [.pins, .regs, .cells, .lines, .eng, .locket, .wake, .hq, .pair, .stitch, .map,
    .quilt, .out] ⊆ F) (kp : Kept F s0 s) : KeptR F s0 (execSetEpochTimeout n s) := by
  unfold execSetEpochTimeout
  with_reducible repeat' first
    | assumption | exact Part.le hF | intro x (_ : Kept F s0 x) | apply KeptR.actIf | apply State.modFail_kept
    | apply State.setPair_kept

theorem execHostPortsTimeout_kept (hF : [.pins, .regs, .cells, .lines, .locket, .wake, .hq, .pair, .out] ⊆ F) (kp : Kept F s0 s)
    : KeptR F s0 (execHostPortsTimeout s) := by
  unfold execHostPortsTimeout
  with_reducible repeat' first
    | assumption | exact Part.le hF | intro x (_ : Kept F s0 x) | apply KeptR.actIf | apply State.yield_kept

theorem execThermalLimit_kept (hF : [.pins, .regs, .cells, .lines, .locket, .wake, .hq, .pair, .out] ⊆ F) (kp : Kept F s0 s) :
    KeptR F s0 (execThermalLimit s) := by
  unfold execThermalLimit
  with_reducible repeat' first
    | assumption | exact Part.le hF | intro x (_ : Kept F s0 x) | apply KeptR.act | apply State.yield_kept

theorem execEngineUncorrectableError_kept {e : Engine} (hF : [.pins, .regs, .cells, .lines, .locket, .wake, .hq, .pair, .out] ⊆
    F) (kp : Kept F s0 s) : KeptR F s0 (execEngineUncorrectableError e s) := by
  unfold execEngineUncorrectableError
  with_reducible repeat' first
    | assumption | exact Part.le hF | intro x (_ : Kept F s0 x) | apply KeptR.actIf | apply State.yield_kept

theorem execRemoteAccess_kept {master page off : Nat} {write : Bool} {value : Nat} (hF : [.regs, .wos, .lockWins, .cells,
    .lines, .locket, .wake, .bd, .hq, .out] ⊆ F) (kp : Kept F s0 s) : KeptR F s0 (execRemoteAccess master page off write value
    s) := by
  unfold execRemoteAccess
  with_reducible repeat' first
    | assumption | exact Part.le hF | intro x (_ : Kept F s0 x) | apply KeptR.actIf | apply State.emit_kept
    | apply State.notReady_kept | apply State.plainWrite_kept | apply Kept.ite

/-! ### Boot -/

theorem State.setBoot_kept {b : Boot} (hF : [.boot] ⊆ F) (kp : Kept F s0 s) (h : b.otp = s.boot.otp) (h2 : b.svnFloor = s.boot.svnFloor) :
    Kept F s0 (s.setBoot b) := kp.same rfl rfl rfl h h2 fun f => by
  cases f <;> first | exact .inr rfl | exact .inl (Part.mem hF)

theorem State.setPhase_kept {p : Nat} (hF : [.regs] ⊆ F) (kp : Kept F s0 s) : Kept F s0 (State.setPhase s p) := by
  unfold State.setPhase
  with_reducible repeat' first
    | assumption | exact Part.le hF | apply State.wf_kept

theorem State.bootCode_kept {c : Nat} (hF : [.regs] ⊆ F) (kp : Kept F s0 s) : Kept F s0 (State.bootCode s c) := by
  unfold State.bootCode
  with_reducible repeat' first
    | assumption | exact Part.le hF | apply State.wf_kept

theorem State.setFwSlot_kept {n : Nat} {x : Slot} (hF : [.boot] ⊆ F) (kp : Kept F s0 s) : Kept F s0 (State.setFwSlot s n x) :=
    by
  unfold State.setFwSlot
  with_reducible repeat' first
    | exact Part.le hF | apply State.setBoot_kept | apply_assumption

theorem State.writeCtl_kept {active trial attempts : Nat} (hF : [.boot] ⊆ F) (kp : Kept F s0 s) : Kept F s0 (State.writeCtl s
    active trial attempts) := by
  unfold State.writeCtl
  with_reducible repeat' first
    | exact Part.le hF | apply State.setBoot_kept | apply_assumption

theorem State.checkStage1_kept {im : List Byte} {ctx : Nat} (hF : [.regs, .cells, .lines, .locket, .wake, .hall] ⊆ F) (kp : Kept
    F s0 s) : Kept F s0 (State.checkStage1 s im ctx).1 := by
  unfold State.checkStage1
  with_reducible repeat' first
    | assumption | exact Part.le hF | apply State.sealCompare_kept | simp only [Kept.lit_iff] | apply Kept.upd_hall
    | apply Kept.ite_fst | rfl

theorem State.checkPackage_kept {p : List Byte} {ctx : Nat} {sigOk : Bool} (hF : [.regs, .cells, .lines, .locket, .wake, .hall]
    ⊆ F) (kp : Kept F s0 s) : Kept F s0 (State.checkPackage s p ctx sigOk).1 := by
  unfold State.checkPackage
  with_reducible repeat' first
    | assumption | exact Part.le hF | intro y a (_ : Kept F s0 y.1) | apply State.sealCompare_kept | simp only [Kept.lit_iff]
    | apply Kept.upd_hall | apply Kept.ite_fst | apply Kept.foldl_fst | rfl

theorem State.enterRecovery_kept {cause : Nat} (hF : [.regs, .boot] ⊆ F) (kp : Kept F s0 s) : Kept F s0 (State.enterRecovery s
    cause) := by
  unfold State.enterRecovery
  with_reducible repeat' first
    | exact Part.le hF | apply State.setBoot_kept | apply State.setPhase_kept | apply_assumption

theorem State.bootFrom_kept {n : Nat} (hF : [.regs] ⊆ F) (kp : Kept F s0 s) : Kept F s0 (State.bootFrom s n) := by
  unfold State.bootFrom
  with_reducible repeat' first
    | assumption | exact Part.le hF | apply State.setPhase_kept | apply State.wb_kept | apply State.wf_kept

theorem State.chooseSlot_kept (hF : [.regs, .cells, .lines, .locket, .wake, .boot] ⊆ F) (kp : Kept F s0 s) : Kept F s0
    (State.chooseSlot s) := by
  unfold State.chooseSlot
  with_reducible repeat' first
    | exact Part.le hF | apply State.bootFrom_kept | apply State.enterRecovery_kept | apply State.irq_kept
    | apply State.log_kept | apply State.setBoot_kept | apply State.wb_kept | apply State.writeCtl_kept | split
    | apply_assumption

theorem State.slotFailed_kept {stage code : Nat} (hF : [.regs, .cells, .lines, .locket, .wake, .boot] ⊆ F) (kp : Kept F s0 s) :
    Kept F s0 (State.slotFailed s stage code) := by
  unfold State.slotFailed
  with_reducible repeat' first
    | exact Part.le hF | apply State.bootCode_kept | apply State.bootFrom_kept | apply State.enterRecovery_kept
    | apply State.log_kept | apply State.setBoot_kept | apply Kept.ite | apply_assumption

theorem State.endP4_kept (hF : [.cal, .regs, .cells, .lines, .locket, .wake] ⊆ F) (kp : Kept F s0 s) : Kept F s0 (State.endP4 s)
    := by
  unfold State.endP4
  with_reducible repeat' first
    | assumption | exact Part.le hF | apply State.log_kept | apply State.wrN_kept | simp only [Kept.lit_iff]
    | apply Kept.upd_cal | rfl

theorem execResetRelease_kept (hF : [.cal, .pins, .regs, .wos, .cells, .lines, .locket, .wake, .power, .boot, .fresh] ⊆ F) (kp :
    Kept F s0 s) : KeptR F s0 (execResetRelease s) := by
  unfold execResetRelease
  with_reducible repeat' first
    | assumption | exact Part.le hF | intro x a (_ : Kept F s0 x) | apply State.chooseSlot_kept | apply State.endP4_kept
    | apply State.newChallenge_kept | apply State.requestOn_kept | apply State.setBoot_kept | apply State.setDom_kept
    | apply State.wrN_kept | simp only [Kept.lit_iff] | apply Kept.upd_pins | apply Kept.upd_wosDone | apply Kept.upd_wos_pins
    | apply Kept.ite | apply Kept.ite_fst | apply Kept.foldl | apply Kept.foldl_fst | apply KeptR.ite | apply KeptR.next | rfl

theorem State.flushBoot_kept (hF : [.regs, .cells, .lines, .locket, .wake] ⊆ F) (kp : Kept F s0 s) : Kept F s0 (State.flushBoot
    s) := by
  unfold State.flushBoot
  with_reducible repeat' first
    | assumption | exact Part.le hF | apply State.holdRec_kept | apply State.log_kept | simp only [Kept.lit_iff]
    | apply Kept.upd_locket | apply Kept.ite | apply Kept.foldl | intro x (_ : Kept F s0 x) | intro x a (_ : Kept F s0 x)
    | intro x a b c (_ : Kept F s0 x) | rfl

theorem State.releasePages_kept {mask : Nat} (hF : [.regs, .cells, .lines, .locket, .wake, .boot] ⊆ F) (kp : Kept F s0 s) : Kept
    F s0 (State.releasePages s mask) := by
  unfold State.releasePages
  with_reducible repeat' first
    | exact Part.le hF | intro x a (_ : Kept F s0 x) | apply State.flushBoot_kept | apply State.setBoot_kept
    | apply State.train_kept | apply Kept.ite | apply Kept.foldl | apply_assumption

theorem execStage1VerifyDone_kept {ctx fmt pages : Nat} (hF : [.regs, .cells, .lines, .locket, .wake, .boot, .hall] ⊆ F) (kp :
    Kept F s0 s) : KeptR F s0 (execStage1VerifyDone ctx fmt pages s) := by
  unfold execStage1VerifyDone
  with_reducible repeat' first
    | exact Part.le hF | intro x (_ : Kept F s0 x) | apply KeptR.actIf | apply State.bootCode_kept
    | apply State.checkStage1_kept | apply State.log_kept | apply State.poke_kept | apply State.releasePages_kept
    | apply State.setBoot_kept | apply State.setPhase_kept | apply State.slotFailed_kept | apply Kept.ite | apply_assumption

theorem State.adoptSettings_kept {fmt : Nat} {conv : List Byte} (hF : [.regs, .cells, .lines, .locket, .wake, .boot] ⊆ F) (kp :
    Kept F s0 s) : Kept F s0 (State.adoptSettings s fmt conv) := by
  unfold State.adoptSettings
  with_reducible repeat' first
    | exact Part.le hF | apply State.log_kept | apply State.setBoot_kept | apply Kept.ite | split | apply_assumption

theorem execPackageVerifyDone_kept {ctx : Nat} {sigOk : Bool} {conv : List Byte} (hF : [.regs, .cells, .lines, .locket, .wake,
    .boot, .hall] ⊆ F) (kp : Kept F s0 s) : KeptR F s0 (execPackageVerifyDone ctx sigOk conv s) := by
  unfold execPackageVerifyDone
  with_reducible repeat' first
    | assumption | exact Part.le hF | intro x (_ : Kept F s0 x) | apply KeptR.actIf | apply State.adoptSettings_kept
    | apply State.checkPackage_kept | apply State.log_kept | apply State.releasePages_kept | apply State.setFwSlot_kept
    | apply State.setPhase_kept | apply State.slotFailed_kept | apply Kept.ite | apply KeptR.ite

theorem State.endBootCmd_kept {code : Nat} (hF : [.regs, .wake] ⊆ F) (kp : Kept F s0 s) : Kept F s0 (State.endBootCmd s code) :=
    by
  unfold State.endBootCmd
  with_reducible repeat' first
    | assumption | exact Part.le hF | apply State.irq_kept | apply State.wrN_kept

theorem State.bootCmd_kept {master value k : Nat} {f : State → State} (hF : [.regs, .wos, .lockWins, .cells, .lines, .locket,
    .wake] ⊆ F) (kp : Kept F s0 s) (hf : ∀ (x : State), Kept F s0 x → Kept F s0 (f x)) : KeptR F s0 (State.bootCmd s master
    value k f) := by
  unfold State.bootCmd
  with_reducible repeat' first
    | assumption | exact Part.le hF | intro x (_ : Kept F s0 x) | intro x a (_ : Kept F s0 x) | apply hf | apply KeptR.actIf
    | apply State.regCmd_kept | apply State.wf_kept | apply Kept.ite

theorem State.bootSrc_kept {n : Nat} (hF : [.regs, .accWin, .cells, .lines, .store, .locket, .wake, .fresh] ⊆ F) (kp : Kept F s0
    s) : Kept F s0 (State.bootSrc s n).1 := by
  unfold State.bootSrc
  with_reducible repeat' first
    | assumption | exact Part.le hF | apply State.readBytes_kept

theorem State.writeBundle_kept {n ctx : Nat} {b : List Byte} {sigOk : Bool} (hF : [.regs, .cells, .lines, .locket, .wake, .boot,
    .hall] ⊆ F) (kp : Kept F s0 s) : Kept F s0 (State.writeBundle s n ctx b sigOk).1 := by
  unfold State.writeBundle
  with_reducible repeat' first
    | assumption | exact Part.le hF | apply State.checkPackage_kept | apply State.checkStage1_kept
    | apply State.setFwSlot_kept

theorem execStage_kept {master value ctx : Nat} {sigOk : Bool} (hF : [.regs, .wos, .lockWins, .accWin, .cells, .lines, .store,
    .locket, .wake, .boot, .hall, .fresh] ⊆ F) (kp : Kept F s0 s) : KeptR F s0 (execStage master value ctx sigOk s) := by
  unfold execStage
  with_reducible repeat' first
    | assumption | exact Part.le hF | intro x (_ : Kept F s0 x) | apply State.bootCmd_kept | apply State.bootSrc_kept
    | apply State.endBootCmd_kept | apply State.log_kept | apply State.writeBundle_kept | apply Kept.ite

theorem State.handOver_kept (hF : [.regs, .cells, .lines, .locket, .wake, .out] ⊆ F) (kp : Kept F s0 s) : Kept F s0
    (State.handOver s) := by
  unfold State.handOver
  with_reducible repeat' first
    | assumption | exact Part.le hF | intro x a (_ : Kept F s0 x) | apply State.setAna_kept | apply State.wrN_kept
    | apply Kept.foldl

theorem execActivate_kept {master value pauseMs : Nat} (hF : Part.all ⊆ F) (kp : Kept F s0 s) : KeptR F s0 (execActivate master
    value pauseMs s) := by
  unfold execActivate
  with_reducible repeat' first
    | assumption | exact Part.le hF | intro x (_ : Kept F s0 x) | apply State.bootCmd_kept | apply State.endBootCmd_kept
    | apply State.handOver_kept | apply State.log_kept | apply State.resetHead_kept | apply State.writeCtl_kept
    | apply State.yield_kept | apply Kept.ite

theorem execConfirm_kept {master value : Nat} (hF : [.regs, .wos, .lockWins, .cells, .lines, .locket, .wake, .boot] ⊆ F) (kp :
    Kept F s0 s) : KeptR F s0 (execConfirm master value s) := by
  unfold execConfirm
  with_reducible repeat' first
    | exact Part.le hF | intro x (_ : Kept F s0 x) | apply State.bootCmd_kept | apply State.endBootCmd_kept
    | apply State.log_kept | apply State.setBoot_kept | apply State.setFwSlot_kept | apply State.wb_kept
    | apply State.writeCtl_kept | apply Kept.ite | apply_assumption

theorem execRecover_kept {master value : Nat} (hF : Part.all ⊆ F) (kp : Kept F s0 s) : KeptR F s0 (execRecover master value s)
    := by
  unfold execRecover
  with_reducible repeat' first
    | exact Part.le hF | intro x (_ : Kept F s0 x) | apply State.bootCmd_kept | apply State.endBootCmd_kept
    | apply State.resetHead_kept | apply State.setBoot_kept | apply_assumption

theorem execRecoveryBundleReceived_kept {bundle : List Byte} {path ctx : Nat} {sigOk : Bool} (hF : Part.all ⊆ F) (kp : Kept F s0
    s) : KeptR F s0 (execRecoveryBundleReceived bundle path ctx sigOk s) := by
  unfold execRecoveryBundleReceived
  with_reducible repeat' first
    | assumption | exact Part.le hF | intro x (_ : Kept F s0 x) | apply KeptR.actIf | apply State.bootCode_kept
    | apply State.checkPackage_kept | apply State.checkStage1_kept | apply State.log_kept | apply State.resetHead_kept
    | apply State.setFwSlot_kept | apply State.writeCtl_kept | apply Kept.ite | apply Kept.ite_fst

theorem State.otpChanged_kept {cmd entry : Nat} (hF : [.regs, .cells, .lines, .locket, .wake] ⊆ F) (kp : Kept F s0 s) : Kept F
    s0 (State.otpChanged s cmd entry) := by
  unfold State.otpChanged
  with_reducible repeat' first
    | assumption | exact Part.le hF | apply State.endBootCmd_kept | apply State.log_kept

theorem OtpEntry.getD_set {l : List OtpEntry} {i j : Nat} {x : OtpEntry} (h : (l.getD i {}).Becomes x) :
    (l.getD j {}).Becomes ((l.set i x).getD j {}) := by
  by_cases hj : j < l.length
  · by_cases hij : i = j
    · subst hij
      simpa [List.getD_eq_getElem?_getD, hj] using h
    · simp only [List.getD_eq_getElem?_getD, List.getElem?_set_ne hij]
      exact .refl _
  · rw [List.getD_eq_getElem?_getD, List.getD_eq_getElem?_getD, List.getElem?_eq_none (by omega), List.getElem?_eq_none (by simpa using by omega)]
    exact .refl _

theorem Kept.setOtp {i : Nat} {x : OtpEntry} (hF : [.boot] ⊆ F) (kp : Kept F s0 s) (h : (s.boot.otp.getD i {}).Becomes x) :
    Kept F s0 (s.setBoot { s.boot with otp := s.boot.otp.set i x }) :=
  ⟨kp.pend, kp.mem, kp.regs, ⟨fun j => (kp.otp.1 j).trans (OtpEntry.getD_set h), kp.otp.2⟩, kp.only.trans fun f => by
    cases f <;> first | exact .inr rfl | exact .inl (Part.mem hF)⟩

theorem execOtpAdd_kept {master value : Nat} (hF : [.regs, .wos, .lockWins, .accWin, .cells, .lines, .store, .locket, .wake, .boot, .fresh] ⊆ F) (kp : Kept F s0 s) : KeptR F s0 (execOtpAdd master value s) := by
  unfold execOtpAdd
  refine State.bootCmd_kept (Part.le hF) kp fun x hx => ?_
  split
  · exact State.endBootCmd_kept (Part.le hF) hx
  · split
    · exact State.endBootCmd_kept (Part.le hF) hx
    · rename_i i hi
      dsimp only
      split
      · exact State.endBootCmd_kept (Part.le hF) (State.bootSrc_kept (Part.le hF) hx)
      · have hr : Kept F s0 (x.bootSrc 32).1 := State.bootSrc_kept (Part.le hF) hx
        have hv : (x.boot.otp.getD i {}).valid = false := by
          obtain ⟨hl, hp, _⟩ := List.findIdx?_eq_some_iff_getElem.1 hi
          simpa [List.getD_eq_getElem?_getD, hl] using hp
        refine State.otpChanged_kept (Part.le hF) ⟨hr.pend, hr.mem, hr.regs,
          ⟨fun j => (hx.otp.1 j).trans (OtpEntry.getD_set ⟨fun h => ?_, fun h => h⟩), hx.otp.2⟩,
          hr.only.trans fun f => by cases f <;> first | exact .inr rfl | exact .inl (Part.mem hF)⟩
        rw [hv] at h
        cases h

theorem execOtpRevoke_kept {master value : Nat} (hF : [.regs, .wos, .lockWins, .cells, .lines, .locket, .wake, .boot] ⊆ F) (kp : Kept F s0 s) : KeptR F s0 (execOtpRevoke master value s) := by
  unfold execOtpRevoke
  refine State.bootCmd_kept (Part.le hF) kp fun x hx => ?_
  dsimp only
  split
  · exact State.endBootCmd_kept (Part.le hF) hx
  · exact State.otpChanged_kept (Part.le hF) (Kept.setOtp (Part.le hF) hx ⟨fun h => ⟨h, rfl⟩, fun _ => rfl⟩)

theorem execSvnRaise_kept {master value : Nat} (hF : [.regs, .wos, .lockWins, .cells, .lines, .locket, .wake, .boot] ⊆ F) (kp : Kept F s0 s) : KeptR F s0 (execSvnRaise master value s) := by
  unfold execSvnRaise
  refine State.bootCmd_kept (Part.le hF) kp fun x hx => ?_
  split
  · exact State.endBootCmd_kept (Part.le hF) hx
  · split
    · exact State.endBootCmd_kept (Part.le hF) hx
    · exact State.otpChanged_kept (Part.le hF) ⟨hx.pend, hx.mem, hx.regs, ⟨hx.otp.1, Nat.le_succ_of_le hx.otp.2⟩,
        hx.only.trans fun f => by cases f <;> first | exact .inr rfl | exact .inl (Part.mem hF)⟩

theorem State.resetIf_kept {cause : Option Nat} (hF : Part.all ⊆ F) (kp : Kept F s0 s) : Kept F s0 (State.resetIf s cause) := by
  unfold State.resetIf
  with_reducible repeat' first
    | assumption | exact Part.le hF | apply State.resetHead_kept | apply Kept.ite

theorem execBootWatchdogExpiry_kept (hF : Part.all ⊆ F) (kp : Kept F s0 s) : KeptR F s0 (execBootWatchdogExpiry s) := by
  unfold execBootWatchdogExpiry
  with_reducible repeat' first
    | assumption | exact Part.le hF | intro x (_ : Kept F s0 x) | apply KeptR.actIf | apply State.resetHead_kept

theorem execTrialTimeout_kept (hF : Part.all ⊆ F) (kp : Kept F s0 s) : KeptR F s0 (execTrialTimeout s) := by
  unfold execTrialTimeout
  with_reducible repeat' first
    | assumption | exact Part.le hF | intro x (_ : Kept F s0 x) | apply KeptR.actIf | apply State.resetHead_kept

theorem execTopSwResetWrite_kept {master value : Nat} (hF : Part.all ⊆ F) (kp : Kept F s0 s) : KeptR F s0 (execTopSwResetWrite
    master value s) := by
  unfold execTopSwResetWrite
  with_reducible repeat' first
    | assumption | exact Part.le hF | intro x (_ : Kept F s0 x) | intro x a (_ : Kept F s0 x) | apply KeptR.actIf
    | apply State.regCmd_kept | apply State.resetHead_kept

theorem execSysRstNLow_kept (hF : Part.all ⊆ F) (kp : Kept F s0 s) : KeptR F s0 (execSysRstNLow s) := by
  unfold execSysRstNLow
  with_reducible repeat' first
    | assumption | exact Part.le hF | apply State.resetIf_kept | simp only [Kept.lit_iff] | apply Kept.upd_pins
    | apply KeptR.next | rfl

theorem execJtagReset_kept (hF : Part.all ⊆ F) (kp : Kept F s0 s) : KeptR F s0 (execJtagReset s) := by
  unfold execJtagReset
  with_reducible repeat' first
    | assumption | exact Part.le hF | apply State.resetIf_kept | apply KeptR.next

theorem execThermtrip_kept (hF : Part.all ⊆ F) (kp : Kept F s0 s) : KeptR F s0 (execThermtrip s) := by
  unfold execThermtrip
  with_reducible repeat' first
    | assumption | exact Part.le hF | apply State.resetIf_kept | simp only [Kept.lit_iff] | apply Kept.upd_pins
    | apply KeptR.ite | apply KeptR.next | rfl

/-! ### Dedup -/

theorem State.setDomState_kept {d st : Nat} (hF : [.regs] ⊆ F) (kp : Kept F s0 s) : Kept F s0 (State.setDomState s d st) := by
  unfold State.setDomState
  with_reducible repeat' first
    | assumption | exact Part.le hF | apply State.wrN_kept

theorem State.setDedup_kept {x : Dedup} (hF : [.dedup] ⊆ F) (kp : Kept F s0 s) : Kept F s0 (State.setDedup s x) := by
  unfold State.setDedup
  with_reducible repeat' first
    | assumption | exact Part.le hF | simp only [Kept.lit_iff] | apply Kept.upd_dedup | rfl

theorem State.hookIds_kept {fp : List Byte} (hF : [.regs, .accWin, .cells, .lines, .store, .locket, .wake, .fresh] ⊆ F) (kp :
    Kept F s0 s) : Kept F s0 (State.hookIds s fp).1 := by
  unfold State.hookIds
  with_reducible repeat' first
    | assumption | exact Part.le hF | apply State.readBytes_kept

theorem State.insertHook_kept {fp : List Byte} {man : Nat} (hF : [.regs, .accWin, .cells, .lines, .store, .locket, .wake, .out,
    .fresh] ⊆ F) (kp : Kept F s0 s) : Kept F s0 (State.insertHook s fp man) := by
  unfold State.insertHook
  with_reducible repeat' first
    | assumption | exact Part.le hF | apply State.countSat_kept | apply State.readBytes_kept | apply State.writeBytes_kept
    | apply Kept.ite

theorem State.sealMan_kept {d : Nat} (hF : [.regs, .accWin, .cells, .lines, .store, .locket, .wake, .dedup, .out, .fresh] ⊆ F)
    (kp : Kept F s0 s) : Kept F s0 (State.sealMan s d) := by
  unfold State.sealMan
  with_reducible repeat' first
    | assumption | exact Part.le hF | intro x a (_ : Kept F s0 x) | apply State.insertHook_kept | apply State.setDedup_kept
    | apply Kept.foldl | split

theorem State.appendMan_kept {d : Nat} {fp : List Byte} {chunk len : Nat} (hF : [.regs, .accWin, .cells, .lines, .store,
    .locket, .wake, .dedup, .out, .fresh] ⊆ F) (kp : Kept F s0 s) : Kept F s0 (State.appendMan s d fp chunk len) := by
  unfold State.appendMan
  with_reducible repeat' first
    | assumption | exact Part.le hF | apply State.sealMan_kept | apply State.setDedup_kept | apply Kept.ite

theorem State.loadMans_kept {ids : List Nat} (hF : [.dedup] ⊆ F) (kp : Kept F s0 s) : Kept F s0 (State.loadMans s ids).1 := by
  unfold State.loadMans
  with_reducible repeat' first
    | assumption | exact Part.le hF | apply State.setDedup_kept

theorem State.outcome_kept {j : Job} {i code : Nat} {chunk dup : Option Nat} (hF : [.regs, .accWin, .cells, .lines, .store,
    .locket, .wake, .out] ⊆ F) (kp : Kept F s0 s) : Kept F s0 (State.outcome s j i code chunk dup) := by
  unfold State.outcome
  with_reducible repeat' first
    | assumption | exact Part.le hF | apply State.writeBytes_kept | split

theorem State.lookOne_kept {j : Job} {L : Look} {es : List CEntry} {differs : List Nat} {i : Nat} {e : CEntry} (hF : [.regs,
    .accWin, .cells, .lines, .store, .locket, .wake, .dedup, .map, .out] ⊆ F) (kp : Kept F s0 s) : Kept F s0 (State.lookOne s j
    L es differs i e).1 := by
  unfold State.lookOne
  with_reducible repeat' first
    | assumption | exact Part.le hF | apply State.countSat_kept | apply State.count_kept | apply State.log_kept
    | apply State.outcome_kept | apply State.setDedup_kept | apply State.takeRef_kept | apply Kept.ite_fst | split

theorem State.lookFrom_kept {j : Job} {L : Look} {es : List CEntry} {df : List Nat} {l : List (CEntry × Nat)}
    (hF : [.regs, .accWin, .cells, .lines, .store, .locket, .wake, .dedup, .map, .out] ⊆ F) (kp : Kept F s0 s) : Kept F s0 (s.lookFrom j L es df l).1 := by
  induction l generalizing s L with
  | nil => exact kp
  | cons a l ih =>
    unfold State.lookFrom
    dsimp only
    split
    · exact ih (State.lookOne_kept (Part.le hF) kp)
    · exact State.lookOne_kept (Part.le hF) kp

theorem State.runLook_kept {id : Nat} {j : Job} {L : Look} {es : List CEntry} {differs : List Nat} {from' : Nat} (hF : [.regs,
    .accWin, .cells, .lines, .store, .locket, .wake, .dedup, .map, .out] ⊆ F) (kp : Kept F s0 s) : Kept F s0 (State.runLook s id
    j L es differs from').1 := by
  unfold State.runLook
  with_reducible repeat' first
    | assumption | exact Part.le hF | apply State.lookFrom_kept | apply State.setDedup_kept | apply Kept.ite_fst

theorem State.readEntries_kept {j : Job} (hF : [.regs, .accWin, .cells, .lines, .store, .locket, .wake, .fresh] ⊆ F) (kp : Kept
    F s0 s) : Kept F s0 (State.readEntries s j).1 := by
  unfold State.readEntries
  with_reducible repeat' first
    | assumption | exact Part.le hF | apply State.readBytes_kept

theorem execLookup_kept {job : Nat} {differs : List Nat} (hF : [.regs, .accWin, .cells, .lines, .store, .eng, .locket, .wake,
    .dedup, .map, .out, .fresh] ⊆ F) (kp : Kept F s0 s) : KeptR F s0 (execLookup job differs s) := by
  unfold execLookup
  with_reducible repeat' first
    | assumption | exact Part.le hF | intro x a (_ : Kept F s0 x) | intro y a (_ : Kept F s0 y.1) | apply State.hookIds_kept
    | apply State.loadMans_kept | apply State.outcome_kept | apply State.readEntries_kept | apply State.runLook_kept
    | apply jobActM_kept | simp only [Kept.lit_iff] | apply Kept.foldl | apply Kept.foldl_fst | split | rfl

theorem lookGoes_kept {job : Nat} {f : State → Job → Look → List CEntry → CEntry → State × Option JobRes} (hF : [.regs, .accWin,
    .cells, .lines, .store, .eng, .locket, .wake, .dedup, .fresh] ⊆ F) (kp : Kept F s0 s) (hf : ∀ (x : State) (a1 : Job) (a2 :
    Look) (a3 : List CEntry) (a4 : CEntry), Kept F s0 x → Kept F s0 (f x a1 a2 a3 a4).1) : KeptR F s0 (lookGoes job s f) := by
  unfold lookGoes
  with_reducible repeat' first
    | assumption | exact Part.le hF | intro x a (_ : Kept F s0 x) | apply hf | apply State.readEntries_kept
    | apply State.setDedup_kept | apply jobActM_kept | simp only [Kept.lit_iff] | split | rfl

theorem execLookupResume_kept {job : Nat} {differs : List Nat} (hF : [.regs, .accWin, .cells, .lines, .store, .eng, .locket,
    .wake, .dedup, .map, .out, .fresh] ⊆ F) (kp : Kept F s0 s) : KeptR F s0 (execLookupResume job differs s) := by
  unfold execLookupResume
  with_reducible repeat' first
    | assumption | exact Part.le hF | intro x a b c d (_ : Kept F s0 x) | apply State.runLook_kept | apply lookGoes_kept
    | apply Kept.ite_fst

theorem execPendingWaitTimeout_kept {job : Nat} {differs : List Nat} (hF : [.regs, .accWin, .cells, .lines, .store, .eng,
    .locket, .wake, .dedup, .map, .out, .fresh] ⊆ F) (kp : Kept F s0 s) : KeptR F s0 (execPendingWaitTimeout job differs s) :=
    by
  unfold execPendingWaitTimeout
  with_reducible repeat' first
    | assumption | exact Part.le hF | intro x a b c d (_ : Kept F s0 x) | apply State.count_kept | apply State.log_kept
    | apply State.outcome_kept | apply State.runLook_kept | apply lookGoes_kept

theorem State.commitOne_kept {j : Job} {i : Nat} {e : CEntry} (hF : [.regs, .accWin, .cells, .lines, .store, .locket, .wake,
    .dedup, .map, .out, .fresh] ⊆ F) (kp : Kept F s0 s) : Kept F s0 (State.commitOne s j i e) := by
  unfold State.commitOne
  with_reducible repeat' first
    | assumption | exact Part.le hF | apply State.addDelta_kept | apply State.appendMan_kept | apply State.setChunk_kept
    | apply State.setDedup_kept | split

theorem execCommit_kept {job : Nat} (hF : [.regs, .accWin, .cells, .lines, .store, .eng, .locket, .wake, .dedup, .map, .out,
    .fresh] ⊆ F) (kp : Kept F s0 s) : KeptR F s0 (execCommit job s) := by
  unfold execCommit
  with_reducible repeat' first
    | assumption | exact Part.le hF | intro x a (_ : Kept F s0 x) | apply State.commitOne_kept | apply State.readEntries_kept
    | apply jobActM_kept | simp only [Kept.lit_iff] | apply Kept.foldl | split | rfl

theorem execDedupRelease_kept {job : Nat} (hF : [.regs, .accWin, .cells, .lines, .store, .eng, .locket, .wake, .dedup, .map,
    .out, .fresh] ⊆ F) (kp : Kept F s0 s) : KeptR F s0 (execDedupRelease job s) := by
  unfold execDedupRelease
  with_reducible repeat' first
    | assumption | exact Part.le hF | intro x a (_ : Kept F s0 x) | apply State.readBytes_kept | apply State.release_kept
    | apply jobActM_kept | apply Kept.ite_fst | apply Kept.foldl | split

theorem execRebuild_kept {job : Nat} (hF : [.regs, .accWin, .cells, .lines, .store, .eng, .locket, .wake, .out, .fresh] ⊆ F) (kp
    : Kept F s0 s) : KeptR F s0 (execRebuild job s) := by
  unfold execRebuild
  with_reducible repeat' first
    | assumption | exact Part.le hF | intro x a (_ : Kept F s0 x) | apply State.insertHook_kept | apply State.log_kept
    | apply State.setDomState_kept | apply jobAct_kept | apply Kept.foldl | split

theorem State.undo_kept {d : Delta} (hF : [.map] ⊆ F) (kp : Kept F s0 s) : Kept F s0 (State.undo s d) := by
  unfold State.undo
  with_reducible repeat' first
    | assumption | exact Part.le hF | apply State.gainValid_kept | apply State.setChunk_kept | split

theorem State.redo_kept {x : Nat × Nat × Nat × Bool} (hF : [.regs, .cells, .lines, .locket, .wake, .dedup, .map, .out] ⊆ F) (kp
    : Kept F s0 s) : Kept F s0 (State.redo s x) := by
  unfold State.redo
  with_reducible repeat' first
    | assumption | exact Part.le hF | apply State.addDelta_kept | apply State.release_kept | apply State.setChunk_kept
    | apply State.takeRef_kept | split

theorem execTakeover_kept {job : Nat} {again : List (Nat × Nat × Nat × Bool)} {us : Nat} {ended : Bool} (hF : [.regs, .cells,
    .lines, .eng, .locket, .wake, .dedup, .map, .out] ⊆ F) (kp : Kept F s0 s) : KeptR F s0 (execTakeover job again us ended s)
    := by
  unfold execTakeover
  with_reducible repeat' first
    | assumption | exact Part.le hF | intro x a (_ : Kept F s0 x) | apply State.log_kept | apply State.redo_kept
    | apply State.setDedup_kept | apply State.setDomState_kept | apply State.undo_kept | apply jobActM_kept | apply Kept.foldl
    | split

theorem execManifestSealTimeout_kept {d : Nat} (hF : [.regs, .accWin, .cells, .lines, .store, .locket, .wake, .dedup, .out,
    .fresh] ⊆ F) (kp : Kept F s0 s) : KeptR F s0 (execManifestSealTimeout d s) := by
  unfold execManifestSealTimeout
  with_reducible repeat' first
    | assumption | exact Part.le hF | intro x (_ : Kept F s0 x) | apply KeptR.act | apply State.sealMan_kept

theorem execDeltaBatchCommit_kept (hF : [.dedup] ⊆ F) (kp : Kept F s0 s) : KeptR F s0 (execDeltaBatchCommit s) := by
  unfold execDeltaBatchCommit
  with_reducible repeat' first
    | assumption | exact Part.le hF | intro x (_ : Kept F s0 x) | apply KeptR.actIf | apply State.setDedup_kept

theorem execDedupDomCfgWrite_kept {master value : Nat} (hF : [.regs, .wos, .lockWins, .cells, .lines, .locket, .wake] ⊆ F) (kp :
    Kept F s0 s) : KeptR F s0 (execDedupDomCfgWrite master value s) := by
  unfold execDedupDomCfgWrite
  with_reducible repeat' first
    | assumption | exact Part.le hF | intro x (_ : Kept F s0 x) | intro x a (_ : Kept F s0 x) | apply KeptR.act
    | apply State.ignoreW_kept | apply State.regCmd_kept | apply State.wrN_kept | apply Kept.ite

end Sys2Proof.Machine
end

