-- ==== Sys2Proof/Machine/KeptData.lean ====
section
/-! DEFINITION. What every command keeps, kept by the commands of Pattern, Pleat, Quilt, the hosts, snapshots and replication. The file holds theorems alone, no
definition: it stands beside the functions it speaks of, so that who mends one mends its theorem with it. -/
namespace Sys2Proof.Machine

set_option Elab.async false
variable {F : List Part} {s0 s t : State}

/-! ### Pattern -/

theorem State.noSet_kept {layout family candidates : Nat} (hF : [.regs, .cells, .lines, .locket, .wake] ⊆ F) (kp : Kept F s0 s)
    : Kept F s0 (State.noSet s layout family candidates) := by
  unfold State.noSet
  with_reducible repeat' first
    | assumption | exact Part.le hF | apply State.countSat_kept | apply State.irq_kept | apply State.log_kept

theorem State.noteRelaxed_kept {relaxed : Bool} {layout largest candidates : Nat} (hF : [.regs, .cells, .lines, .locket, .wake]
    ⊆ F) (kp : Kept F s0 s) : Kept F s0 (State.noteRelaxed s relaxed layout largest candidates) := by
  unfold State.noteRelaxed
  with_reducible repeat' first
    | assumption | exact Part.le hF | apply State.countSat_kept | apply State.irq_kept | apply State.log_kept | apply Kept.ite

theorem execChooseBolt_kept {job : Nat} (hF : [.regs, .accWin, .cells, .lines, .store, .eng, .locket, .wake, .pat, .out] ⊆ F)
    (kp : Kept F s0 s) : KeptR F s0 (execChooseBolt job s) := by
  unfold execChooseBolt
  with_reducible repeat' first
    | assumption | exact Part.le hF | intro x a (_ : Kept F s0 x) | apply State.count_kept | apply State.noSet_kept
    | apply State.noteRelaxed_kept | apply State.useBlock_kept | apply State.wrN_kept | apply State.writeBytes_kept
    | apply jobAct_kept | apply Kept.ite_fst | apply Kept.foldl

theorem execChooseSubst_kept {job : Nat} (hF : [.regs, .accWin, .cells, .lines, .store, .eng, .locket, .wake, .pat, .out,
    .fresh] ⊆ F) (kp : Kept F s0 s) : KeptR F s0 (execChooseSubst job s) := by
  unfold execChooseSubst
  with_reducible repeat' first
    | assumption | exact Part.le hF | intro x a (_ : Kept F s0 x) | apply State.noSet_kept | apply State.noteRelaxed_kept
    | apply State.readBytes_kept | apply State.useBlock_kept | apply State.writeBytes_kept | apply jobAct_kept
    | simp only [Kept.lit_iff] | split | rfl

theorem execChooseCopies_kept {job : Nat} (hF : [.regs, .accWin, .cells, .lines, .store, .eng, .locket, .wake, .pat, .out] ⊆ F)
    (kp : Kept F s0 s) : KeptR F s0 (execChooseCopies job s) := by
  unfold execChooseCopies
  with_reducible repeat' first
    | assumption | exact Part.le hF | intro x a (_ : Kept F s0 x) | apply State.noSet_kept | apply State.useBlock_kept
    | apply State.writeBytes_kept | apply jobAct_kept | apply Kept.ite_fst | apply Kept.foldl

theorem execEligibilityChange_kept (hF : [.regs, .cells, .lines, .locket, .wake] ⊆ F) (kp : Kept F s0 s) : KeptR F s0
    (execEligibilityChange s) := by
  unfold execEligibilityChange
  with_reducible repeat' first
    | assumption | exact Part.le hF | intro x (_ : Kept F s0 x) | intro x a (_ : Kept F s0 x) | apply KeptR.act
    | apply State.irq_kept | apply State.log_kept | apply State.wb_kept | apply Kept.ite | apply Kept.foldl

theorem execShareRecompute_kept {host gc rebuild metadata : Nat} (hF : [.regs, .pat] ⊆ F) (kp : Kept F s0 s) : KeptR F s0
    (execShareRecompute host gc rebuild metadata s) := by
  unfold execShareRecompute
  with_reducible repeat' first
    | assumption | exact Part.le hF | intro x (_ : Kept F s0 x) | apply KeptR.act | apply State.wrN_kept
    | simp only [Kept.lit_iff] | apply Kept.upd_pat | rfl

theorem execPatternBlockUseWrite_kept {master value : Nat} (hF : [.regs, .wos, .lockWins, .cells, .lines, .locket, .wake] ⊆ F)
    (kp : Kept F s0 s) : KeptR F s0 (execPatternBlockUseWrite master value s) := by
  unfold execPatternBlockUseWrite
  with_reducible repeat' first
    | assumption | exact Part.le hF | intro x (_ : Kept F s0 x) | intro x a (_ : Kept F s0 x) | apply KeptR.act
    | apply State.ignoreW_kept | apply State.regCmd_kept | apply State.wrN_kept | apply Kept.ite

/-! ### Quilt -/

theorem State.buffers_kept {j : Job} {w : Nat} (hF : [.regs, .accWin, .cells, .lines, .store, .locket, .wake, .fresh] ⊆ F) (kp :
    Kept F s0 s) : Kept F s0 (State.buffers s j w).1 := by
  unfold State.buffers
  with_reducible repeat' first
    | assumption | exact Part.le hF | apply State.readBytes_kept

theorem State.gather_kept {j : Job} {addrs : List Nat} {off : Nat} {wanted : Nat → Bool} (hF : [.regs, .accWin, .cells, .lines, .store, .locket, .wake, .fresh] ⊆ F) (kp : Kept F s0 s) :
    Kept F s0 (s.gather j addrs off wanted).st := by
  unfold State.gather
  refine List.foldlRecOn (motive := fun g : Gather => Kept F s0 g.st) _ _ kp fun g hg x _ => ?_
  dsimp only
  repeat' split
  all_goals first | exact hg | exact State.readBytes_kept (Part.le hF) hg

theorem State.putOut_kept {j : Job} {addr : Nat} {data : List Byte} (hF : [.regs, .accWin, .cells, .lines, .store, .locket,
    .wake, .out] ⊆ F) (kp : Kept F s0 s) : Kept F s0 (State.putOut s j addr data).1 := by
  unfold State.putOut
  with_reducible repeat' first
    | assumption | exact Part.le hF | apply State.writeBytes_kept

theorem State.putPoison_kept {j : Job} {addr n : Nat} (hF : [.regs, .accWin, .cells, .lines, .store, .locket, .wake, .out] ⊆ F)
    (kp : Kept F s0 s) : Kept F s0 (State.putPoison s j addr n) := by
  unfold State.putPoison
  with_reducible repeat' first
    | assumption | exact Part.le hF | intro x a (_ : Kept F s0 x) | apply State.setLine_kept | apply State.writeBytes_kept
    | apply Kept.ite | apply Kept.foldl

theorem State.putOuts_kept {j : Job} {outs : List (Nat × List Byte)} {status : Nat} (hF : [.regs, .accWin, .cells, .lines,
    .store, .locket, .wake, .out] ⊆ F) (kp : Kept F s0 s) : Kept F s0 (State.putOuts s j outs status).1 := by
  unfold State.putOuts
  with_reducible repeat' first
    | assumption | exact Part.le hF | intro y a (_ : Kept F s0 y.1) | apply State.putOut_kept | apply Kept.foldl_fst

theorem State.setQuilt_kept {q : Quilt} (hF : [.quilt] ⊆ F) (kp : Kept F s0 s) : Kept F s0 (State.setQuilt s q) := by
  unfold State.setQuilt
  with_reducible repeat' first
    | assumption | exact Part.le hF | simp only [Kept.lit_iff] | apply Kept.upd_quilt | rfl

theorem State.freeze_kept {b stripe : Nat} (hF : [.regs, .wake, .map, .quilt] ⊆ F) (kp : Kept F s0 s) : Kept F s0 (State.freeze
    s b stripe) := by
  unfold State.freeze
  with_reducible repeat' first
    | assumption | exact Part.le hF | apply State.irq_kept | apply State.modBolt_kept | apply State.setQuilt_kept
    | apply Kept.ite

theorem State.unprotect_kept {b stripe : Nat} (hF : [.map, .quilt] ⊆ F) (kp : Kept F s0 s) : Kept F s0 (State.unprotect s b
    stripe) := by
  unfold State.unprotect
  with_reducible repeat' first
    | assumption | exact Part.le hF | apply State.queueGc_kept | apply State.setQuilt_kept

theorem execEncode_kept {job : Nat} (hF : [.regs, .accWin, .cells, .lines, .store, .eng, .locket, .wake, .out, .fresh] ⊆ F) (kp
    : Kept F s0 s) : KeptR F s0 (execEncode job s) := by
  unfold execEncode
  with_reducible repeat' first
    | assumption | exact Part.le hF | intro x a (_ : Kept F s0 x) | apply State.buffers_kept | apply State.gather_kept
    | apply State.putOuts_kept | apply State.putPoison_kept | apply jobAct_kept | simp only [Kept.lit_iff] | apply Kept.foldl
    | split | rfl

theorem execReconstruct_kept {job : Nat} (hF : [.regs, .accWin, .cells, .lines, .store, .eng, .locket, .wake, .out, .fresh] ⊆ F)
    (kp : Kept F s0 s) : KeptR F s0 (execReconstruct job s) := by
  unfold execReconstruct
  with_reducible repeat' first
    | assumption | exact Part.le hF | intro x a (_ : Kept F s0 x) | apply State.buffers_kept | apply State.gather_kept
    | apply State.putOuts_kept | apply State.putPoison_kept | apply jobAct_kept | simp only [Kept.lit_iff] | apply Kept.foldl
    | split | rfl

theorem execVerify_kept {job : Nat} (hF : [.regs, .accWin, .cells, .lines, .store, .eng, .locket, .wake, .map, .quilt, .out,
    .fresh] ⊆ F) (kp : Kept F s0 s) : KeptR F s0 (execVerify job s) := by
  unfold execVerify
  with_reducible repeat' first
    | assumption | exact Part.le hF | intro x a (_ : Kept F s0 x) | apply State.buffers_kept | apply State.countSat_kept
    | apply State.freeze_kept | apply State.gather_kept | apply State.log_kept | apply State.putOut_kept
    | apply State.unprotect_kept | apply jobAct_kept | simp only [Kept.lit_iff] | split | rfl

theorem execResolve_kept {job : Nat} (hF : [.regs, .accWin, .cells, .lines, .store, .eng, .locket, .wake, .fresh] ⊆ F) (kp :
    Kept F s0 s) : KeptR F s0 (execResolve job s) := by
  unfold execResolve
  with_reducible repeat' first
    | assumption | exact Part.le hF | intro x a (_ : Kept F s0 x) | apply State.buffers_kept | apply State.gather_kept
    | apply State.irq_kept | apply State.log_kept | apply jobAct_kept | simp only [Kept.lit_iff] | split | rfl

theorem State.mirrorDirty_kept {b region : Nat} {set : Bool} (hF : [.out] ⊆ F) (kp : Kept F s0 s) : Kept F s0 (State.mirrorDirty
    s b region set) := by
  unfold State.mirrorDirty
  with_reducible repeat' first
    | assumption | exact Part.le hF | apply State.emit_kept | apply Kept.ite

theorem execDirtySet_kept {job : Nat} (hF : [.eng, .quilt, .out] ⊆ F) (kp : Kept F s0 s) : KeptR F s0 (execDirtySet job s) := by
  unfold execDirtySet
  with_reducible repeat' first
    | assumption | exact Part.le hF | intro x a (_ : Kept F s0 x) | apply State.mirrorDirty_kept | apply State.setQuilt_kept
    | apply jobActM_kept | apply Kept.ite_fst

theorem execDirtySetMirrorAck_kept {job : Nat} (hF : [.eng, .quilt] ⊆ F) (kp : Kept F s0 s) : KeptR F s0 (execDirtySetMirrorAck
    job s) := by
  unfold execDirtySetMirrorAck
  with_reducible repeat' first
    | assumption | exact Part.le hF | intro x (_ : Kept F s0 x) | apply KeptR.actIf | apply State.setQuilt_kept
    | apply State.setRes_kept

theorem execDirtyMapMirror_kept {bolt region : Nat} {set : Bool} (hF : [.quilt, .out] ⊆ F) (kp : Kept F s0 s) : KeptR F s0
    (execDirtyMapMirror bolt region set s) := by
  unfold execDirtyMapMirror
  with_reducible repeat' first
    | assumption | exact Part.le hF | intro x (_ : Kept F s0 x) | apply KeptR.actIf | apply State.emit_kept
    | apply State.setQuilt_kept | apply Kept.ite

theorem State.clearDirty_kept {b r : Nat} (hF : [.quilt, .out] ⊆ F) (kp : Kept F s0 s) : Kept F s0 (State.clearDirty s b r) :=
    by
  unfold State.clearDirty
  with_reducible repeat' first
    | assumption | exact Part.le hF | apply State.freeMap_kept | apply State.mirrorDirty_kept | apply State.setQuilt_kept
    | split

theorem execDirtyClear_kept {job : Nat} (hF : [.eng, .quilt, .out] ⊆ F) (kp : Kept F s0 s) : KeptR F s0 (execDirtyClear job s)
    := by
  unfold execDirtyClear
  with_reducible repeat' first
    | assumption | exact Part.le hF | intro x a (_ : Kept F s0 x) | apply State.clearDirty_kept | apply jobAct_kept
    | apply Kept.ite_fst

theorem execResynchronisation_kept {bolt region : Nat} {unprotected : List Nat} {lost : List (Nat × Nat)} (hF : [.regs, .cells,
    .lines, .locket, .wake, .map, .quilt, .out] ⊆ F) (kp : Kept F s0 s) : KeptR F s0 (execResynchronisation bolt region
    unprotected lost s) := by
  unfold execResynchronisation
  with_reducible repeat' first
    | assumption | exact Part.le hF | intro x (_ : Kept F s0 x) | intro x a (_ : Kept F s0 x) | apply KeptR.actIf
    | apply State.clearDirty_kept | apply State.log_kept | apply State.loseChunks_kept | apply State.setQuilt_kept
    | apply State.unprotect_kept | apply Kept.ite | apply Kept.foldl

theorem State.setReshape_kept {st : Nat} (hF : [.regs] ⊆ F) (kp : Kept F s0 s) : Kept F s0 (State.setReshape s st) := by
  unfold State.setReshape
  with_reducible repeat' first
    | assumption | exact Part.le hF | apply State.wf_kept

theorem State.reshapeCode_kept {c : Nat} (hF : [.regs] ⊆ F) (kp : Kept F s0 s) : Kept F s0 (State.reshapeCode s c) := by
  unfold State.reshapeCode
  with_reducible repeat' first
    | assumption | exact Part.le hF | apply State.wf_kept

theorem State.reshapeCkpt_kept (hF : [.regs, .cells, .lines, .locket, .wake, .quilt] ⊆ F) (kp : Kept F s0 s) : Kept F s0
    (State.reshapeCkpt s) := by
  unfold State.reshapeCkpt
  with_reducible repeat' first
    | assumption | exact Part.le hF | apply State.log_kept | apply State.setQuilt_kept | apply State.wr64_kept

theorem State.reshapePick_kept (hF : [.map, .out] ⊆ F) (kp : Kept F s0 s) : Kept F s0 (State.reshapePick s) := by
  unfold State.reshapePick
  with_reducible repeat' first
    | assumption | exact Part.le hF | intro x a (_ : Kept F s0 x) | apply State.modBolt_kept | apply State.settleBolt_kept
    | apply Kept.foldl

theorem State.holdReshape_kept {st cause : Nat} (hF : [.regs, .cells, .lines, .locket, .wake, .quilt] ⊆ F) (kp : Kept F s0 s) :
    Kept F s0 (State.holdReshape s st cause) := by
  unfold State.holdReshape
  with_reducible repeat' first
    | assumption | exact Part.le hF | apply State.log_kept | apply State.reshapeCkpt_kept | apply State.setReshape_kept

theorem State.advanceReshape_kept (hF : [.regs, .cells, .lines, .locket, .wake, .map, .quilt, .out] ⊆ F) (kp : Kept F s0 s) :
    Kept F s0 (State.advanceReshape s) := by
  unfold State.advanceReshape
  with_reducible repeat' first
    | assumption | exact Part.le hF | apply State.irq_kept | apply State.log_kept | apply State.reshapeCkpt_kept
    | apply State.reshapePick_kept | apply State.setQuilt_kept | apply State.setReshape_kept | apply State.wr64_kept
    | apply Kept.ite

theorem reshapeCmd_kept {master value c : Nat} {f : State → State} (hF : [.regs, .wos, .lockWins, .cells, .lines, .locket,
    .wake] ⊆ F) (kp : Kept F s0 s) (hf : ∀ (x : State), Kept F s0 x → Kept F s0 (f x)) : KeptR F s0 (reshapeCmd master value c s
    f) := by
  unfold reshapeCmd
  with_reducible repeat' first
    | assumption | exact Part.le hF | intro x (_ : Kept F s0 x) | intro x a (_ : Kept F s0 x) | apply hf | apply KeptR.actIf
    | apply State.regCmd_kept

theorem execReshapeStart_kept {master value : Nat} (hF : [.regs, .wos, .lockWins, .cells, .lines, .locket, .wake, .map, .quilt,
    .out] ⊆ F) (kp : Kept F s0 s) : KeptR F s0 (execReshapeStart master value s) := by
  unfold execReshapeStart
  with_reducible repeat' first
    | assumption | exact Part.le hF | intro x (_ : Kept F s0 x) | apply State.advanceReshape_kept
    | apply State.reshapeCkpt_kept | apply State.reshapeCode_kept | apply State.setQuilt_kept | apply State.setReshape_kept
    | apply State.wr64_kept | apply State.wrN_kept | apply reshapeCmd_kept | apply Kept.ite

theorem execReshapePause_kept {master value : Nat} (hF : [.regs, .wos, .lockWins, .cells, .lines, .locket, .wake, .quilt] ⊆ F)
    (kp : Kept F s0 s) : KeptR F s0 (execReshapePause master value s) := by
  unfold execReshapePause
  with_reducible repeat' first
    | assumption | exact Part.le hF | intro x (_ : Kept F s0 x) | apply State.holdReshape_kept | apply State.reshapeCode_kept
    | apply reshapeCmd_kept | apply Kept.ite

theorem State.resumeReshape_kept (hF : [.regs, .cells, .lines, .locket, .wake, .map, .quilt, .out] ⊆ F) (kp : Kept F s0 s) :
    Kept F s0 (State.resumeReshape s) := by
  unfold State.resumeReshape
  with_reducible repeat' first
    | assumption | exact Part.le hF | apply State.advanceReshape_kept | apply State.setReshape_kept | apply Kept.ite

theorem execReshapeResume_kept {master value : Nat} (hF : [.regs, .wos, .lockWins, .cells, .lines, .locket, .wake, .map, .quilt,
    .out] ⊆ F) (kp : Kept F s0 s) : KeptR F s0 (execReshapeResume master value s) := by
  unfold execReshapeResume
  with_reducible repeat' first
    | assumption | exact Part.le hF | intro x (_ : Kept F s0 x) | apply State.reshapeCode_kept
    | apply State.resumeReshape_kept | apply reshapeCmd_kept | apply Kept.ite

theorem State.noteDrained_kept {peer : Nat} (hF : [.regs, .cells, .lines, .locket, .wake] ⊆ F) (kp : Kept F s0 s) : Kept F s0
    (State.noteDrained s peer) := by
  unfold State.noteDrained
  with_reducible repeat' first
    | assumption | exact Part.le hF | apply State.log_kept | apply State.wrN_kept | apply Kept.ite

theorem execReshapeBoltEmptied_kept {bolt peer : Nat} (hF : [.regs, .cells, .lines, .locket, .wake, .map, .quilt, .out] ⊆ F) (kp
    : Kept F s0 s) : KeptR F s0 (execReshapeBoltEmptied bolt peer s) := by
  unfold execReshapeBoltEmptied
  with_reducible repeat' first
    | assumption | exact Part.le hF | intro x (_ : Kept F s0 x) | apply KeptR.actIf | apply State.advanceReshape_kept
    | apply State.noteDrained_kept | apply State.setQuilt_kept

theorem execRebuildStart_kept {n : Nat} (hF : [.regs, .cells, .lines, .locket, .wake, .map, .quilt] ⊆ F) (kp : Kept F s0 s) :
    KeptR F s0 (execRebuildStart n s) := by
  unfold execRebuildStart
  with_reducible repeat' first
    | assumption | exact Part.le hF | intro x (_ : Kept F s0 x) | intro x a (_ : Kept F s0 x) | apply KeptR.actIf
    | apply State.holdReshape_kept | apply State.queueGc_kept | apply State.setQuilt_kept | apply State.wb_kept
    | apply Kept.ite | apply Kept.foldl

theorem execRebuildEnd_kept {n : Nat} (hF : [.regs, .cells, .lines, .locket, .wake, .map, .quilt, .out] ⊆ F) (kp : Kept F s0 s)
    : KeptR F s0 (execRebuildEnd n s) := by
  unfold execRebuildEnd
  with_reducible repeat' first
    | assumption | exact Part.le hF | intro x (_ : Kept F s0 x) | apply KeptR.actIf | apply State.irq_kept
    | apply State.log_kept | apply State.resumeReshape_kept | apply State.setQuilt_kept | apply State.wb_kept | apply Kept.ite

theorem execQuiltUnfreeze_kept {master value : Nat} (hF : [.regs, .wos, .lockWins, .cells, .lines, .locket, .wake, .map, .quilt,
    .out] ⊆ F) (kp : Kept F s0 s) : KeptR F s0 (execQuiltUnfreeze master value s) := by
  unfold execQuiltUnfreeze
  with_reducible repeat' first
    | assumption | exact Part.le hF | intro x (_ : Kept F s0 x) | intro x a (_ : Kept F s0 x) | apply KeptR.act
    | apply State.modBolt_kept | apply State.regCmd_kept | apply State.setQuilt_kept | apply State.settleBolt_kept

theorem execQuiltDrainMaskWrite_kept {master value : Nat} (hF : [.regs, .wos, .lockWins, .cells, .lines, .locket, .wake] ⊆ F)
    (kp : Kept F s0 s) : KeptR F s0 (execQuiltDrainMaskWrite master value s) := by
  unfold execQuiltDrainMaskWrite
  with_reducible repeat' first
    | assumption | exact Part.le hF | intro x (_ : Kept F s0 x) | intro x a (_ : Kept F s0 x) | apply KeptR.act
    | apply State.irq_kept | apply State.log_kept | apply State.regCmd_kept | apply State.wrN_kept | apply Kept.ite
    | apply Kept.foldl

theorem execQuiltLayoutWrite_kept {master value : Nat} (hF : [.regs, .wos, .lockWins, .cells, .lines, .locket, .wake] ⊆ F) (kp :
    Kept F s0 s) : KeptR F s0 (execQuiltLayoutWrite master value s) := by
  unfold execQuiltLayoutWrite
  with_reducible repeat' first
    | assumption | exact Part.le hF | intro x (_ : Kept F s0 x) | intro x a (_ : Kept F s0 x) | apply KeptR.act
    | apply State.ignoreW_kept | apply State.regCmd_kept | apply State.wrN_kept | apply Kept.ite

theorem execQuiltWriteLayoutWrite_kept {master value : Nat} (hF : [.regs, .wos, .lockWins, .cells, .lines, .locket, .wake] ⊆ F)
    (kp : Kept F s0 s) : KeptR F s0 (execQuiltWriteLayoutWrite master value s) := by
  unfold execQuiltWriteLayoutWrite
  with_reducible repeat' first
    | assumption | exact Part.le hF | intro x (_ : Kept F s0 x) | intro x a (_ : Kept F s0 x) | apply KeptR.act
    | apply State.ignoreW_kept | apply State.regCmd_kept | apply State.wrN_kept | apply Kept.ite

/-! ### Mapper -/

theorem State.mapList_kept {j : Job} {n : Nat} (hF : [.regs, .accWin, .cells, .lines, .store, .locket, .wake, .fresh] ⊆ F) (kp :
    Kept F s0 s) : Kept F s0 (State.mapList s j n).1 := by
  unfold State.mapList
  with_reducible repeat' first
    | assumption | exact Part.le hF | apply State.readBytes_kept

theorem State.lookupGrain_kept {bad : List Nat} {n g : Nat} (hF : [.regs, .cells, .lines, .locket, .wake, .map] ⊆ F) (kp : Kept
    F s0 s) : Kept F s0 (State.lookupGrain s bad n g).1 := by
  unfold State.lookupGrain
  with_reducible repeat' first
    | assumption | exact Part.le hF | apply State.lookup_kept | split

theorem State.lookupBytes_kept {bad : List Nat} {n g : Nat} (hF : [.regs, .cells, .lines, .locket, .wake, .map] ⊆ F) (kp : Kept
    F s0 s) : Kept F s0 (State.lookupBytes s bad n g).1 := by
  unfold State.lookupBytes
  with_reducible repeat' first
    | assumption | exact Part.le hF | apply State.lookupGrain_kept | apply State.usePage_kept | simp only [Kept.lit_iff]
    | split | rfl

theorem execMapLookup_kept {job : Nat} {bad : List Nat} (hF : [.regs, .accWin, .cells, .lines, .store, .eng, .locket, .wake,
    .map, .out] ⊆ F) (kp : Kept F s0 s) : KeptR F s0 (execMapLookup job bad s) := by
  unfold execMapLookup
  with_reducible repeat' first
    | assumption | exact Part.le hF | intro x a (_ : Kept F s0 x) | intro y a (_ : Kept F s0 y.1)
    | apply State.lookupBytes_kept | apply State.writeBytes_kept | apply jobAct_kept | apply Kept.foldl_fst | split

theorem State.bumpRec_kept {job : Nat} {f : RecJob → RecJob} (hF : [.map] ⊆ F) (kp : Kept F s0 s) : Kept F s0 (State.bumpRec s
    job f) := by
  unfold State.bumpRec
  with_reducible repeat' first
    | assumption | exact Part.le hF | apply State.setMap_kept

theorem State.recResult_kept {job : Nat} (hF : [.map] ⊆ F) (kp : Kept F s0 s) : Kept F s0 (State.recResult s job).1 := by
  unfold State.recResult
  with_reducible repeat' first
    | assumption | exact Part.le hF | apply State.setMap_kept | apply Kept.ite_fst

theorem State.update_kept {job n g idx : Nat} {e : MEntry} (hF : [.regs, .cells, .lines, .locket, .wake, .hq, .pair, .dedup,
    .map, .out] ⊆ F) (kp : Kept F s0 s) : Kept F s0 (State.update s job n g idx e) := by
  unfold State.update
  with_reducible repeat' first
    | assumption | exact Part.le hF | apply State.applyGrain_kept | apply State.bumpRec_kept | apply State.lookup_kept
    | apply State.noteRecorded_kept | apply State.setMap_kept | simp only [Kept.lit_iff] | split | rfl

theorem State.orderFull_kept (hF : [.regs, .cells, .lines, .locket, .wake] ⊆ F) (kp : Kept F s0 s) : Kept F s0 (State.orderFull
    s) := by
  unfold State.orderFull
  with_reducible repeat' first
    | assumption | exact Part.le hF | apply State.irq_kept | apply State.log_kept

theorem State.logUpdate_kept {job n g : Nat} {e : MEntry} (hF : [.regs, .cells, .lines, .locket, .wake, .hq, .pair, .map] ⊆ F) (kp : Kept F s0 s) :
    ∀ t ∈ s.logUpdate job n g e, Kept F s0 t := by
  have hb : ∀ (x : State) f, Kept F s0 x → Kept F s0 (x.bumpRec job f) := fun x f hx => State.bumpRec_kept (Part.le hF) hx
  have hn : Kept F s0 (s.noteRecorded n g e.seq) := State.noteRecorded_kept (Part.le hF) kp
  have hp : ∀ l, Kept F s0 (((s.setMap { s.map with logs := l }).noteRecorded n g e.seq).bumpRec job fun r => { r with done := r.done + 1 }) :=
    fun l => hb _ _ (State.noteRecorded_kept (Part.le hF) (State.setMap_kept (Part.le hF) kp))
  intro t ht
  unfold State.logUpdate at ht
  dsimp only at ht
  repeat' split at ht
  all_goals first
    | contradiction
    | (cases Option.mem_some.1 ht; first | exact hb _ _ hn | exact hb _ _ kp | exact hp _)

theorem State.logAll_kept {job n : Nat} {us : List (Nat × MEntry)} (hF : [.regs, .cells, .lines, .locket, .wake, .hq, .pair, .map] ⊆ F) (kp : Kept F s0 s) :
    ∀ t ∈ s.logAll job n us, Kept F s0 t := by
  unfold State.logAll
  refine List.foldlRecOn (motive := fun a : Option State => ∀ t ∈ a, Kept F s0 t) _ _ ?_ fun a ha u _ => ?_
  · intro t ht
    cases Option.mem_some.1 ht
    exact kp
  · intro t ht
    split at ht
    · exact State.logUpdate_kept (Part.le hF) (ha _ rfl) t ht
    · contradiction

theorem State.recordAll_kept {job n first seq : Nat} {us : List (Nat × MEntry)} {run : Bool} (hF : [.regs, .cells, .lines, .locket, .wake, .hq, .pair, .dedup, .map, .out] ⊆ F) (kp : Kept F s0 s) :
    Kept F s0 (s.recordAll job n first seq us run).1 := by
  unfold State.recordAll
  split
  · exact kp
  · split
    · split
      · rename_i h
        exact State.recResult_kept (Part.le hF) (State.logAll_kept (Part.le hF) kp _ h)
      · exact kp
    · split
      · exact State.orderFull_kept (Part.le hF) kp
      · split
        · exact kp
        · split
          · exact Kept.foldl (State.applyRun_kept (Part.le hF) kp) fun x a hx => State.noteRecorded_kept (Part.le hF) hx
          · exact State.recResult_kept (Part.le hF) (Kept.foldl (State.bumpRec_kept (Part.le hF) kp) fun x a hx => State.update_kept (Part.le hF) hx)

theorem State.applyValue_kept {n k seq : Nat} {v : Option (Nat × List Nat)} (hF : [.regs, .cells, .lines, .locket, .wake,
    .dedup, .map, .out] ⊆ F) (kp : Kept F s0 s) : Kept F s0 (State.applyValue s n k seq v) := by
  unfold State.applyValue
  with_reducible repeat' first
    | assumption | exact Part.le hF | intro x a (_ : Kept F s0 x) | apply State.addDead_kept | apply State.delMapPage_kept
    | apply State.dropChunk_kept | apply State.modNs_kept | apply State.ownPage_kept | apply Kept.foldl | split

theorem State.applyKey_kept {n : Nat} {r : JRec} (hF : [.regs, .cells, .lines, .locket, .wake, .hq, .pair, .dedup, .map, .out] ⊆
    F) (kp : Kept F s0 s) : Kept F s0 (State.applyKey s n r) := by
  unfold State.applyKey
  with_reducible repeat' first
    | assumption | exact Part.le hF | apply State.applyValue_kept | apply State.dirtyBp_kept | apply State.modRecs_kept
    | apply State.setMap_kept

theorem State.updateKey_kept {job n : Nat} {r : JRec} (hF : [.regs, .cells, .lines, .locket, .wake, .hq, .pair, .dedup, .map,
    .out] ⊆ F) (kp : Kept F s0 s) : Kept F s0 (State.updateKey s job n r) := by
  unfold State.updateKey
  with_reducible repeat' first
    | assumption | exact Part.le hF | apply State.applyKey_kept | apply State.bumpRec_kept | apply State.setMap_kept
    | apply Kept.ite

theorem State.recordValue_kept {job : Nat} {j : Job} {es : List MEntry} (hF : [.regs, .cells, .lines, .locket, .wake, .hq,
    .pair, .dedup, .map, .out] ⊆ F) (kp : Kept F s0 s) : Kept F s0 (State.recordValue s job j es).1 := by
  unfold State.recordValue
  with_reducible repeat' first
    | assumption | exact Part.le hF | apply State.bumpRec_kept | apply State.recResult_kept | apply State.setMap_kept
    | apply State.updateKey_kept | apply Kept.ite_fst | split

theorem execRecord_kept {job : Nat} (hF : [.regs, .accWin, .cells, .lines, .store, .eng, .locket, .wake, .hq, .pair, .dedup,
    .map, .out, .fresh] ⊆ F) (kp : Kept F s0 s) : KeptR F s0 (execRecord job s) := by
  unfold execRecord
  with_reducible repeat' first
    | assumption | exact Part.le hF | intro x a (_ : Kept F s0 x) | apply State.mapList_kept | apply State.recordAll_kept
    | apply State.recordValue_kept | apply jobActM_kept | simp only [Kept.lit_iff] | split | rfl

theorem State.clearGrains_kept {job : Nat} {j : Job} {kind : Nat} (hF : [.regs, .cells, .lines, .locket, .wake, .hq, .pair,
    .dedup, .map, .out] ⊆ F) (kp : Kept F s0 s) : Kept F s0 (State.clearGrains s job j kind).1 := by
  unfold State.clearGrains
  with_reducible repeat' first
    | assumption | exact Part.le hF | apply State.bumpRec_kept | apply State.recResult_kept | apply State.recordAll_kept
    | apply State.updateKey_kept | split

theorem execDealloc_kept {job : Nat} (hF : [.regs, .cells, .lines, .eng, .locket, .wake, .hq, .pair, .dedup, .map, .out] ⊆ F)
    (kp : Kept F s0 s) : KeptR F s0 (execDealloc job s) := by
  unfold execDealloc
  with_reducible repeat' first
    | assumption | exact Part.le hF | intro x a (_ : Kept F s0 x) | apply State.clearGrains_kept | apply jobActM_kept

theorem execMapperZero_kept {job : Nat} (hF : [.regs, .cells, .lines, .eng, .locket, .wake, .hq, .pair, .dedup, .map, .out] ⊆ F)
    (kp : Kept F s0 s) : KeptR F s0 (execMapperZero job s) := by
  unfold execMapperZero
  with_reducible repeat' first
    | assumption | exact Part.le hF | intro x a (_ : Kept F s0 x) | apply State.clearGrains_kept | apply jobActM_kept

theorem execOrderedRecordApply_kept {i : Nat} (hF : [.regs, .cells, .lines, .eng, .locket, .wake, .hq, .pair, .dedup, .map,
    .out] ⊆ F) (kp : Kept F s0 s) : KeptR F s0 (execOrderedRecordApply i s) := by
  unfold execOrderedRecordApply
  with_reducible repeat' first
    | assumption | exact Part.le hF | intro x (_ : Kept F s0 x) | apply KeptR.actIf | apply State.bumpRec_kept
    | apply State.recResult_kept | apply State.setMap_kept | apply State.setRes_kept | apply State.updateKey_kept
    | apply State.update_kept | simp only [Kept.lit_iff] | apply KeptR.next | split | refine Kept.of_pair ?_ ‹_ = (_, _)›
    | rfl

theorem execChunkNew_kept {job : Nat} (hF : [.regs, .accWin, .cells, .lines, .store, .eng, .locket, .wake, .map, .fresh] ⊆ F)
    (kp : Kept F s0 s) : KeptR F s0 (execChunkNew job s) := by
  unfold execChunkNew
  with_reducible repeat' first
    | assumption | exact Part.le hF | intro x a (_ : Kept F s0 x) | apply State.gainValid_kept | apply State.mapList_kept
    | apply State.setChunk_kept | apply jobAct_kept | simp only [Kept.lit_iff] | apply Kept.foldl | split | rfl

theorem execChunkNewExpiry_kept {id : Nat} (hF : [.regs, .cells, .lines, .locket, .wake, .map, .out] ⊆ F) (kp : Kept F s0 s) :
    KeptR F s0 (execChunkNewExpiry id s) := by
  unfold execChunkNewExpiry
  with_reducible repeat' first
    | assumption | exact Part.le hF | intro x (_ : Kept F s0 x) | apply KeptR.actIf | apply State.log_kept
    | apply State.loseValid_kept | apply State.setChunk_kept | apply KeptR.next | split

theorem State.move_kept {x : Move} (hF : [.map, .out] ⊆ F) (kp : Kept F s0 s) : Kept F s0 (State.move s x).1 := by
  unfold State.move
  with_reducible repeat' first
    | assumption | exact Part.le hF | apply State.gainValid_kept | apply State.loseValid_kept | apply State.setChunk_kept
    | split

theorem State.relocate_kept {xs : List Move} (hF : [.map, .out] ⊆ F) (kp : Kept F s0 s) : Kept F s0 (State.relocate s xs).1 :=
    by
  unfold State.relocate
  with_reducible repeat' first
    | assumption | exact Part.le hF | intro y a (_ : Kept F s0 y.1) | apply State.move_kept | apply Kept.ite_fst
    | apply Kept.foldl_fst

theorem execRelocate_kept {job : Nat} {back : Option (Nat × Nat × Nat)} (hF : [.regs, .accWin, .cells, .lines, .store, .eng,
    .locket, .wake, .map, .out, .fresh] ⊆ F) (kp : Kept F s0 s) : KeptR F s0 (execRelocate job back s) := by
  unfold execRelocate
  with_reducible repeat' first
    | assumption | exact Part.le hF | intro x a (_ : Kept F s0 x) | apply State.emit_kept | apply State.mapList_kept
    | apply State.relocate_kept | apply jobActM_kept | simp only [Kept.lit_iff] | split | rfl

theorem execForwardedRelocate_kept {dom : Nat} {list : List Byte} (hF : [.map, .out] ⊆ F) (kp : Kept F s0 s) : KeptR F s0
    (execForwardedRelocate dom list s) := by
  unfold execForwardedRelocate
  with_reducible repeat' first
    | assumption | exact Part.le hF | intro x (_ : Kept F s0 x) | apply KeptR.act | apply State.emit_kept
    | apply State.relocate_kept | apply Kept.ite

theorem execChunkLost_kept {job : Nat} (hF : [.regs, .accWin, .cells, .lines, .store, .eng, .locket, .wake, .map, .fresh] ⊆ F)
    (kp : Kept F s0 s) : KeptR F s0 (execChunkLost job s) := by
  unfold execChunkLost
  with_reducible repeat' first
    | assumption | exact Part.le hF | intro x a (_ : Kept F s0 x) | apply State.loseChunks_kept | apply State.mapList_kept
    | apply jobAct_kept | simp only [Kept.lit_iff] | apply Kept.foldl | split | rfl

theorem execBoltOpen_kept {job : Nat} (hF : [.regs, .accWin, .cells, .lines, .store, .eng, .locket, .wake, .map, .fresh] ⊆ F)
    (kp : Kept F s0 s) : KeptR F s0 (execBoltOpen job s) := by
  unfold execBoltOpen
  with_reducible repeat' first
    | assumption | exact Part.le hF | intro x a (_ : Kept F s0 x) | apply State.readBytes_kept | apply State.setBolt_kept
    | apply State.setMap_kept | apply jobAct_kept | apply Kept.ite_fst

theorem execBoltClose_kept {job : Nat} (hF : [.eng, .map, .quilt] ⊆ F) (kp : Kept F s0 s) : KeptR F s0 (execBoltClose job s) :=
    by
  unfold execBoltClose
  with_reducible repeat' first
    | assumption | exact Part.le hF | intro x a (_ : Kept F s0 x) | apply State.closeBolt_kept | apply jobAct_kept
    | apply Kept.ite_fst

theorem execBoltSubst_kept {job : Nat} (hF : [.regs, .accWin, .cells, .lines, .store, .eng, .locket, .wake, .map, .quilt,
    .fresh] ⊆ F) (kp : Kept F s0 s) : KeptR F s0 (execBoltSubst job s) := by
  unfold execBoltSubst
  with_reducible repeat' first
    | assumption | exact Part.le hF | intro x a (_ : Kept F s0 x) | apply State.readBytes_kept | apply State.setBolt_kept
    | apply State.setQuilt_kept | apply jobAct_kept | simp only [Kept.lit_iff] | split | rfl

theorem execRecount_kept {job : Nat} (hF : [.regs, .cells, .lines, .eng, .locket, .wake, .map, .out] ⊆ F) (kp : Kept F s0 s) :
    KeptR F s0 (execRecount job s) := by
  unfold execRecount
  with_reducible repeat' first
    | assumption | exact Part.le hF | intro x a (_ : Kept F s0 x) | apply State.gainValid_kept | apply State.log_kept
    | apply State.loseValid_kept | apply State.setChunk_kept | apply jobAct_kept | apply Kept.ite | apply Kept.ite_fst
    | apply Kept.foldl

theorem execMapperCheckpoint_kept (hF : [.map] ⊆ F) (kp : Kept F s0 s) : KeptR F s0 (execMapperCheckpoint s) := by
  unfold execMapperCheckpoint
  with_reducible repeat' first
    | assumption | exact Part.le hF | intro x (_ : Kept F s0 x) | apply KeptR.act | apply State.setMap_kept

theorem execDirtyPageWriteback_kept {page bolt stripe slot crc : Nat} (hF : [.map] ⊆ F) (kp : Kept F s0 s) : KeptR F s0
    (execDirtyPageWriteback page bolt stripe slot crc s) := by
  unfold execDirtyPageWriteback
  with_reducible repeat' first
    | assumption | exact Part.le hF | intro x (_ : Kept F s0 x) | apply KeptR.actIf | apply State.setMap_kept
    | apply KeptR.next | split

theorem execCompaction_kept {n g base : Nat} {old : List Nat} (hF : [.regs, .cells, .lines, .locket, .wake, .dedup, .map, .out]
    ⊆ F) (kp : Kept F s0 s) : KeptR F s0 (execCompaction n g base old s) := by
  unfold execCompaction
  with_reducible repeat' first
    | assumption | exact Part.le hF | intro x (_ : Kept F s0 x) | intro x a (_ : Kept F s0 x) | apply KeptR.actIf
    | apply State.applyRun_kept | apply State.release_kept | apply Kept.ite | apply Kept.foldl

theorem execDegradedModeEntered_kept (hF : [.regs, .cells, .lines, .locket, .wake] ⊆ F) (kp : Kept F s0 s) : KeptR F s0
    (execDegradedModeEntered s) := by
  unfold execDegradedModeEntered
  with_reducible repeat' first
    | assumption | exact Part.le hF | intro x (_ : Kept F s0 x) | apply KeptR.actIf | apply State.setMapMode_kept

theorem State.foldLog_kept {n : Nat} (hF : [.regs, .cells, .lines, .locket, .wake, .dedup, .map, .out] ⊆ F) (kp : Kept F s0 s) :
    Kept F s0 (State.foldLog s n) := by
  unfold State.foldLog
  with_reducible repeat' first
    | assumption | exact Part.le hF | intro x a (_ : Kept F s0 x) | apply State.applyGrain_kept | apply State.gainValid_kept
    | apply State.modBolt_kept | apply State.setChunk_kept | apply State.setMap_kept | apply State.settleBolt_kept
    | apply Kept.ite | apply Kept.foldl | split

theorem execLogBoltFold_kept {n : Nat} (hF : [.regs, .cells, .lines, .locket, .wake, .dedup, .map, .out] ⊆ F) (kp : Kept F s0 s)
    : KeptR F s0 (execLogBoltFold n s) := by
  unfold execLogBoltFold
  with_reducible repeat' first
    | assumption | exact Part.le hF | intro x (_ : Kept F s0 x) | apply KeptR.actIf | apply State.foldLog_kept

theorem State.foldAll_kept {n : Nat} (hF : [.regs, .cells, .lines, .locket, .wake, .dedup, .map, .out] ⊆ F) (kp : Kept F s0 s) :
    Kept F s0 (State.foldAll s n) := by
  unfold State.foldAll
  with_reducible repeat' first
    | assumption | exact Part.le hF | intro x a (_ : Kept F s0 x) | apply State.foldLog_kept | apply Kept.foldl

theorem execMapperReplay_kept {start unclean : Bool} {loaded : Loaded} {ms : Nat} (hF : [.regs, .cells, .lines, .locket, .wake,
    .hq, .pair, .dedup, .map, .quilt, .out] ⊆ F) (kp : Kept F s0 s) : KeptR F s0 (execMapperReplay start unclean loaded ms s) :=
    by
  unfold execMapperReplay
  with_reducible repeat' first
    | assumption | exact Part.le hF | intro x (_ : Kept F s0 x) | intro x a (_ : Kept F s0 x) | apply KeptR.act
    | apply State.applyGrain_kept | apply State.applyKey_kept | apply State.checkMapMode_kept | apply State.foldAll_kept
    | apply State.log_kept | apply State.noteRecorded_kept | apply State.resumeReshape_kept | apply State.setMapMode_kept
    | apply State.setMap_kept | apply State.setQuilt_kept | apply State.wb_kept | apply State.wr64_kept | apply Kept.ite
    | apply Kept.foldl | split

theorem State.toGc_kept {b : Nat} (hF : [.map, .out] ⊆ F) (kp : Kept F s0 s) : Kept F s0 (State.toGc s b) := by
  unfold State.toGc
  with_reducible repeat' first
    | assumption | exact Part.le hF | apply State.modBolt_kept | apply State.settleBolt_kept

theorem execGreedyGc_kept (hF : [.regs, .map, .out] ⊆ F) (kp : Kept F s0 s) : KeptR F s0 (execGreedyGc s) := by
  unfold execGreedyGc
  with_reducible repeat' first
    | assumption | exact Part.le hF | intro x (_ : Kept F s0 x) | apply KeptR.act | apply State.toGc_kept
    | apply State.wb_kept | simp only [Kept.lit_iff] | split | rfl

theorem execPriorityGc_kept (hF : [.map, .out] ⊆ F) (kp : Kept F s0 s) : KeptR F s0 (execPriorityGc s) := by
  unfold execPriorityGc
  with_reducible repeat' first
    | assumption | exact Part.le hF | intro x (_ : Kept F s0 x) | apply KeptR.act | apply State.setMap_kept
    | apply State.toGc_kept | simp only [Kept.lit_iff] | split | rfl

theorem execWearLevelling_kept (hF : [.map] ⊆ F) (kp : Kept F s0 s) : KeptR F s0 (execWearLevelling s) := by
  unfold execWearLevelling
  with_reducible repeat' first
    | assumption | exact Part.le hF | intro x (_ : Kept F s0 x) | apply KeptR.actIf | apply State.queueGc_kept | split

theorem execProgramFailure_kept {n die block stripe : Nat} (hF : [.regs, .cells, .lines, .locket, .wake, .map, .quilt] ⊆ F) (kp
    : Kept F s0 s) : KeptR F s0 (execProgramFailure n die block stripe s) := by
  unfold execProgramFailure
  with_reducible repeat' first
    | assumption | exact Part.le hF | intro x (_ : Kept F s0 x) | apply KeptR.act | apply State.closeBolt_kept
    | apply State.log_kept | apply State.modBolt_kept | apply State.queueGc_kept | apply KeptR.next | split

theorem execEraseFailure_kept {b i : Nat} (hF : [.regs, .cells, .lines, .locket, .wake, .map, .pat] ⊆ F) (kp : Kept F s0 s) :
    KeptR F s0 (execEraseFailure b i s) := by
  unfold execEraseFailure
  with_reducible repeat' first
    | assumption | exact Part.le hF | intro x (_ : Kept F s0 x) | apply KeptR.actIf | apply State.log_kept
    | apply State.retireBlock_kept | apply State.setBolt_kept | apply KeptR.next | split

theorem execEraseComplete_kept {b : Nat} (hF : [.regs, .cells, .lines, .locket, .wake, .map, .pat, .quilt] ⊆ F) (kp : Kept F s0
    s) : KeptR F s0 (execEraseComplete b s) := by
  unfold execEraseComplete
  with_reducible repeat' first
    | assumption | exact Part.le hF | intro x (_ : Kept F s0 x) | intro x a (_ : Kept F s0 x) | apply KeptR.actIf
    | apply State.retireBlock_kept | apply State.returnBlock_kept | apply State.setMap_kept | apply State.setQuilt_kept
    | simp only [Kept.lit_iff] | apply Kept.upd_pat | apply Kept.foldl | apply KeptR.next | split | rfl

theorem execMapperThrLoad_kept {master value : Nat} (hF : [.regs, .wos, .lockWins, .accWin, .cells, .lines, .store, .locket,
    .wake, .map, .fresh] ⊆ F) (kp : Kept F s0 s) : KeptR F s0 (execMapperThrLoad master value s) := by
  unfold execMapperThrLoad
  with_reducible repeat' first
    | assumption | exact Part.le hF | intro x (_ : Kept F s0 x) | intro x a (_ : Kept F s0 x) | apply KeptR.actIf
    | apply State.readBytes_kept | apply State.regCmd_kept | apply State.setMap_kept | apply State.wb_kept
    | apply State.wf_kept | apply Kept.ite

theorem execRetentionLimit_kept {b : Nat} (hF : [.regs, .cells, .lines, .locket, .wake, .map] ⊆ F) (kp : Kept F s0 s) : KeptR F
    s0 (execRetentionLimit b s) := by
  unfold execRetentionLimit
  with_reducible repeat' first
    | assumption | exact Part.le hF | intro x (_ : Kept F s0 x) | apply KeptR.actIf | apply State.countSat_kept
    | apply State.log_kept | apply State.queueGc_kept | apply KeptR.next | split

theorem execMapperCacheSizeWrite_kept {master value : Nat} (hF : [.regs, .wos, .lockWins, .cells, .lines, .locket, .wake] ⊆ F)
    (kp : Kept F s0 s) : KeptR F s0 (execMapperCacheSizeWrite master value s) := by
  unfold execMapperCacheSizeWrite
  with_reducible repeat' first
    | assumption | exact Part.le hF | intro x (_ : Kept F s0 x) | intro x a (_ : Kept F s0 x) | apply KeptR.act
    | apply State.ignoreW_kept | apply State.regCmd_kept | apply State.wrN_kept | apply Kept.ite

/-! ### Hostq -/

theorem State.setHq_kept {h : Hostq} (hF : [.hq] ⊆ F) (kp : Kept F s0 s) : Kept F s0 (State.setHq s h) := by
  unfold State.setHq
  with_reducible repeat' first
    | assumption | exact Part.le hF | simp only [Kept.lit_iff] | apply Kept.upd_hq | rfl

theorem State.setCmd_kept {id : Nat} {c : Cmd} (hF : [.hq] ⊆ F) (kp : Kept F s0 s) : Kept F s0 (State.setCmd s id c) := by
  unfold State.setCmd
  with_reducible repeat' first
    | assumption | exact Part.le hF | apply State.setHq_kept

theorem State.done_kept {id sct sc : Nat} {result : List Byte} (hF : [.hq] ⊆ F) (kp : Kept F s0 s) : Kept F s0 (State.done s id
    sct sc result) := by
  unfold State.done
  with_reducible repeat' first
    | assumption | exact Part.le hF | apply State.setHq_kept

theorem State.failCmd_kept {id : Nat} {c : Cmd} {st : Nat × Nat} (hF : [.regs, .cells, .lines, .locket, .wake, .hq, .pair, .out]
    ⊆ F) (kp : Kept F s0 s) : Kept F s0 (State.failCmd s id c st) := by
  unfold State.failCmd
  with_reducible repeat' first
    | assumption | exact Part.le hF | apply State.done_kept | apply State.voidSeq_kept

theorem State.inFlight_kept (hF : [.regs, .cells, .lines, .locket, .wake, .hq] ⊆ F) (kp : Kept F s0 s) : Kept F s0
    (State.inFlight s) := by
  unfold State.inFlight
  with_reducible repeat' first
    | assumption | exact Part.le hF | apply State.count_kept | apply State.log_kept | apply State.setHq_kept
    | apply State.wb_kept | apply State.wrN_kept | apply Kept.ite

theorem State.takeIn_kept {c : Cmd} (hF : [.hq, .out] ⊆ F) (kp : Kept F s0 s) : Kept F s0 (State.takeIn s c) := by
  unfold State.takeIn
  with_reducible repeat' first
    | assumption | exact Part.le hF | apply State.done_kept | apply State.emit_kept | apply State.setCmd_kept
    | apply State.setHq_kept | apply State.takeSeq_kept | simp only [Kept.lit_iff] | split | rfl

theorem execCommandAdmit_kept (hF : [.regs, .cells, .lines, .locket, .wake, .hq, .out] ⊆ F) (kp : Kept F s0 s) : KeptR F s0
    (execCommandAdmit s) := by
  unfold execCommandAdmit
  with_reducible repeat' first
    | assumption | exact Part.le hF | intro x (_ : Kept F s0 x) | apply KeptR.actIf | apply State.takeIn_kept
    | apply State.inFlight_kept | apply State.setHq_kept | split

theorem execCapsuleReceive_kept {ctrl qid : Nat} {sqe data : List Byte} (hF : [.regs, .cells, .lines, .locket, .wake, .power,
    .bd, .hq, .pair, .out] ⊆ F) (kp : Kept F s0 s) : KeptR F s0 (execCapsuleReceive ctrl qid sqe data s) := by
  unfold execCapsuleReceive
  with_reducible repeat' first
    | assumption | exact Part.le hF | intro x (_ : Kept F s0 x) | apply KeptR.actIf | apply State.log_kept
    | apply State.queueReset_kept | apply State.setHq_kept | apply State.wakeP0_kept | apply Kept.ite | split

theorem execForwardedCommand_kept {fid ctrl qid : Nat} {compat : Bool} {sqe data : List Byte} (hF : [.hq, .out] ⊆ F) (kp : Kept
    F s0 s) : KeptR F s0 (execForwardedCommand fid ctrl qid compat sqe data s) := by
  unfold execForwardedCommand
  with_reducible repeat' first
    | assumption | exact Part.le hF | intro x (_ : Kept F s0 x) | apply KeptR.actIf | apply State.takeIn_kept
    | apply State.setHq_kept | split

theorem State.sendCpl_kept {id : Nat} {c : Cmd} (hF : [.regs, .cells, .lines, .locket, .wake, .hq, .out] ⊆ F) (kp : Kept F s0 s)
    : Kept F s0 (State.sendCpl s id c) := by
  unfold State.sendCpl
  with_reducible repeat' first
    | assumption | exact Part.le hF | apply State.emit_kept | apply State.endFlight_kept | apply State.setHq_kept
    | apply Kept.ite

theorem execHostCompletionSend_kept {id : Nat} {back : Option (Nat × Nat × List Byte)} (hF : [.regs, .cells, .lines, .locket,
    .wake, .hq, .out] ⊆ F) (kp : Kept F s0 s) : KeptR F s0 (execHostCompletionSend id back s) := by
  unfold execHostCompletionSend
  with_reducible repeat' first
    | assumption | exact Part.le hF | intro x (_ : Kept F s0 x) | apply KeptR.actIf | apply State.sendCpl_kept
    | apply KeptR.next | split

theorem State.adminCpl_kept {ctrl cid sct sc : Nat} {result : List Byte} (hF : [.out] ⊆ F) (kp : Kept F s0 s) : Kept F s0
    (State.adminCpl s ctrl cid sct sc result) := by
  unfold State.adminCpl
  with_reducible repeat' first
    | assumption | exact Part.le hF | apply State.emit_kept

theorem State.setCtrl_kept {n : Nat} {c : Ctrl} (hF : [.hq] ⊆ F) (kp : Kept F s0 s) : Kept F s0 (State.setCtrl s n c) := by
  unfold State.setCtrl
  with_reducible repeat' first
    | assumption | exact Part.le hF | apply State.setHq_kept

theorem onCtrl_kept {ctrl : Nat} {f : State → Ctrl → State} (kp : Kept F s0 s) (hf : ∀ (x : State) (a1 : Ctrl), Kept F s0 x →
    Kept F s0 (f x a1)) : KeptR F s0 (onCtrl ctrl s f) := by
  unfold onCtrl
  with_reducible repeat' first
    | assumption | intro x (_ : Kept F s0 x) | apply hf | apply KeptR.act | apply KeptR.next | split

theorem execAbortCommand_kept {ctrl cid : Nat} (hF : [.regs, .out] ⊆ F) (kp : Kept F s0 s) : KeptR F s0 (execAbortCommand ctrl
    cid s) := by
  unfold execAbortCommand
  with_reducible repeat' first
    | assumption | exact Part.le hF | intro x a (_ : Kept F s0 x) | apply State.adminCpl_kept | apply State.count_kept
    | apply onCtrl_kept

theorem execNvmeofConnect_kept {ctrl qid cid size conn host kato : Nat} {discovery noFlow notices : Bool} (hF : [.regs, .hq,
    .out] ⊆ F) (kp : Kept F s0 s) : KeptR F s0 (execNvmeofConnect ctrl qid cid size conn host kato discovery noFlow notices s)
    := by
  unfold execNvmeofConnect
  with_reducible repeat' first
    | assumption | exact Part.le hF | intro x (_ : Kept F s0 x) | apply KeptR.act | apply State.emit_kept
    | apply State.setCtrl_kept | apply State.setHq_kept | apply State.showConn_kept | apply Kept.ite | split

theorem execDisconnect_kept {ctrl qid cid : Nat} (hF : [.regs, .cells, .lines, .locket, .wake, .hq, .pair, .out] ⊆ F) (kp : Kept
    F s0 s) : KeptR F s0 (execDisconnect ctrl qid cid s) := by
  unfold execDisconnect
  with_reducible repeat' first
    | assumption | exact Part.le hF | intro x (_ : Kept F s0 x) | apply KeptR.actIf | apply State.queueReset_kept
    | apply State.setCmd_kept | apply State.setHq_kept

theorem execSetQueueAttributes_kept {ctrl cid cdw11 : Nat} (hF : [.hq, .out] ⊆ F) (kp : Kept F s0 s) : KeptR F s0
    (execSetQueueAttributes ctrl cid cdw11 s) := by
  unfold execSetQueueAttributes
  with_reducible repeat' first
    | assumption | exact Part.le hF | intro x a (_ : Kept F s0 x) | apply State.adminCpl_kept | apply State.setCtrl_kept
    | apply onCtrl_kept | apply Kept.ite

theorem execArbitrationFeature_kept {ctrl cid cdw11 : Nat} (hF : [.hq, .out] ⊆ F) (kp : Kept F s0 s) : KeptR F s0
    (execArbitrationFeature ctrl cid cdw11 s) := by
  unfold execArbitrationFeature
  with_reducible repeat' first
    | assumption | exact Part.le hF | intro x a (_ : Kept F s0 x) | apply State.adminCpl_kept | apply State.setCtrl_kept
    | apply onCtrl_kept

theorem execControllerEnable_kept {ctrl cc : Nat} (hF : [.hq] ⊆ F) (kp : Kept F s0 s) : KeptR F s0 (execControllerEnable ctrl cc
    s) := by
  unfold execControllerEnable
  with_reducible repeat' first
    | assumption | exact Part.le hF | intro x a (_ : Kept F s0 x) | apply State.setCtrl_kept | apply onCtrl_kept
    | apply Kept.ite

theorem execControllerReset_kept {ctrl : Nat} (hF : [.regs, .cells, .lines, .locket, .wake, .hq, .pair, .out] ⊆ F) (kp : Kept F
    s0 s) : KeptR F s0 (execControllerReset ctrl s) := by
  unfold execControllerReset
  with_reducible repeat' first
    | assumption | exact Part.le hF | intro x a (_ : Kept F s0 x) | apply State.resetController_kept
    | apply State.setCtrl_kept | apply onCtrl_kept | apply Kept.ite

theorem execKeepAlive_kept {ctrl cid : Nat} (hF : [.hq, .out] ⊆ F) (kp : Kept F s0 s) : KeptR F s0 (execKeepAlive ctrl cid s) :=
    by
  unfold execKeepAlive
  with_reducible repeat' first
    | assumption | exact Part.le hF | intro x a (_ : Kept F s0 x) | apply State.adminCpl_kept | apply State.setCtrl_kept
    | apply onCtrl_kept

theorem State.dropCtrl_kept {ctrl : Nat} (hF : [.regs, .hq] ⊆ F) (kp : Kept F s0 s) : Kept F s0 (State.dropCtrl s ctrl) := by
  unfold State.dropCtrl
  with_reducible repeat' first
    | assumption | exact Part.le hF | apply State.setHq_kept | apply State.showConn_kept

theorem execKeepAliveExpiry_kept {ctrl : Nat} (hF : [.regs, .cells, .lines, .locket, .wake, .hq, .pair, .out] ⊆ F) (kp : Kept F
    s0 s) : KeptR F s0 (execKeepAliveExpiry ctrl s) := by
  unfold execKeepAliveExpiry
  with_reducible repeat' first
    | assumption | exact Part.le hF | intro x (_ : Kept F s0 x) | apply KeptR.actIf | apply State.dropCtrl_kept
    | apply State.resetController_kept | apply KeptR.next | split

theorem execTransportConnectionLoss_kept {conn : Nat} (hF : [.regs, .cells, .lines, .locket, .wake, .hq, .pair, .out] ⊆ F) (kp :
    Kept F s0 s) : KeptR F s0 (execTransportConnectionLoss conn s) := by
  unfold execTransportConnectionLoss
  with_reducible repeat' first
    | assumption | exact Part.le hF | intro x (_ : Kept F s0 x) | intro x a (_ : Kept F s0 x) | apply KeptR.act
    | apply State.connLost_kept | apply State.dropCtrl_kept | apply State.resetController_kept | apply Kept.foldl

theorem execHostqQreset_kept {master value : Nat} (hF : [.regs, .wos, .lockWins, .cells, .lines, .locket, .wake, .hq, .pair,
    .out] ⊆ F) (kp : Kept F s0 s) : KeptR F s0 (execHostqQreset master value s) := by
  unfold execHostqQreset
  with_reducible repeat' first
    | assumption | exact Part.le hF | intro x (_ : Kept F s0 x) | intro x a (_ : Kept F s0 x) | apply KeptR.act
    | apply State.queueReset_kept | apply State.regCmd_kept | apply State.wf_kept | apply Kept.ite

theorem execHostqAnaStateWrite_kept {master value : Nat} (hF : [.regs, .wos, .lockWins, .cells, .lines, .locket, .wake, .out] ⊆
    F) (kp : Kept F s0 s) : KeptR F s0 (execHostqAnaStateWrite master value s) := by
  unfold execHostqAnaStateWrite
  with_reducible repeat' first
    | assumption | exact Part.le hF | intro x (_ : Kept F s0 x) | intro x a (_ : Kept F s0 x) | apply KeptR.act
    | apply State.regCmd_kept | apply State.setAna_kept | apply State.wrN_kept

theorem execSetPowerState_kept {ctrl : Nat} {cid : Option Nat} {ps : Nat} (hF : [.regs, .cells, .lines, .locket, .wake, .power,
    .bd, .hq, .out] ⊆ F) (kp : Kept F s0 s) : KeptR F s0 (execSetPowerState ctrl cid ps s) := by
  unfold execSetPowerState
  with_reducible repeat' first
    | assumption | exact Part.le hF | intro x a (_ : Kept F s0 x) | apply State.adminCpl_kept | apply State.setCtrl_kept
    | apply State.wakeP0_kept | apply onCtrl_kept | simp only [Kept.lit_iff] | split | rfl

theorem execAnaLogPage_kept {ctrl cid : Nat} (hF : [.out] ⊆ F) (kp : Kept F s0 s) : KeptR F s0 (execAnaLogPage ctrl cid s) := by
  unfold execAnaLogPage
  with_reducible repeat' first
    | assumption | exact Part.le hF | intro x a (_ : Kept F s0 x) | apply State.adminCpl_kept | apply onCtrl_kept

theorem execNamespaceCreate_kept {ctrl cid blocks group domain : Nat} {kv : Bool} {pi : Nat} {meta8 : Bool} (hF : [.map, .out] ⊆
    F) (kp : Kept F s0 s) : KeptR F s0 (execNamespaceCreate ctrl cid blocks group domain kv pi meta8 s) := by
  unfold execNamespaceCreate
  with_reducible repeat' first
    | assumption | exact Part.le hF | intro x a (_ : Kept F s0 x) | apply State.adminCpl_kept | apply State.newMapPage_kept
    | apply State.setNs_kept | apply onCtrl_kept | apply Kept.ite | apply Kept.ite_fst

theorem State.addLevels_kept {n k : Nat} {t : Option Nat} (hF : [.map] ⊆ F) (kp : Kept F s0 s) : Kept F s0 (s.addLevels n k t).1 := by
  induction k generalizing s t with
  | zero => exact kp
  | succ k ih => exact ih (State.newMapPage_kept (Part.le hF) kp)

theorem execNamespaceResize_kept {ctrl cid n blocks : Nat} (hF : [.map, .out] ⊆ F) (kp : Kept F s0 s) : KeptR F s0
    (execNamespaceResize ctrl cid n blocks s) := by
  unfold execNamespaceResize
  with_reducible repeat' first
    | assumption | exact Part.le hF | intro x a (_ : Kept F s0 x) | apply State.addLevels_kept | apply State.adminCpl_kept
    | apply State.modNs_kept | apply onCtrl_kept | split

/-! ### HostCmds -/

theorem cmdAct_kept {id : Nat} {kv : Bool} {ops : List Nat} {f : State → Cmd → Ns → State} (kp : Kept F s0 s) (hf : ∀ (x :
    State) (a1 : Cmd) (a2 : Ns), Kept F s0 x → Kept F s0 (f x a1 a2)) : KeptR F s0 (cmdAct id kv ops s f) := by
  unfold cmdAct
  with_reducible repeat' first
    | assumption | intro x (_ : Kept F s0 x) | apply hf | apply KeptR.actIf | apply KeptR.next | split

theorem State.settleGot_kept {g : Got} (hF : [.regs, .cells, .lines, .locket, .wake, .map] ⊆ F) (kp : Kept F s0 s) : Kept F s0
    (State.settleGot s g) := by
  unfold State.settleGot
  with_reducible repeat' first
    | assumption | exact Part.le hF | apply State.countSat_kept | apply State.loseChunks_kept | apply State.queueGc_kept
    | apply Kept.ite

theorem State.chunksOf_kept {got : List Got} {ids : List Nat} (hF : [.regs, .cells, .lines, .locket, .wake, .map] ⊆ F) (kp :
    Kept F s0 s) : Kept F s0 (State.chunksOf s got ids).1 := by
  unfold State.chunksOf
  with_reducible repeat' first
    | assumption | exact Part.le hF | apply State.settleGot_kept | apply Kept.ite_fst | apply Kept.foldl
    | intro x (_ : Kept F s0 x) | intro x a (_ : Kept F s0 x) | intro x a b c (_ : Kept F s0 x)

theorem State.readBlocks_kept {n : Nat} {x : Ns} {lba count : Nat} {got : List Got} (hF : [.regs, .cells, .lines, .locket,
    .wake, .map] ⊆ F) (kp : Kept F s0 s) : Kept F s0 (State.readBlocks s n x lba count got).1 := by
  unfold State.readBlocks
  with_reducible repeat' first
    | assumption | exact Part.le hF | intro y a (_ : Kept F s0 y.1) | apply State.chunksOf_kept | apply State.lookupGrain_kept
    | simp only [Kept.lit_iff] | apply Kept.foldl_fst | split | rfl

theorem execNvmRead_kept {id : Nat} {got : List Got} (hF : [.regs, .cells, .lines, .locket, .wake, .hq, .map] ⊆ F) (kp : Kept F
    s0 s) : KeptR F s0 (execNvmRead id got s) := by
  unfold execNvmRead
  with_reducible repeat' first
    | assumption | exact Part.le hF | intro x a b (_ : Kept F s0 x) | apply State.done_kept | apply State.readBlocks_kept
    | apply cmdAct_kept | simp only [Kept.lit_iff] | split | rfl

theorem execCompare_kept {id : Nat} {got : List Got} {data : List Byte} (hF : [.regs, .cells, .lines, .locket, .wake, .hq, .map]
    ⊆ F) (kp : Kept F s0 s) : KeptR F s0 (execCompare id got data s) := by
  unfold execCompare
  with_reducible repeat' first
    | assumption | exact Part.le hF | intro x a b (_ : Kept F s0 x) | apply State.done_kept | apply State.readBlocks_kept
    | apply cmdAct_kept | simp only [Kept.lit_iff] | split | rfl

theorem State.written_kept {id jseq : Nat} (hF : [.hq] ⊆ F) (kp : Kept F s0 s) : Kept F s0 (State.written s id jseq) := by
  unfold State.written
  with_reducible repeat' first
    | assumption | exact Part.le hF | apply State.setHq_kept

theorem State.putRecs_kept {id : Nat} {c : Cmd} {rs : List JRec} (hF : [.regs, .cells, .lines, .locket, .wake, .hq, .pair, .out]
    ⊆ F) (kp : Kept F s0 s) : Kept F s0 (State.putRecs s id c rs) := by
  unfold State.putRecs
  with_reducible repeat' first
    | assumption | exact Part.le hF | intro y a (_ : Kept F s0 y.1) | apply State.failCmd_kept | apply State.putRec_kept
    | apply State.takeSeq_kept | apply State.written_kept | apply Kept.foldl_fst | split

theorem execNvmWrite_kept {id : Nat} {data : List Byte} {bad : Option (Nat × Nat)} (hF : [.regs, .cells, .lines, .locket, .wake,
    .hq, .pair, .out] ⊆ F) (kp : Kept F s0 s) : KeptR F s0 (execNvmWrite id data bad s) := by
  unfold execNvmWrite
  with_reducible repeat' first
    | assumption | exact Part.le hF | intro x a b (_ : Kept F s0 x) | apply State.failCmd_kept | apply State.putRecs_kept
    | apply cmdAct_kept | split

theorem execFlush_kept {id : Nat} (hF : [.hq] ⊆ F) (kp : Kept F s0 s) : KeptR F s0 (execFlush id s) := by
  unfold execFlush
  with_reducible repeat' first
    | assumption | exact Part.le hF | intro x (_ : Kept F s0 x) | apply KeptR.actIf | apply State.done_kept | apply KeptR.next
    | split

theorem execWriteZeroes_kept {id : Nat} (hF : [.regs, .cells, .lines, .locket, .wake, .hq, .pair, .out] ⊆ F) (kp : Kept F s0 s)
    : KeptR F s0 (execWriteZeroes id s) := by
  unfold execWriteZeroes
  with_reducible repeat' first
    | assumption | exact Part.le hF | intro x a b (_ : Kept F s0 x) | apply State.failCmd_kept | apply State.putRecs_kept
    | apply cmdAct_kept | split

theorem execDatasetManagement_kept {id : Nat} {data : List Byte} (hF : [.regs, .cells, .lines, .locket, .wake, .hq, .pair, .out]
    ⊆ F) (kp : Kept F s0 s) : KeptR F s0 (execDatasetManagement id data s) := by
  unfold execDatasetManagement
  with_reducible repeat' first
    | assumption | exact Part.le hF | intro x a b (_ : Kept F s0 x) | apply State.failCmd_kept | apply State.putRecs_kept
    | apply cmdAct_kept | apply Kept.ite

theorem State.readRanges_kept {n : Nat} {x : Ns} {got : List Got} {rs : List (Nat × Nat)} (hF : [.regs, .cells, .lines, .locket,
    .wake, .map] ⊆ F) (kp : Kept F s0 s) : Kept F s0 (State.readRanges s n x got rs).1 := by
  unfold State.readRanges
  with_reducible repeat' first
    | assumption | exact Part.le hF | intro y a (_ : Kept F s0 y.1) | apply State.readBlocks_kept | simp only [Kept.lit_iff]
    | apply Kept.foldl_fst | split | rfl

theorem execCopy_kept {id : Nat} {got : List Got} {data : List Byte} (hF : [.regs, .cells, .lines, .locket, .wake, .hq, .pair,
    .map, .out] ⊆ F) (kp : Kept F s0 s) : KeptR F s0 (execCopy id got data s) := by
  unfold execCopy
  with_reducible repeat' first
    | assumption | exact Part.le hF | intro x a b (_ : Kept F s0 x) | apply State.failCmd_kept | apply State.putRecs_kept
    | apply State.readRanges_kept | apply cmdAct_kept | simp only [Kept.lit_iff] | split | rfl

theorem execCompareAndWrite_kept {id : Nat} {got : List Got} {cmp data : List Byte} (hF : [.regs, .cells, .lines, .locket,
    .wake, .hq, .pair, .map, .out] ⊆ F) (kp : Kept F s0 s) : KeptR F s0 (execCompareAndWrite id got cmp data s) := by
  unfold execCompareAndWrite
  with_reducible repeat' first
    | assumption | exact Part.le hF | intro x (_ : Kept F s0 x) | apply KeptR.actIf | apply State.done_kept
    | apply State.failCmd_kept | apply State.putRecs_kept | apply State.readBlocks_kept | simp only [Kept.lit_iff]
    | apply KeptR.next | split | rfl

theorem execUnsupportedNvmCommand_kept {id : Nat} (hF : [.regs, .cells, .lines, .locket, .wake, .hq, .pair, .out] ⊆ F) (kp :
    Kept F s0 s) : KeptR F s0 (execUnsupportedNvmCommand id s) := by
  unfold execUnsupportedNvmCommand
  with_reducible repeat' first
    | assumption | exact Part.le hF | intro x (_ : Kept F s0 x) | apply KeptR.actIf | apply State.failCmd_kept
    | apply KeptR.next | split

theorem State.setResv_kept {n : Nat} {r : Resv} (hF : [.hq] ⊆ F) (kp : Kept F s0 s) : Kept F s0 (State.setResv s n r) := by
  unfold State.setResv
  with_reducible repeat' first
    | assumption | exact Part.le hF | apply State.setHq_kept

theorem execReservationRegister_kept {id : Nat} {data : List Byte} (hF : [.hq] ⊆ F) (kp : Kept F s0 s) : KeptR F s0
    (execReservationRegister id data s) := by
  unfold execReservationRegister
  with_reducible repeat' first
    | assumption | exact Part.le hF | intro x a b (_ : Kept F s0 x) | apply State.done_kept | apply State.setResv_kept
    | apply cmdAct_kept | apply Kept.ite

theorem execReservationReport_kept {id : Nat} (hF : [.hq] ⊆ F) (kp : Kept F s0 s) : KeptR F s0 (execReservationReport id s) :=
    by
  unfold execReservationReport
  with_reducible repeat' first
    | assumption | exact Part.le hF | intro x a b (_ : Kept F s0 x) | apply State.done_kept | apply cmdAct_kept

theorem execReservationAcquire_kept {id : Nat} {data : List Byte} (hF : [.hq] ⊆ F) (kp : Kept F s0 s) : KeptR F s0
    (execReservationAcquire id data s) := by
  unfold execReservationAcquire
  with_reducible repeat' first
    | assumption | exact Part.le hF | intro x a b (_ : Kept F s0 x) | apply State.done_kept | apply State.setResv_kept
    | apply cmdAct_kept | apply Kept.ite

theorem execReservationRelease_kept {id : Nat} {data : List Byte} (hF : [.hq] ⊆ F) (kp : Kept F s0 s) : KeptR F s0
    (execReservationRelease id data s) := by
  unfold execReservationRelease
  with_reducible repeat' first
    | assumption | exact Part.le hF | intro x a b (_ : Kept F s0 x) | apply State.done_kept | apply State.setResv_kept
    | apply cmdAct_kept | apply Kept.ite

theorem execKvStore_kept {id : Nat} {data : List Byte} {bad : Option (Nat × Nat)} (hF : [.regs, .cells, .lines, .locket, .wake,
    .hq, .pair, .out] ⊆ F) (kp : Kept F s0 s) : KeptR F s0 (execKvStore id data bad s) := by
  unfold execKvStore
  with_reducible repeat' first
    | assumption | exact Part.le hF | intro x a b (_ : Kept F s0 x) | apply State.failCmd_kept | apply State.putRecs_kept
    | apply cmdAct_kept | apply Kept.ite | split

theorem execKvRetrieve_kept {id : Nat} {got : List Got} (hF : [.regs, .cells, .lines, .locket, .wake, .hq, .map] ⊆ F) (kp : Kept
    F s0 s) : KeptR F s0 (execKvRetrieve id got s) := by
  unfold execKvRetrieve
  with_reducible repeat' first
    | assumption | exact Part.le hF | intro x a b (_ : Kept F s0 x) | apply State.chunksOf_kept | apply State.done_kept
    | apply cmdAct_kept | simp only [Kept.lit_iff] | split | rfl

theorem execKvDelete_kept {id : Nat} (hF : [.regs, .cells, .lines, .locket, .wake, .hq, .pair, .out] ⊆ F) (kp : Kept F s0 s) :
    KeptR F s0 (execKvDelete id s) := by
  unfold execKvDelete
  with_reducible repeat' first
    | assumption | exact Part.le hF | intro x a b (_ : Kept F s0 x) | apply State.failCmd_kept | apply State.putRecs_kept
    | apply cmdAct_kept | apply Kept.ite

theorem execKvExist_kept {id : Nat} (hF : [.hq] ⊆ F) (kp : Kept F s0 s) : KeptR F s0 (execKvExist id s) := by
  unfold execKvExist
  with_reducible repeat' first
    | assumption | exact Part.le hF | intro x a b (_ : Kept F s0 x) | apply State.done_kept | apply cmdAct_kept
    | apply Kept.ite

theorem execKvList_kept {id : Nat} (hF : [.hq] ⊆ F) (kp : Kept F s0 s) : KeptR F s0 (execKvList id s) := by
  unfold execKvList
  with_reducible repeat' first
    | assumption | exact Part.le hF | intro x a b (_ : Kept F s0 x) | apply State.done_kept | apply cmdAct_kept

/-! ### Pleat -/

theorem State.showPleat_kept (hF : [.regs] ⊆ F) (kp : Kept F s0 s) : Kept F s0 (State.showPleat s) := by
  unfold State.showPleat
  with_reducible repeat' first
    | assumption | exact Part.le hF | apply State.wrN_kept

theorem State.setPleat_kept {n : Nat} {c : Option PleatCtx} (hF : [.regs, .pleat] ⊆ F) (kp : Kept F s0 s) : Kept F s0
    (State.setPleat s n c) := by
  unfold State.setPleat
  with_reducible repeat' first
    | assumption | exact Part.le hF | apply State.showPleat_kept | simp only [Kept.lit_iff] | apply Kept.upd_pleat | rfl

theorem State.pleatBytes_kept {used made : Nat} (hF : [.regs] ⊆ F) (kp : Kept F s0 s) : Kept F s0 (State.pleatBytes s used made)
    := by
  unfold State.pleatBytes
  with_reducible repeat' first
    | assumption | exact Part.le hF | apply State.count64_kept

theorem State.giveOut_kept {j : Job} {c : PleatCtx} {used : Nat} (hF : [.regs, .accWin, .cells, .lines, .store, .locket, .wake,
    .pleat, .out, .fresh] ⊆ F) (kp : Kept F s0 s) : Kept F s0 (State.giveOut s j c used).1 := by
  unfold State.giveOut
  with_reducible repeat' first
    | assumption | exact Part.le hF | apply State.areas_kept | apply State.count_kept | apply State.pleatBytes_kept
    | apply State.setPleat_kept | apply State.writeAreas_kept | simp only [Kept.lit_iff] | split | rfl

theorem State.pleatIn_kept {j : Job} (hF : [.regs, .accWin, .cells, .lines, .store, .locket, .wake, .fresh] ⊆ F) (kp : Kept F s0
    s) : Kept F s0 (State.pleatIn s j).1 := by
  unfold State.pleatIn
  with_reducible repeat' first
    | assumption | exact Part.le hF | apply State.areas_kept | apply State.readAreas_kept | simp only [Kept.lit_iff] | split
    | rfl

theorem State.pleatLists_kept {j : Job} (hF : [.regs, .accWin, .cells, .lines, .store, .locket, .wake, .fresh] ⊆ F) (kp : Kept F
    s0 s) : Kept F s0 (State.pleatLists s j).1 := by
  unfold State.pleatLists
  with_reducible repeat' first
    | assumption | exact Part.le hF | apply State.areas_kept | simp only [Kept.lit_iff] | split | rfl

theorem execPleat_kept {job : Nat} {out : List Byte} (hF : [.regs, .accWin, .cells, .lines, .store, .eng, .locket, .wake,
    .pleat, .out, .fresh] ⊆ F) (kp : Kept F s0 s) : KeptR F s0 (execPleat job out s) := by
  unfold execPleat
  with_reducible repeat' first
    | assumption | exact Part.le hF | intro x a (_ : Kept F s0 x) | apply State.giveOut_kept | apply State.pleatIn_kept
    | apply State.pleatLists_kept | apply State.setPleat_kept | apply jobActM_kept | simp only [Kept.lit_iff] | split
    | refine Kept.of_pair ?_ ‹_ = (_, _)› | rfl

theorem State.crcFail_kept {j : Job} {stored crc detail : Nat} (hF : [.regs, .cells, .lines, .locket, .wake] ⊆ F) (kp : Kept F
    s0 s) : Kept F s0 (State.crcFail s j stored crc detail) := by
  unfold State.crcFail
  with_reducible repeat' first
    | assumption | exact Part.le hF | apply State.countSat_kept | apply State.irq_kept | apply State.logI_kept

theorem State.unpleatMedia_kept {j : Job} {inp : List Byte} (hF : [.regs, .accWin, .cells, .lines, .store, .locket, .wake,
    .pleat, .out, .fresh] ⊆ F) (kp : Kept F s0 s) : Kept F s0 (State.unpleatMedia s j inp).1 := by
  unfold State.unpleatMedia
  with_reducible repeat' first
    | assumption | exact Part.le hF | apply State.crcFail_kept | apply State.giveOut_kept | simp only [Kept.lit_iff] | split
    | rfl

theorem State.unpleatZ_kept {j : Job} {inp : List Byte} (hF : [.regs, .accWin, .cells, .lines, .store, .locket, .wake, .pleat,
    .out, .fresh] ⊆ F) (kp : Kept F s0 s) : Kept F s0 (State.unpleatZ s j inp).1 := by
  unfold State.unpleatZ
  with_reducible repeat' first
    | assumption | exact Part.le hF | apply State.giveOut_kept | apply Kept.ite_fst

theorem execUnpleat_kept {job : Nat} (hF : [.regs, .accWin, .cells, .lines, .store, .eng, .locket, .wake, .pleat, .out, .fresh]
    ⊆ F) (kp : Kept F s0 s) : KeptR F s0 (execUnpleat job s) := by
  unfold execUnpleat
  with_reducible repeat' first
    | assumption | exact Part.le hF | intro x a (_ : Kept F s0 x) | apply State.giveOut_kept | apply State.pleatIn_kept
    | apply State.pleatLists_kept | apply State.setPleat_kept | apply State.unpleatMedia_kept | apply State.unpleatZ_kept
    | apply jobAct_kept | split | refine Kept.of_pair ?_ ‹_ = (_, _)›

theorem execPleatCtxExpiry_kept {ctx : Nat} (hF : [.regs, .cells, .lines, .locket, .wake, .pleat] ⊆ F) (kp : Kept F s0 s) :
    KeptR F s0 (execPleatCtxExpiry ctx s) := by
  unfold execPleatCtxExpiry
  with_reducible repeat' first
    | assumption | exact Part.le hF | intro x (_ : Kept F s0 x) | apply KeptR.actIf | apply State.countSat_kept
    | apply State.irq_kept | apply State.log_kept | apply State.setPleat_kept | apply KeptR.next | split

/-! ### Snap -/

theorem State.snapCode_kept {c pair : Nat} (hF : [.regs, .wake] ⊆ F) (kp : Kept F s0 s) : Kept F s0 (State.snapCode s c pair) :=
    by
  unfold State.snapCode
  with_reducible repeat' first
    | assumption | exact Part.le hF | apply State.irq_kept | apply State.wrN_kept

theorem snapCmd_kept {master value c : Nat} {f : State → State} (hF : [.regs, .wos, .lockWins, .cells, .lines, .locket, .wake] ⊆
    F) (kp : Kept F s0 s) (hf : ∀ (x : State), Kept F s0 x → Kept F s0 (f x)) : KeptR F s0 (snapCmd master value c s f) := by
  unfold snapCmd
  with_reducible repeat' first
    | assumption | exact Part.le hF | intro x (_ : Kept F s0 x) | intro x a (_ : Kept F s0 x) | apply hf | apply KeptR.actIf
    | apply State.regCmd_kept | apply State.snapCode_kept | apply State.wf_kept | apply Kept.ite

theorem State.addSnaps_kept {g : List Nat} {j : Nat} {epoch : Option Nat} (hF : [.map] ⊆ F) (kp : Kept F s0 s) : Kept F s0
    (State.addSnaps s g j epoch) := by
  unfold State.addSnaps
  with_reducible repeat' first
    | assumption | exact Part.le hF | intro x a (_ : Kept F s0 x) | apply State.modNs_kept | apply Kept.foldl

theorem execSnapCreate_kept {master value : Nat} (hF : [.regs, .wos, .lockWins, .accWin, .cells, .lines, .store, .locket, .wake,
    .hq, .pair, .map, .out, .fresh] ⊆ F) (kp : Kept F s0 s) : KeptR F s0 (execSnapCreate master value s) := by
  unfold execSnapCreate
  with_reducible repeat' first
    | assumption | exact Part.le hF | intro x (_ : Kept F s0 x) | apply State.addSnaps_kept | apply State.putRec_kept
    | apply State.readBytes_kept | apply State.snapCode_kept | apply State.takeSeq_kept | apply State.wrN_kept
    | apply snapCmd_kept | simp only [Kept.lit_iff] | split | rfl

theorem State.freezeNs_kept {j n : Nat} {x : Ns} (hF : [.regs, .cells, .lines, .locket, .wake, .map] ⊆ F) (kp : Kept F s0 s) :
    Kept F s0 (State.freezeNs s j n x) := by
  unfold State.freezeNs
  with_reducible repeat' first
    | assumption | exact Part.le hF | intro x a (_ : Kept F s0 x) | apply State.log_kept | apply State.modNs_kept
    | apply Kept.foldl

theorem execSnapFreeze_kept {j : Nat} (hF : [.regs, .cells, .lines, .locket, .wake, .map] ⊆ F) (kp : Kept F s0 s) : KeptR F s0
    (execSnapFreeze j s) := by
  unfold execSnapFreeze
  with_reducible repeat' first
    | assumption | exact Part.le hF | intro x (_ : Kept F s0 x) | intro x a (_ : Kept F s0 x) | apply KeptR.actIf
    | apply State.freezeNs_kept | apply State.snapCode_kept | apply Kept.ite | apply Kept.foldl

theorem State.setSess_kept {p : Nat} {x : Sess} (hF : [.repl] ⊆ F) (kp : Kept F s0 s) : Kept F s0 (State.setSess s p x) := by
  unfold State.setSess
  with_reducible repeat' first
    | assumption | exact Part.le hF | simp only [Kept.lit_iff] | apply Kept.upd_repl | rfl

theorem State.endDelete_kept {n : Nat} (hF : [.regs, .cells, .lines, .locket, .wake, .map] ⊆ F) (kp : Kept F s0 s) : Kept F s0
    (State.endDelete s n) := by
  unfold State.endDelete
  with_reducible repeat' first
    | assumption | exact Part.le hF | intro x a (_ : Kept F s0 x) | apply State.log_kept | apply State.modNs_kept
    | apply Kept.foldl | split

theorem State.modSnap_kept {n epoch : Nat} {f : Snap → Snap} (hF : [.map] ⊆ F) (kp : Kept F s0 s) : Kept F s0 (State.modSnap s n
    epoch f) := by
  unfold State.modSnap
  with_reducible repeat' first
    | assumption | exact Part.le hF | apply State.modNs_kept

theorem execSnapDelete_kept {master value : Nat} (hF : [.regs, .wos, .lockWins, .cells, .lines, .locket, .wake, .map] ⊆ F) (kp :
    Kept F s0 s) : KeptR F s0 (execSnapDelete master value s) := by
  unfold execSnapDelete
  with_reducible repeat' first
    | assumption | exact Part.le hF | intro x (_ : Kept F s0 x) | apply State.endDelete_kept | apply State.modSnap_kept
    | apply State.snapCode_kept | apply snapCmd_kept | split

theorem execDeadListEntry_kept {n epoch : Nat} (hF : [.regs, .cells, .lines, .locket, .wake, .dedup, .map, .out] ⊆ F) (kp : Kept
    F s0 s) : KeptR F s0 (execDeadListEntry n epoch s) := by
  unfold execDeadListEntry
  with_reducible repeat' first
    | assumption | exact Part.le hF | intro x (_ : Kept F s0 x) | apply KeptR.act | apply State.delMapPage_kept
    | apply State.endDelete_kept | apply State.modSnap_kept | apply State.release_kept | apply KeptR.next | split

theorem execSnapAttach_kept {master value : Nat} (hF : [.regs, .wos, .lockWins, .cells, .lines, .locket, .wake, .map] ⊆ F) (kp :
    Kept F s0 s) : KeptR F s0 (execSnapAttach master value s) := by
  unfold execSnapAttach
  with_reducible repeat' first
    | assumption | exact Part.le hF | intro x (_ : Kept F s0 x) | apply State.modSnap_kept | apply State.setNs_kept
    | apply State.snapCode_kept | apply snapCmd_kept | split

theorem execSnapDetach_kept {master value : Nat} (hF : [.regs, .wos, .lockWins, .cells, .lines, .locket, .wake, .map] ⊆ F) (kp :
    Kept F s0 s) : KeptR F s0 (execSnapDetach master value s) := by
  unfold execSnapDetach
  with_reducible repeat' first
    | assumption | exact Part.le hF | intro x (_ : Kept F s0 x) | apply State.modSnap_kept | apply State.setMap_kept
    | apply State.snapCode_kept | apply snapCmd_kept | split

/-! ### Repl -/

theorem State.sendRepl_kept {p ty cursor : Nat} {body : List Byte} (hF : [.repl, .out] ⊆ F) (kp : Kept F s0 s) : Kept F s0
    (State.sendRepl s p ty cursor body) := by
  unfold State.sendRepl
  with_reducible repeat' first
    | assumption | exact Part.le hF | apply State.emit_kept | apply State.setSess_kept

theorem State.setPairSt_kept {p st : Nat} (hF : [.regs, .wake] ⊆ F) (kp : Kept F s0 s) : Kept F s0 (State.setPairSt s p st) :=
    by
  unfold State.setPairSt
  with_reducible repeat' first
    | assumption | exact Part.le hF | apply State.irq_kept | apply State.wf_kept

theorem State.setCursor_kept {p n : Nat} (hF : [.regs] ⊆ F) (kp : Kept F s0 s) : Kept F s0 (State.setCursor s p n) := by
  unfold State.setCursor
  with_reducible repeat' first
    | assumption | exact Part.le hF | apply State.wr64_kept

theorem State.failSess_kept {p code : Nat} (hF : [.regs, .cells, .lines, .locket, .wake, .repl] ⊆ F) (kp : Kept F s0 s) : Kept F
    s0 (State.failSess s p code) := by
  unfold State.failSess
  with_reducible repeat' first
    | assumption | exact Part.le hF | apply State.irq_kept | apply State.log_kept | apply State.setPairSt_kept
    | apply State.setSess_kept | apply State.wf_kept

theorem State.sendOpen_kept {p cursor base epoch : Nat} (hF : [.repl, .out] ⊆ F) (kp : Kept F s0 s) : Kept F s0 (State.sendOpen
    s p cursor base epoch) := by
  unfold State.sendOpen
  with_reducible repeat' first
    | assumption | exact Part.le hF | apply State.sendRepl_kept

theorem State.advance_kept {fps : SMap (List Byte)} {p n : Nat} (hF : [.regs, .cells, .lines, .locket, .wake, .repl, .out] ⊆ F) (kp : Kept F s0 s) :
    Kept F s0 (State.advance fps p n s) := by
  induction n generalizing s with
  | zero => exact kp
  | succ n ih =>
    unfold State.advance
    extract_lets y z
    split
    · exact State.failSess_kept (Part.le hF) kp
    · extract_lets l kind data t batch t2 pos sent src t3 t4
      split
      · exact State.sendRepl_kept (Part.le hF) kp
      · have h : Kept F s0 t := Kept.foldl kp fun x a hx => State.sendRepl_kept (Part.le hF) hx
        have h2 : Kept F s0 t2 := Kept.ite h (State.sendRepl_kept (Part.le hF) h)
        have h4 : Kept F s0 t4 := Kept.ite (State.sendRepl_kept (Part.le hF) (State.setSess_kept (Part.le hF) h2)) (State.setSess_kept (Part.le hF) h2)
        split
        · exact ih h4
        · exact h4

theorem execSessionStart_kept {master value : Nat} (hF : [.regs, .wos, .lockWins, .cells, .lines, .locket, .wake, .repl, .out] ⊆
    F) (kp : Kept F s0 s) : KeptR F s0 (execSessionStart master value s) := by
  unfold execSessionStart
  with_reducible repeat' first
    | assumption | exact Part.le hF | intro x (_ : Kept F s0 x) | apply State.sendOpen_kept | apply State.setCursor_kept
    | apply State.setPairSt_kept | apply State.setSess_kept | apply State.snapCode_kept | apply State.wrN_kept
    | apply snapCmd_kept | apply Kept.ite | split

theorem execSessionStop_kept {master value : Nat} (hF : [.regs, .wos, .lockWins, .cells, .lines, .locket, .wake, .repl] ⊆ F) (kp
    : Kept F s0 s) : KeptR F s0 (execSessionStop master value s) := by
  unfold execSessionStop
  with_reducible repeat' first
    | assumption | exact Part.le hF | intro x (_ : Kept F s0 x) | apply State.setPairSt_kept | apply State.setSess_kept
    | apply State.snapCode_kept | apply State.wf_kept | apply snapCmd_kept | apply Kept.ite

theorem State.sourceOpen_kept {p base kcv : Nat} {fps : SMap (List Byte)} (hF : [.regs, .cells, .lines, .locket, .wake, .repl,
    .out] ⊆ F) (kp : Kept F s0 s) : Kept F s0 (State.sourceOpen s p base kcv fps) := by
  unfold State.sourceOpen
  with_reducible repeat' first
    | assumption | exact Part.le hF | apply State.advance_kept | apply State.failSess_kept | apply State.log_kept
    | apply State.setCursor_kept | apply State.setPairSt_kept | apply State.setSess_kept | apply Kept.ite

theorem State.targetOpen_kept {p cursor base epoch kcv : Nat} (hF : [.regs, .cells, .lines, .locket, .wake, .repl, .out] ⊆ F)
    (kp : Kept F s0 s) : Kept F s0 (State.targetOpen s p cursor base epoch kcv) := by
  unfold State.targetOpen
  with_reducible repeat' first
    | assumption | exact Part.le hF | apply State.failSess_kept | apply State.sendOpen_kept | apply State.setPairSt_kept
    | apply State.setSess_kept | apply State.wrN_kept | apply Kept.ite | split

theorem execReplOpen_kept {p cursor base epoch kcv : Nat} {fps : SMap (List Byte)} (hF : [.regs, .cells, .lines, .locket, .wake,
    .repl, .out] ⊆ F) (kp : Kept F s0 s) : KeptR F s0 (execReplOpen p cursor base epoch kcv fps s) := by
  unfold execReplOpen
  with_reducible repeat' first
    | assumption | exact Part.le hF | intro x (_ : Kept F s0 x) | apply KeptR.actIf | apply State.sourceOpen_kept
    | apply State.targetOpen_kept | apply Kept.ite

theorem execFpReply_kept {p bitmap : Nat} {frames : List (Nat × List Byte)} {fps : SMap (List Byte)} (hF : [.regs, .cells,
    .lines, .locket, .wake, .repl, .out] ⊆ F) (kp : Kept F s0 s) : KeptR F s0 (execFpReply p bitmap frames fps s) := by
  unfold execFpReply
  with_reducible repeat' first
    | assumption | exact Part.le hF | intro x (_ : Kept F s0 x) | intro x a (_ : Kept F s0 x) | apply KeptR.actIf
    | apply State.advance_kept | apply State.countSat_kept | apply State.sendRepl_kept | apply State.setSess_kept
    | apply Kept.foldl

theorem execCkptAck_kept {p cursor : Nat} (hF : [.regs, .repl] ⊆ F) (kp : Kept F s0 s) : KeptR F s0 (execCkptAck p cursor s) :=
    by
  unfold execCkptAck
  with_reducible repeat' first
    | assumption | exact Part.le hF | intro x (_ : Kept F s0 x) | apply KeptR.actIf | apply State.setCursor_kept
    | simp only [Kept.lit_iff] | apply Kept.upd_repl | rfl

theorem execReplRetry_kept {p : Nat} (hF : [.repl, .out] ⊆ F) (kp : Kept F s0 s) : KeptR F s0 (execReplRetry p s) := by
  unfold execReplRetry
  with_reducible repeat' first
    | assumption | exact Part.le hF | intro x (_ : Kept F s0 x) | apply KeptR.actIf | apply State.sendOpen_kept

theorem State.replicaGrain_kept {n g kind target : Nat} (hF : [.regs, .cells, .lines, .locket, .wake, .hq, .pair, .dedup, .map,
    .out] ⊆ F) (kp : Kept F s0 s) : Kept F s0 (State.replicaGrain s n g kind target) := by
  unfold State.replicaGrain
  with_reducible repeat' first
    | assumption | exact Part.le hF | apply State.applyGrain_kept | apply State.putRec_kept | apply State.takeSeq_kept

theorem State.batchOne_kept {p g : Nat} {fp : List Byte} (hF : [.regs, .cells, .lines, .locket, .wake, .hq, .pair, .dedup, .map,
    .out] ⊆ F) (kp : Kept F s0 s) : Kept F s0 (State.batchOne s p g fp).1 := by
  unfold State.batchOne
  with_reducible repeat' first
    | assumption | exact Part.le hF | apply State.count_kept | apply State.replicaGrain_kept | apply State.takeRef_kept
    | simp only [Kept.lit_iff] | split | rfl

theorem execFpBatch_kept {p : Nat} {entries : List (Nat × List Byte)} (hF : [.regs, .cells, .lines, .locket, .wake, .hq, .pair,
    .dedup, .map, .repl, .out] ⊆ F) (kp : Kept F s0 s) : KeptR F s0 (execFpBatch p entries s) := by
  unfold execFpBatch
  with_reducible repeat' first
    | assumption | exact Part.le hF | intro x (_ : Kept F s0 x) | intro y a (_ : Kept F s0 y.1) | apply KeptR.actIf
    | apply State.batchOne_kept | apply State.countSat_kept | apply State.failSess_kept | apply State.sendRepl_kept
    | apply State.setSess_kept | apply Kept.ite | apply Kept.foldl_fst

theorem execReplData_kept {p g len : Nat} {frame : List Byte} {chunk : Nat} (hF : [.regs, .cells, .lines, .locket, .wake, .hq,
    .pair, .dedup, .map, .repl, .out] ⊆ F) (kp : Kept F s0 s) : KeptR F s0 (execReplData p g len frame chunk s) := by
  unfold execReplData
  with_reducible repeat' first
    | assumption | exact Part.le hF | intro x (_ : Kept F s0 x) | apply KeptR.actIf | apply State.failSess_kept
    | apply State.replicaGrain_kept | apply State.setSess_kept | apply Kept.ite | split

theorem replClear_kept {p first count kind : Nat} (hF : [.regs, .cells, .lines, .locket, .wake, .hq, .pair, .dedup, .map, .repl,
    .out] ⊆ F) (kp : Kept F s0 s) : KeptR F s0 (replClear p first count kind s) := by
  unfold replClear
  with_reducible repeat' first
    | assumption | exact Part.le hF | intro x (_ : Kept F s0 x) | intro x a (_ : Kept F s0 x) | apply KeptR.actIf
    | apply State.failSess_kept | apply State.replicaGrain_kept | apply Kept.ite | apply Kept.foldl

theorem execReplUnmap_kept {p first count : Nat} (hF : [.regs, .cells, .lines, .locket, .wake, .hq, .pair, .dedup, .map, .repl,
    .out] ⊆ F) (kp : Kept F s0 s) : KeptR F s0 (execReplUnmap p first count s) := by
  unfold execReplUnmap
  with_reducible repeat' first
    | assumption | exact Part.le hF | apply replClear_kept

theorem execReplZero_kept {p first count : Nat} (hF : [.regs, .cells, .lines, .locket, .wake, .hq, .pair, .dedup, .map, .repl,
    .out] ⊆ F) (kp : Kept F s0 s) : KeptR F s0 (execReplZero p first count s) := by
  unfold execReplZero
  with_reducible repeat' first
    | assumption | exact Part.le hF | apply replClear_kept

theorem execReplCkpt_kept {p cursor : Nat} (hF : [.regs, .repl, .out] ⊆ F) (kp : Kept F s0 s) : KeptR F s0 (execReplCkpt p
    cursor s) := by
  unfold execReplCkpt
  with_reducible repeat' first
    | assumption | exact Part.le hF | intro x (_ : Kept F s0 x) | apply KeptR.actIf | apply State.sendRepl_kept
    | apply State.setCursor_kept

theorem State.endSess_kept {p epoch : Nat} (hF : [.regs, .cells, .lines, .locket, .wake, .repl] ⊆ F) (kp : Kept F s0 s) : Kept F
    s0 (State.endSess s p epoch) := by
  unfold State.endSess
  with_reducible repeat' first
    | assumption | exact Part.le hF | apply State.log_kept | apply State.setPairSt_kept | apply State.setSess_kept
    | apply State.wf_kept | simp only [Kept.lit_iff] | apply Kept.upd_repl | rfl

theorem execDone_kept {p epoch : Nat} (hF : [.regs, .cells, .lines, .locket, .wake, .hq, .pair, .map, .repl, .out] ⊆ F) (kp :
    Kept F s0 s) : KeptR F s0 (execDone p epoch s) := by
  unfold execDone
  with_reducible repeat' first
    | assumption | exact Part.le hF | intro x (_ : Kept F s0 x) | apply KeptR.actIf | apply State.addSnaps_kept
    | apply State.endSess_kept | apply State.putRec_kept | apply State.sendRepl_kept | apply State.takeSeq_kept
    | apply KeptR.ite

/-! ### Spool -/

theorem State.allocPage_kept {owner p : Nat} (hF : [.store] ⊆ F) (kp : Kept F s0 s) : Kept F s0 (State.allocPage s owner p) :=
    by
  unfold State.allocPage
  with_reducible repeat' first
    | assumption | exact Part.le hF | apply State.setSpage_kept | simp only [Kept.lit_iff] | apply Kept.upd_store | rfl

theorem State.freePage_kept {owner p : Nat} (hF : [.regs, .cells, .lines, .store, .locket, .wake] ⊆ F) (kp : Kept F s0 s) : Kept
    F s0 (State.freePage s owner p).1 := by
  unfold State.freePage
  with_reducible repeat' first
    | assumption | exact Part.le hF | apply State.fieldSat_kept | apply State.irq_kept | apply State.log_kept
    | apply State.setSpage_kept | apply Kept.ite_fst

theorem execSpoolAlloc_kept {job : Nat} {picks : List Nat} (hF : [.regs, .accWin, .cells, .lines, .store, .eng, .locket, .wake,
    .out] ⊆ F) (kp : Kept F s0 s) : KeptR F s0 (execSpoolAlloc job picks s) := by
  unfold execSpoolAlloc
  with_reducible repeat' first
    | assumption | exact Part.le hF | intro x a (_ : Kept F s0 x) | apply State.allocPage_kept | apply State.lowWater_kept
    | apply State.setSpage_kept | apply State.writeBytes_kept | apply jobActM_kept | apply Kept.ite_fst | apply Kept.foldl

theorem execSpoolFree_kept {job : Nat} (hF : [.regs, .accWin, .cells, .lines, .store, .eng, .locket, .wake, .fresh] ⊆ F) (kp :
    Kept F s0 s) : KeptR F s0 (execSpoolFree job s) := by
  unfold execSpoolFree
  with_reducible repeat' first
    | assumption | exact Part.le hF | intro x a (_ : Kept F s0 x) | intro y a (_ : Kept F s0 y.1) | apply State.freePage_kept
    | apply State.readBytes_kept | apply jobAct_kept | apply Kept.ite_fst | apply Kept.foldl_fst

theorem State.spoolStatus_kept {page code : Nat} (hF : [.regs] ⊆ F) (kp : Kept F s0 s) : Kept F s0 (State.spoolStatus s page
    code) := by
  unfold State.spoolStatus
  with_reducible repeat' first
    | assumption | exact Part.le hF | apply State.wrN_kept

theorem execSpoolAllocCmd_kept {master value pick : Nat} (hF : [.regs, .wos, .lockWins, .cells, .lines, .store, .locket, .wake]
    ⊆ F) (kp : Kept F s0 s) : KeptR F s0 (execSpoolAllocCmd master value pick s) := by
  unfold execSpoolAllocCmd
  with_reducible repeat' first
    | assumption | exact Part.le hF | intro x (_ : Kept F s0 x) | intro x a (_ : Kept F s0 x) | apply KeptR.act
    | apply State.allocPage_kept | apply State.lowWater_kept | apply State.regCmd_kept | apply State.spoolStatus_kept
    | apply Kept.ite

theorem execSpoolFreeCmd_kept {master value : Nat} (hF : [.regs, .wos, .lockWins, .cells, .lines, .store, .locket, .wake] ⊆ F)
    (kp : Kept F s0 s) : KeptR F s0 (execSpoolFreeCmd master value s) := by
  unfold execSpoolFreeCmd
  with_reducible repeat' first
    | assumption | exact Part.le hF | intro x (_ : Kept F s0 x) | intro x a (_ : Kept F s0 x) | apply KeptR.act
    | apply State.freePage_kept | apply State.regCmd_kept | apply State.spoolStatus_kept | apply Kept.ite

theorem execSpoolCfgWrite_kept {master value : Nat} (hF : [.regs, .wos, .lockWins, .cells, .lines, .store, .locket, .wake] ⊆ F)
    (kp : Kept F s0 s) : KeptR F s0 (execSpoolCfgWrite master value s) := by
  unfold execSpoolCfgWrite
  with_reducible repeat' first
    | assumption | exact Part.le hF | intro x (_ : Kept F s0 x) | intro x a (_ : Kept F s0 x) | apply KeptR.act
    | apply State.ignoreW_kept | apply State.lowWater_kept | apply State.regCmd_kept | apply State.wrN_kept
    | simp only [Kept.lit_iff] | apply Kept.upd_store | apply Kept.ite | rfl

/-! ### Start -/

theorem State.settleOpen_kept {b dirty : Nat} (hF : [.map, .quilt] ⊆ F) (kp : Kept F s0 s) : Kept F s0 (State.settleOpen s b
    dirty) := by
  unfold State.settleOpen
  with_reducible repeat' first
    | assumption | exact Part.le hF | apply State.closeBolt_kept | apply State.setQuilt_kept

theorem execDumpReplay_kept {partner : List JRec} {mirror : Option (SMap Nat)} (hF : [.regs, .cells, .lines, .locket, .wake,
    .power, .pair, .dedup, .map, .quilt] ⊆ F) (kp : Kept F s0 s) : KeptR F s0 (execDumpReplay partner mirror s) := by
  unfold execDumpReplay
  with_reducible repeat' first
    | assumption | exact Part.le hF | intro x (_ : Kept F s0 x) | intro x a (_ : Kept F s0 x) | apply KeptR.act
    | apply State.log_kept | apply State.setDedup_kept | apply State.setPair_kept | apply State.settleOpen_kept
    | apply State.showMirror_kept | apply State.wb_kept | simp only [Kept.lit_iff] | apply Kept.upd_locket
    | apply Kept.upd_power | apply Kept.foldl | split | rfl

end Sys2Proof.Machine
end

