-- ==== Sys2Proof/Tests/Base.lean ====
section
/-! SUPPORT. Small states that the tests start from. -/
namespace Sys2Proof.Tests
open Sys2Proof.Machine

/-- A head that runs: every domain on and every page released, in P0. -/
def base : State := {
  power := { aon := true, doms := (List.range 30).map fun d => (d, { st := 4 }) }
  boot := { up := true, ready := 2 ^ 75 - 1 } }

/-- Every memory controller of `s` has initialised its lines. -/
def memOn (s : State) : State :=
  (List.range 2).foldl (fun s c => s.wb (Pg.HBMC + c) Rg.HBMC_STATUS 1 true)
    ((List.range 8).foldl (fun s c => s.wb (Pg.DDRC + c) Rg.DDRC_STATUS 1 true) s)

/-- A descriptor of 64 bytes with the fields (offset, bytes, value). -/
def desc (fs : List (Nat × Nat × Nat)) : List Byte :=
  fs.foldl (fun l f => l.take f.1 ++ leBytes f.2.1 f.2.2 ++ l.drop (f.1 + f.2.1)) (List.replicate 64 0)

/-- A job of instance 0 and ring 0. -/
def job (engine : Engine) (opcode owner : Nat) (fs : List (Nat × Nat × Nat)) : Job :=
  { engine, inst := 0, ring := 0, cring := 0, tag := 1, owner, opcode, irq := false, fence := false, desc := desc fs }

/-- Job 1 has been fetched. -/
def withJob (s : State) (j : Job) : State := { s with eng := { s.eng with jobs := [(1, j)] } }

end Sys2Proof.Tests
end

