-- ==== Sys2Proof/WellFormed.lean ====
section
/-! DEFINITION. Which commands are well formed: every operand lies in the range its field has in the spec. A meaning is total, and
where an operand names nothing the block has, the command changes nothing (log 6). -/
namespace Sys2Proof

/-- A register value: 32 bits (00, Registers and access codes). -/
def word (n : Nat) : Bool := decide (n < 2 ^ 32)
/-- A field of 64 bits. -/
def long (n : Nat) : Bool := decide (n < 2 ^ 64)
/-- A field of 16 bits: controller, queue and command identifiers (as NVMe has them, log 57). -/
def half (n : Nat) : Bool := decide (n < 2 ^ 16)
/-- A master ID: 10 bits (17 R645). -/
def masterOk (n : Nat) : Bool := decide (n < 2 ^ 10)
/-- A system address: 48 bits (01 R59). -/
def addrOk (n : Nat) : Bool := decide (n < 2 ^ 48)
/-- A register page of the page-index table (17 R653). -/
def pageOk (n : Nat) : Bool := decide (n < 75)
/-- A bead: 0 to 1,023 (01 R60). -/
def beadOk (n : Nat) : Bool := decide (n < 1024)
/-- An owner: 12 bits (05 R191). -/
def ownerOk (n : Nat) : Bool := decide (n < 2 ^ 12)
/-- A packet sequence number: 24 bits (04 R156). -/
def psnOk (n : Nat) : Bool := decide (n < 2 ^ 24)
/-- A job descriptor or a submission queue entry: 64 bytes (01 R27; as NVMe has it, log 57). -/
def line (l : List Byte) : Bool := decide (l.length = 64)

/-- The operands of a command lie in their fields. -/
def Instr.wf (i : Instr) : Bool :=
  match i with
  | .registerWrite master addr _ value => masterOk master && addrOk addr && word value
  | .lockReportWindowEnd page _ => pageOk page
  | .pageLockWrite master page value => masterOk master && pageOk page && word value
  | .irqForceWrite master page value => masterOk master && pageOk page && word value
  | .pageSnap master page value => masterOk master && pageOk page && word value
  | .gtsSnapLoRead master page => masterOk master && pageOk page
  | .remoteAccess master page _ _ value => masterOk master && pageOk page && word value
  | .remoteAccessTimeout _ => true
  | .memoryRead master owner addr _ _ _ _ => masterOk master && ownerOk owner && addrOk addr
  | .partialWrite master owner addr _ _ _ => masterOk master && ownerOk owner && addrOk addr
  | .fullLineWrite master owner addr _ _ => masterOk master && ownerOk owner && addrOk addr
  | .ringPiWrite _ _ master value => masterOk master && word value
  | .descriptorFetch _ _ => true
  | .jobComplete _ => true
  | .heldRecordWrite _ _ _ => true
  | .cringHeadWrite _ _ master value => masterOk master && word value
  | .ringEnableSet _ _ master value => masterOk master && word value
  | .ringEnableClear _ _ master value => masterOk master && word value
  | .cringEnableSet _ _ master value => masterOk master && word value
  | .cringEnableClear _ _ master value => masterOk master && word value
  | .cringIrqClear _ _ _ master value => masterOk master && word value
  | .engineEnableSet _ _ master value => masterOk master && word value
  | .engineEnableClear _ _ master value => masterOk master && word value
  | .calSecondRollover => true
  | .add bead => beadOk bead
  | .sub bead => beadOk bead
  | .and bead => beadOk bead
  | .or bead => beadOk bead
  | .xor bead => beadOk bead
  | .shl bead => beadOk bead
  | .shr bead => beadOk bead
  | .sra bead => beadOk bead
  | .slt bead => beadOk bead
  | .sltu bead => beadOk bead
  | .addi bead => beadOk bead
  | .andi bead => beadOk bead
  | .lui bead => beadOk bead
  | .mul bead => beadOk bead
  | .mulhu bead => beadOk bead
  | .divu bead => beadOk bead
  | .popc bead => beadOk bead
  | .clz bead => beadOk bead
  | .crcw bead => beadOk bead
  | .ldw bead _ => beadOk bead
  | .stw bead => beadOk bead
  | .ldt bead => beadOk bead
  | .beq bead => beadOk bead
  | .bne bead => beadOk bead
  | .blt bead => beadOk bead
  | .bltu bead => beadOk bead
  | .jal bead => beadOk bead
  | .jr bead => beadOk bead
  | .snd bead => beadOk bead
  | .sndUnstall bead => beadOk bead
  | .sendStallTimeout bead => beadOk bead
  | .rcv bead => beadOk bead
  | .rcvWake bead => beadOk bead
  | .qwait bead => beadOk bead
  | .qwaitWake bead => beadOk bead
  | .qcnt bead => beadOk bead
  | .tset bead => beadOk bead
  | .tstop bead => beadOk bead
  | .trd bead => beadOk bead
  | .earm bead => beadOk bead
  | .erd bead => beadOk bead
  | .fld bead => beadOk bead
  | .fldDataReturn bead _ _ => beadOk bead
  | .fst bead => beadOk bead
  | .jsub bead => beadOk bead
  | .jsubUnstall bead => beadOk bead
  | .fnc bead => beadOk bead
  | .fncAccept bead => beadOk bead
  | .vadd bead => beadOk bead
  | .vxor bead => beadOk bead
  | .vand bead => beadOk bead
  | .vbc bead => beadOk bead
  | .vext bead => beadOk bead
  | .vins bead => beadOk bead
  | .vshuf bead => beadOk bead
  | .gfmac bead => beadOk bead
  | .ebnd bead => beadOk bead
  | .halt bead => beadOk bead
  | .undefinedOpcode bead => beadOk bead
  | .timerExpiry bead _ => beadOk bead
  | .edgeEvent _ _ _ => true
  | .strandLoad master value _ => masterOk master && word value
  | .strandLoadDone => true
  | .strandStart master value => masterOk master && word value
  | .strandExchange master value => masterOk master && word value
  | .exchangeVerified => true
  | .drainComplete => true
  | .drainLimitExpiry => true
  | .exchangeLoadComplete => true
  | .strandAbort master value => masterOk master && word value
  | .capsuleReceive ctrl qid sqe _ => half ctrl && half qid && line sqe
  | .commandAdmit => true
  | .hostCompletionSend _ _ => true
  | .nvmRead _ _ => true
  | .nvmWrite _ _ _ => true
  | .flush _ => true
  | .writeZeroes _ => true
  | .datasetManagement _ _ => true
  | .compare _ _ _ => true
  | .compareAndWrite _ _ _ _ => true
  | .copy _ _ _ => true
  | .reservationRegister _ _ => true
  | .reservationReport _ => true
  | .reservationAcquire _ _ => true
  | .reservationRelease _ _ => true
  | .unsupportedNvmCommand _ => true
  | .kvStore _ _ _ => true
  | .kvRetrieve _ _ => true
  | .kvDelete _ => true
  | .kvExist _ => true
  | .kvList _ => true
  | .abortCommand ctrl cid => half ctrl && half cid
  | .nvmeofConnect ctrl qid cid _ _ _ _ _ _ _ => half ctrl && half qid && half cid
  | .disconnect ctrl qid cid => half ctrl && half qid && half cid
  | .setQueueAttributes ctrl cid cdw11 => half ctrl && half cid && word cdw11
  | .arbitrationFeature ctrl cid cdw11 => half ctrl && half cid && word cdw11
  | .controllerEnable ctrl cc => half ctrl && word cc
  | .controllerReset ctrl => half ctrl
  | .keepAlive ctrl cid => half ctrl && half cid
  | .keepAliveExpiry ctrl => half ctrl
  | .namespaceCreate ctrl cid _ _ _ _ _ _ => half ctrl && half cid
  | .namespaceResize ctrl cid _ _ => half ctrl && half cid
  | .setPowerState ctrl _ _ => half ctrl
  | .anaLogPage ctrl cid => half ctrl && half cid
  | .forwardedCommand _ ctrl qid _ sqe _ => half ctrl && half qid && line sqe
  | .hostqQreset master value => masterOk master && word value
  | .transportConnectionLoss _ => true
  | .hostqAnaStateWrite master value => masterOk master && word value
  | .idleTimerExpiry => true
  | .urtSendPacket _ _ => true
  | .urtWritePacket _ _ => true
  | .readReq _ _ => true
  | .readResp _ _ => true
  | .urtAck _ _ => true
  | .urtConnect _ _ _ psn _ => psnOk psn
  | .connectAck _ _ => true
  | .urtClosePacket _ _ => true
  | .ackTimer _ _ => true
  | .rtoExpiry _ _ psn => psnOk psn
  | .pacedSend _ _ => true
  | .urtOpen _ desc _ _ psn _ => line desc && psnOk psn
  | .urtClose _ desc => line desc
  | .urtSend _ desc => line desc
  | .urtWrite _ desc => line desc
  | .urtRead _ desc => line desc
  | .urtRecv _ desc => line desc
  | .roceCmRequest _ _ _ _ psn _ => psnOk psn
  | .roceAtomicRequest _ psn => psnOk psn
  | .rocePacket _ _ _ => true
  | .cnpReceive _ => true
  | .roceRetryExhausted _ => true
  | .subportLinkUp _ _ => true
  | .subportLinkDown _ _ => true
  | .fecSecondEnd _ _ _ _ _ => true
  | .pfcPauseTimeout _ _ _ => true
  | .urtInternalError _ => true
  | .urtCtrlReset master value => masterOk master && word value
  | .urtEqHeadWrite master value => masterOk master && word value
  | .ethCfgWrite master _ value => masterOk master && word value
  | .spoolAlloc _ _ => true
  | .spoolFree _ => true
  | .spoolAllocCmd master value _ => masterOk master && word value
  | .spoolFreeCmd master value => masterOk master && word value
  | .spoolCfgWrite master value => masterOk master && word value
  | .scrub _ _ => true
  | .memoryInitDone _ _ _ _ => true
  | .cacheErrWindowEnd _ _ => true
  | .syscacheWayDisWrite master _ _ value => masterOk master && word value
  | .ddrcFailWrite master _ value => masterOk master && word value
  | .hbmcPcRetireWrite master _ value => masterOk master && word value
  | .hbmStackFailure _ => true
  | .hbmTemperatureHigh _ _ => true
  | .ddrcMapCfgWrite master _ value => masterOk master && word value
  | .hallmarkInit _ => true
  | .bind _ => true
  | .snoopBeat _ _ _ addr _ _ => addrOk addr
  | .catchupRead _ _ => true
  | .streamEnd _ _ => true
  | .digest _ => true
  | .finish _ => true
  | .hallmarkRelease _ => true
  | .hallmarkLwCmd master value => masterOk master && word value
  | .hallmarkSealExpWrite master _ value => masterOk master && word value
  | .lookup _ _ => true
  | .lookupResume _ _ => true
  | .pendingWaitTimeout _ _ => true
  | .commit _ => true
  | .dedupRelease _ => true
  | .rebuild _ => true
  | .takeover _ _ _ _ => true
  | .manifestSealTimeout _ => true
  | .deltaBatchCommit => true
  | .dedupDomCfgWrite master value => masterOk master && word value
  | .pleat _ _ => true
  | .unpleat _ => true
  | .pleatCtxExpiry _ => true
  | .gcmSeal _ => true
  | .gcmOpen _ => true
  | .xtsEnc _ => true
  | .xtsDec _ => true
  | .ctr _ => true
  | .keyGen _ => true
  | .keyWrap _ => true
  | .keyUnwrap _ => true
  | .keyClear _ => true
  | .keyCmdLoad master value => masterOk master && word value
  | .keyCmdClear master value => masterOk master && word value
  | .cipherNonceFloorWrite master value => masterOk master && word value
  | .cipherNonceGrantWrite master value => masterOk master && word value
  | .encode _ => true
  | .reconstruct _ => true
  | .verify _ => true
  | .resolve _ => true
  | .dirtySet _ => true
  | .dirtySetMirrorAck _ => true
  | .dirtyMapMirror _ _ _ => true
  | .dirtyClear _ => true
  | .resynchronisation _ _ _ _ => true
  | .rebuildStart _ => true
  | .rebuildEnd _ => true
  | .reshapeStart master value => masterOk master && word value
  | .reshapePause master value => masterOk master && word value
  | .reshapeResume master value => masterOk master && word value
  | .reshapeBoltEmptied _ _ => true
  | .quiltUnfreeze master value => masterOk master && word value
  | .quiltDrainMaskWrite master value => masterOk master && word value
  | .quiltLayoutWrite master value => masterOk master && word value
  | .quiltWriteLayoutWrite master value => masterOk master && word value
  | .mapLookup _ _ => true
  | .record _ => true
  | .orderedRecordApply _ => true
  | .dealloc _ => true
  | .mapperZero _ => true
  | .chunkNew _ => true
  | .chunkNewExpiry _ => true
  | .relocate _ _ => true
  | .forwardedRelocate _ _ => true
  | .chunkLost _ => true
  | .boltOpen _ => true
  | .boltClose _ => true
  | .boltSubst _ => true
  | .recount _ => true
  | .mapperCheckpoint => true
  | .dirtyPageWriteback page _ _ _ _ => pageOk page
  | .compaction _ _ _ _ => true
  | .mapperReplay _ _ _ _ => true
  | .degradedModeEntered => true
  | .logBoltFold _ => true
  | .greedyGc => true
  | .priorityGc => true
  | .wearLevelling => true
  | .programFailure _ _ _ _ => true
  | .eraseFailure _ _ => true
  | .eraseComplete _ => true
  | .retentionLimit _ => true
  | .mapperThrLoad master value => masterOk master && word value
  | .mapperCacheSizeWrite master value => masterOk master && word value
  | .snapCreate master value => masterOk master && word value
  | .snapFreeze _ => true
  | .snapDelete master value => masterOk master && word value
  | .deadListEntry _ epoch => long epoch
  | .snapAttach master value => masterOk master && word value
  | .snapDetach master value => masterOk master && word value
  | .sessionStart master value => masterOk master && word value
  | .sessionStop master value => masterOk master && word value
  | .replOpen _ cursor _ epoch _ _ => long cursor && long epoch
  | .fpBatch _ _ => true
  | .fpReply _ _ _ _ => true
  | .replData _ _ _ _ _ => true
  | .replUnmap _ _ _ => true
  | .replZero _ _ _ => true
  | .replCkpt _ cursor => long cursor
  | .ckptAck _ cursor => long cursor
  | .done _ epoch => long epoch
  | .replRetry _ => true
  | .read _ => true
  | .softRead _ => true
  | .program _ => true
  | .erase _ => true
  | .createQp _ => true
  | .deleteQp _ => true
  | .identify _ => true
  | .loadProfile _ => true
  | .defectMap _ => true
  | .telemetry _ => true
  | .getWitness _ => true
  | .wCas _ => true
  | .setEpoch _ => true
  | .moduleCompletion _ _ => true
  | .deepDecodeDone _ _ _ _ _ => true
  | .modulePresent _ => true
  | .stitchModAttach _ master value => masterOk master && word value
  | .stitchModDetach _ master value => masterOk master && word value
  | .stitchModPowerOff _ master value => masterOk master && word value
  | .stitchModHotReset _ master value => masterOk master && word value
  | .modulePowerGrant => true
  | .perstReleaseTimer _ => true
  | .moduleLinkUp _ _ _ _ _ => true
  | .linkTrainTimeout _ => true
  | .configureComplete _ _ _ _ _ _ _ => true
  | .configureTimeout _ => true
  | .commandTimeoutExpiry _ => true
  | .deleteQpTimeout _ => true
  | .moduleLinkDown _ => true
  | .surpriseRemoval _ => true
  | .moduleFatal _ => true
  | .moduleAlert _ _ => true
  | .detachComplete _ => true
  | .telemetryTimer => true
  | .pcieCompletionTimeout _ => true
  | .pcieError _ _ _ => true
  | .stitchRoleEpochHiWrite master value => masterOk master && word value
  | .chooseBolt _ => true
  | .chooseSubst _ => true
  | .chooseCopies _ => true
  | .eligibilityChange => true
  | .shareRecompute _ _ _ _ => true
  | .patternBlockUseWrite master value => masterOk master && word value
  | .seamEnable master _ value => masterOk master && word value
  | .lanesAligned _ => true
  | .trainingTimeout _ => true
  | .probationEnd _ => true
  | .seamRetrainTimer _ => true
  | .seamCtrlRetire master _ value => masterOk master && word value
  | .seamCtrlRetrain master _ value => masterOk master && word value
  | .seamDataFrame _ _ _ _ _ _ => true
  | .laneLockLoss _ _ => true
  | .noFrameTimeout _ => true
  | .heartbeat _ _ _ => true
  | .heartbeatSend => true
  | .partnerSilent => true
  | .leaseLapse => true
  | .journalRecord _ _ => true
  | .mirrorAck _ => true
  | .nack _ => true
  | .retainSend => true
  | .retain _ => true
  | .yieldMessage _ => true
  | .peerYieldSeen => true
  | .fenceMessage _ epoch => long epoch
  | .join => true
  | .catchupDone _ => true
  | .roleRelease _ epoch => long epoch
  | .headpairCmdYield master value => masterOk master && word value
  | .arbitrationRound _ _ _ => true
  | .arbitrationLimitExpiry => true
  | .setEpochTimeout _ => true
  | .svcReportWrite master _ value => masterOk master && word value
  | .svcStallTimeout => true
  | .hostPortsTimeout => true
  | .thermalLimit => true
  | .lockstepDisagreement => true
  | .svcCtrlWrite master _ value => masterOk master && word value
  | .claspGo master _ value _ => masterOk master && word value
  | .claspInRel master _ value _ => masterOk master && word value
  | .claspTimeoutExpiry _ => true
  | .remoteClaspMessage _ _ _ _ => true
  | .locketRecord gts _ _ _ => long gts
  | .locketHandoverTimeout => true
  | .spillPage => true
  | .locketSeqBaseHiWrite master value => masterOk master && word value
  | .locketSeqNextLoRead master => masterOk master
  | .locketWinData0Read master => masterOk master
  | .locketWinData15Read master => masterOk master
  | .locketClearChalLoRead master => masterOk master
  | .locketClearCmd master value => masterOk master && word value
  | .gtsNowLoRead master => masterOk master
  | .gtsCalSecondsLoRead master => masterOk master
  | .gtsCalCmd master value => masterOk master && word value
  | .pwrseqStandby master value => masterOk master && word value
  | .standbyCommit => true
  | .thimbleArm => true
  | .wakeAddressMatch addr => addrOk addr
  | .wakeNLow _ => true
  | .pwrFailNRise => true
  | .aonPowerOn => true
  | .pwrseqDomCtrlOn master value => masterOk master && word value
  | .pwrseqDomCtrlOff master value => masterOk master && word value
  | .domainGrant => true
  | .rampEnd _ => true
  | .rampTimeout _ => true
  | .domainReady _ => true
  | .quiesced _ => true
  | .clamped _ => true
  | .dischargeDone _ => true
  | .brownoutStart _ _ => true
  | .brownoutEnd => true
  | .monitorTrip _ _ => true
  | .powerFail => true
  | .dumpCommit _ _ => true
  | .dumpResume => true
  | .dumpReplay _ _ => true
  | .selvedgeRelease master value => masterOk master && word value
  | .resetRelease => true
  | .stage1VerifyDone _ _ _ => true
  | .packageVerifyDone _ _ _ => true
  | .stage master value _ _ => masterOk master && word value
  | .activate master value _ => masterOk master && word value
  | .confirm master value => masterOk master && word value
  | .recover master value => masterOk master && word value
  | .recoveryBundleReceived _ _ _ _ => true
  | .otpAdd master value => masterOk master && word value
  | .otpRevoke master value => masterOk master && word value
  | .svnRaise master value => masterOk master && word value
  | .bootWatchdogExpiry => true
  | .trialTimeout => true
  | .topSwResetWrite master value => masterOk master && word value
  | .sysRstNLow => true
  | .thermtrip => true
  | .mgmtLinkChange _ => true
  | .ptpLockLoss => true
  | .gpioEdge _ _ => true
  | .remoteAccessAnswer _ _ => true
  | .remoteLatchAck _ _ => true
  | .xtalAonRunning => true
  | .vddAonRemoval => true
  | .jtagReset => true
  | .engineUncorrectableError _ => true

/-- A well-formed command. -/
abbrev Instr.WellFormed (i : Instr) : Prop := i.wf = true

end Sys2Proof
end

namespace Sys2Proof.Machine
variable {s s0 t u : State}

/-! PROOFS. What every command shares: when it comes about, an accepted register write, the registers and parts that a write, an interrupt
and a record leave alone. -/

theorem act_alive (f : State → State) (h : s.alive = true) : act s f = .next (f s) := by simp [act, h]

theorem actIf_alive {b : Bool} (f : State → State) (h : s.alive = true) (hb : b = true) : actIf s b f = .next (f s) := by
  simp [actIf, h, hb]

theorem Kept.mono {F G : List Part} (h : Kept F s t) (hs : F ⊆ G) : Kept G s t :=
  ⟨h.pend, h.mem, h.regs, h.otp, fun f => (h.only f).imp (fun hf => hs hf) id⟩

theorem foldl_keeps {α β : Type} (g : State → β) {f : State → α → State} (hf : ∀ x a, g (f x a) = g x) (l : List α) (s : State) :
    g (l.foldl f s) = g s := by
  induction l generalizing s with
  | nil => rfl
  | cons a l ih => exact (ih _).trans (hf s a)

/-! ### Tables -/

theorem mget_mmod {α : Type} (m : SMap α) (k q : Nat) (f : α → α) :
    mget (mmod m k f) q = if q = k then (mget m q).map f else mget m q := by
  induction m with
  | nil => simp [mmod, mget]
  | cons e m ih =>
    obtain ⟨a, v⟩ := e
    have hcons : mmod ((a, v) :: m) k f = (if a = k then (a, f v) else (a, v)) :: mmod m k f := rfl
    rw [hcons]
    by_cases hak : a = k <;> by_cases haq : a = q <;> simp_all [mget]

theorem mget_mmod_self {α : Type} {m : SMap α} {k : Nat} {v : α} (f : α → α) (h : mget m k = some v) : mget (mmod m k f) k = some (f v) := by
  simp [mget_mmod, h]

theorem mget_mmod_ne {α : Type} {m : SMap α} {k q : Nat} (f : α → α) (h : q ≠ k) : mget (mmod m k f) q = mget m q := by
  simp [mget_mmod, h]

theorem mdel_of_absent {α : Type} {m : SMap α} {k : Nat} (h : mget m k = none) : mdel m k = m := by
  induction m with
  | nil => rfl
  | cons e m ih =>
    obtain ⟨a, v⟩ := e
    by_cases hak : a = k
    · simp [mget, hak] at h
    · simp only [mget, if_neg hak] at h
      simp only [mdel, List.filter_cons, bne_iff_ne, ne_eq, hak, not_false_eq_true, if_true]
      exact congrArg _ (ih h)

/-! ### Registers -/

theorem State.rf_congr {p off i : Nat} (hi lo : Nat) (h : t.rd p off i = s.rd p off i) : t.rf p off hi lo i = s.rf p off hi lo i := by
  rw [State.rf, State.rf, h]

theorem State.rb_congr {p off i : Nat} (b : Nat) (h : t.rd p off i = s.rd p off i) : t.rb p off b i = s.rb p off b i := by
  rw [State.rb, State.rb, h]

theorem State.rd_of_regs {q o j : Nat} (h : t.regs = s.regs) : t.rd q o j = s.rd q o j := by
  unfold State.rd
  rw [h]

theorem State.wr_rd_off (s : State) {p off o i : Nat} (v : Word) (hi : i < 0x10000) (h : o ≠ off) : (s.wr p off 0 v).rd p o i = s.rd p o i :=
  s.rd_wr_ne v (rkey_off (by decide) hi h)

theorem State.wf_pages (s : State) {p off : Nat} (hi lo v : Nat) (ho : off < 0x10000) : OnlyPages [p] s (s.wf p off hi lo v) :=
  s.wr_pages _ ho (by decide)

theorem State.wb_pages (s : State) {p off : Nat} (b : Nat) (v : Bool) (ho : off < 0x10000) : OnlyPages [p] s (s.wb p off b v) :=
  s.wr_pages _ ho (by decide)

/-- A register of a page outside its header is as it was before an interrupt. -/
theorem State.irq_rd_body (s : State) (p b : Nat) {off i : Nat} (hi : i < 0x10000) (h : 0x100 ≤ off) :
    (s.irq p b).rd p off i = s.rd p off i := by
  have hk : ∀ o j, o < 0x100 → j < 0x10000 → rkey p off i ≠ rkey p o j := fun o j ho hj => rkey_off hj hi (by omega)
  exact s.irq_rd p b (hk _ _ (by decide) (by decide)) (hk _ _ (by decide) (by decide)) (hk _ _ (by decide) (by decide))

/-- A pair of registers reads the 64-bit value that it has been set to. -/
theorem State.rd64_wr64 (s : State) {p off n : Nat} (h : n < 2 ^ 64) : (s.wr64 p off n).rd64 p off = n := by
  have hlo : (s.wr64 p off n).rdN p off = n % 2 ^ 32 := by
    unfold State.wr64
    rw [State.rdN, State.wrN, State.wr_rd_off _ _ (by decide) (by omega), ← State.rdN, State.rdN_wrN]
  rw [State.rd64, hlo, State.wr64, State.rdN_wrN]
  omega

/-! ### Accepted and ignored writes (17 R645, R648, R699) -/

theorem Accepts.alive {p off master v : Nat} (h : Accepts s p off master v) : s.alive = true := h.1

/-- An accepted write stores its value and answers the old one (17 R648, R699). -/
theorem State.regWrite_of_accepts {p off master v : Nat} (h : Accepts s p off master v) :
    s.regWrite { page := p, off, master, value := v } = (stored s p off v, some (s.rdN p off (s.shown p off))) := by
  obtain ⟨-, ⟨hready, hmay, hdead, hremote⟩, hoff, hv, r, hrow, hro, hlock, hwos, hadm, hadm'⟩ := h
  have hrem : ((decide (Ms.PARTNER ≤ master)) && (!s.rb p Rg.PAGE_CTRL 2 || mpOnly p off)) = false := by
    rcases hremote with hlt | ⟨h1, h2⟩
    · simp [Nat.not_le.2 hlt]
    · simp [h1, h2]
  have hl : (r.acc == .rwl && s.rb p Rg.PAGE_LOCK 0) = false := by
    by_cases ha : r.acc = .rwl
    · simp [hlock ha]
    · simp [ha]
  have hw : (r.acc == .wos && decide (rkey p off (s.shown p off) ∈ s.wosDone)) = false := by
    by_cases ha : r.acc = .wos
    · simp [hwos ha]
    · simp [ha]
  unfold State.regWrite stored
  simp only [Nat.mod_eq_of_lt hv, Bool.false_or, hready, hmay, hdead, hrem, hrow, hl, hw, hadm, hadm', beq_eq_false_iff_ne.2 hro,
    Nat.not_lt.2 hoff, Bool.not_true, Bool.false_eq_true, if_false, Bool.or_false]

theorem State.regCmd_of_accepts {p off master v : Nat} (f : State → Nat → State) (h : Accepts s p off master v) :
    s.regCmd { page := p, off, master, value := v } f = f (stored s p off v) (s.rdN p off (s.shown p off)) := by
  rw [State.regCmd, State.regWrite_of_accepts h]

theorem act_regCmd {p off master v : Nat} (f : State → Nat → State) (h : Accepts s p off master v) :
    act s (fun s => s.regCmd { page := p, off, master, value := v } f) = .next (f (stored s p off v) (s.rdN p off (s.shown p off))) := by
  rw [act_alive _ h.alive, State.regCmd_of_accepts _ h]

/-- A register command whose write is accepted runs its effect on the state after the write. -/
theorem actIf_regCmd {b : Bool} {p off master v : Nat} (f : State → Nat → State) (h : Accepts s p off master v) (hb : b = true) :
    actIf s b (fun s => s.regCmd { page := p, off, master, value := v } f) = .next (f (stored s p off v) (s.rdN p off (s.shown p off))) := by
  rw [actIf_alive _ h.alive hb, State.regCmd_of_accepts _ h]

theorem stored_kept (s : State) (p off v : Nat) : Kept [.regs, .wos] s (stored s p off v) := by
  unfold stored
  split
  · exact .refl _ _
  · have hw : ∀ n, Kept [.regs, .wos] s (s.wrN p off (s.shown p off) n) := fun n => State.wrN_kept (by decide) (.refl _ s)
    exact Kept.ite (Kept.lit_iff.2 (Kept.upd_wosDone (by decide) (hw _))) (hw _)

theorem stored_rd_ne {p off q o j : Nat} (v : Nat) (h : rkey q o j ≠ rkey p off (s.shown p off)) : (stored s p off v).rd q o j = s.rd q o j := by
  unfold stored
  split
  · rfl
  · dsimp only
    split <;> exact State.rd_wr_ne _ _ h

theorem State.err_type (s : State) (p master : Nat) (write remote : Bool) {ty : Nat} (addr : Nat) (h : ty < 256) :
    (s.err p master write remote ty addr).rf p Rg.ERR_INFO 23 16 = ty := by
  have hb : ∀ b : Bool, b2n b ≤ 1 := by decide
  have h1 := hb write
  have h2 := hb remote
  have h3 := hb (s.rb p Rg.ERR_INFO 31)
  have hinfo := s.err_info p master write remote ty addr
  unfold State.rdN at hinfo
  rw [State.rf, fld, bits, hinfo]
  omega

theorem State.ignoreW_gts (s : State) (w : RegW) : (s.ignoreW w).gts = s.gts :=
  (State.ignoreW_kept (F := [.regs]) (by decide) (.refl _ s)).part (f := .gts)

theorem State.ignoreW_cal (s : State) (w : RegW) : (s.ignoreW w).cal = s.cal :=
  (State.ignoreW_kept (F := [.regs]) (by decide) (.refl _ s)).part (f := .cal)

/-! ### What a record and an interrupt leave alone -/

/-- A record changes registers, Locket, its ring and the wake flag alone. -/
theorem State.log_part (s : State) (p code : Nat) (fs : List Pf) (f : Part)
    (hf : [Part.regs, .cells, .lines, .locket, .wake].contains f = false := by decide) : f.same s (s.log p code fs) :=
  (State.log_kept (F := [.regs, .cells, .lines, .locket, .wake]) (by decide) (.refl _ s)).part hf

@[simp] theorem State.log_hq (s : State) (p code : Nat) (fs : List Pf) : (s.log p code fs).hq = s.hq := s.log_part p code fs .hq

@[simp] theorem State.log_pair (s : State) (p code : Nat) (fs : List Pf) : (s.log p code fs).pair = s.pair := s.log_part p code fs .pair

@[simp] theorem State.log_out (s : State) (p code : Nat) (fs : List Pf) : (s.log p code fs).out = s.out := s.log_part p code fs .out

@[simp] theorem State.log_map (s : State) (p code : Nat) (fs : List Pf) : (s.log p code fs).map = s.map := s.log_part p code fs .map

@[simp] theorem State.log_pins (s : State) (p code : Nat) (fs : List Pf) : (s.log p code fs).pins = s.pins := s.log_part p code fs .pins

@[simp] theorem State.log_gts (s : State) (p code : Nat) (fs : List Pf) : (s.log p code fs).gts = s.gts := s.log_part p code fs .gts

@[simp] theorem State.log_cal (s : State) (p code : Nat) (fs : List Pf) : (s.log p code fs).cal = s.cal := s.log_part p code fs .cal

@[simp] theorem State.irq_map (s : State) (p b : Nat) : (s.irq p b).map = s.map :=
  (State.irq_kept (F := [.regs, .wake]) (by decide) (.refl _ s)).part (f := .map)

/-! ### Time on an empty queue, and the state at reset -/

/-- A running head with no wake due lets one nanosecond pass (01 R48, R55). -/
theorem State.idle_of_no_wake (h : s.alive = true) (hw : s.power.wakePend = false) : s.idle = s.tick := by
  simp [State.idle, h, State.tick, hw]

theorem State.idle_of_not_alive (h : s.alive = false) : s.idle = s := by simp [State.idle, h]

theorem step_empty (h : s.pending = []) : step s = .next s.idle := by simp [step, h]

/-- Settles O2: an empty queue idles, which is one `tick` of a running head with no wake due, and nothing of any other. -/
theorem emptyQueueLetsTimePass : Obligations.EmptyQueueLetsTimePass := by
  refine ⟨fun s hq ha => ?_, fun s hq ha hw => ⟨s.tick, ?_, rfl, rfl, fun h => ?_, fun h => ?_, rfl⟩⟩
  · rw [step_empty hq, State.idle_of_not_alive ha]
  · rw [step_empty hq, State.idle_of_no_wake ha hw]
  · exact if_pos h
  · exact if_neg (Nat.not_lt.2 h)

/-- Settles O3: the reset state lists no register, no byte of memory and no power domain, so each reads its default. -/
theorem resetHoldsWhatTheSpecGives : Obligations.ResetHoldsWhatTheSpecGives := by
  refine ⟨rfl, rfl, rfl, fun _ _ _ => rfl, rfl, rfl, rfl, fun a n => ?_, fun _ => rfl, fun p => ?_, ?_, rfl, rfl⟩
  · simp [State.peek, State.reset, mgetD, mget, List.map_const']
  · simp [State.pageReady, State.reset, bitOf]
  · decide

/-! ### A ring selector beyond the rings (01 R35, R697) -/

/-- A running head whose Spool page is released and whose SPOOL_RING_SEL reads 64, one above the rings it selects from. RING_CFG shows
the copy that the selector's whole word names, copy 64, which is enabled; the ring that RING_SEL[5:0] selects is ring 0, which is disabled
and whose producer index reads 5. -/
def selectorBeyondRings : State :=
  { power := { aon := true, doms := [(0, { st := 4 })] }
    boot := { up := true, ready := 2 ^ Pg.SPOOL }
    regs := [(rkey Pg.SPOOL Rg.SPOOL_RING_SEL 0, 64), (rkey Pg.SPOOL Rg.SPOOL_RING_CFG 64, 1), (rkey Pg.SPOOL Rg.SPOOL_RING_PI 0, 5)] }

/-- A RING_CFG value with enable 1, cring_enable 0 and both sizes 16 entries. -/
def enableValue : Nat := 1 + 4 * 2 ^ 4 + 4 * 2 ^ 20

theorem selectorBeyondRings_accepts : RingAccepts selectorBeyondRings .spool 0 0xC Ms.MP enableValue :=
  ⟨rfl, by decide, ⟨by decide, by decide, by decide, .inl (by decide)⟩, by decide, by decide, _, rfl, by decide, by decide, by decide,
    by decide, by decide⟩

/-- The write leaves the selected ring's producer index as it was: the copy that it changes was enabled already. -/
theorem selectorBeyondRings_keeps_pi : ∃ t, exec (.ringEnableSet .spool 0 Ms.MP enableValue) selectorBeyondRings = .next t ∧
    t.ringReg .spool 0 0x10 0 = 5 := by
  refine ⟨_, rfl, ?_⟩
  decide

/-- Refutes O26: its first clause takes any state, also one whose RING_SEL reads 64 or more. There the write goes to the copy that the whole
selector word shows, and whether it changes enable is judged by that copy, while RING_PI and RING_CI belong to the ring that RING_SEL[5:0]
selects; so in `selectorBeyondRings` enabling ring 0 leaves its RING_PI at 5. (RING_SEL implements 6 bits, so that no accepted write stores
such a value; the clause does not ask that the selector show copy `n`.) -/
theorem not_ringConfiguration : ¬ Obligations.RingConfiguration := by
  intro ⟨hset, _⟩
  obtain ⟨t, ht, -, hpi, -⟩ := hset selectorBeyondRings .spool 0 Ms.MP enableValue 0 selectorBeyondRings_accepts (by decide) (by decide)
    (by decide) (by decide)
  obtain ⟨u, hu, h5⟩ := selectorBeyondRings_keeps_pi
  cases ht.symm.trans hu
  rw [hpi] at h5
  cases h5

/-! ### Host commands and connections that end -/

/-- From `s0` to `s` host commands or connections may have ended: of the registers at most HOSTQ's, Locket's and
HEADPAIR_MIRROR_FREE differ, the pair has changed in its journal alone, and what had been sent is still in the record of what was sent. -/
structure HostOnly (s0 s : State) : Prop where
  rd : ∀ q off i, q ≠ Pg.HOSTQ → q ≠ Pg.LOCKET → ¬(q = Pg.HEADPAIR ∧ off = Rg.HEADPAIR_MIRROR_FREE) → off < 0x10000 → i < 0x10000 →
    s.rd q off i = s0.rd q off i
  pair : s.pair = { s0.pair with journal := s.pair.journal }
  out : s0.out <:+ s.out

theorem HostOnly.refl (s : State) : HostOnly s s := ⟨fun _ _ _ _ _ _ _ _ => rfl, rfl, List.suffix_refl _⟩

/-- A step that changes registers of HOSTQ's or Locket's page alone, and neither the pair nor what was sent. -/
theorem HostOnly.page {ps : List Nat} (h : HostOnly s0 s) (hr : OnlyPages ps s t) (hps : ps ⊆ [Pg.HOSTQ, Pg.LOCKET])
    (hp : t.pair = s.pair) (ho : t.out = s.out) : HostOnly s0 t := by
  refine ⟨fun q off i h1 h2 h3 h4 h5 => (hr q off i (fun hq => ?_) h4 h5).trans (h.rd q off i h1 h2 h3 h4 h5), hp ▸ h.pair, ho ▸ h.out⟩
  rcases List.mem_cons.1 (hps hq) with he | he
  · exact h1 he
  · exact h2 (List.mem_singleton.1 he)

theorem HostOnly.foldl {α : Type} {l : List α} {f : State → α → State} (h : HostOnly s0 s)
    (hf : ∀ x a, HostOnly s0 x → HostOnly s0 (f x a)) : HostOnly s0 (l.foldl f s) := by
  induction l generalizing s with
  | nil => exact h
  | cons a l ih => exact ih (hf _ _ h)

theorem HostOnly.ite {c : Prop} [Decidable c] (h1 : HostOnly s0 s) (h2 : HostOnly s0 t) : HostOnly s0 (if c then s else t) := by
  split <;> assumption

theorem HostOnly.hq (h : HostOnly s0 s) (x : Hostq) : HostOnly s0 { s with hq := x } := ⟨h.rd, h.pair, h.out⟩

theorem HostOnly.log (h : HostOnly s0 s) (p code : Nat) (fs : List Pf) : HostOnly s0 (s.log p code fs) :=
  h.page (s.log_pages p code fs) (by decide) (by simp) (by simp)

theorem HostOnly.wr (h : HostOnly s0 s) {off : Nat} (v : Word) (ho : off < 0x10000 := by decide) : HostOnly s0 (s.wr Pg.HOSTQ off 0 v) :=
  h.page (s.wr_pages v ho (by decide)) (by decide) rfl rfl

theorem HostOnly.showConn (h : HostOnly s0 s) : HostOnly s0 s.showConn := h.wr _

theorem HostOnly.endFlight (h : HostOnly s0 s) (io : Bool) : HostOnly s0 (s.endFlight io) := by
  unfold State.endFlight
  exact .ite h (.ite (((h.wr _).wr _).log _ _ _) (h.wr _))

theorem HostOnly.dirtyBp (h : HostOnly s0 s) : HostOnly s0 s.dirtyBp := by
  unfold State.dirtyBp
  exact .ite ((((h.wr _).wr _).log _ _ _).hq _) (.ite ((h.wr _).log _ _ _) h)

theorem HostOnly.showMirror (h : HostOnly s0 s) : HostOnly s0 s.showMirror := by
  refine ⟨fun q off i h1 h2 h3 h4 h5 => (State.rd_wr_ne _ _ fun hk => h3 ?_).trans (h.rd q off i h1 h2 h3 h4 h5), h.pair, h.out⟩
  by_cases hq : q = Pg.HEADPAIR
  · subst hq
    exact ⟨rfl, Decidable.byContradiction fun ho => rkey_off (by decide) h5 ho hk⟩
  · exact absurd hk (rkey_page (by decide) h4 (by decide) h5 hq)

theorem HostOnly.emit (h : HostOnly s0 s) (o : Out) : HostOnly s0 (s.emit o) := ⟨h.rd, h.pair, h.out.trans (List.suffix_cons _ _)⟩

theorem HostOnly.putRec (h : HostOnly s0 s) (r : JRec) : HostOnly s0 (s.putRec r) := by
  unfold State.putRec
  extract_lets st r' src x
  have hx : HostOnly s0 x := ⟨h.rd, by simp only [x, src]; rw [h.pair], h.out⟩
  exact (HostOnly.ite (hx.emit _).showMirror hx.showMirror).dirtyBp

theorem HostOnly.voidSeq (h : HostOnly s0 s) (c : Cmd) : HostOnly s0 (s.voidSeq c) := by
  unfold State.voidSeq
  split
  · exact h.putRec _
  · exact h

theorem HostOnly.queueReset (h : HostOnly s0 s) (ctrl qid cause : Nat) (silent : Bool) : HostOnly s0 (s.queueReset ctrl qid cause silent) := by
  unfold State.queueReset
  split
  · exact h
  · extract_lets mine cut cmds src x y z w
    have hy : HostOnly s0 y := (h.hq _).foldl fun _ _ hx => hx.voidSeq _
    have hz : HostOnly s0 z := .ite (hy.foldl fun _ _ hx => hx.endFlight _) hy
    exact .ite (hz.showConn.log _ _ _) (hz.showConn.log _ _ _)

theorem HostOnly.dropConnections (h : HostOnly s0 s) : HostOnly s0 s.dropConnections := by
  unfold State.dropConnections
  exact ((h.foldl fun _ _ hx => hx.queueReset _ _ _ _).hq _).showConn

theorem HostOnly.pages (h : HostOnly s t) : OnlyPages [Pg.HOSTQ, Pg.LOCKET, Pg.HEADPAIR] s t := fun q off i hq ho hi => by
  simp only [List.mem_cons, List.not_mem_nil, or_false, not_or] at hq
  exact h.rd q off i hq.1 hq.2.1 (fun hh => hq.2.2 hh.1) ho hi

/-! ### Journal records (13 R526) -/

/-- The dirty backpressure touches of HOSTQ only the time since which it holds (01 R40). -/
theorem State.dirtyBp_hq (s : State) : s.dirtyBp.hq = { s.hq with bpSince := s.dirtyBp.hq.bpSince } := by
  unfold State.dirtyBp
  dsimp only
  split
  · simp [State.count, State.wrN, State.wb]
  · split <;> simp [State.wb]

@[simp] theorem State.dirtyBp_pair (s : State) : s.dirtyBp.pair = s.pair :=
  (State.dirtyBp_kept (F := [.regs, .cells, .lines, .locket, .wake, .hq]) (by decide) (.refl _ s)).part (f := .pair)

theorem State.putRec_hq (s : State) (r : JRec) : (s.putRec r).hq = { s.hq with bpSince := (s.putRec r).hq.bpSince } := by
  unfold State.putRec
  extract_lets st r' src x
  have hx : ∀ c : Prop, ∀ [Decidable c], (if c then x.shipRec r' else x.showMirror).hq = s.hq := fun c _ => by split <;> rfl
  rw [State.dirtyBp_hq, hx]

/-- A record is retained under this head's present epoch, and changes nothing else of the pair. -/
theorem State.putRec_pair (s : State) (r : JRec) :
    (s.putRec r).pair = { s.pair with journal := insertRec { r with epoch := ownEpoch s } s.pair.journal } := by
  unfold State.putRec
  extract_lets st r' src x
  rw [State.dirtyBp_pair]
  split <;> rfl

theorem State.pairState_putRec (s : State) (r : JRec) : (s.putRec r).pairState = s.pairState := by
  unfold State.pairState State.rf
  rw [((HostOnly.refl s).putRec r).rd _ _ _ (by decide) (by decide) (by decide) (by decide) (by decide)]

/-- A command that holds a number voids it (13 R526). -/
theorem State.voidSeq_hq (s : State) (c : Cmd) : (s.voidSeq c).hq = { s.hq with bpSince := (s.voidSeq c).hq.bpSince } := by
  unfold State.voidSeq
  split
  · exact s.putRec_hq _
  · rfl

/-! ### How a command ends -/

theorem State.done_cmd {id : Nat} {c : Cmd} (sct sc : Nat) (b : List Byte) (h : mget s.hq.cmds id = some c) :
    mget (s.done id sct sc b).hq.cmds id = some { c with phase := 2, sct, sc, result := b, away := false } := by
  rw [State.done, State.setHq, mget_mmod_self _ h]

theorem State.done_cmd_ne {id k : Nat} (sct sc : Nat) (b : List Byte) (h : k ≠ id) :
    mget (s.done id sct sc b).hq.cmds k = mget s.hq.cmds k := by
  rw [State.done, State.setHq, mget_mmod_ne _ h]

theorem State.done_doneWith {id : Nat} {c : Cmd} (sct sc : Nat) (b : List Byte) (h : mget s.hq.cmds id = some c) :
    DoneWith (s.done id sct sc b) id sct sc b := ⟨_, State.done_cmd sct sc b h, rfl, rfl, rfl, rfl⟩

theorem State.done_only (s : State) (id sct sc : Nat) (b : List Byte) : OnlyParts [.hq] s (s.done id sct sc b) :=
  (State.done_kept (F := [.hq]) (by decide) (.refl _ s)).only

/-- What is done stays so while the command's entry stays. -/
theorem DoneWith.of_cmd {id sct sc : Nat} {b : List Byte} (h : DoneWith s id sct sc b) (hc : mget t.hq.cmds id = mget s.hq.cmds id) :
    DoneWith t id sct sc b := by
  unfold DoneWith
  rwa [hc]

theorem State.failCmd_cmd_ne {id k : Nat} (c : Cmd) (st : Nat × Nat) (h : k ≠ id) :
    mget (s.failCmd id c st).hq.cmds k = mget s.hq.cmds k := by
  rw [State.failCmd, State.done_cmd_ne _ _ _ h, State.voidSeq_hq]

theorem State.failCmd_failedWith {id : Nat} {c : Cmd} (st : Nat × Nat) (h : mget s.hq.cmds id = some c) :
    FailedWith s (s.failCmd id c st) id c st.1 st.2 := by
  refine ⟨State.done_cmd _ _ _ (by rw [State.voidSeq_hq]; exact h), fun hj => ?_, fun q hj => ?_⟩ <;>
    simp only [State.failCmd, State.voidSeq, hj]
  · rfl
  · exact congrArg Pair.journal (s.putRec_pair _)

theorem FailedWith.doneWith {id sct sc : Nat} {c : Cmd} (h : FailedWith s t id c sct sc) : DoneWith t id sct sc [] :=
  ⟨_, h.1, rfl, rfl, rfl, rfl⟩

/-- A command without a number ends with no change of the pair. -/
theorem State.failCmd_pair {id : Nat} {c : Cmd} (st : Nat × Nat) (h : c.jseq = none) : (s.failCmd id c st).pair = s.pair := by
  simp only [State.failCmd, State.voidSeq, h]
  rfl

/-- The number a command's first record takes, and the state in which it has been taken (03 R126). -/
def State.numbered (s : State) (c : Cmd) : State × Nat := match c.jseq with | some q => (s, q) | none => s.takeSeq

theorem State.putRecs_one (s : State) (id : Nat) (c : Cmd) (r : JRec) :
    s.putRecs id c [r] = ((s.numbered c).1.putRec { r with
      jseq := (s.numbered c).2, ns := c.ns, domain := ((s.nsp c.ns).map (·.domain)).getD 0, admGts := c.admGts }).written id (s.numbered c).2 := by
  unfold State.putRecs State.numbered
  cases c.jseq <;> rfl

/-- One record makes a write: journalled under its number, the command done or waiting for the partner (01 R38, 13 R526). -/
theorem State.putRecs_journals {id : Nat} {c : Cmd} (r : JRec) (h : mget s.hq.cmds id = some c) : Journals s (s.putRecs id c [r]) id c r := by
  have hnum : (s.numbered c).2 = c.jseq.getD s.hq.jseq ∧ (s.numbered c).1.pair = s.pair ∧ (s.numbered c).1.pairState = s.pairState ∧
      ownEpoch (s.numbered c).1 = ownEpoch s ∧ (s.numbered c).1.hq.cmds = s.hq.cmds ∧
      (s.numbered c).1.hq.jseq = if c.jseq = none then s.hq.jseq + 1 else s.hq.jseq := by
    unfold State.numbered
    cases c.jseq <;> exact ⟨rfl, rfl, rfl, rfl, rfl, rfl⟩
  rw [State.putRecs_one]
  generalize s.numbered c = x at hnum ⊢
  obtain ⟨hq, hpair, hst, hep, hcmds, hjseq⟩ := hnum
  refine ⟨?_, ?_, ?_⟩
  · refine (congrArg Pair.journal (x.1.putRec_pair _)).trans ?_
    rw [hpair, hep, hq]
  · rw [State.written, State.setHq, mget_mmod_self (v := c), State.pairState_putRec, hst, hq]
    rw [State.putRec_hq, hcmds, h]
  · refine (congrArg Hostq.jseq (x.1.putRec_hq _)).trans hjseq

theorem State.putRecs_cmd_ne {id k : Nat} (c : Cmd) (r : JRec) (h : k ≠ id) :
    mget (s.putRecs id c [r]).hq.cmds k = mget s.hq.cmds k := by
  have hcmds : (s.numbered c).1.hq.cmds = s.hq.cmds := by unfold State.numbered; cases c.jseq <;> rfl
  rw [State.putRecs_one, State.written, State.setHq, mget_mmod_ne _ h, State.putRec_hq, hcmds]

/-- That another command is done changes nothing a record depends on. -/
theorem Journals.of_done {k sct sc id : Nat} {b : List Byte} {c : Cmd} {r : JRec} (h : Journals (s.done k sct sc b) t id c r) :
    Journals s t id c r := by
  obtain ⟨hj, hc, hq⟩ := h
  exact ⟨hj, hc, hq⟩

/-! ### What using the map leaves alone (09 R378 to R380) -/

/-- From `s0` to `s` map pages may have been used: of the registers at most the Mapper's and Locket's differ, and the chunk records are
the same. -/
structure MapUsed (s0 s : State) : Prop where
  pages : OnlyPages [Pg.MAPPER, Pg.LOCKET] s0 s
  chunks : s.map.chunks = s0.map.chunks

theorem MapUsed.refl (s : State) : MapUsed s s := ⟨.refl _ _, rfl⟩

theorem MapUsed.page {ps : List Nat} (h : MapUsed s0 s) (hr : OnlyPages ps s t) (hps : ps ⊆ [Pg.MAPPER, Pg.LOCKET])
    (hm : t.map = s.map) : MapUsed s0 t := ⟨h.pages.trans (hr.mono hps), hm ▸ h.chunks⟩

theorem MapUsed.setMap (h : MapUsed s0 s) (m : Mapper) (hm : m.chunks = s.map.chunks) : MapUsed s0 (s.setMap m) :=
  ⟨h.pages.trans (.of_regs rfl), hm.trans h.chunks⟩

theorem MapUsed.wr (h : MapUsed s0 s) {off : Nat} (v : Word) (ho : off < 0x10000 := by decide) : MapUsed s0 (s.wr Pg.MAPPER off 0 v) :=
  h.page (s.wr_pages v ho (by decide)) (by decide) rfl

theorem MapUsed.irq (h : MapUsed s0 s) (b : Nat) : MapUsed s0 (s.irq Pg.MAPPER b) :=
  h.page (State.irq_pages _ _ _) (by decide) (by simp)

theorem MapUsed.log (h : MapUsed s0 s) (p code : Nat) (fs : List Pf) : MapUsed s0 (s.log p code fs) :=
  h.page (State.log_pages _ _ _ _) (by decide) (by simp)

theorem MapUsed.losePage (h : MapUsed s0 s) (n kind : Nat) : MapUsed s0 (s.losePage n kind) := by
  unfold State.losePage
  exact (((h.setMap _ (by rfl)).wr (off := Rg.MAPPER_STATUS) _).irq 1).log _ _ _

theorem MapUsed.usePage (h : MapUsed s0 s) (bad : List Nat) (n : Nat) : MapUsed s0 (s.usePage bad n).1 := by
  unfold State.usePage
  split
  · exact h.losePage n 0
  · dsimp only
    have hmiss : MapUsed s0 (s.count Pg.MAPPER Rg.MAPPER_CACHE_MISSES 1) := h.wr _
    split
    · exact (h.setMap _ (by rfl)).wr (off := Rg.MAPPER_CACHE_HITS) _
    · split
      · exact hmiss
      · split
        · exact hmiss.losePage _ _
        · exact hmiss.setMap _ (by rfl)

theorem MapUsed.findRun (h : MapUsed s0 s) (bad : List Nat) (level p r : Nat) : MapUsed s0 (s.findRun bad level p r).1 := by
  induction level generalizing s p with
  | zero => exact h.usePage bad p
  | succ level ih =>
    unfold State.findRun
    dsimp only
    split
    · exact h.usePage bad p
    · split
      · exact h.usePage bad p
      · exact ih (h.usePage bad p) _

theorem MapUsed.lookup (h : MapUsed s0 s) (bad : List Nat) (top : Option Nat) (levels g : Nat) :
    MapUsed s0 (s.lookup bad top levels g).1 := by
  unfold State.lookup
  split
  · exact h
  · next p =>
    have hv := h.findRun bad levels p (g / 16384)
    dsimp only
    split
    · exact hv
    · exact hv
    · split
      · exact hv
      · split
        · split
          · exact hv.usePage _ _
          · exact hv.usePage _ _
        · exact hv

theorem MapUsed.lookupGrain (h : MapUsed s0 s) (bad : List Nat) (n g : Nat) : MapUsed s0 (s.lookupGrain bad n g).1 := by
  unfold State.lookupGrain
  split
  · exact h
  · split
    · exact h.lookup _ _ _ _
    · exact h

theorem State.lookupGrain_pair (s : State) (bad : List Nat) (n g : Nat) : (s.lookupGrain bad n g).1.pair = s.pair :=
  (State.lookupGrain_kept (F := [.regs, .cells, .lines, .locket, .wake, .map]) (by decide) (.refl _ s)).part (f := .pair)

theorem State.lookupGrain_hq (s : State) (bad : List Nat) (n g : Nat) : (s.lookupGrain bad n g).1.hq = s.hq :=
  (State.lookupGrain_kept (F := [.regs, .cells, .lines, .locket, .wake, .map]) (by decide) (.refl _ s)).part (f := .hq)

theorem State.settleGot_hq (s : State) (g : Got) : (s.settleGot g).hq = s.hq :=
  (State.settleGot_kept (F := [.regs, .cells, .lines, .locket, .wake, .map]) (by decide) (.refl _ s)).part (f := .hq)

theorem State.lookupGrain_chunk (s : State) (bad : List Nat) (n g k : Nat) : (s.lookupGrain bad n g).1.chunk k = s.chunk k :=
  congrArg (mget · k) ((MapUsed.refl s).lookupGrain bad n g).chunks

/-- Which record holds a block depends on the pair and on HEADPAIR's registers alone. -/
theorem State.overlay_congr (hp : t.pair = s.pair) (hr : ∀ off i, off < 0x10000 → i < 0x10000 → t.rd Pg.HEADPAIR off i = s.rd Pg.HEADPAIR off i)
    (n lba : Nat) : t.overlay n lba = s.overlay n lba := by
  have hst : t.pairState = s.pairState := by unfold State.pairState State.rf; rw [hr _ _ (by decide) (by decide)]
  have hack : t.ackedJ = s.ackedJ := by
    unfold State.ackedJ State.rd64 State.rdN
    rw [hr _ _ (by decide) (by decide), hr _ _ (by decide) (by decide)]
  unfold State.overlay State.retained State.tookOver State.visible
  rw [hst, hack, hp]

theorem State.lookupGrain_overlay (s : State) (bad : List Nat) (n g m lba : Nat) :
    (s.lookupGrain bad n g).1.overlay m lba = s.overlay m lba :=
  State.overlay_congr (s.lookupGrain_pair bad n g)
    (fun off i ho hi => ((MapUsed.refl s).lookupGrain bad n g).pages _ off i (by decide) ho hi) m lba

/-! ### Reading one block (01 R41, R44, R45) -/

theorem State.chunksOf_nil (s : State) (got : List Got) : s.chunksOf got [] = (s, some (.ok [])) := by
  have hused : got.filter (fun _ => false) = [] := List.filter_eq_nil_iff.2 fun _ _ => Bool.false_ne_true
  simp only [State.chunksOf, List.filter_nil, List.not_mem_nil, decide_false, hused, List.any_nil, List.foldl_nil, List.map_nil,
    Bool.or_self, Bool.false_eq_true, if_false]

/-- One chunk that is not lost, as the read strand got it. -/
theorem State.chunksOf_one {g : Got} {k : Chunk} (h : s.chunk g.chunk = some k) (hl : k.lost = false) :
    s.chunksOf [g] [g.chunk] = (s.settleGot g, some (if g.verdict = 3 then .error (2, 0x81) else .ok [g.data])) := by
  simp [State.chunksOf, h, hl]
  split <;> rfl

/-- A block that a record not yet recorded holds is read from the record. -/
theorem State.readBlocks_overlay {n lba : Nat} {q : JRec} (x : Ns) (got : List Got) (h : s.overlay n lba = some q) :
    s.readBlocks n x lba 1 got = (s, some (.ok
      (if q.kind = 1 then sliceB q.data ((lba - q.loc) * x.blockBytes) x.blockBytes else List.replicate x.blockBytes 0))) := by
  simp [State.readBlocks, h, State.chunksOf_nil]

/-- A block no record holds is read through the map: zeros where its entry names no chunk. -/
theorem State.readBlocks_unmapped {n lba : Nat} {e : MEntry} (x : Ns) (got : List Got) (h : s.overlay n lba = none)
    (he : (s.lookupGrain [] n (lba / 4)).2.1 = .ok e) (hk : e.kind ≠ 1) :
    s.readBlocks n x lba 1 got = ((s.lookupGrain [] n (lba / 4)).1, some (.ok (List.replicate x.blockBytes 0))) := by
  simp [State.readBlocks, h, he, hk, State.chunksOf_nil, State.lookupGrain_overlay, mget, mput, mgetD]

/-- A block whose entry names a chunk is cut from the chunk's bytes. -/
theorem State.readBlocks_chunk {n lba : Nat} {e : MEntry} {k : Chunk} {g : Got} (x : Ns) (h : s.overlay n lba = none)
    (he : (s.lookupGrain [] n (lba / 4)).2.1 = .ok e) (hk : e.kind = 1) (hc : s.chunk e.target = some k) (hl : k.lost = false)
    (hg : g.chunk = e.target) :
    s.readBlocks n x lba 1 [g] = ((s.lookupGrain [] n (lba / 4)).1.settleGot g, some (if g.verdict = 3 then .error (2, 0x81) else
      .ok (sliceB g.data (lba % 4 * x.blockBytes) x.blockBytes))) := by
  have hread := State.chunksOf_one (s := (s.lookupGrain [] n (lba / 4)).1) (g := g) (by rw [hg, State.lookupGrain_chunk]; exact hc) hl
  rw [hg] at hread
  by_cases hv : g.verdict = 3 <;>
    simp [State.readBlocks, h, he, hk, hv, hread, State.lookupGrain_overlay, mget, mput, mgetD]

/-! ### When a host command starts, and what bars it (03 R128, R131) -/

theorem cmdAct_starts {id : Nat} {c : Cmd} {x : Ns} {kv : Bool} {op : Nat} {ops : List Nat} (f : State → Cmd → Ns → State)
    (h : Starts s id c x kv op) (hop : op ∈ ops) : cmdAct id kv ops s f = .next (f s c x) := by
  obtain ⟨ha, hc, hx, hph, hkv, hop', hf, hm⟩ := h
  subst hop'
  simp [cmdAct, hc, hx, actIf, ha, hph, hkv, hop, hf, hm]

theorem Starts.cmd {id : Nat} {c : Cmd} {x : Ns} {kv : Bool} {op : Nat} (h : Starts s id c x kv op) : mget s.hq.cmds id = some c := h.2.1

theorem State.blockBad_long {c : Cmd} {x : Ns} {blocks : Nat} (write : Bool) (h : 2 ^ 21 < blocks * x.blockBytes) :
    s.blockBad c x blocks write true = some (0, 2) := by
  simp only [State.blockBad, Bool.true_and, decide_eq_true h, if_true]

theorem State.blockBad_range {c : Cmd} {x : Ns} {blocks : Nat} (write : Bool) (h : blocks * x.blockBytes ≤ 2 ^ 21) (hc : c.compat = false)
    (hr : x.blocks < c.slba + blocks) : s.blockBad c x blocks write true = some (0, 0x80) := by
  simp only [State.blockBad, Bool.true_and, decide_eq_false (Nat.not_lt.2 h), hc, Bool.false_and, Bool.false_eq_true, if_false, if_pos hr]

theorem State.blockBad_conflict {c : Cmd} {x : Ns} {blocks : Nat} (h : blocks * x.blockBytes ≤ 2 ^ 21) (hc : c.compat = false)
    (hr : c.slba + blocks ≤ x.blocks) (hs : x.snapOf = none) (hconf : s.conflicts c true = true) :
    s.blockBad c x blocks true true = some (0, 0x83) := by
  simp only [State.blockBad, Bool.true_and, decide_eq_false (Nat.not_lt.2 h), hc, Bool.false_and, Bool.false_eq_true, if_false,
    if_neg (Nat.not_lt.2 hr), hs, Option.isSome_none, hconf, if_true]

/-- The one range of a deallocation that names blocks. -/
theorem dsmRanges_one {data : List Byte} (h : leAt data 4 4 ≠ 0) :
    (dsmRanges data 1).filter (fun r => r.2 != 0) = [(leAt data 8 8, leAt data 4 4)] := by
  simp [dsmRanges, h]

/-- Command `id`, `c`, of block namespace `x`, is the first half of a fused Compare and Write that may start, and `wid`, `w`, its other half,
of the same blocks (03 R131). -/
structure FusedStarts (s : State) (id : Nat) (c : Cmd) (x : Ns) (wid : Nat) (w : Cmd) : Prop where
  alive : s.alive = true
  cmd : mget s.hq.cmds id = some c
  ns : s.nsp c.ns = some x
  phase : c.phase = 0
  block : x.kv = false
  op : c.op = 5
  fuse : c.fuse = 1
  may : s.mayStart id c = true
  next : ((s.sameQueue c).find? fun e => decide (id < e.1)) = some (wid, w)
  wop : w.op = 1
  wfuse : w.fuse = 2
  wphase : w.phase = 0
  wns : w.ns = c.ns
  wslba : w.slba = c.slba
  wnlb : w.nlb = c.nlb

theorem FusedStarts.ne {id wid : Nat} {c w : Cmd} {x : Ns} (h : FusedStarts s id c x wid w) : wid ≠ id := by
  have hlt := List.find?_some h.next
  exact Nat.ne_of_gt (of_decide_eq_true hlt)

/-- A fused pair whose blocks can be read writes where they agree with what the host sent, and ends both halves where they do not. -/
theorem exec_compareAndWrite {id wid : Nat} {c w : Cmd} {x : Ns} {got : List Got} {u : State} {b : List Byte} (cmp data : List Byte)
    (h : FusedStarts s id c x wid w) (hb : s.blockBad c x c.nlb true true = none) (hb' : s.blockBad w x w.nlb true true = none)
    (hr : s.readBlocks c.ns x c.slba c.nlb got = (u, some (.ok b))) :
    exec (.compareAndWrite id got cmp data) s = .next (if b ≠ padTo b.length cmp
      then (u.failCmd id c (2, 0x85)).failCmd wid w (0, 9)
      else (u.done id 0 0 []).putRecs wid w
        [{ jseq := 0, kind := 1, loc := w.slba, count := w.nlb, data := padTo (w.nlb * x.blockBytes) data }]) := by
  have hstart : (c.phase == 0 && !x.kv && c.op == 0x05 && c.fuse == 1 && s.mayStart id c) = true := by
    simp [h.phase, h.block, h.op, h.fuse, h.may]
  have hpair : (w.op == 0x01 && w.fuse == 2 && w.phase == 0 && w.ns == c.ns) = true := by simp [h.wop, h.wfuse, h.wphase, h.wns]
  have hsame : ¬(w.slba ≠ c.slba ∨ w.nlb ≠ c.nlb) := by simp [h.wslba, h.wnlb]
  show execCompareAndWrite id got cmp data s = _
  simp only [execCompareAndWrite, h.cmd, h.ns, h.next, hstart, hpair, actIf, h.alive, Bool.and_true, if_true, if_neg hsame, hb, hb', hr,
    Bool.not_true, Bool.false_eq_true, if_false]

/-- Settles O32: a command that starts runs its meaning (`cmdAct_starts`), and the three ways in which one ends say what it leaves: done with a
status (`done_doneWith`), without effect (`failCmd_failedWith`), or with its one journal record (`putRecs_journals`). -/
theorem blockCommands : Obligations.BlockCommands := by
  refine ⟨fun s id c x got h => ?_, fun s id c x data bad h => ?_, fun s id c x h => ?_, fun s id c x data h => ?_,
    fun s id c x got data u b h hb hr hu => ?_, fun s id c x got data u b n h hn hb hrs hr hu => ?_,
    fun s id c x wid w got cmp data u b ha hc hx hph hkv hop hfu hm hnext hw hwop hwfu hwph hwns hws hwn hb hb' hr hu => ?_,
    fun s id c ha hc hph hop hfu hm => ?_, fun s id c ha hc hph hkv hop => ?_⟩
  · -- Read
    refine ⟨_, cmdAct_starts _ h (by decide), fun hl => ?_, fun hb hn q hq => ?_, fun hb hn ho e he hk => ?_,
      fun hb hn ho e k g he hk hc hl hgot hg => ?_⟩
    · simp only [State.blockBad_long false hl]
      exact ⟨State.done_doneWith _ _ _ h.cmd, State.done_only _ _ _ _ _⟩
    · simp only [hb]
      simp only [hn, State.readBlocks_overlay x got hq]
      exact State.done_doneWith _ _ _ h.cmd
    · simp only [hb]
      simp only [hn, State.readBlocks_unmapped x got ho he hk]
      exact State.done_doneWith _ _ _ (State.lookupGrain_hq s _ _ _ ▸ h.cmd)
    · subst hgot
      simp only [hb]
      simp only [hn, State.readBlocks_chunk x ho he hk hc hl hg]
      have hcmd : mget ((s.lookupGrain [] c.ns (c.slba / 4)).1.settleGot g).hq.cmds id = some c := by
        rw [State.settleGot_hq, State.lookupGrain_hq]; exact h.cmd
      refine ⟨fun hv => ?_, fun hv => ?_⟩
      · simp only [if_neg (show g.verdict ≠ 3 by omega)]
        exact State.done_doneWith _ _ _ hcmd
      · simp only [if_pos hv]
        exact State.done_doneWith _ _ _ hcmd
  · -- Write
    refine ⟨_, cmdAct_starts _ h (by decide), fun hl => ?_, fun hb e he => ?_, fun hl hc hr => ?_, fun hl hc hr hs hconf => ?_,
      fun hb he => ?_⟩
    · simp only [State.blockBad_long true hl]
      exact State.failCmd_failedWith _ h.cmd
    · simp only [hb, he]
      exact State.failCmd_failedWith _ h.cmd
    · simp only [State.blockBad_range true hl hc hr]
      exact State.failCmd_failedWith _ h.cmd
    · simp only [State.blockBad_conflict hl hc hr hs hconf]
      exact State.failCmd_failedWith _ h.cmd
    · simp only [hb, he]
      exact State.putRecs_journals _ h.cmd
  · -- Write Zeroes
    refine ⟨_, cmdAct_starts _ h (by decide), fun e he => ?_, fun hb => ?_⟩
    · simp only [he]
      exact State.failCmd_failedWith _ h.cmd
    · simp only [hb]
      exact State.putRecs_journals _ h.cmd
  · -- Dataset Management
    refine ⟨_, cmdAct_starts _ h (by decide), fun hd => ?_, fun hd h1 hs hc h4 => ⟨fun hr => ?_, fun hr => ?_⟩⟩
    · simp only [hd, Bool.not_false, if_true]
      exact State.failCmd_failedWith _ h.cmd
    · simp [hd, h1, dsmRanges_one h4, hs, hc, hr]
      exact State.failCmd_failedWith (0, 0x80) h.cmd
    · simp [hd, h1, dsmRanges_one h4, hs, hc, Nat.not_lt.2 hr]
      exact State.putRecs_journals _ h.cmd
  · -- Compare
    refine ⟨_, cmdAct_starts _ h (by decide), ?_⟩
    have hcmd : mget u.hq.cmds id = some c := hu ▸ h.cmd
    simp only [hb, hr]
    refine ⟨fun he => ?_, fun he => ?_, ?_⟩
    · rw [if_pos he]; exact State.done_doneWith _ _ _ hcmd
    · rw [if_neg he]; exact State.done_doneWith _ _ _ hcmd
    · split <;> rfl
  · -- Copy
    subst hn
    refine ⟨_, cmdAct_starts _ h (by decide), ?_⟩
    have hin : ((copyRanges data (c.dw 12 % 256 + 1)).any fun r => decide (x.blocks < r.1 + r.2)) = false := by
      simpa using fun a b hab => hrs (a, b) hab
    simp only [hb, hin, hr, Bool.false_eq_true, if_false]
    exact State.putRecs_journals _ (hu ▸ h.cmd)
  · -- Compare and Write
    have hcu : mget u.hq.cmds id = some c := hu ▸ hc
    have hwu : mget u.hq.cmds wid = some w := hu ▸ hw
    have hstart : FusedStarts s id c x wid w := ⟨ha, hc, hx, hph, hkv, hop, hfu, hm, hnext, hwop, hwfu, hwph, hwns, hws, hwn⟩
    have hne := hstart.ne
    refine ⟨_, exec_compareAndWrite cmp data hstart hb hb' hr, fun he => ?_, fun he => ?_⟩
    · rw [if_neg (not_not_intro he)]
      exact ⟨(State.done_doneWith 0 0 [] hcu).of_cmd (State.putRecs_cmd_ne _ _ hne.symm),
        (State.putRecs_journals _ ((State.done_cmd_ne _ _ _ hne).trans hwu)).of_done⟩
    · rw [if_pos he]
      have hw' := (State.failCmd_cmd_ne c (2, 0x85) hne).trans hwu
      refine ⟨(State.failCmd_failedWith (2, 0x85) hcu).doneWith.of_cmd (State.failCmd_cmd_ne _ _ hne.symm),
        (State.failCmd_failedWith (0, 9) hw').doneWith, fun hj hj' => ?_⟩
      rw [State.failCmd_pair _ hj', State.failCmd_pair _ hj]
  · -- Flush
    refine ⟨s.done id 0 0 [], ?_, State.done_doneWith _ _ _ hc, State.done_only _ _ _ _ _⟩
    show execFlush id s = _
    simp only [execFlush, hc]
    exact actIf_alive _ ha (by simp [hph, hop, hfu, hm])
  · -- an opcode not supported
    refine ⟨s.failCmd id c (0, 1), ?_, State.failCmd_failedWith _ hc⟩
    show execUnsupportedNvmCommand id s = _
    simp only [execUnsupportedNvmCommand, hc, hkv]
    exact actIf_alive _ ha (by simpa [hph] using hop)

/-! ### Host connections that end with the yield (13 R539) -/

theorem State.endFlight_hq (s : State) (io : Bool) : (s.endFlight io).hq = s.hq :=
  (State.endFlight_kept (F := [.regs, .cells, .lines, .locket, .wake]) (by decide) (.refl _ s)).part (f := .hq)

theorem State.queueReset_queues (s : State) (ctrl qid cause : Nat) (silent : Bool) :
    (s.queueReset ctrl qid cause silent).hq.queues = mdel s.hq.queues (qkey ctrl qid) := by
  unfold State.queueReset
  split
  · next h => exact (mdel_of_absent h).symm
  · extract_lets mine cut cmds src x y z w r
    have hy : y.hq.queues = mdel s.hq.queues (qkey ctrl qid) :=
      foldl_keeps (fun s => s.hq.queues) (fun s e => by rw [State.voidSeq_hq]) _ x
    have hz : z.hq.queues = y.hq.queues := by
      simp only [z]
      split
      · exact foldl_keeps (fun s => s.hq.queues) (fun s e => by rw [State.endFlight_hq]) _ y
      · rfl
    simp only [r]
    split <;> exact (congrArg Hostq.queues (State.log_hq _ _ _ _)).trans (hz.trans hy)

/-- Of the queues reset in turn none is left. -/
theorem mem_queues_foldl_queueReset {l : List (Nat × Queue)} {e : Nat × Queue}
    (h : e ∈ (l.foldl (fun s e => s.queueReset (e.1 / 256) (e.1 % 256) 1 true) s).hq.queues) :
    e ∈ s.hq.queues ∧ ∀ x ∈ l, e.1 ≠ x.1 := by
  induction l generalizing s with
  | nil => exact ⟨h, by simp⟩
  | cons a l ih =>
    obtain ⟨hmem, hl⟩ := ih h
    rw [State.queueReset_queues, mdel, List.mem_filter] at hmem
    have hkey : qkey (a.1 / 256) (a.1 % 256) = a.1 := Nat.div_add_mod' a.1 256
    refine ⟨hmem.1, fun x hx => ?_⟩
    rcases List.mem_cons.1 hx with rfl | hx
    · simpa [hkey] using hmem.2
    · exact hl x hx

theorem State.dropConnections_queues (s : State) : s.dropConnections.hq.queues = [] :=
  List.eq_nil_iff_forall_not_mem.2 fun e he => by
    obtain ⟨hmem, hne⟩ := mem_queues_foldl_queueReset he
    exact hne e hmem rfl

/-! ### The change of the pair state at a yield (13 R538) -/

/-- The pair state, pins and causes of a head that has yielded: the first part of `State.yield`. -/
def State.enterYielded (s : State) (cause : Nat) : State :=
  ((s.wf Pg.HEADPAIR Rg.HEADPAIR_YIELD_CAUSE 7 0 cause).stopAcks.wb Pg.HEADPAIR Rg.HEADPAIR_STATE 3 false).setPairState 6

/-- HEADPAIR's registers after a change of the pair state, but for HEADPAIR_PINS: those of the state whose interrupt has come. -/
theorem State.setPairState_rd (s : State) (st : Nat) {off i : Nat} (hi : i < 0x10000) (h : off ≠ Rg.HEADPAIR_PINS) :
    (s.setPairState st).rd Pg.HEADPAIR off i = ((s.wf Pg.HEADPAIR Rg.HEADPAIR_STATE 2 0 st).irq Pg.HEADPAIR 0).rd Pg.HEADPAIR off i := by
  unfold State.setPairState State.wb
  rw [State.wr_rd_off _ _ hi h]
  exact State.rd_of_regs rfl

theorem State.setPairState_pages (s : State) (st : Nat) : OnlyPages [Pg.HEADPAIR] s (s.setPairState st) := fun q off i hq ho hi => by
  have hne : q ≠ Pg.HEADPAIR := by simpa using hq
  have hwf : OnlyPages [Pg.HEADPAIR] s (s.wf Pg.HEADPAIR Rg.HEADPAIR_STATE 2 0 st) := s.wf_pages 2 0 st (by decide)
  have hirq := (hwf.trans (State.irq_pages _ Pg.HEADPAIR 0)) q off i hq ho hi
  unfold State.setPairState State.wb
  rw [State.rd_wr_ne _ _ (rkey_page (by decide) ho (by decide) hi hne)]
  exact (State.rd_of_regs rfl).trans hirq

/-- What HEADPAIR_STATE holds once the head has yielded. -/
theorem State.enterYielded_state (s : State) (cause : Nat) : (s.enterYielded cause).rd Pg.HEADPAIR Rg.HEADPAIR_STATE =
    putFld (putBit (putBit (s.rd Pg.HEADPAIR Rg.HEADPAIR_STATE) 6 true) 3 false) 2 0 6 := by
  unfold State.enterYielded
  rw [State.setPairState_rd _ _ (by decide) (by decide), State.irq_rd_body _ _ _ (by decide) (by decide)]
  unfold State.stopAcks State.wb State.wf
  simp only [State.rd_wr]
  rw [State.wr_rd_off _ _ (by decide) (by decide)]

/-- HEADPAIR's registers that the yield leaves alone. -/
theorem State.enterYielded_rd (s : State) (cause : Nat) {off i : Nat} (hi : i < 0x10000) (h1 : off ≠ Rg.HEADPAIR_STATE)
    (h2 : off ≠ Rg.HEADPAIR_YIELD_CAUSE) (h3 : off ≠ Rg.HEADPAIR_PINS) (h4 : 0x100 ≤ off) :
    (s.enterYielded cause).rd Pg.HEADPAIR off i = s.rd Pg.HEADPAIR off i := by
  unfold State.enterYielded
  rw [State.setPairState_rd _ _ hi h3, State.irq_rd_body _ _ _ hi h4]
  unfold State.stopAcks State.wb State.wf
  rw [State.wr_rd_off _ _ hi h1, State.wr_rd_off _ _ hi h1, State.wr_rd_off _ _ hi h1, State.wr_rd_off _ _ hi h2]

theorem State.enterYielded_cause (s : State) (cause : Nat) :
    (s.enterYielded cause).rf Pg.HEADPAIR Rg.HEADPAIR_YIELD_CAUSE 7 0 = cause % 256 := by
  have hrd : (s.enterYielded cause).rd Pg.HEADPAIR Rg.HEADPAIR_YIELD_CAUSE =
      (s.wf Pg.HEADPAIR Rg.HEADPAIR_YIELD_CAUSE 7 0 cause).rd Pg.HEADPAIR Rg.HEADPAIR_YIELD_CAUSE := by
    unfold State.enterYielded
    rw [State.setPairState_rd _ _ (by decide) (by decide), State.irq_rd_body _ _ _ (by decide) (by decide)]
    unfold State.stopAcks State.wb State.wf
    rw [State.wr_rd_off _ _ (by decide) (by decide), State.wr_rd_off _ _ (by decide) (by decide),
      State.wr_rd_off _ _ (by decide) (by decide)]
  exact (State.rf_congr _ _ hrd).trans (State.rf_wf _ _ _ _ _ _ _ (by decide) (by decide))

theorem State.enterYielded_raised (s : State) (cause : Nat) : Raised (s.enterYielded cause) Pg.HEADPAIR 0 := by
  unfold State.enterYielded
  exact (State.rb_congr 0 (State.setPairState_rd _ _ (by decide) (by decide))).trans (State.irq_bit _ _ _ (by decide))

theorem State.enterYielded_pages (s : State) (cause : Nat) : OnlyPages [Pg.HEADPAIR] s (s.enterYielded cause) := by
  unfold State.enterYielded State.stopAcks
  exact ((s.wf_pages 7 0 cause (by decide)).trans (State.wb_pages _ 6 true (by decide))).trans
    ((State.wb_pages _ 3 false (by decide)).trans (State.setPairState_pages _ 6))

theorem State.enterYielded_pins (s : State) (cause : Nat) : (s.enterYielded cause).pins.headYieldN = some false := rfl

/-! ### What follows it: YIELD sent, ports disabled, connections lost (13 R539) -/

@[simp] theorem State.control_rd (s : State) (ty cause n q off i : Nat) : (s.control ty cause n).rd q off i = s.rd q off i := rfl

theorem State.control_out (s : State) (ty cause n : Nat) : (s.control ty cause n).out = .seam 0 ty [s.headId, cause, n] :: s.out := rfl

theorem State.control_headId (s : State) (ty cause n : Nat) : (s.control ty cause n).headId = s.headId := rfl

/-- The ports count as disabled by the yield. -/
def State.markPortsOff (s : State) : State := { s with pair := { s.pair with portsOff := true } }

/-- The Ethernet ports are disabled: a part of `State.yield`. -/
def State.closePorts (s : State) : State :=
  (List.range 2).foldl (fun s p => s.wf (Pg.ETH + p) Rg.ETH_LINK_STATUS 3 0 0) s.markPortsOff

theorem State.closePorts_eq (s : State) : s.closePorts =
    (s.markPortsOff.wf (Pg.ETH + 0) Rg.ETH_LINK_STATUS 3 0 0).wf (Pg.ETH + 1) Rg.ETH_LINK_STATUS 3 0 0 := rfl

theorem State.closePorts_pages (s : State) : OnlyPages [Pg.ETH, Pg.ETH + 1] s s.closePorts := by
  have hmark : OnlyPages [Pg.ETH, Pg.ETH + 1] s s.markPortsOff := .of_regs rfl
  rw [State.closePorts_eq]
  exact (hmark.trans ((State.wf_pages _ 3 0 0 (by decide)).mono (by decide))).trans ((State.wf_pages _ 3 0 0 (by decide)).mono (by decide))

theorem State.closePorts_status (s : State) {p : Nat} (hp : p < 2) : s.closePorts.rf (Pg.ETH + p) Rg.ETH_LINK_STATUS 3 0 = 0 := by
  rw [State.closePorts_eq]
  rcases (by omega : p = 0 ∨ p = 1) with rfl | rfl
  · rw [State.rf_congr 3 0 (State.wf_pages _ 3 0 0 (by decide) _ _ _ (by decide) (by decide) (by decide))]
    exact State.rf_wf _ _ _ _ _ _ _ (by decide) (by decide)
  · exact State.rf_wf _ _ _ _ _ _ _ (by decide) (by decide)

theorem State.closePorts_kept (s : State) : Kept [.regs, .pair] s s.closePorts := by
  have hmark : Kept [.regs, .pair] s s.markPortsOff := Kept.lit_iff.2 (Kept.upd_pair (by decide) (.refl _ s))
  rw [State.closePorts_eq]
  exact State.wf_kept (by decide) (State.wf_kept (by decide) hmark)

/-- The yield once the pair state has changed and YIELD is sent: the record, the ports, the host connections. -/
def State.leaveHosts (s : State) (fs : List Pf) : State := (s.log Pg.HEADPAIR Ev.HEADPAIR_YIELD fs).closePorts.dropConnections

theorem State.leaveHosts_host (s : State) (fs : List Pf) :
    HostOnly (s.log Pg.HEADPAIR Ev.HEADPAIR_YIELD fs).closePorts (s.leaveHosts fs) := (HostOnly.refl _).dropConnections

/-- Of the registers at most HOSTQ's, Locket's, the ports' and HEADPAIR_MIRROR_FREE change. -/
theorem State.leaveHosts_rd (s : State) (fs : List Pf) {q off i : Nat} (hq : q ∉ [Pg.HOSTQ, Pg.LOCKET, Pg.ETH, Pg.ETH + 1])
    (hm : ¬(q = Pg.HEADPAIR ∧ off = Rg.HEADPAIR_MIRROR_FREE)) (ho : off < 0x10000) (hi : i < 0x10000) :
    (s.leaveHosts fs).rd q off i = s.rd q off i := by
  simp only [List.mem_cons, List.not_mem_nil, or_false, not_or] at hq
  obtain ⟨h1, h2, h3, h4⟩ := hq
  rw [(s.leaveHosts_host fs).rd q off i h1 h2 hm ho hi, State.closePorts_pages _ q off i (by simp [h3, h4]) ho hi,
    State.log_rd _ _ _ _ h2 ho hi]

theorem State.leaveHosts_headpair (s : State) (fs : List Pf) {off : Nat} (hm : off ≠ Rg.HEADPAIR_MIRROR_FREE) (ho : off < 0x10000) :
    (s.leaveHosts fs).rd Pg.HEADPAIR off = s.rd Pg.HEADPAIR off :=
  s.leaveHosts_rd fs (by decide) (fun h => hm h.2) ho (by decide)

theorem State.leaveHosts_status (s : State) (fs : List Pf) {p : Nat} (hp : p < 2) :
    (s.leaveHosts fs).rf (Pg.ETH + p) Rg.ETH_LINK_STATUS 3 0 = 0 := by
  have hrd := (s.leaveHosts_host fs).rd (Pg.ETH + p) Rg.ETH_LINK_STATUS 0
  refine (State.rf_congr 3 0 (hrd ?_ ?_ ?_ (by decide) (by decide))).trans (State.closePorts_status _ hp) <;>
    rcases (by omega : p = 0 ∨ p = 1) with rfl | rfl <;> decide

theorem State.leaveHosts_pins (s : State) (fs : List Pf) : (s.leaveHosts fs).pins = s.pins := by
  have h1 : (s.leaveHosts fs).pins = (s.log Pg.HEADPAIR Ev.HEADPAIR_YIELD fs).closePorts.pins :=
    (State.dropConnections_kept (F := [.regs, .cells, .lines, .locket, .wake, .hq, .pair, .out]) (by decide) (.refl _ _)).part (f := .pins)
  have h2 : (s.log Pg.HEADPAIR Ev.HEADPAIR_YIELD fs).closePorts.pins = (s.log Pg.HEADPAIR Ev.HEADPAIR_YIELD fs).pins :=
    (State.closePorts_kept _).part (f := .pins)
  rw [h1, h2, State.log_pins]

theorem State.leaveHosts_portsOff (s : State) (fs : List Pf) : (s.leaveHosts fs).pair.portsOff = true := by
  rw [(s.leaveHosts_host fs).pair]
  rfl

theorem State.leaveHosts_out (s : State) (fs : List Pf) : s.out <:+ (s.leaveHosts fs).out := by
  have h := (s.leaveHosts_host fs).out
  rwa [(State.closePorts_kept _).part (f := .out), State.log_out] at h

/-! ### The yield (13 R539 to R541) -/

theorem State.yield_of_yielded (cause : Nat) (h : s.pairState = 6) : s.yield cause = s := by
  simp only [State.yield, h, if_true]

theorem State.yield_of_solo {cause : Nat} (h : s.pairState = 5) (hc : cause ∉ soloCauses) :
    s.yield cause = s.log Pg.HEADPAIR Ev.HEADPAIR_YIELD [.v 1 cause, .v 1 5] := by
  simp [State.yield, h, hc]

theorem State.yield_eq {cause : Nat} (h6 : s.pairState ≠ 6) (h5 : s.pairState = 5 → cause ∈ soloCauses) :
    s.yield cause = (((s.enterYielded cause).control 1 cause 0).control 1 cause 0).leaveHosts [.v 1 cause, .v 1 s.pairState] := by
  have hn : ¬(s.pairState = 5 ∧ cause ∉ soloCauses) := fun h => h.2 (h5 h.1)
  simp only [State.yield, if_neg h6, if_neg hn]
  rfl

/-- The pages that a yield may change registers of. -/
def yieldPages : List Nat := [Pg.HEADPAIR, Pg.HOSTQ, Pg.LOCKET, Pg.ETH, Pg.ETH + 1]

theorem State.yield_pages (s : State) (cause : Nat) : OnlyPages yieldPages s (s.yield cause) := by
  by_cases h6 : s.pairState = 6
  · rw [State.yield_of_yielded _ h6]; exact .refl _ _
  by_cases h5 : s.pairState = 5 → cause ∈ soloCauses
  · intro q off i hq ho hi
    rw [State.yield_eq h6 h5]
    simp only [yieldPages, List.mem_cons, List.not_mem_nil, or_false, not_or] at hq
    obtain ⟨h1, h2, h3, h4, h5⟩ := hq
    rw [State.leaveHosts_rd _ _ (by simp [h2, h3, h4, h5]) (fun h => h1 h.1) ho hi, State.control_rd, State.control_rd]
    exact s.enterYielded_pages cause q off i (by simp [h1]) ho hi
  · obtain ⟨h5, hc⟩ := Classical.not_imp.1 h5
    rw [State.yield_of_solo h5 hc]
    exact (State.log_pages _ _ _ _).mono (by decide)

/-- The yield does what 13 R539 and R541 say. -/
theorem State.yields (s : State) (cause : Nat) : Yields s (s.yield cause) cause := by
  refine ⟨fun h6 => ?_, fun h5 hc => ?_, fun h6 h5 => ?_⟩
  · rw [State.yield_of_yielded _ h6]
    exact ⟨h6, rfl, rfl⟩
  · rw [State.yield_of_solo h5 hc]
    refine ⟨(State.rf_congr 2 0 (s.log_rd _ _ _ (by decide) (by decide) (by decide))).trans h5, by simp, by simp, by simp, s.log_told _ _ _⟩
  · rw [State.yield_eq h6 h5]
    generalize hx : ((s.enterYielded cause).control 1 cause 0).control 1 cause 0 = x
    have hout : Out.seam 0 1 [s.headId, cause, 0] ∈ x.out := by
      have hid : (s.enterYielded cause).headId = s.headId :=
        State.rf_congr 0 0 (s.enterYielded_rd cause (by decide) (by decide) (by decide) (by decide) (by decide))
      rw [← hx, State.control_out, State.control_headId, hid]
      exact List.mem_cons_self
    have hrd : ∀ off, off ≠ Rg.HEADPAIR_MIRROR_FREE → off < 0x10000 →
        (x.leaveHosts [.v 1 cause, .v 1 s.pairState]).rd Pg.HEADPAIR off = (s.enterYielded cause).rd Pg.HEADPAIR off := fun off hm ho => by
      rw [State.leaveHosts_headpair _ _ hm ho, ← hx, State.control_rd, State.control_rd]
    have hst : (x.leaveHosts [.v 1 cause, .v 1 s.pairState]).rd Pg.HEADPAIR Rg.HEADPAIR_STATE =
        putFld (putBit (putBit (s.rd Pg.HEADPAIR Rg.HEADPAIR_STATE) 6 true) 3 false) 2 0 6 := by
      rw [hrd _ (by decide) (by decide), s.enterYielded_state cause]
    refine ⟨?_, ?_, ?_, ?_, ?_, ?_, State.leaveHosts_portsOff _ _, fun p hp => State.leaveHosts_status _ _ hp, rfl,
      State.dropConnections_queues _, (State.leaveHosts_out _ _).subset hout⟩
    · rw [State.pairState, State.rf, hst]
      exact fld_putFld _ _ _ _ (by decide) (by decide)
    · exact (State.rb_congr 0 (hrd _ (by decide) (by decide))).trans (s.enterYielded_raised cause)
    · exact (State.rf_congr 7 0 (hrd _ (by decide) (by decide))).trans (s.enterYielded_cause cause)
    · rw [State.leaveHosts_pins, ← hx]
      exact s.enterYielded_pins cause
    · rw [State.rb, hst, bitW_putFld_ne _ _ _ _ _ (by decide) (by decide) (by decide), bitW_putBit_ne _ _ _ _ (by decide) (by decide),
        bitW_putBit _ _ _ (by decide)]
    · rw [State.rb, hst, bitW_putFld_ne _ _ _ _ _ (by decide) (by decide) (by decide), bitW_putBit _ _ _ (by decide)]

/-- A yield from a state that shows the same pair, hosts and outside. -/
theorem Yields.of_same {cause : Nat} (h : Yields u t cause) (hst : u.pairState = s.pairState) (hid : u.headId = s.headId)
    (hp : u.pair = s.pair) (ho : u.out = s.out) (hh : u.hq = s.hq) : Yields s t cause := by
  unfold Yields at *
  rwa [hst, hid, hp, ho, hh] at h

/-! ### The MP page (17 R657) -/

/-- What LOCKSTEP_DISAGREEMENT does before the yield (17 R657). -/
def State.noteMismatch (s : State) : State :=
  ((s.wb Pg.MP Rg.MP_STATUS 1 true).wb Pg.MP Rg.MP_STATUS 0 false).log Pg.MP Ev.MP_LOCKSTEP_MISMATCH [.v 8 s.gts]

theorem State.noteMismatch_pages (s : State) : OnlyPages [Pg.MP, Pg.LOCKET] s s.noteMismatch :=
  (((s.wb_pages 1 true (by decide)).trans (State.wb_pages _ 0 false (by decide))).mono (by decide)).trans
    ((State.log_pages _ _ _ _).mono (by decide))

theorem State.noteMismatch_status (s : State) : s.noteMismatch.rd Pg.MP Rg.MP_STATUS =
    putBit (putBit (s.rd Pg.MP Rg.MP_STATUS) 1 true) 0 false := by
  unfold State.noteMismatch
  rw [State.log_rd _ _ _ _ (by decide) (by decide) (by decide)]
  simp [State.wb]

theorem State.noteMismatch_kept (s : State) : Kept [.regs, .cells, .lines, .locket, .wake] s s.noteMismatch :=
  State.log_kept (by decide) (State.wb_kept (by decide) (State.wb_kept (by decide) (.refl _ s)))

theorem State.noteMismatch_yields (s : State) (cause : Nat) : Yields s (s.noteMismatch.yield cause) cause := by
  have hrd : ∀ off, off < 0x10000 → s.noteMismatch.rd Pg.HEADPAIR off = s.rd Pg.HEADPAIR off := fun off ho =>
    s.noteMismatch_pages _ off 0 (by decide) ho (by decide)
  have hk := s.noteMismatch_kept
  exact (s.noteMismatch.yields cause).of_same (State.rf_congr 2 0 (hrd _ (by decide))) (State.rf_congr 0 0 (hrd _ (by decide)))
    (hk.part (f := .pair)) (hk.part (f := .out)) (hk.part (f := .hq))

theorem exec_lockstepDisagreement (ha : s.alive = true) : exec .lockstepDisagreement s = .next (s.noteMismatch.yield 3) := by
  show execLockstepDisagreement s = _
  exact act_alive _ ha

/-! ### The SVC and MGMT pages (17 R658, R659) -/

/-- A cluster's SVC_STATUS shows in its low bits which cores are released (17 R658). -/
theorem State.showCores_rf (s : State) (p v : Nat) :
    (s.wrN p Rg.SVC_STATUS 0 (s.rdN p Rg.SVC_STATUS / 256 * 256 + v % 256)).rf p Rg.SVC_STATUS 7 0 = v % 256 := by
  have h := s.rdN_wrN p Rg.SVC_STATUS 0 (s.rdN p Rg.SVC_STATUS / 256 * 256 + v % 256)
  rw [State.rf, fld, bits, ← State.rdN, h]
  omega

/-- MGMT raises interrupt `b` and writes a record. -/
def State.mgmtNote (s : State) (b code : Nat) (fs : List Pf) : State := (s.irq Pg.MGMT b).log Pg.MGMT code fs

theorem State.mgmtNote_rd (s : State) (b code : Nat) (fs : List Pf) {off : Nat} (h : 0x100 ≤ off) (ho : off < 0x10000) :
    (s.mgmtNote b code fs).rd Pg.MGMT off = s.rd Pg.MGMT off :=
  (State.log_rd _ _ _ _ (by decide) ho (by decide)).trans (s.irq_rd_body _ b (by decide) h)

theorem State.mgmtNote_raised (s : State) {b : Nat} (code : Nat) (fs : List Pf) (h : b < 3) : Raised (s.mgmtNote b code fs) Pg.MGMT b :=
  (State.rb_congr b (State.log_rd _ _ _ _ (by decide) (by decide) (by decide))).trans (State.irq_bit _ _ _ h)

theorem State.mgmtNote_pages (s : State) (b code : Nat) (fs : List Pf) : OnlyPages [Pg.MGMT, Pg.LOCKET] s (s.mgmtNote b code fs) :=
  ((State.irq_pages _ _ _).mono (by decide)).trans ((State.log_pages _ _ _ _).mono (by decide))

theorem exec_mgmtLinkChange (up : Bool) (ha : s.alive = true) : exec (.mgmtLinkChange up) s =
    .next ((s.wb Pg.MGMT Rg.MGMT_ETH_STATUS 0 up).mgmtNote 0 Ev.MGMT_LINK [.v 1 (b2n up)]) := by
  show execMgmtLinkChange up s = _
  exact act_alive _ ha

theorem exec_ptpLockLoss (ha : s.alive = true) : exec .ptpLockLoss s = .next ((s.wb Pg.MGMT Rg.MGMT_ETH_STATUS 1 false).mgmtNote 1
    Ev.MGMT_PTP_LOST [.v 2 (s.rf Pg.MGMT Rg.MGMT_ETH_STATUS 31 16)]) := by
  show execPtpLockLoss s = _
  exact act_alive _ ha

/-- GPIO `i` has changed its level. -/
def State.flipGpio (s : State) (i : Nat) : State := { s with pins := { s.pins with gpioIn := (s.pins.gpioIn ^^^ 2 ^ i) % 2 ^ 32 } }

theorem exec_gpioEdge {i : Nat} {level : Bool} (ha : s.alive = true) (hi : i < 32) (hl : bitOf s.pins.gpioIn i ≠ level) :
    exec (.gpioEdge i level) s = .next (if s.rb Pg.MGMT Rg.MGMT_GPIO_EDGE_EN i
      then ((s.flipGpio i).wb Pg.MGMT Rg.MGMT_GPIO_EDGE i true).irq Pg.MGMT 2 else s.flipGpio i) := by
  show execGpioEdge i level s = _
  rw [execGpioEdge, actIf_alive _ ha (decide_eq_true hi)]
  simp only [if_neg hl]
  rfl

/-! ### Reads of time that latch (14 R573) -/

theorem State.readCmd_ready {p off master : Nat} (f : State → State) (h : s.pageReady p = true) :
    s.readCmd p off master f = (f s).emit (.readData master (regAddr p off) (leBytes 4 ((f s).viewFor master p off)) false) := by
  simp [State.readCmd, h]

theorem State.viewFor_gtsNow (s : State) (master : Nat) : s.viewFor master Pg.GTS Rg.GTS_NOW_LO = s.gts % 2 ^ 32 := rfl

theorem State.viewFor_calSeconds (s : State) (master : Nat) : s.viewFor master Pg.GTS Rg.GTS_CAL_SECONDS_LO = s.cal.seconds % 2 ^ 32 := rfl

/-- The latch of the high half of GTS (14 R573). -/
def State.latchGts (s : State) : State := s.wrN Pg.GTS Rg.GTS_NOW_HI 0 (s.gts / 2 ^ 32)

theorem exec_gtsNowLoRead {master : Nat} (ha : s.alive = true) (hp : s.pageReady Pg.GTS = true) : exec (.gtsNowLoRead master) s =
    .next (s.latchGts.emit (.readData master (regAddr Pg.GTS Rg.GTS_NOW_LO) (leBytes 4 (s.gts % 2 ^ 32)) false)) := by
  show execGtsNowLoRead master s = _
  rw [execGtsNowLoRead, act_alive _ ha, State.readCmd_ready _ hp, State.viewFor_gtsNow]
  rfl

/-- The latch of the high seconds, the nanoseconds and unsync (14 R573). -/
def State.latchCal (s : State) : State :=
  (s.wrN Pg.GTS Rg.GTS_CAL_SECONDS_HI 0 (s.cal.seconds / 2 ^ 32 % 256)).wrN Pg.GTS Rg.GTS_CAL_NS 0
    (s.cal.ns % 2 ^ 30 + 2 ^ 31 * b2n s.cal.unsync)

theorem exec_gtsCalSecondsLoRead {master : Nat} (ha : s.alive = true) (hp : s.pageReady Pg.GTS = true) :
    exec (.gtsCalSecondsLoRead master) s = .next (s.latchCal.emit
      (.readData master (regAddr Pg.GTS Rg.GTS_CAL_SECONDS_LO) (leBytes 4 (s.cal.seconds % 2 ^ 32)) false)) := by
  show execGtsCalSecondsLoRead master s = _
  rw [execGtsCalSecondsLoRead, act_alive _ ha, State.readCmd_ready _ hp, State.viewFor_calSeconds]
  rfl

theorem State.latchCal_seconds (s : State) : s.latchCal.rdN Pg.GTS Rg.GTS_CAL_SECONDS_HI = s.cal.seconds / 2 ^ 32 % 256 := by
  unfold State.latchCal
  rw [State.rdN, State.wrN, State.wr_rd_off _ _ (by decide) (by decide), ← State.rdN, State.rdN_wrN]
  omega

theorem State.latchCal_ns (s : State) (h : s.cal.ns < 2 ^ 30) : s.latchCal.rf Pg.GTS Rg.GTS_CAL_NS 29 0 = s.cal.ns := by
  have hb : b2n s.cal.unsync ≤ 1 := by cases s.cal.unsync <;> decide
  rw [State.rf, fld, bits, ← State.rdN, State.latchCal, State.rdN_wrN]
  omega

theorem State.latchCal_unsync (s : State) : s.latchCal.rb Pg.GTS Rg.GTS_CAL_NS 31 = s.cal.unsync := by
  rw [State.rb, bitW_eq, fld, bits, ← State.rdN, State.latchCal, State.rdN_wrN]
  cases s.cal.unsync <;> simp [b2n] <;> omega

/-! ### Calendar time (01 R55 to R57, 14 R574) -/

/-- GTS_CAL_CMD sets calendar time from its registers. -/
def State.setCal (s : State) : State :=
  ({ s with cal := { seconds := s.rd64 Pg.GTS Rg.GTS_CAL_SET_LO % 2 ^ 40, ns := s.rf Pg.GTS Rg.GTS_CAL_SET_NS 29 0, unsync := false } } :
    State).log Pg.GTS Ev.GTS_CAL_SET [.v 8 s.cal.seconds, .v 8 (s.rd64 Pg.GTS Rg.GTS_CAL_SET_LO % 2 ^ 40),
      .v 4 (s.rf Pg.GTS Rg.GTS_CAL_SET_NS 29 0), .v 1 (b2n s.cal.unsync)]

theorem State.setCal_cal (s : State) : s.setCal.cal =
    { seconds := s.rd64 Pg.GTS Rg.GTS_CAL_SET_LO % 2 ^ 40, ns := s.rf Pg.GTS Rg.GTS_CAL_SET_NS 29 0, unsync := false } :=
  State.log_cal _ _ _ _

theorem State.setCal_told (s : State) : s.setCal.Told Ev.GTS_CAL_SET [.v 8 s.cal.seconds, .v 8 (s.rd64 Pg.GTS Rg.GTS_CAL_SET_LO % 2 ^ 40),
    .v 4 (s.rf Pg.GTS Rg.GTS_CAL_SET_NS 29 0), .v 1 (b2n s.cal.unsync)] := State.log_told _ _ _ _

theorem exec_gtsCalCmd {master v : Nat} (h : Accepts s Pg.GTS Rg.GTS_CAL_CMD master v) (hv : bitOf v 0 = true) :
    exec (.gtsCalCmd master v) s = .next (if 999999999 < (stored s Pg.GTS Rg.GTS_CAL_CMD v).rf Pg.GTS Rg.GTS_CAL_SET_NS 29 0
      then (stored s Pg.GTS Rg.GTS_CAL_CMD v).ignoreW { page := Pg.GTS, off := Rg.GTS_CAL_CMD, master, value := v }
      else (stored s Pg.GTS Rg.GTS_CAL_CMD v).setCal) := by
  show execGtsCalCmd master v s = _
  refine (act_regCmd _ h).trans ?_
  simp only [hv, Bool.not_true, Bool.false_eq_true, if_false]
  rfl

/-- A write of GTS_CAL_CMD leaves the page's other registers. -/
theorem stored_calCmd_rd (s : State) (v : Nat) {off : Nat} (ho : off ≠ Rg.GTS_CAL_CMD) :
    (stored s Pg.GTS Rg.GTS_CAL_CMD v).rd Pg.GTS off = s.rd Pg.GTS off :=
  stored_rd_ne v (rkey_off (show (0 : Nat) < 0x10000 by decide) (by decide) ho)

theorem exec_calSecondRollover (ha : s.alive = true) : exec .calSecondRollover s = .next { s with
    gts := s.gts + (1000000000 - s.cal.ns), cal := { s.cal with seconds := (s.cal.seconds + 1) % 2 ^ 40, ns := 0 } } := by
  have hst : s.headState ≠ 4 := by
    intro h4
    simp [State.alive, h4] at ha
  show execCalSecondRollover s = _
  rw [execCalSecondRollover, if_neg fun h => hst h.1]
  exact act_alive _ ha

/-- Settles O60: each command's resulting state is named by its `exec_` lemma, and the yields by `State.yields`. -/
theorem managementPagesAndTime : Obligations.ManagementPagesAndTime := by
  refine ⟨fun s ha => ?_, fun s master c v hc h => ?_, fun s master c v hc hlen h => ?_, fun s ha hany hall => ?_, fun s up ha => ?_,
    fun s ha => ?_, fun s i level ha hi hlevel => ?_, fun s master ha hp => ?_, fun s master ha hp hns => ?_,
    fun s master v h hv => ?_, fun s ha hns => ?_, fun s hst haon => ?_⟩
  · -- LOCKSTEP_DISAGREEMENT
    refine ⟨_, s.noteMismatch, exec_lockstepDisagreement ha, rfl, s.noteMismatch_yields 3, ?_, ?_, State.log_told _ _ _ _,
      s.noteMismatch_pages⟩
    · refine (State.rb_congr 1 (State.yield_pages _ 3 _ _ _ (by decide) (by decide) (by decide))).trans ?_
      rw [State.rb, s.noteMismatch_status, bitW_putBit_ne _ _ _ _ (by decide) (by decide), bitW_putBit _ _ _ (by decide)]
    · rw [State.rb, s.noteMismatch_status, bitW_putBit _ _ _ (by decide)]
  · -- SVC_CTRL_WRITE
    refine ⟨_, actIf_regCmd _ h (decide_eq_true hc), ?_, State.showCores_rf _ _ _⟩
    exact ((stored_kept s _ _ v).trans (State.wrN_kept (by decide) (.refl _ _))).only
  · -- SVC_REPORT_WRITE
    have hk := stored_kept s (Pg.SVC + c) Rg.SVC_REPORT v
    refine ⟨_, actIf_regCmd _ h (decide_eq_true hc), ?_, ?_⟩
    · exact (Kept.lit_iff.2 (Kept.upd_pair (by decide) (hk.mono (by decide)))).only
    · have hpair : (stored s (Pg.SVC + c) Rg.SVC_REPORT v).pair = s.pair := hk.part (f := .pair)
      have hgts : (stored s (Pg.SVC + c) Rg.SVC_REPORT v).gts = s.gts := hk.part (f := .gts)
      simp [hpair, hgts, hlen]
  · -- SVC_STALL_TIMEOUT
    obtain ⟨c, hc, hon⟩ := hany
    refine ⟨s.yield 4, ?_, s.yields 4⟩
    show execSvcStallTimeout s = _
    refine actIf_alive _ ha ?_
    rw [Bool.and_eq_true, List.any_eq_true, List.all_eq_true]
    refine ⟨⟨c, List.mem_range.2 hc, hon⟩, fun k hk => ?_⟩
    by_cases hd : s.domOn (8 + k) = true
    · simp only [decide_eq_true (hall k (List.mem_range.1 hk) hd), Bool.or_true]
    · simp [State.svcCounts, hd]
  · -- MGMT_LINK_CHANGE
    refine ⟨_, exec_mgmtLinkChange up ha, ?_, State.mgmtNote_raised _ _ _ (by decide), State.log_told _ _ _ _, ?_⟩
    · exact (State.rb_congr 0 (State.mgmtNote_rd _ 0 _ _ (by decide) (by decide))).trans (State.rb_wb _ _ _ _ _ _ (by decide))
    · exact ((s.wb_pages 0 up (by decide)).mono (by decide)).trans (State.mgmtNote_pages _ 0 _ _)
  · -- PTP_LOCK_LOSS
    refine ⟨_, exec_ptpLockLoss ha, ?_, State.mgmtNote_raised _ _ _ (by decide), State.log_told _ _ _ _, ?_⟩
    · exact (State.rb_congr 1 (State.mgmtNote_rd _ 1 _ _ (by decide) (by decide))).trans (State.rb_wb _ _ _ _ _ _ (by decide))
    · exact ((s.wb_pages 1 false (by decide)).mono (by decide)).trans (State.mgmtNote_pages _ 1 _ _)
  · -- GPIO_EDGE
    refine ⟨_, exec_gpioEdge ha hi hlevel, ?_, fun hen => ?_, fun hen => ?_⟩
    · split
      · exact (State.irq_kept (F := [.regs, .wake]) (by decide) (State.wb_kept (by decide) (.refl _ _))).part (f := .pins)
      · rfl
    · rw [if_pos hen]
      refine ⟨?_, State.irq_bit _ _ _ (by decide)⟩
      exact (State.rb_congr i (State.irq_rd _ _ _ (by decide) (by decide) (by decide))).trans (State.rb_wb _ _ _ _ _ _ hi)
    · rw [if_neg (by simp [hen])]
      exact (Kept.lit_iff.2 (Kept.upd_pins (by decide) (.refl _ s))).only
  · -- GTS_NOW_LO_READ
    refine ⟨_, exec_gtsNowLoRead ha hp, ?_, rfl, ?_⟩
    · exact (State.emit_kept (by decide) (State.wrN_kept (by decide) (.refl _ s))).only
    · exact State.rdN_wrN _ _ _ _ _
  · -- GTS_CAL_SECONDS_LO_READ
    refine ⟨_, exec_gtsCalSecondsLoRead ha hp, ?_, rfl, s.latchCal_seconds, s.latchCal_ns hns, s.latchCal_unsync⟩
    exact (State.emit_kept (by decide) (State.wrN_kept (by decide) (State.wrN_kept (by decide) (.refl _ s)))).only
  · -- GTS_CAL_CMD
    have hk := stored_kept s Pg.GTS Rg.GTS_CAL_CMD v
    have hns := State.rf_congr 29 0 (stored_calCmd_rd s v (off := Rg.GTS_CAL_SET_NS) (by decide))
    have hsec : (stored s Pg.GTS Rg.GTS_CAL_CMD v).rd64 Pg.GTS Rg.GTS_CAL_SET_LO = s.rd64 Pg.GTS Rg.GTS_CAL_SET_LO := by
      unfold State.rd64 State.rdN
      rw [stored_calCmd_rd s v (by decide), stored_calCmd_rd s v (by decide)]
    have hgts : (stored s Pg.GTS Rg.GTS_CAL_CMD v).gts = s.gts := hk.part (f := .gts)
    have hcal : (stored s Pg.GTS Rg.GTS_CAL_CMD v).cal = s.cal := hk.part (f := .cal)
    refine ⟨_, exec_gtsCalCmd h hv, ?_, fun hle => ?_, fun hlt => ?_⟩
    · split
      · exact (State.ignoreW_gts _ _).trans hgts
      · exact (State.log_gts _ _ _ _).trans hgts
    · rw [if_neg (by omega)]
      have htold := State.setCal_told (stored s Pg.GTS Rg.GTS_CAL_CMD v)
      have hset := State.setCal_cal (stored s Pg.GTS Rg.GTS_CAL_CMD v)
      rw [hns, hsec, hcal] at htold
      rw [hns, hsec] at hset
      rw [hset]
      exact ⟨rfl, rfl, rfl, htold⟩
    · rw [if_pos (by omega)]
      exact ⟨(State.ignoreW_cal _ _).trans hcal, State.err_type _ _ _ _ _ _ (by decide)⟩
  · -- CAL_SECOND_ROLLOVER
    refine ⟨_, exec_calSecondRollover ha, ?_, ?_, rfl⟩
    · exact (Kept.lit_iff.2 (Kept.upd_time (by decide) (.refl _ s))).only
    · simp only
      omega
  · -- CAL_SECOND_ROLLOVER in P4
    refine ⟨_, (show exec .calSecondRollover s = _ from if_pos ⟨hst, haon⟩), ?_, State.rd64_wr64 _ (by omega)⟩
    exact (State.wr64_kept (by decide) (.refl _ s)).only

end Sys2Proof.Machine

namespace Sys2Proof.Machine
variable {s s0 t u : State}

/-! ### What a command answers -/

theorem actIf_answers (s : State) (b : Bool) (f : State → State) : ∃ t, actIf s b f = .next t := by
  unfold actIf
  split <;> exact ⟨_, rfl⟩

/-- A command answers one state. -/
theorem next_unique {i : Instr} (ht : exec i s = .next t) (hu : exec i s = .next u) : t = u := Host.Outcome.next.inj (ht.symm.trans hu)

/-! ### The end of URT jobs (04 R179) -/

/-- The parts that the end of a job may change. -/
def Part.jobEnd : List Part := [.regs, .accWin, .cells, .lines, .store, .eng, .locket, .wake, .out]

theorem State.endUrtJob_part (s : State) (id status bytes retx : Nat) (f : Part) (hf : Part.jobEnd.contains f = false := by decide) :
    f.same s (s.endUrtJob id status bytes retx) :=
  (State.endUrtJob_kept (F := Part.jobEnd) (by decide) (.refl _ s)).part hf

@[simp] theorem State.endUrtJob_urt (s : State) (id status bytes retx : Nat) : (s.endUrtJob id status bytes retx).urt = s.urt :=
  s.endUrtJob_part id status bytes retx .urt

@[simp] theorem State.endUrtJob_hq (s : State) (id status bytes retx : Nat) : (s.endUrtJob id status bytes retx).hq = s.hq :=
  s.endUrtJob_part id status bytes retx .hq

theorem State.logI_jobs (s : State) (p inst code : Nat) (fs : List Pf) : (s.logI p inst code fs).eng.jobs = s.eng.jobs :=
  congrArg Engines.jobs ((State.logI_kept (F := [.regs, .cells, .lines, .locket, .wake]) (by decide) (.refl _ s)).part (f := .eng))

/-- Sending a record may hold it back, and leaves the jobs as they are. -/
theorem State.sendRecord_jobs (s : State) (h : Held) : (s.sendRecord h).eng.jobs = s.eng.jobs := by
  unfold State.sendRecord
  dsimp only
  split
  · exact State.logI_jobs _ _ _ _ _
  · split
    · rfl
    · split
      · exact State.logI_jobs _ _ _ _ _
      · exact congrArg Engines.jobs ((State.putRecord_kept (F := [.regs, .accWin, .cells, .lines, .store, .locket, .wake, .out])
          (by decide) (.refl _ s)).part (f := .eng))

theorem State.endJob_jobs (s : State) (id : Nat) (j : Job) (r : JobRes) : (s.endJob id j r).eng.jobs = mdel s.eng.jobs id := by
  unfold State.endJob
  dsimp only
  split
  · rfl
  · exact State.sendRecord_jobs _ _

@[simp] theorem State.endUrtJob_jobs (s : State) (id status bytes retx : Nat) :
    (s.endUrtJob id status bytes retx).eng.jobs = mdel s.eng.jobs id := by
  unfold State.endUrtJob
  split
  · exact State.endJob_jobs _ _ _ _
  · next h => exact (mdel_of_absent h).symm

/-- A job of URT that ends without having moved data says so as the newest thing sent. -/
theorem State.endUrtJob_said {id : Nat} {j : Job} (status : Nat) (h : mget s.eng.jobs id = some j) (hj : j.engine = .urt) :
    JobSaid (s.endUrtJob id status 0 0) j status 0 := by
  simp [State.endUrtJob, h, State.endJob, hj, JobSaid, Sent, State.emit]

theorem mget_mdel_of_none {α : Type} {m : SMap α} {q : Nat} (k : Nat) (h : mget m q = none) : mget (mdel m k) q = none := by
  by_cases hq : q = k
  · rw [hq, mget_mdel_self]
  · rw [mget_filter_ne m hq, h]

theorem JobsGone.of_jobs {l : List Nat} (h : JobsGone s l) (ht : t.eng.jobs = s.eng.jobs) : JobsGone t l := fun id hid => by
  rw [ht, h id hid]

theorem JobsGone.endUrtJob {l : List Nat} (h : JobsGone s l) (id status bytes retx : Nat) : JobsGone (s.endUrtJob id status bytes retx) l :=
  fun q hq => by rw [State.endUrtJob_jobs]; exact mget_mdel_of_none id (h q hq)

/-- Jobs that end one after the other are gone, and no other. -/
theorem State.mget_foldl_endUrtJob (s : State) (l : List Nat) (status id : Nat) :
    mget (l.foldl (fun s j => s.endUrtJob j status 0 0) s).eng.jobs id = if id ∈ l then none else mget s.eng.jobs id := by
  induction l generalizing s with
  | nil => simp
  | cons a l ih =>
    rw [List.foldl_cons, ih, State.endUrtJob_jobs]
    by_cases ha : id = a
    · simp [ha, mget_mdel_self]
    · simp [ha, mget_filter_ne _ ha]

/-! ### Flows (04 R165 to R168, R177) -/

@[simp] theorem State.flow_setFlow (s : State) (k : Nat) (f : UFlow) : (s.setFlow k f).flow k = f := mgetD_mputD_self _ _ _ _

@[simp] theorem State.qp_setQp (s : State) (n : Nat) (q : Qp) : (s.setQp n q).qp n = q := mgetD_mputD_self _ _ _ _

@[simp] theorem State.setFlow_eng (s : State) (k : Nat) (f : UFlow) : (s.setFlow k f).eng = s.eng := rfl

@[simp] theorem State.setFlow_hq (s : State) (k : Nat) (f : UFlow) : (s.setFlow k f).hq = s.hq := rfl

theorem State.flow_of_urt (k : Nat) (h : t.urt = s.urt) : t.flow k = s.flow k := by
  unfold State.flow
  rw [h]

@[simp] theorem State.endUrtJob_flow (s : State) (id status bytes retx k : Nat) : (s.endUrtJob id status bytes retx).flow k = s.flow k :=
  State.flow_of_urt k (s.endUrtJob_urt id status bytes retx)

@[simp] theorem State.emit_flow (s : State) (o : Out) (k : Nat) : (s.emit o).flow k = s.flow k := rfl

@[simp] theorem State.emitSetup_flow (s : State) (k ty dst psn epoch offer n : Nat) (enc : Bool) :
    (s.emitSetup k ty dst psn epoch offer enc).flow n = s.flow n := rfl

@[simp] theorem State.emitSetup_eng (s : State) (k ty dst psn epoch offer : Nat) (enc : Bool) :
    (s.emitSetup k ty dst psn epoch offer enc).eng = s.eng := rfl

theorem State.emitSetup_packet (s : State) (k ty dst psn epoch offer : Nat) (enc : Bool) :
    Packet (s.emitSetup k ty dst psn epoch offer enc) k := ⟨_, rfl⟩

/-- The flow keeps what its OPEN or its CONNECT gave it, and nothing that is under way. -/
theorem State.endFlowJobs_flow (s : State) (k status : Nat) : (s.endFlowJobs k status).flow k =
    { s.flow k with msgs := [], recvs := [], job := none, sent := [], queue := [], held := [], asm := [], ready := [] } :=
  State.flow_setFlow _ _ _

theorem State.endFlowJobs_jobs (s : State) (k status id : Nat) :
    mget (s.endFlowJobs k status).eng.jobs id = if id ∈ (s.flow k).jobs then none else mget s.eng.jobs id :=
  s.mget_foldl_endUrtJob _ _ _

theorem State.endFlowJobs_gone (s : State) (k status : Nat) : JobsGone (s.endFlowJobs k status) (s.flow k).jobs := fun id hid => by
  rw [State.endFlowJobs_jobs, if_pos hid]

theorem State.endFlowJobs_hq (s : State) (k status : Nat) : (s.endFlowJobs k status).hq = s.hq :=
  (foldl_keeps (fun s => s.hq) (fun s id => s.endUrtJob_hq id status 0 0) (s.flow k).jobs s :)

/-- A flow that opens has fresh numbers, no message, the initial window and the target round trip (04 R166, R176, R177). -/
theorem State.openFlow_flow (s : State) (k : Nat) (f : UFlow) (peer txPsn rxPsn epoch payload : Nat) (enc : Bool) :
    (s.openFlow k f peer txPsn rxPsn epoch payload enc).flow k = { f with
      st := 2, peer, epoch, payload, enc
      txNext := txPsn, txCum := psnDist txPsn 1, txNo := 0, sent := [], queue := [], msgs := [], nextMsg := 0
      cwnd := Frac.nat (s.rf Pg.URT Rg.URT_CC_PARAMS 31 24), srtt := Frac.nat (s.targetRtt k), lastDec := none
      rxNext := rxPsn, held := [], asm := [], ready := [], rxCount := 0, echo := 0 } :=
  State.flow_setFlow _ _ _

@[simp] theorem State.openFlow_eng (s : State) (k : Nat) (f : UFlow) (peer txPsn rxPsn epoch payload : Nat) (enc : Bool) :
    (s.openFlow k f peer txPsn rxPsn epoch payload enc).eng = s.eng := rfl

/-! ### A flow that is open: its OPEN job ends (04 R167, R179) -/

theorem State.opened_of_none {k : Nat} (h : (s.flow k).job = none) : s.opened k = s := by simp [State.opened, h]

theorem State.opened_of_some {k id : Nat} (h : (s.flow k).job = some id) :
    s.opened k = (s.setFlow k { s.flow k with job := none }).endUrtJob id St.OK 0 0 := by simp [State.opened, h]

theorem State.opened_flow (s : State) (k : Nat) : (s.opened k).flow k = { s.flow k with job := none } := by
  cases h : (s.flow k).job with
  | none => rw [State.opened_of_none h, ← h]
  | some id => rw [State.opened_of_some h, State.endUrtJob_flow, State.flow_setFlow]

/-! ### Set-up packets (04 R165, R167, R168) -/

/-- A set-up packet of type `ty` reaches the engine whole. -/
structure SetupArrives (s : State) (pkt : List Byte) (ty : Nat) : Prop where
  alive : s.alive = true
  on : s.urtOn = true
  ok : setupOk pkt = true
  type : (parseUrt pkt).ty = ty

/-- The flow opens on a CONNECT, which is answered, and its OPEN job ends (04 R165, R167). -/
def State.acceptFlow (s : State) (k peer txPsn rxPsn epoch size : Nat) (enc : Bool) : State :=
  ((s.openFlow k (s.flow k) peer txPsn rxPsn epoch size enc).emitSetup k 7 peer txPsn epoch size enc).opened k

/-- With no OPEN under way, the answer is the last thing that happens. -/
theorem State.acceptFlow_of_none {k : Nat} (peer txPsn rxPsn epoch size : Nat) (enc : Bool) (h : (s.flow k).job = none) :
    s.acceptFlow k peer txPsn rxPsn epoch size enc =
      (s.openFlow k (s.flow k) peer txPsn rxPsn epoch size enc).emitSetup k 7 peer txPsn epoch size enc :=
  State.opened_of_none (by rw [State.emitSetup_flow, State.openFlow_flow]; exact h)

/-- FLOW_RESET is posted and recorded: `n` jobs of the epoch before `epoch` have ended (04 R168). -/
def State.tellReset (s : State) (eq k epoch n : Nat) : State :=
  (s.event eq Et.FLOW_RESET (srcOf Pg.URT) (k % 65536) (epoch + 1)).log Pg.URT Ev.URT_FLOW_RESET
    [.v 4 (k % 65536), .v 4 epoch, .v 4 (epoch + 1), .v 4 n]

/-- A CONNECT for an open flow opens its next epoch; its jobs end with ABORTED_BY_RESET (04 R168). -/
def State.reopenFlow (s : State) (k peer txPsn rxPsn size : Nat) (enc : Bool) : State :=
  ((s.endFlowJobs k St.ABORTED_BY_RESET).acceptFlow k peer txPsn rxPsn (((s.flow k).epoch + 1) % 2 ^ 32) size enc).tellReset
    (s.flow k).eq k (s.flow k).epoch (s.flow k).jobs.length

section
variable {seam : Bool} {pkt : List Byte} {k : Nat} (mtu psn : Nat) (lower : Bool)

theorem exec_urtConnect_closed (h : SetupArrives s pkt 6) (hk : k = fkey seam (parseUrt pkt).dst) (hst : (s.flow k).st = 0) :
    exec (.urtConnect seam pkt mtu psn lower) s = .next (s.acceptFlow k (parseUrt pkt).src (psn % 2 ^ 24) (parseUrt pkt).psn
      ((parseUrt pkt).epoch % 2 ^ 32) (payloadFor (if seam then 65536 else mtu) (setupOffer pkt)) (bitOf (parseUrt pkt).flags 4)) := by
  show execUrtConnect seam pkt mtu psn lower s = _
  subst hk
  rw [execUrtConnect, actIf_alive _ h.alive h.on]
  simp [h.ok, h.type, hst, State.acceptFlow]

theorem exec_urtConnect_open (h : SetupArrives s pkt 6) (hk : k = fkey seam (parseUrt pkt).dst) (hst : (s.flow k).st = 2) :
    exec (.urtConnect seam pkt mtu psn lower) s = .next (s.reopenFlow k (parseUrt pkt).src (psn % 2 ^ 24) (parseUrt pkt).psn
      (payloadFor (if seam then 65536 else mtu) (setupOffer pkt)) (bitOf (parseUrt pkt).flags 4)) := by
  show execUrtConnect seam pkt mtu psn lower s = _
  subst hk
  rw [execUrtConnect, actIf_alive _ h.alive h.on]
  simp [h.ok, h.type, hst, State.reopenFlow, State.acceptFlow, State.tellReset]

/-- Crossing: the end that keeps its request answers (04 R167). -/
theorem exec_urtConnect_crossing (h : SetupArrives s pkt 6) (hk : k = fkey seam (parseUrt pkt).dst) (hst : (s.flow k).st = 1)
    (hkeep : if seam = true then s.headId = 0 else lower = true) : exec (.urtConnect seam pkt mtu psn lower) s =
      .next ((s.setFlow k { s.flow k with peer := (parseUrt pkt).src }).emitSetup k 7 (parseUrt pkt).src (s.flow k).txNext (s.flow k).epoch
        (s.flow k).payload (s.flow k).enc) := by
  have hkeep' : (if seam = true then s.headId == 0 else lower) = true := by cases seam <;> simpa using hkeep
  show execUrtConnect seam pkt mtu psn lower s = _
  subst hk
  rw [execUrtConnect, actIf_alive _ h.alive h.on]
  simp [h.ok, h.type, hst, hkeep']

theorem exec_connectAck_opening (h : SetupArrives s pkt 7) (hk : k = fkey seam (parseUrt pkt).dst) (hst : (s.flow k).st = 1) :
    exec (.connectAck seam pkt) s = .next ((s.openFlow k (s.flow k) (parseUrt pkt).src (s.flow k).txNext (parseUrt pkt).psn (s.flow k).epoch
      (payloadFor 65536 (min (s.flow k).payload (setupOffer pkt))) ((s.flow k).enc && bitOf (parseUrt pkt).flags 4)).opened k) := by
  show execConnectAck seam pkt s = _
  subst hk
  rw [execConnectAck, actIf_alive _ h.alive h.on]
  simp [h.ok, h.type, hst]

end

/-! ### The next epoch of an open flow (04 R168, R180) -/

@[simp] theorem State.log_urt (s : State) (p code : Nat) (fs : List Pf) : (s.log p code fs).urt = s.urt := s.log_part p code fs .urt

theorem State.writeBytes_flows (s : State) (w : Acc) (addr : Nat) (data : List Byte) :
    (s.writeBytes w addr data).1.urt.flows = s.urt.flows :=
  congrArg Urt.flows ((State.writeBytes_kept (F := [.regs, .accWin, .cells, .lines, .store, .locket, .wake, .out]) (by decide)
    (.refl _ s)).part (f := .urt))

/-- An event record changes memory, the tail and the queue's phase. -/
theorem State.putEvent_flows (s : State) (q ty source subject detail : Nat) :
    (s.putEvent q ty source subject detail).urt.flows = s.urt.flows := by
  unfold State.putEvent
  dsimp only
  split <;> exact (State.writeBytes_flows s { master := Ms.URT, owner := sysOwner } _ _ :)

theorem State.event_flows (s : State) (q ty source subject detail : Nat) : (s.event q ty source subject detail).urt.flows = s.urt.flows := by
  unfold State.event
  split
  · rfl
  · split
    · dsimp only
      split
      · rw [State.log_urt]
        rfl
      · rfl
    · exact s.putEvent_flows q ty source subject detail

theorem State.tellReset_flow (s : State) (eq k epoch n m : Nat) : (s.tellReset eq k epoch n).flow m = s.flow m := by
  unfold State.flow
  rw [State.tellReset, State.log_urt, State.event_flows]

theorem State.tellReset_jobs (s : State) (eq k epoch n : Nat) : (s.tellReset eq k epoch n).eng.jobs = s.eng.jobs :=
  congrArg Engines.jobs ((State.log_kept (F := [.regs, .accWin, .cells, .lines, .store, .locket, .wake, .urt, .out]) (by decide)
    (State.event_kept (by decide) (.refl _ s))).part (f := .eng))

section
variable (s : State) (k peer txPsn rxPsn size : Nat) (enc : Bool)

theorem State.endFlowJobs_job (status : Nat) : ((s.endFlowJobs k status).flow k).job = none := by rw [State.endFlowJobs_flow]

theorem State.reopenFlow_eq : s.reopenFlow k peer txPsn rxPsn size enc =
    ((((s.endFlowJobs k St.ABORTED_BY_RESET).openFlow k ((s.endFlowJobs k St.ABORTED_BY_RESET).flow k) peer txPsn rxPsn
      (((s.flow k).epoch + 1) % 2 ^ 32) size enc).emitSetup k 7 peer txPsn (((s.flow k).epoch + 1) % 2 ^ 32) size enc).tellReset
      (s.flow k).eq k (s.flow k).epoch (s.flow k).jobs.length) := by
  rw [State.reopenFlow, State.acceptFlow_of_none _ _ _ _ _ _ (s.endFlowJobs_job k _)]

theorem State.reopenFlow_open : ((s.reopenFlow k peer txPsn rxPsn size enc).flow k).st = 2 ∧
    ((s.reopenFlow k peer txPsn rxPsn size enc).flow k).epoch = ((s.flow k).epoch + 1) % 2 ^ 32 := by
  rw [State.reopenFlow_eq, State.tellReset_flow, State.emitSetup_flow, State.openFlow_flow]
  exact ⟨rfl, rfl⟩

theorem State.reopenFlow_gone : JobsGone (s.reopenFlow k peer txPsn rxPsn size enc) (s.flow k).jobs := by
  refine (s.endFlowJobs_gone k St.ABORTED_BY_RESET).of_jobs ?_
  rw [State.reopenFlow_eq, State.tellReset_jobs, State.emitSetup_eng, State.openFlow_eng]

theorem State.reopenFlow_told : (s.reopenFlow k peer txPsn rxPsn size enc).Told Ev.URT_FLOW_RESET
    [.v 4 (k % 65536), .v 4 (s.flow k).epoch, .v 4 ((s.flow k).epoch + 1), .v 4 (s.flow k).jobs.length] := State.log_told _ _ _ _

end

/-! ### A flow that closes (04 R162, R179, 03 R133) -/

theorem mget_none_of_forall {α : Type} {m : SMap α} {k : Nat} (h : ∀ e ∈ m, e.1 ≠ k) : mget m k = none := by
  induction m with
  | nil => rfl
  | cons e m ih => rw [mget, if_neg (h e (.head _)), ih fun x hx => h x (.tail _ hx)]

theorem mem_of_mget {α : Type} {m : SMap α} {k : Nat} {v : α} (h : mget m k = some v) : (k, v) ∈ m := by
  induction m with
  | nil => cases h
  | cons e m ih =>
    obtain ⟨a, w⟩ := e
    rw [mget] at h
    split at h
    · next hak => cases h; exact hak ▸ .head _
    · exact .tail _ (ih h)

/-- The queues that a lost connection carried are gone. -/
theorem State.connLost_gone (s : State) (c : Nat) : ConnGone s (s.connLost c) c := fun k q hq hc =>
  mget_none_of_forall fun _ he => ((mem_queues_foldl_queueReset he).2 (k, q) (List.mem_filter.2 ⟨mem_of_mget hq, by simpa using hc⟩))

theorem State.connLost_kept_hosts (s : State) (c : Nat) : Kept [.regs, .cells, .lines, .locket, .wake, .hq, .pair, .out] s (s.connLost c) :=
  State.connLost_kept (by decide) (.refl _ s)

theorem State.connLost_urt (s : State) (c : Nat) : (s.connLost c).urt = s.urt := (s.connLost_kept_hosts c).part (f := .urt)

theorem State.connLost_eng (s : State) (c : Nat) : (s.connLost c).eng = s.eng := (s.connLost_kept_hosts c).part (f := .eng)

theorem State.closeFlow_flow (s : State) (k : Nat) : (s.closeFlow k).flow k = { epoch := (s.flow k).epoch } := by
  unfold State.closeFlow
  rw [State.flow_of_urt k (State.connLost_urt _ k), State.flow_setFlow, State.endFlowJobs_flow]

theorem State.closeFlow_jobs (s : State) (k : Nat) : (s.closeFlow k).eng.jobs = (s.endFlowJobs k St.ABORTED_BY_RESET).eng.jobs := by
  unfold State.closeFlow
  rw [State.connLost_eng, State.setFlow_eng]

theorem State.closeFlow_jobsGone (s : State) (k : Nat) : JobsGone (s.closeFlow k) (s.flow k).jobs :=
  (s.endFlowJobs_gone k _).of_jobs (s.closeFlow_jobs k)

/-- A job that is not the flow's own stays. -/
theorem State.closeFlow_job {k id : Nat} (h : id ∉ (s.flow k).jobs) : mget (s.closeFlow k).eng.jobs id = mget s.eng.jobs id := by
  rw [State.closeFlow_jobs, State.endFlowJobs_jobs, if_neg h]

theorem State.closeFlow_gone (s : State) (k : Nat) : ConnGone s (s.closeFlow k) k := by
  intro n q hq hc
  unfold State.closeFlow
  refine State.connLost_gone _ k n q ?_ hc
  rw [State.setFlow_hq, State.endFlowJobs_hq, hq]

/-! ### Jobs of a descriptor (04 R179) -/

/-- The engine has fetched job `j`, under the least number that is free. -/
def State.fetched (s : State) (j : Job) : State :=
  { s with eng := { s.eng with jobs := mput s.eng.jobs (freshKey s.eng.jobs 0) j } }

@[simp] theorem State.fetched_flow (s : State) (j : Job) (k : Nat) : (s.fetched j).flow k = s.flow k := rfl

@[simp] theorem State.fetched_qp (s : State) (j : Job) (n : Nat) : (s.fetched j).qp n = s.qp n := rfl

theorem State.fetched_job (s : State) (j : Job) : mget (s.fetched j).eng.jobs (freshKey s.eng.jobs 0) = some j := mget_mput_self _ _ _

theorem State.fetched_kept (s : State) (j : Job) : Kept [.eng] s (s.fetched j) := Kept.lit_iff.2 (Kept.upd_eng (by decide) (.refl _ s))

/-- A job that ends as soon as it has been fetched. -/
theorem State.fetched_said (s : State) (desc : List Byte) (status : Nat) :
    JobSaid ((s.fetched (urtJobOf desc)).endUrtJob (freshKey s.eng.jobs 0) status 0 0) (urtJobOf desc) status 0 :=
  State.endUrtJob_said status (s.fetched_job _) rfl

theorem State.fetched_endUrtJob_urt (s : State) (j : Job) (id status bytes retx : Nat) :
    ((s.fetched j).endUrtJob id status bytes retx).urt = s.urt := State.endUrtJob_urt _ _ _ _ _

section
variable {seam : Bool} {desc : List Byte} {op : Nat}

theorem urtJob_answers (f : State → Nat → Job → State) : ∃ t, urtJob seam desc op f s = .next t := by
  unfold urtJob
  exact actIf_answers _ _ _

/-- The engine takes a job that names an owner and runs its meaning. -/
theorem urtJob_takes (f : State → Nat → Job → State) (h : UrtTakes s seam desc op) :
    urtJob seam desc op f s = .next (f (s.fetched (urtJobOf desc)) (freshKey s.eng.jobs 0) (urtJobOf desc)) := by
  obtain ⟨halive, hon, hop, hroom, howner⟩ := h
  rw [urtJob, actIf_alive _ halive (by simp [hon, hop, hroom])]
  exact congrArg _ (if_neg howner)

/-- A job of owner 0 ends with BAD_INPUT (05 R191). -/
theorem urtJob_ownerless (f : State → Nat → Job → State) (halive : s.alive = true) (hon : s.urtOn = true)
    (hop : (urtJobOf desc).opcode = op) (hroom : s.urtRoom seam (urtJobOf desc) = true) (howner : (urtJobOf desc).owner = 0) :
    urtJob seam desc op f s = .next ((s.fetched (urtJobOf desc)).endUrtJob (freshKey s.eng.jobs 0) St.BAD_INPUT 0 0) := by
  rw [urtJob, actIf_alive _ halive (by simp [hon, hop, hroom])]
  exact congrArg _ (if_pos howner)

end

/-- Each command of a descriptor is the engine's taking of its job. -/
theorem exec_eq_urtJob {seam : Bool} {desc : List Byte} {p : (Bool → List Byte → Instr) × Nat}
    (hp : p ∈ [(Instr.urtClose, 2), (Instr.urtSend, 3), (Instr.urtWrite, 4), (Instr.urtRead, 5), (Instr.urtRecv, 6)]) :
    ∃ f, ∀ s, exec (p.1 seam desc) s = urtJob seam desc p.2 f s := by
  simp only [List.mem_cons, List.not_mem_nil, or_false] at hp
  rcases hp with rfl | rfl | rfl | rfl | rfl
  · exact ⟨_, fun s => show execUrtClose seam desc s = _ from rfl⟩
  · exact ⟨_, fun s => show execUrtSend seam desc s = _ from rfl⟩
  · exact ⟨_, fun s => show execUrtWrite seam desc s = _ from rfl⟩
  · exact ⟨_, fun s => show execUrtRead seam desc s = _ from rfl⟩
  · exact ⟨_, fun s => show execUrtRecv seam desc s = _ from rfl⟩

/-! ### SEND, WRITE, READ and RECV on a flow (04 R179) -/

section
variable {seam : Bool} {id ty : Nat} {j : Job}

theorem State.urtOut_notOpen (h : j.uQp = false) (hst : (s.flow (j.key seam)).st ≠ 2) :
    s.urtOut seam id j ty = s.endUrtJob id St.NOT_READY 0 0 := by
  simp [State.urtOut, h, hst]

theorem State.urtOut_tooLong (h : j.uQp = false) (hst : (s.flow (j.key seam)).st = 2) (hlen : 2 ^ 30 < j.uLen) :
    s.urtOut seam id j ty = s.endUrtJob id St.BAD_INPUT 0 0 := by
  simp only [State.urtOut, h, hst, Bool.false_eq_true, if_false, beq_self_eq_true, Bool.not_true, if_pos hlen]

end

/-- The flow has taken a message of job `id`, `len` bytes long. -/
def UFlow.addMsg (f : UFlow) (id len : Nat) (read : Bool) : UFlow :=
  { f with nextMsg := (f.nextMsg + 1) % 2 ^ 32, msgs := mput f.msgs f.nextMsg { job := id, len, read } }

section
variable {seam : Bool} {desc : List Byte}

theorem exec_urtSend (h : UrtTakes s seam desc 3) : exec (.urtSend seam desc) s =
    .next ((s.fetched (urtJobOf desc)).urtOut seam (freshKey s.eng.jobs 0) (urtJobOf desc) 1) := by
  show execUrtSend seam desc s = _
  exact urtJob_takes _ h

theorem exec_urtWrite (h : UrtTakes s seam desc 4) : exec (.urtWrite seam desc) s =
    .next ((s.fetched (urtJobOf desc)).urtOut seam (freshKey s.eng.jobs 0) (urtJobOf desc) 2) := by
  show execUrtWrite seam desc s = _
  exact urtJob_takes _ h

theorem exec_urtRead_flow {k : Nat} (h : UrtTakes s seam desc 5) (hqp : (urtJobOf desc).uQp = false) (hk : k = (urtJobOf desc).key seam) :
    exec (.urtRead seam desc) s = .next (if (s.flow k).st ≠ 2
      then (s.fetched (urtJobOf desc)).endUrtJob (freshKey s.eng.jobs 0) St.NOT_READY 0 0
      else if 2 ^ 30 < (urtJobOf desc).uLen then (s.fetched (urtJobOf desc)).endUrtJob (freshKey s.eng.jobs 0) St.BAD_INPUT 0 0
      else ((s.fetched (urtJobOf desc)).setFlow k ((s.flow k).addMsg (freshKey s.eng.jobs 0) (urtJobOf desc).uLen true)).urtQueue k
        [{ ty := 3, msg := (s.flow k).nextMsg, ackReq := true
           ext := extHeader (urtJobOf desc).uRaddr (urtJobOf desc).uRkey (urtJobOf desc).uLen }]) := by
  subst hk
  show execUrtRead seam desc s = _
  rw [execUrtRead, urtJob_takes _ h]
  simp only [hqp, Bool.false_eq_true, if_false]
  rfl

theorem exec_urtRecv_notOpen (h : UrtTakes s seam desc 6) (hqp : (urtJobOf desc).uQp = false)
    (hst : (s.flow ((urtJobOf desc).key seam)).st ≠ 2) : exec (.urtRecv seam desc) s =
      .next ((s.fetched (urtJobOf desc)).endUrtJob (freshKey s.eng.jobs 0) St.NOT_READY 0 0) := by
  show execUrtRecv seam desc s = _
  rw [execUrtRecv, urtJob_takes _ h]
  simp only [hqp, Bool.false_eq_true, if_false]
  exact congrArg _ (if_pos hst)

/-- Where no message waits, the buffer is posted behind the others. -/
theorem exec_urtRecv_posts {k : Nat} (h : UrtTakes s seam desc 6) (hqp : (urtJobOf desc).uQp = false) (hk : k = (urtJobOf desc).key seam)
    (hst : (s.flow k).st = 2) (hready : (s.flow k).ready = []) : exec (.urtRecv seam desc) s =
      .next ((s.fetched (urtJobOf desc)).setFlow k { s.flow k with recvs := (s.flow k).recvs ++ [freshKey s.eng.jobs 0] }) := by
  subst hk
  show execUrtRecv seam desc s = _
  rw [execUrtRecv, urtJob_takes _ h]
  simp [hqp, hst, hready]

end

/-- On a flow that is not open the job ends with NOT_READY. -/
theorem exec_flowJob_notOpen {seam : Bool} {desc : List Byte} {p : (Bool → List Byte → Instr) × Nat}
    (hp : p ∈ [(Instr.urtSend, 3), (Instr.urtWrite, 4), (Instr.urtRead, 5), (Instr.urtRecv, 6)]) (h : UrtTakes s seam desc p.2)
    (hqp : (urtJobOf desc).uQp = false) (hst : (s.flow ((urtJobOf desc).key seam)).st ≠ 2) :
    exec (p.1 seam desc) s = .next ((s.fetched (urtJobOf desc)).endUrtJob (freshKey s.eng.jobs 0) St.NOT_READY 0 0) := by
  simp only [List.mem_cons, List.not_mem_nil, or_false] at hp
  rcases hp with rfl | rfl | rfl | rfl
  · exact (exec_urtSend h).trans (congrArg _ (State.urtOut_notOpen hqp hst))
  · exact (exec_urtWrite h).trans (congrArg _ (State.urtOut_notOpen hqp hst))
  · exact (exec_urtRead_flow h hqp rfl).trans (congrArg _ (if_pos hst))
  · exact exec_urtRecv_notOpen h hqp hst

/-- Above 1 GiB a job that moves data ends with BAD_INPUT. -/
theorem exec_flowJob_tooLong {seam : Bool} {desc : List Byte} {p : (Bool → List Byte → Instr) × Nat}
    (hp : p ∈ [(Instr.urtSend, 3), (Instr.urtWrite, 4), (Instr.urtRead, 5)]) (h : UrtTakes s seam desc p.2)
    (hqp : (urtJobOf desc).uQp = false) (hst : (s.flow ((urtJobOf desc).key seam)).st = 2) (hlen : 2 ^ 30 < (urtJobOf desc).uLen) :
    exec (p.1 seam desc) s = .next ((s.fetched (urtJobOf desc)).endUrtJob (freshKey s.eng.jobs 0) St.BAD_INPUT 0 0) := by
  simp only [List.mem_cons, List.not_mem_nil, or_false] at hp
  rcases hp with rfl | rfl | rfl
  · exact (exec_urtSend h).trans (congrArg _ (State.urtOut_tooLong hqp hst hlen))
  · exact (exec_urtWrite h).trans (congrArg _ (State.urtOut_tooLong hqp hst hlen))
  · exact (exec_urtRead_flow h hqp rfl).trans (congrArg _ ((if_neg (not_not_intro hst)).trans (if_pos hlen)))

/-! ### Packets that go out (04 R170, R177) -/

/-- From `f` to `g` a flow has sent: its messages are the same, and each packet it had to send it still has, or has sent. -/
structure UFlow.Sends (f g : UFlow) : Prop where
  msgs : g.msgs = f.msgs
  nextMsg : g.nextMsg = f.nextMsg
  carries : ∀ x, f.carries x → g.carries x

theorem UFlow.Sends.refl (f : UFlow) : f.Sends f := ⟨rfl, rfl, fun _ => id⟩

theorem UFlow.Sends.trans {f g h : UFlow} (a : f.Sends g) (b : g.Sends h) : f.Sends h :=
  ⟨b.msgs.trans a.msgs, b.nextMsg.trans a.nextMsg, fun x hx => b.carries x (a.carries x hx)⟩

theorem State.urtEmit_flow (s : State) (k n : Nat) (p : UPkt) : (s.urtEmit k p).1.flow n = s.flow n :=
  State.flow_of_urt n ((State.urtEmit_kept (F := [.regs, .cells, .lines, .locket, .wake, .cipher, .out]) (by decide) (.refl _ s)).part
    (f := .urt))

/-- The front packet goes from the queue to those sent, under the next PSN. -/
theorem State.urtSendHead_sends (s : State) (k : Nat) : (s.flow k).Sends ((s.urtSendHead k).1.flow k) := by
  unfold State.urtSendHead
  dsimp only
  split
  · exact .refl _
  · next p rest hqueue =>
    split
    · rw [State.flow_setFlow]
      refine ⟨rfl, rfl, fun x hx => ?_⟩
      rcases hx with hx | ⟨y, hy, hxy⟩
      · rw [hqueue, List.mem_cons] at hx
        rcases hx with rfl | hx
        · exact .inr ⟨_, List.mem_append_right _ (.head _), rfl⟩
        · exact .inl hx
      · exact .inr ⟨y, List.mem_append_left _ hy, hxy⟩
    · rw [State.urtEmit_flow]
      exact .refl _

theorem State.urtPump_sends (n : Nat) (s : State) (k : Nat) : (s.flow k).Sends ((State.urtPump n s k).flow k) := by
  induction n generalizing s with
  | zero => exact .refl _
  | succ n ih =>
    unfold State.urtPump
    split
    · dsimp only
      split
      · exact (s.urtSendHead_sends k).trans (ih _)
      · exact s.urtSendHead_sends k
    · exact .refl _

/-- What is queued is carried, and the messages stay. -/
theorem State.urtQueue_sends (s : State) (k : Nat) (l : List UPkt) :
    (s.flow k).Sends ((s.urtQueue k l).flow k) ∧ ∀ x ∈ l, ((s.urtQueue k l).flow k).carries x := by
  have hpump := State.urtPump_sends 257 (s.setFlow k { s.flow k with
    queue := l.filter (·.urgent) ++ (s.flow k).queue ++ l.filter fun p => !p.urgent }) k
  rw [State.flow_setFlow] at hpump
  refine ⟨⟨hpump.msgs, hpump.nextMsg, fun x hx => hpump.carries x ?_⟩, fun x hx => hpump.carries x (.inl ?_)⟩
  · exact hx.imp (fun hq => by simp [hq]) id
  · cases hu : x.urgent <;> simp [hx, hu]

/-- The first packet of a message has its extension header and the first bytes of its data (04 R162). -/
theorem cutMsg_first (payload ty msg : Nat) (ext data : List Byte) (urgent : Bool) : ∃ x ∈ cutMsg payload ty msg ext data urgent,
    x.ty = ty ∧ x.msg = msg ∧ x.first = true ∧ x.ext = ext ∧ x.data = data.take payload := by
  refine ⟨_, List.mem_map.2 ⟨0, List.mem_range.2 (Nat.lt_of_lt_of_le Nat.one_pos (Nat.le_max_left _ _)), rfl⟩, rfl, rfl, rfl, rfl, ?_⟩
  simp

/-! ### SEND and WRITE (04 R179) -/

section
variable {seam : Bool} {id ty : Nat} {j : Job}

theorem State.readBytes_part (s : State) (w : Acc) (addr n : Nat) (f : Part)
    (hf : [Part.regs, .accWin, .cells, .lines, .store, .locket, .wake, .fresh].contains f = false := by decide) :
    f.same s (s.readBytes w addr n).1 :=
  (State.readBytes_kept (F := [.regs, .accWin, .cells, .lines, .store, .locket, .wake, .fresh]) (by decide) (.refl _ s)).part hf

/-- Data that cannot be read ends the job with the status of the read. -/
theorem State.urtOut_unread {r : State × List Byte × Nat} (h : j.uQp = false) (hst : (s.flow (j.key seam)).st = 2) (hlen : j.uLen ≤ 2 ^ 30)
    (hr : r = s.readBytes j.acc j.uLocal j.uLen) (hfine : fine r.2.2 = false) :
    s.urtOut seam id j ty = r.1.endUrtJob id r.2.2 0 0 := by
  subst hr
  simp only [State.urtOut, h, hst, Bool.false_eq_true, if_false, beq_self_eq_true, Bool.not_true, if_neg (Nat.not_lt.2 hlen), hfine,
    Bool.not_false, if_true]

theorem State.urtOut_queues {k : Nat} {r : State × List Byte × Nat} (h : j.uQp = false) (hk : k = j.key seam) (hst : (s.flow k).st = 2)
    (henc : (s.flow k).enc = false) (hlen : j.uLen ≤ 2 ^ 30) (hr : r = s.readBytes j.acc j.uLocal j.uLen) (hfine : fine r.2.2 = true) :
    s.urtOut seam id j ty = (r.1.setFlow k ((s.flow k).addMsg id j.uLen false)).urtQueue k
      (cutMsg (s.flow k).payload ty (s.flow k).nextMsg (if ty = 2 then extHeader j.uRaddr j.uRkey j.uLen else []) r.2.1 false) := by
  subst hk hr
  have hflow := State.flow_of_urt (j.key seam) (s.readBytes_part j.acc j.uLocal j.uLen .urt)
  simp only [State.urtOut, h, hst, Bool.false_eq_true, if_false, beq_self_eq_true, Bool.not_true, if_neg (Nat.not_lt.2 hlen), hfine,
    hflow, henc, UFlow.addMsg]

end

/-- A message that has been added, and its packets queued, is the flow's, and is carried. -/
theorem State.queueMsg_sends (s : State) (k : Nat) (f : UFlow) (id len : Nat) (read : Bool) (l : List UPkt) :
    mget (((s.setFlow k (f.addMsg id len read)).urtQueue k l).flow k).msgs f.nextMsg = some { job := id, len, read } ∧
    (((s.setFlow k (f.addMsg id len read)).urtQueue k l).flow k).nextMsg = (f.nextMsg + 1) % 2 ^ 32 ∧
    ∀ x ∈ l, (((s.setFlow k (f.addMsg id len read)).urtQueue k l).flow k).carries x := by
  obtain ⟨hsends, hcarries⟩ := (s.setFlow k (f.addMsg id len read)).urtQueue_sends k l
  rw [State.flow_setFlow] at hsends
  refine ⟨?_, hsends.nextMsg, hcarries⟩
  rw [hsends.msgs]
  exact mget_mput_self _ _ _

/-- A message with data is carried from its first packet on. -/
theorem State.queueCut_sends (s : State) (k : Nat) (f : UFlow) (id len ty : Nat) (ext data : List Byte) :
    let g := ((s.setFlow k (f.addMsg id len false)).urtQueue k (cutMsg f.payload ty f.nextMsg ext data false)).flow k
    mget g.msgs f.nextMsg = some { job := id, len } ∧ g.nextMsg = (f.nextMsg + 1) % 2 ^ 32 ∧
      ∃ x, g.carries x ∧ x.ty = ty ∧ x.msg = f.nextMsg ∧ x.first = true ∧ x.ext = ext ∧ x.data = data.take f.payload := by
  obtain ⟨hmsg, hnext, hcarries⟩ := s.queueMsg_sends k f id len false (cutMsg f.payload ty f.nextMsg ext data false)
  obtain ⟨x, hx, hfirst⟩ := cutMsg_first f.payload ty f.nextMsg ext data false
  exact ⟨hmsg, hnext, x, hcarries x hx, hfirst⟩

/-- SEND and WRITE are one operation, of message types 1 and 2. -/
theorem exec_urtOut {seam : Bool} {desc : List Byte} {p : (Bool → List Byte → Instr) × Nat × Nat}
    (hp : p ∈ [(Instr.urtSend, 3, 1), (Instr.urtWrite, 4, 2)]) (h : UrtTakes s seam desc p.2.1) :
    exec (p.1 seam desc) s = .next ((s.fetched (urtJobOf desc)).urtOut seam (freshKey s.eng.jobs 0) (urtJobOf desc) p.2.2) := by
  simp only [List.mem_cons, List.not_mem_nil, or_false] at hp
  rcases hp with rfl | rfl
  · exact exec_urtSend h
  · exact exec_urtWrite h

/-! ### OPEN and CLOSE (04 R165, R167, R179) -/

section
variable {seam : Bool} {desc : List Byte} {k : Nat} (peer mtu psn : Nat) (enc : Bool)

/-- The flow that an OPEN asks for. -/
def UFlow.asked (f : UFlow) (j : Job) (id peer psn payload : Nat) (enc : Bool) : UFlow :=
  { st := 1, peer, epoch := f.epoch + 1, payload, enc, slot := j.f 44 2 % 4096, eq := j.f 46 2 % 64, owner := some j.owner
    job := some id, txNext := psn % 2 ^ 24 }

theorem exec_urtOpen_asks (h : UrtTakes s seam desc 1) (hqp : (urtJobOf desc).uQp = false) (hk : k = (urtJobOf desc).key seam)
    (hst : (s.flow k).st = 0 ∨ (s.flow k).st = 3) : exec (.urtOpen seam desc peer mtu psn enc) s =
      .next (((s.fetched (urtJobOf desc)).setFlow k ((s.flow k).asked (urtJobOf desc) (freshKey s.eng.jobs 0) peer psn
        (payloadFor (if seam then 65536 else mtu) 4096) enc)).emitSetup k 6 peer (psn % 2 ^ 24) ((s.flow k).epoch + 1)
        (payloadFor (if seam then 65536 else mtu) 4096) enc) := by
  subst hk
  show execUrtOpen seam desc peer mtu psn enc s = _
  rw [execUrtOpen, urtJob_takes _ h]
  rcases hst with hst | hst <;> simp [hqp, hst, UFlow.asked]

theorem exec_urtOpen_open (h : UrtTakes s seam desc 1) (hqp : (urtJobOf desc).uQp = false) (hk : k = (urtJobOf desc).key seam)
    (hst : (s.flow k).st = 2) : exec (.urtOpen seam desc peer mtu psn enc) s =
      .next (((s.fetched (urtJobOf desc)).setFlow k { s.flow k with
        slot := (urtJobOf desc).f 44 2 % 4096, eq := (urtJobOf desc).f 46 2 % 64, owner := some (urtJobOf desc).owner }).endUrtJob
        (freshKey s.eng.jobs 0) St.OK 0 0) := by
  subst hk
  show execUrtOpen seam desc peer mtu psn enc s = _
  rw [execUrtOpen, urtJob_takes _ h]
  simp [hqp, hst]

theorem exec_urtOpen_opening (h : UrtTakes s seam desc 1) (hqp : (urtJobOf desc).uQp = false) (hk : k = (urtJobOf desc).key seam)
    (hst : (s.flow k).st = 1) : exec (.urtOpen seam desc peer mtu psn enc) s =
      .next ((s.fetched (urtJobOf desc)).endUrtJob (freshKey s.eng.jobs 0) St.LOCKED 0 0) := by
  subst hk
  show execUrtOpen seam desc peer mtu psn enc s = _
  rw [execUrtOpen, urtJob_takes _ h]
  simp [hqp, hst]

theorem exec_urtOpen_qp (h : UrtTakes s seam desc 1) (hqp : (urtJobOf desc).uQp = true) (hst : (s.qp (urtJobOf desc).uFlow).st = 0) :
    exec (.urtOpen seam desc peer mtu psn enc) s =
      .next (((s.fetched (urtJobOf desc)).setQp (urtJobOf desc).uFlow {
        eq := (urtJobOf desc).f 46 2 % 64, owner := some (urtJobOf desc).owner, st := 1, peer, mtu, sq := psn % 2 ^ 24
        job := some (freshKey s.eng.jobs 0) }).emit (.roce (urtJobOf desc).uFlow (.cmReq (psn % 2 ^ 24) mtu))) := by
  show execUrtOpen seam desc peer mtu psn enc s = _
  rw [execUrtOpen, urtJob_takes _ h]
  simp [hqp, hst]

theorem exec_urtClose_flow (h : UrtTakes s seam desc 2) (hqp : (urtJobOf desc).uQp = false) (hk : k = (urtJobOf desc).key seam) :
    exec (.urtClose seam desc) s = .next (if (s.flow k).st = 0
      then (s.fetched (urtJobOf desc)).endUrtJob (freshKey s.eng.jobs 0) St.NOT_READY 0 0
      else (((s.fetched (urtJobOf desc)).emitSetup k 8 (s.flow k).peer (s.flow k).txNext (s.flow k).epoch 0 false).closeFlow k).endUrtJob
        (freshKey s.eng.jobs 0) St.OK 0 0) := by
  subst hk
  show execUrtClose seam desc s = _
  rw [execUrtClose, urtJob_takes _ h]
  simp only [hqp, Bool.false_eq_true, if_false]
  rfl

end

/-! ### What URT's commands do -/

/-- Settles O38: each command's resulting state is named by its `exec_` lemma, in each state of its flow or queue pair; what it holds are the
lemmas on the end of jobs (`State.endUrtJob_said`, `State.endFlowJobs_gone`), on opening and closing (`State.openFlow_flow`,
`State.closeFlow_flow`, `State.connLost_gone`), and on packets that go out (`State.urtQueue_sends`). -/
theorem urtFlowsAndJobs : Obligations.UrtFlowsAndJobs := by
  refine ⟨fun s seam pkt mtu psn lower k f ha hon hok hty hk hf => ?_, fun s seam pkt k ha hon hok hty hk hst => ?_,
    fun p hp s seam desc ha hon hop hroom how => ?_, fun p hp s seam desc h hqp hst => ?_, fun p hp s seam desc h hqp hst hlen => ?_,
    fun s seam desc peer mtu psn enc j k f h hj hqp hk hf => ?_, fun s seam desc peer mtu psn enc j h hj hqp hst => ?_,
    fun s seam desc j k h hj hqp hk hfresh => ?_, fun p hp s seam desc j k f u h hj hqp hk hf hst henc hlen hu => ?_,
    fun s seam desc j k f h hj hqp hk hf hst hlen => ?_, fun s seam desc j k f h hj hqp hk hf hst hready => ?_⟩
  · -- URT_CONNECT
    subst hf
    have h : SetupArrives s pkt 6 := ⟨ha, hon, hok, hty⟩
    obtain ⟨t, ht⟩ : ∃ t, exec (.urtConnect seam pkt mtu psn lower) s = .next t := by
      show ∃ t, execUrtConnect seam pkt mtu psn lower s = .next t
      exact actIf_answers _ _ _
    refine ⟨t, ht, fun hst hjob => ?_, fun hst => ?_, fun hst hkeep => ?_⟩
    · cases next_unique ht (exec_urtConnect_closed mtu psn lower h hk hst)
      rw [State.acceptFlow_of_none _ _ _ _ _ _ hjob]
      refine ⟨State.emitSetup_packet _ _ _ _ _ _ _ _, ?_⟩
      rw [State.emitSetup_flow, State.openFlow_flow]
      exact ⟨rfl, rfl, rfl, rfl, rfl, rfl, rfl, rfl⟩
    · cases next_unique ht (exec_urtConnect_open mtu psn lower h hk hst)
      obtain ⟨hopen, hepoch⟩ := s.reopenFlow_open k _ _ _ _ _
      exact ⟨hopen, hepoch, s.reopenFlow_gone k _ _ _ _ _, s.reopenFlow_told k _ _ _ _ _⟩
    · cases next_unique ht (exec_urtConnect_crossing mtu psn lower h hk hst hkeep)
      exact ⟨State.emitSetup_packet _ _ _ _ _ _ _ _, by rw [State.emitSetup_flow, State.flow_setFlow]⟩
  · -- CONNECT_ACK
    have h : SetupArrives s pkt 7 := ⟨ha, hon, hok, hty⟩
    refine ⟨_, exec_connectAck_opening h hk hst, ?_⟩
    rw [State.opened_flow, State.openFlow_flow]
    refine ⟨rfl, rfl, rfl, rfl, rfl, fun id j hid hj he => ?_⟩
    rw [State.opened_of_some (id := id) (by rw [State.openFlow_flow]; exact hid)]
    exact ⟨State.endUrtJob_said _ hj he, by rw [State.endUrtJob_jobs, mget_mdel_self]⟩
  · -- a job of owner 0
    obtain ⟨f, hf⟩ := exec_eq_urtJob (seam := seam) (desc := desc) hp
    exact ⟨_, (hf s).trans (urtJob_ownerless f ha hon hop hroom how), s.fetched_said desc _⟩
  · -- a flow that is not open
    exact ⟨_, exec_flowJob_notOpen hp h hqp hst, s.fetched_said desc _, s.fetched_endUrtJob_urt _ _ _ _ _⟩
  · -- more than 1 GiB
    exact ⟨_, exec_flowJob_tooLong hp h hqp hst hlen, s.fetched_said desc _, s.fetched_endUrtJob_urt _ _ _ _ _⟩
  · -- URT_OPEN of a flow
    subst hj hf
    obtain ⟨t, ht⟩ : ∃ t, exec (.urtOpen seam desc peer mtu psn enc) s = .next t := by
      show ∃ t, execUrtOpen seam desc peer mtu psn enc s = .next t
      exact urtJob_answers _
    refine ⟨t, ht, fun hst => ?_, fun hst => ?_, fun hst => ?_⟩
    · cases next_unique ht (exec_urtOpen_asks peer mtu psn enc h hqp hk hst)
      exact ⟨State.emitSetup_packet _ _ _ _ _ _ _ _, by rw [State.emitSetup_flow, State.flow_setFlow]; rfl⟩
    · cases next_unique ht (exec_urtOpen_open peer mtu psn enc h hqp hk hst)
      refine ⟨State.endUrtJob_said _ ?_ rfl, by rw [State.endUrtJob_flow, State.flow_setFlow]⟩
      rw [State.setFlow_eng]
      exact s.fetched_job _
    · cases next_unique ht (exec_urtOpen_opening peer mtu psn enc h hqp hk hst)
      exact ⟨s.fetched_said desc _, s.fetched_endUrtJob_urt _ _ _ _ _⟩
  · -- URT_OPEN of a queue pair
    subst hj
    have hq : ∀ q o, (((s.fetched (urtJobOf desc)).setQp (urtJobOf desc).uFlow q).emit o).qp (urtJobOf desc).uFlow = q := fun q _ =>
      State.qp_setQp _ _ q
    exact ⟨_, exec_urtOpen_qp peer mtu psn enc h hqp hst, by rw [hq], by rw [hq], by rw [hq], rfl⟩
  · -- URT_CLOSE
    subst hj
    refine ⟨_, exec_urtClose_flow h hqp hk, fun hst => ?_, fun hst => ?_⟩
    · rw [if_pos hst]
      exact ⟨s.fetched_said desc _, s.fetched_endUrtJob_urt _ _ _ _ _⟩
    · rw [if_neg hst]
      generalize hx : (s.fetched (urtJobOf desc)).emitSetup k 8 (s.flow k).peer (s.flow k).txNext (s.flow k).epoch 0 false = x
      have hflow : x.flow k = s.flow k := hx ▸ rfl
      have hhq : x.hq = s.hq := hx ▸ rfl
      have hjob : mget x.eng.jobs (freshKey s.eng.jobs 0) = some (urtJobOf desc) := hx ▸ s.fetched_job _
      have hgone := (x.closeFlow_jobsGone k).endUrtJob (freshKey s.eng.jobs 0) St.OK 0 0
      have hconn := x.closeFlow_gone k
      rw [← hflow] at hfresh ⊢
      refine ⟨State.endUrtJob_said _ ((State.closeFlow_job hfresh).trans hjob) rfl, ?_, hgone, ?_⟩
      · rw [State.endUrtJob_flow, State.closeFlow_flow]
      · unfold ConnGone at *
        rwa [State.endUrtJob_hq, ← hhq]
  · -- URT_SEND and URT_WRITE
    subst hj hf
    have hu' : u = (s.fetched (urtJobOf desc)).readBytes (urtJobOf desc).acc (urtJobOf desc).uLocal (urtJobOf desc).uLen := hu
    have hjobs := congrArg Engines.jobs ((s.fetched (urtJobOf desc)).readBytes_part (urtJobOf desc).acc (urtJobOf desc).uLocal
      (urtJobOf desc).uLen .eng)
    rw [← hu'] at hjobs
    refine ⟨_, exec_urtOut hp h, fun hr => ?_, fun hr => ?_⟩
    · rw [State.urtOut_unread (s := s.fetched (urtJobOf desc)) hqp (hk ▸ hst) hlen hu' hr]
      exact State.endUrtJob_said _ (hjobs ▸ s.fetched_job _) rfl
    · rw [State.urtOut_queues (s := s.fetched (urtJobOf desc)) hqp hk hst henc hlen hu' hr]
      exact u.1.queueCut_sends k (s.flow k) _ _ _ _ _
  · -- URT_READ
    subst hj hf
    obtain ⟨hmsg, -, hcarries⟩ := (s.fetched (urtJobOf desc)).queueMsg_sends k (s.flow k) (freshKey s.eng.jobs 0) (urtJobOf desc).uLen true
      [{ ty := 3, msg := (s.flow k).nextMsg, ackReq := true
         ext := extHeader (urtJobOf desc).uRaddr (urtJobOf desc).uRkey (urtJobOf desc).uLen }]
    refine ⟨_, exec_urtRead_flow h hqp hk, ?_⟩
    rw [if_neg (not_not_intro hst), if_neg (Nat.not_lt.2 hlen)]
    exact ⟨hmsg, _, hcarries _ (.head _), rfl, rfl, rfl⟩
  · -- URT_RECV
    subst hj hf
    refine ⟨_, exec_urtRecv_posts h hqp hk hst hready, ?_, State.flow_setFlow _ _ _, s.fetched_job _⟩
    exact (State.setFlow_kept (by decide) ((s.fetched_kept _).mono (by decide))).only

/-! ### An event queue selector beyond the event queues (04 R181, R185) -/

/-- What URT_EQ_HEAD_WRITE does once the head index is stored: EQ_OVERFLOW goes to a queue that has lost events and has room (04 R181). -/
def State.tellLosses (s : State) : State :=
  let q := s.rf Pg.URT Rg.URT_EQ_SEL 5 0
  let lost := s.rdN Pg.URT Rg.URT_EQ_LOST q
  if lost = 0 || !s.eqOn q || s.eqFull q then s
  else (s.putEvent q Et.EQ_OVERFLOW (srcOf Pg.URT) 0 lost).wrN Pg.URT Rg.URT_EQ_LOST q 0

theorem exec_urtEqHeadWrite {master v : Nat} (h : Accepts s Pg.URT Rg.URT_EQ_HEAD master v) :
    exec (.urtEqHeadWrite master v) s = .next (stored s Pg.URT Rg.URT_EQ_HEAD v).tellLosses := by
  show execUrtEqHeadWrite master v s = _
  exact act_regCmd _ h

/-- A queue that has room shows no losses afterwards. -/
theorem State.tellLosses_lost {q : Nat} (hq : s.rf Pg.URT Rg.URT_EQ_SEL 5 0 = q) (hon : s.eqOn q = true) (hroom : s.eqFull q = false) :
    s.tellLosses.rdN Pg.URT Rg.URT_EQ_LOST q = 0 := by
  unfold State.tellLosses
  by_cases hlost : s.rdN Pg.URT Rg.URT_EQ_LOST q = 0
  · simp [hq, hlost]
  · simp [hq, hlost, hon, hroom]

/-- A running head whose URT page is released, whose event queue 0 is enabled with 16 entries, none of them taken, and no event lost, and
whose URT_EQ_SEL reads 8 * 2^16: its bits [5:0] select queue 0, while URT_EQ_HEAD shows the copy that the whole word names, whose key is
that of queue 0's URT_EQ_LOST, 8 bytes above it. -/
def selectorBeyondQueues : State :=
  { power := { aon := true, doms := [(0, { st := 4 })] }
    boot := { up := true, ready := 2 ^ Pg.URT }
    regs := [(rkey Pg.URT Rg.URT_EQ_SEL 0, BitVec.ofNat 32 (8 * 2 ^ 16)), (rkey Pg.URT Rg.URT_EQ_CFG 0, BitVec.ofNat 32 (1 + 4 * 2 ^ 4))] }

theorem selectorBeyondQueues_accepts : Accepts selectorBeyondQueues Pg.URT Rg.URT_EQ_HEAD Ms.MP 1 :=
  ⟨by decide, ⟨by decide, by decide, by decide, .inl (by decide)⟩, by decide, by decide, _, rfl, by decide, by decide, by decide,
    by decide, by decide⟩

/-- The write of the head index makes queue 0 look like one that has lost an event. -/
theorem selectorBeyondQueues_stored_lost :
    (stored selectorBeyondQueues Pg.URT Rg.URT_EQ_HEAD 1).rdN Pg.URT Rg.URT_EQ_LOST 0 = 1 := by decide

/-- Refutes O40: its clause on URT_EQ_HEAD takes any state, also one whose URT_EQ_SEL reads 64 or more. There the write goes to the copy that
the whole selector word shows, which in `selectorBeyondQueues` is the count of losses of queue 0; so the clause has the write do nothing more,
since nothing was lost before it, while the model finds a loss and reports it. (URT_EQ_SEL implements 6 bits, so that no accepted write
stores such a value; the clause does not ask that the selector show copy `q`.) -/
theorem not_portsAndUrtEvents : ¬ Obligations.PortsAndUrtEvents := by
  intro ⟨_, _, _, _, _, _, _, heq, _⟩
  obtain ⟨t, ht, hnone, -⟩ := heq selectorBeyondQueues Ms.MP 1 0 _ selectorBeyondQueues_accepts (by decide) rfl
  have hsame := hnone (by decide)
  have ht' : t = _ := Host.Outcome.next.inj (ht.symm.trans (exec_urtEqHeadWrite selectorBeyondQueues_accepts))
  have hlost := State.tellLosses_lost (s := stored selectorBeyondQueues Pg.URT Rg.URT_EQ_HEAD 1) (q := 0) (by decide) (by decide) (by decide)
  rw [← ht', hsame, selectorBeyondQueues_stored_lost] at hlost
  cases hlost

end Sys2Proof.Machine

namespace Sys2Proof.Machine
variable {s t u v : State}

/-! ### A chunk ID beyond the chunk IDs (06 R255, R260) -/

/-- A fetched job that `f` ends is left with `f`'s result. -/
theorem jobActM_ends {e : Engine} {op id : Nat} {j : Job} {r : JobRes} {f : State → Job → State × Option JobRes} (h : Runs s e op id j)
    (hf : f s j = (t, some r)) : jobActM s e op id f = .next (t.setRes id r) := by
  obtain ⟨halive, hjob, hengine, hopcode, hres⟩ := h
  simp [jobActM, hjob, halive, hengine, hopcode, hres, hf]

/-- What a hit on chunk `k` does for entry 0 of a job: the lookup is counted, the reference taken, the hit counted, and the outcome written
(06 R255, R260). -/
def State.hitFirst (s : State) (j : Job) (k : Nat) : State :=
  (((s.count Pg.DEDUP Rg.DEDUP_LOOKUPS 1).takeRef j.dseq 0 k).1.count Pg.DEDUP Rg.DEDUP_HITS 1).outcome j 0 1 (some k) none

/-- LOOKUP job `id` ends with result `r` and no longer waits (06 R257, R259). -/
def State.endLook (s : State) (id : Nat) (r : JobRes) : State :=
  (s.setDedup { s.dedup with looks := mdel s.dedup.looks id }).setRes id r

theorem State.endLook_rdN (s : State) (id : Nat) (r : JobRes) (p off : Nat) : (s.endLook id r).rdN p off = s.rdN p off := rfl

section
variable {j : Job} {e : CEntry} {k : Nat} {c : Chunk}

theorem State.lookOne_hit (L : Look) (hskip : e.skip = false) (hlive : s.firstLive (s.findFp j.dom L.champs e.fp) = some k)
    (hc : s.chunk k = some c) (hroom : c.refs < 2 ^ 32 - 1) :
    s.lookOne j L [e] [] 0 e = (s.hitFirst j k, { L with hits := L.hits + 1 }, true) := by
  have hc' : (s.count Pg.DEDUP Rg.DEDUP_LOOKUPS 1).chunk k = some c := hc
  have hfull : c.refs ≠ 4294967295 := Nat.ne_of_lt hroom
  simp [State.lookOne, hskip, hlive, hc', hfull, State.hitFirst]

/-- A LOOKUP whose one entry is no hook and is found as chunk `k` ends with one hit. -/
theorem exec_lookup_hit {id : Nat} (h : Runs s .dedup 1 id j) (hok : s.dedupBad j true = none) (hserved : s.domState j.dom ≠ 1)
    (hnew : mget s.dedup.looks id = none) (hmode : s.mapMode ≠ 2) (hread : s.readEntries j = (u, .ok [e])) (hhook : isHook e.fp = false)
    (hskip : e.skip = false) (hv : v = (u.loadMans []).1) (hlive : v.firstLive (v.findFp j.dom [] e.fp) = some k)
    (hc : v.chunk k = some c) (hroom : c.refs < 2 ^ 32 - 1) :
    exec (.lookup id []) s = .next ((v.hitFirst j k).endLook id { status := St.OK, counts := 1 }) := by
  subst hv
  have hone := State.lookOne_hit {} hskip hlive hc hroom
  show execLookup id [] s = _
  refine jobActM_ends h ?_
  have hloaded : (u.loadMans []).2 = 0 := rfl
  simp [hok, hserved, hnew, hmode, hread, hhook, champions, hloaded, State.runLook, State.lookFrom, hone, Look.counts]

end

/-- A LOOKUP for domain 0, with journal sequence number 7 and one chunk-list entry at the first address of HBM. -/
def lookupOfOne : Job :=
  { engine := .dedup, inst := 0, ring := 0, cring := 0, tag := 1, owner := sysOwner, opcode := 1, irq := false, fence := false
    desc := List.replicate 14 0 ++ leBytes 2 1 ++ leBytes 8 hbmBase ++ leBytes 8 7 ++ List.replicate 32 0 }

/-- A fingerprint that is no hook. -/
def plainFp : List Byte := 1 :: List.replicate 31 0

/-- The chunk list's entry. -/
def plainEntry : CEntry := { flags := 0, fp := plainFp, chunk := 0, outcome := 0, len := 0 }

/-- A running head that owns the valid domain 0, whose open manifest lists the entry's fingerprint with a live chunk of ID 2^74: no
chunk ID of 64 bits, so that its domain is 2^20, where domains end at 1,023. -/
def chunkBeyondDomains : State :=
  { power := { aon := true, doms := [(0, { st := 4 })] }
    boot := { up := true }
    eng := { jobs := [(1, lookupOfOne)] }
    regs := [(rkey Pg.DEDUP Rg.DEDUP_DOM_CFG 0, 3)]
    mem := { cells := [(hbmBase + 16, 1)] }
    map := { chunks := [(2 ^ 74, { st := 1, refs := 1 })] }
    dedup := { opens := [(0, { entries := [(plainFp, 2 ^ 74, 4096)] })] } }

theorem chunkBeyondDomains_runs : Runs chunkBeyondDomains .dedup 1 1 lookupOfOne := ⟨by decide, rfl, rfl, rfl, rfl⟩

theorem chunkBeyondDomains_reads : chunkBeyondDomains.readEntries lookupOfOne = (chunkBeyondDomains, .ok [plainEntry]) := by
  have hread : chunkBeyondDomains.readBytes lookupOfOne.acc (lookupOfOne.f 16 8) (64 * lookupOfOne.dcount) =
      (chunkBeyondDomains, List.replicate 16 0 ++ plainFp ++ List.replicate 16 0, St.OK) := by decide
  have hparse : parseEntries (List.replicate 16 0 ++ plainFp ++ List.replicate 16 0) lookupOfOne.dcount = [plainEntry] := by decide
  simp only [State.readEntries, hread, hparse, true_or, if_true]

theorem chunkBeyondDomains_live : (chunkBeyondDomains.loadMans []).1.firstLive
    ((chunkBeyondDomains.loadMans []).1.findFp lookupOfOne.dom [] plainFp) = some (2 ^ 74) := by decide

/-- The reference's sequence number, 7, goes to the copy of DEDUP_DOM_REFSEQ_LO that domain 2^20 = 16 * 2^16 names, whose key is that of
DEDUP_HITS, 16 bytes above it; the hit is then counted on top of it. -/
theorem chunkBeyondDomains_hits :
    ((chunkBeyondDomains.loadMans []).1.hitFirst lookupOfOne (2 ^ 74)).rdN Pg.DEDUP Rg.DEDUP_HITS = 8 := by decide

/-- Refutes O42: its clause on a LOOKUP that hits takes any state, also one whose manifests name a chunk ID of more than 64 bits. The domain
of such an ID has no DEDUP_DOM_REFSEQ: in `chunkBeyondDomains` the model writes it into DEDUP_HITS, which reads 8 after the first hit
(`chunkBeyondDomains_hits`), where the clause has it count from 0 to 1. (A manifest gets its chunk IDs from COMMIT, which reads 64 bits of
each, so that no command lists such an ID; the clause does not ask that the ID be below 2^64.) -/
theorem not_dedupEngine : ¬ Obligations.DedupEngine := by
  intro ⟨_, _, hlookup, _⟩
  have hok : chunkBeyondDomains.dedupBad lookupOfOne true = none := by decide
  have hserved : chunkBeyondDomains.domState lookupOfOne.dom ≠ 1 := by decide
  have hmode : chunkBeyondDomains.mapMode ≠ 2 := by decide
  have hhook : isHook plainEntry.fp = false := by decide
  obtain ⟨t, ht, -, hhit, -⟩ := hlookup chunkBeyondDomains 1 lookupOfOne [] _ plainEntry _ chunkBeyondDomains_runs hok hserved rfl hmode
    chunkBeyondDomains_reads hhook rfl
  obtain ⟨-, -, hcount⟩ := hhit _ _ rfl chunkBeyondDomains_live rfl (by decide) rfl
  have ht' : t = _ := next_unique ht (exec_lookup_hit chunkBeyondDomains_runs hok hserved rfl hmode chunkBeyondDomains_reads hhook rfl rfl
    chunkBeyondDomains_live rfl (by decide))
  have hread : t.rdN Pg.DEDUP Rg.DEDUP_HITS = 8 := by
    rw [ht', State.endLook_rdN]
    exact chunkBeyondDomains_hits
  have hzero : chunkBeyondDomains.rdN Pg.DEDUP Rg.DEDUP_HITS = 0 := by decide
  rw [hread, hzero] at hcount
  cases hcount

end Sys2Proof.Machine
